-- ==== Sys2Proof/Word.lean ====
section
/-! DEFINITION. The words of the CZ-40: bytes, epochs, counters, identities, addresses and station sets. -/

namespace Sys2Proof

/-- One octet of a frame or a record (chapter 11). -/
abbrev Byte := BitVec 8

/-- An epoch, 0..65535, that wraps (R73). -/
abbrev Epoch := BitVec 16

/-- A fob's rolling counter (R96, R99). -/
abbrev Counter := BitVec 24

/-- A fob's identity, or one half of its secret (R96). -/
abbrev Word32 := BitVec 32

/-- An address on the zone line, 0..7 (00_scope, The Car and Its Stations). -/
abbrev Addr := Fin 8

/-- A set of closure stations: address n is bit n (chapter 11). -/
abbrev Stations := BitVec 5

/-- A slot of the key table, 0..5 (R96). -/
abbrev Slot := Fin 6

/-- A zone of the reference profile, 0..31 (R30). -/
abbrev Zone := Fin 32

/-- An intent tag, 0..15; tag 15 marks refusals before issue (R76). -/
abbrev Tag := Fin 16

end Sys2Proof
end

