-- ==== Sys2Proof/Syntax.lean ====
section
/-! DEFINITION. The commands: one constructor per row of spec/opcode_table.json, with what the row needs from outside. -/

namespace Sys2Proof

/-- UP closes the glass, DOWN opens it (R1). -/
inductive Direction where
  | up | down
deriving DecidableEq, Repr

/-- The latch switch reading and the latch position (R48). -/
inductive LatchPosition where
  | closed | opened
deriving DecidableEq, Repr

/-- A switch pack entry (R15); `rest` is NONE. -/
inductive SwitchEntry where
  | rest | upManual | upAuto | downManual | downAuto
deriving DecidableEq, Repr

/-- The commands of the station. A row that speaks of a delivered frame takes the frame at the head of the
receive queue (R145), so it has no operand of its own. -/
inductive Instr where
  /-- R1: a hall pulse with the supply sense `u` in mV and the measured time `t` in us since the previous pulse. -/
  | hallPulse (u t : Nat)
  | coastWindowEnd
  | stall
  | startStallPauseEnd
  | closeHoldComplete
  | brakeEnd
  | localSwitchFirstDetent (d : Direction)
  | localSwitchSecondDetent (d : Direction)
  | localSwitchRelease
  /-- R15: the four entries as they read after the change. -/
  | switchPackChange (fl fr rl rr : SwitchEntry)
  | switchPackRefresh
  | switchPack
  | switchPackValidityLapse
  | dropLimitExpiry
  | timedDropEnd
  | thermalHardLimit
  | pauseLimitExpiry
  | pinchHoldTimerExpiry
  /-- R48: the new reading of the latch switch. -/
  | latchSwitchChange (r : LatchPosition)
  | latchEdge
  /-- R51: the outer handle switch goes to pulled (`true`) or is let go (`false`). -/
  | outerHandlePull (pulled : Bool)
  | innerHandlePull
  | insideLockButton
  | tailgateButton
  | dropRetryDelayEnd
  | releasePulseEnd
  | retryWaitEnd
  | supplyWaitExpiry
  | crashNotice
  | crashHoldExpiry
  | latchIntent
  | childIntent
  | windowIntent
  | intentAck
  /-- R84: the tag of the open entry whose attempt timer expires. -/
  | attemptTimerExpiry (tag : Tag)
  | startHoldTimeout
  | driverLockoutSwitch
  | autoRelockExpiry
  /-- R202: the octets the receiver delivers. -/
  | buttonFrame (bytes : List Byte)
  | badCodeWindowEnd (slot : Slot)
  | suspensionTimerExpiry (slot : Slot)
  /-- R202: the octets the receiver delivers. -/
  | passiveReply (bytes : List Byte)
  | fobRelay
  | unlockAreaTouch
  | lockAreaTouch
  | heldTouchRetry
  | heldTouchDrop
  | searchClaim
  /-- R115: the origin whose claim list entry expires. -/
  | claimExpiry (origin : Addr)
  | entrySearchDecision
  | outerStageDecision
  | interiorClaimTimeout
  | interiorSearch
  | slotStart
  | slotWindowEnd
  | searchReport
  | passiveLockDecision
  | frameStart
  | arbitrationLoss
  | bitError
  | frameSent
  /-- R133, R143: the bits read after the 12 dominant bits of the sync; `true` is recessive. -/
  | frameReception (bits : List Bool)
  | overloadExtensionEnd
  | lineHoldEnd
  | lineHoldTimeout
  | lineFaultRecovery
  | census
  | announcement
  | windowReport
  | faultNotice
  | intentOutcome
  | serviceReply
  | wake
  | intervalTimerExpiry
  /-- R163: the peer whose silence timer reaches its bound. -/
  | silenceTimeout (peer : Addr)
  /-- R170: the supply sense in mV. -/
  | supplySample (u : Nat)
  | supplyRise
  | localActivityTimeout
  | loneTimerExpiry
  /-- R176: the length of the dominant run in us. -/
  | wakeMarkDetected (us : Nat)
  | sleepQuietTimerExpiry
  | wakeMarkDrive
  /-- R180: the length of the dominant run in us. -/
  | wakeFilterRun (us : Nat)
  | wakeFilterTimeout
  /-- R180, R181: the bits read after a sync while the filter is OPEN. -/
  | wakeFilterFrame (bits : List Bool)
  | powerOnReset
  /-- R183: the supply sense at the end of the reset, and whether the store answers (R185). -/
  | powerOnResetEnd (u : Nat) (storeAnswers : Bool)
  | writeBegin
  /-- R189: what the record holds after the attempt, and whether the store answers the read-back. -/
  | writeAttemptEnd (content : List Byte) (answers : Bool)
  | patrolStep
  | pairSecret
  | pairKey
  | removeKey
  | pairingBufferExpiry
  | clearHalt
  | relearnWindow
  | writeConfig
  | readStatus
  | moveWindow
  | serviceReset
  | serviceRequestUndefinedKind
  | serviceResetPerform
  | flushTimeout
  | challengeBurstEnd
  | lineHoldStart
  | wakeMarkEnd
deriving DecidableEq, Repr

end Sys2Proof
end

