-- ==== Sys2Proof/WellFormed.lean ====
section
/-! DEFINITION. Which commands are well formed: operands within the sizes the spec gives them. -/

namespace Sys2Proof

/-- The most bits a frame has after its sync: 17 octets of 10 bits and an end part of 8 (R133). -/
def maxFrameBits : Nat := 178

/-- The longest stored record: id, 70 octets of content and two check octets (R203). -/
def maxRecordBytes : Nat := 73

/-- The longest fob frame (R202) leaves room for a frame of another length, which is dropped. -/
def maxFobBytes : Nat := 255

/-- Well-formedness of a command. Tag 15 is never given to an issued intent (R76); a frame, a fob frame and a
record have bounded lengths (R133, R202, R203). -/
def Instr.wellFormed : Instr → Bool
  | .attemptTimerExpiry tag => decide (tag.val ≤ 14)
  | .frameReception bits => decide (bits.length ≤ maxFrameBits)
  | .wakeFilterFrame bits => decide (bits.length ≤ maxFrameBits)
  | .buttonFrame bytes => decide (bytes.length ≤ maxFobBytes)
  | .passiveReply bytes => decide (bytes.length ≤ maxFobBytes)
  | .writeAttemptEnd content _ => decide (content.length ≤ maxRecordBytes)
  | _ => true

end Sys2Proof
end

