-- ==== Sys2Proof/Config.lean ====
section
/-! DEFINITION. What the spec leaves open, as constants without a body: nothing can be proved of their values. -/

namespace Sys2Proof

/-- DESIGN CHOICE (log 6, DESIGN CHOICE), safe. The n-th 32-bit challenge the station takes "from its random source, and any
value may result" (R121): a free value, indexed by how many the state has drawn. -/
opaque Config.freeChallenge : Nat → Word32

end Sys2Proof
end

