-- ==== Sys2Proof/Machine/Types.lean ====
section
/-! DEFINITION. The plain data types the station's blocks hold: modes, requests, frames and records. -/

namespace Sys2Proof.Machine

/-! ## Window controller (chapter 1) and pinch monitor (chapter 2) -/

/-- The source of a motion request (R9), highest rank first (R11). -/
inductive Source where
  | reversal | drop | localSwitch | rise | remoteSwitch | global | service
deriving DecidableEq, Repr

/-- The mode of a motion request, with the target of TO POSITION (R9). -/
inductive Mode where
  | manual | auto | toPosition (target : Int)
deriving DecidableEq, Repr

/-- A motion request record (R9). -/
structure Request where
  source : Source
  dir : Direction
  mode : Mode
deriving DecidableEq, Repr

/-- The motion state (R8). BLOCKED is passed through inside one command (log 11, DESIGN CHOICE). -/
inductive MotionState where
  | idle | starting | moving | braking | reversing | paused | blocked
deriving DecidableEq, Repr

/-- What the motor does. -/
inductive Motor where
  | off | driven (d : Direction) | braked
deriving DecidableEq, Repr

/-- The outcome a motion ends with (R13), in the code order of WINDOW REPORT (R201). -/
inductive Outcome where
  | closed | opened | pinched | stopped | blocked | thermal | preempted
deriving DecidableEq, Repr

/-- The window outcome of a GLOBAL request (R10, R81), in code order. -/
inductive WindowOutcome where
  | started | absent | unnormalised | thermal | closureOpen | crashHold | busy | pinchHold | stopped
deriving DecidableEq, Repr

/-- The window class of an announcement (R156), in code order. -/
inductive WindowClass where
  | closed | dropped | partly | opened | unknown | absent
deriving DecidableEq, Repr

/-- The answer to a drop request (R19). -/
inductive DropAnswer where
  | done | blocked | timeout
deriving DecidableEq, Repr

/-- A drop request that has not been answered (R19): when its 800 ms end, the position when it was granted, whether
it waits for a reversal, and for a timed drop the drive left and since when it is being driven. -/
structure DropJob where
  limitAt : Nat
  grantP : Int
  waiting : Bool
  timed : Bool
  timedLeft : Nat
  timedFrom : Option Nat
deriving DecidableEq, Repr

/-- What the check word of a profile entry covers (R42, log 7, DEDUCED). -/
structure ZoneCover where
  zone : Zone
  learned : Bool
  value : Nat
deriving DecidableEq, Repr

/-- One entry of the reference profile (R42). -/
structure ZoneEntry where
  learned : Bool
  value : Nat
  check : ZoneCover
deriving DecidableEq, Repr

/-- The learning sums of one zone (R44). -/
structure ZoneSum where
  sum : Nat
  count : Nat
  mark : Bool
deriving DecidableEq, Repr

/-- The protection mode (section 2.5), in code order. -/
inductive ProtectionMode where
  | normal | pinchHold | override
deriving DecidableEq, Repr

/-! ## Latch controller (chapter 3) -/

inductive LockState where
  | unlocked | locked | deadlocked
deriving DecidableEq, Repr

/-- The child state; NOT FITTED where it is not held (R55). -/
inductive ChildState where
  | engaged | released | notFitted
deriving DecidableEq, Repr

/-- The release sequence state (R59), in code order. -/
inductive SeqState where
  | idle | dropping | releasing | retryWait | halted
deriving DecidableEq, Repr

inductive ReleaseKind where
  | entry | egress
deriving DecidableEq, Repr

/-- The last release outcome, in the order chapter 3 lists them; `opened` is OPENED. -/
inductive ReleaseOutcome where
  | none | opened | openedOtherwise | glassBlocked | lockChange | childEngaged | supply | halted
deriving DecidableEq, Repr

/-! ## Intent engine (chapter 4) -/

inductive Family where
  | latch | child | window
deriving DecidableEq, Repr

/-- The kinds of intents (R72), each of one family. -/
inductive IntentKind where
  | lock | deadlock | unlock | unlockAndOpen | childOn | childOff | windowsClose | windowsOpen | windowsStop
deriving DecidableEq, Repr

/-- The cause of an intent (R72), in code order. -/
inductive Cause where
  | fob | passive | insideButton | switchPack | autoRelock | speed | service
deriving DecidableEq, Repr

/-- A key notice: identity and counter (R72, R110). -/
structure Notice where
  identity : Word32
  counter : Counter
deriving DecidableEq, Repr

/-- An order key: (epoch, origin address). -/
structure OrderKey where
  epoch : Epoch
  origin : Addr
deriving DecidableEq, Repr

/-- The result of an ack (R80), in code order. -/
inductive AckResult where
  | applied | alreadyApplied | superseded | crashHold
deriving DecidableEq, Repr

/-- The outcome of an issued or refused intent (R86), in code order. -/
inductive IntentResult where
  | complete | partialResult | superseded | refused
deriving DecidableEq, Repr

/-- The refusal reason of an INTENT OUTCOME (R87), in code order; `none` for an issued intent. -/
inductive RefusalReason where
  | none | closureOpen | keyInside | noKey
deriving DecidableEq, Repr

/-- A prepared intent (section 4.3), as the held slot keeps it (R77). -/
structure Prepared where
  kind : IntentKind
  targets : Stations
  cause : Cause
  notice : Option Notice
  partialSearch : Bool
deriving DecidableEq, Repr

/-- An open intent (R75). -/
structure OpenEntry where
  tag : Tag
  kind : IntentKind
  epoch : Epoch
  targets : Stations
  cause : Cause
  notice : Option Notice
  partialSearch : Bool
  pending : Stations
  results : Vector (Option AckResult) 5
  unresponsive : Stations
  attempts : Nat
  timer : Option Nat
deriving DecidableEq, Repr

/-- One entry of the press memory (R90). `followed` says that a window entry has been followed by a WINDOWS STOP,
whatever its cause (R92). -/
structure Press where
  kind : IntentKind
  targets : Stations
  identity : Word32
  seenAt : Nat
  followed : Bool := false
deriving DecidableEq, Repr

/-- The running auto-relock timer with the UNLOCK that armed it (R94). -/
structure Relock where
  expiry : Nat
  key : OrderKey
  notice : Option Notice
deriving DecidableEq, Repr

/-! ## Key check unit (chapter 5) -/

/-- The state of a key slot (R96), in code order. -/
inductive SlotState where
  | empty | paired | suspended | damaged
deriving DecidableEq, Repr

/-- What the check word of a key slot covers (R96). -/
structure SlotCover where
  slot : Slot
  state : SlotState
  identity : Word32
  sHi : Word32
  sLo : Word32
  counter : Counter
deriving DecidableEq, Repr

/-- A key record in RAM (R96) with its store current flag (R98). -/
structure KeySlot where
  state : SlotState
  identity : Word32
  sHi : Word32
  sLo : Word32
  counter : Counter
  resync : Option Counter
  badCodes : Nat
  windowStart : Option Nat
  suspendedUntil : Option Nat
  check : SlotCover
  storeCurrent : Bool
deriving DecidableEq, Repr

/-- The buttons of a fob (R99). -/
inductive Button where
  | lock | unlock | tailgate | lockHeld | unlockHeld | release
deriving DecidableEq, Repr

/-- A button frame (R99). -/
structure ButtonFrame where
  identity : Word32
  counter : Counter
  button : Button
  code : BitVec 24
deriving DecidableEq, Repr

/-- A passive reply (R100), also the data of a FOB RELAY. -/
structure Reply where
  identity : Word32
  echo : BitVec 24
  strength : Byte
  code : BitVec 24
deriving DecidableEq, Repr

/-! ## Search unit (chapter 6) -/

inductive SearchKind where
  | entry | passiveLock | slotDuty
deriving DecidableEq, Repr

inductive SearchStage where
  | claiming | collecting | interiorClaiming | interior | waiting
deriving DecidableEq, Repr

inductive Area where
  | unlockArea | lockArea | tailgateButton
deriving DecidableEq, Repr

/-- The result of a participant of an interior search (R117). -/
inductive SlotResult where
  | noneYet | found | notFound | skipped
deriving DecidableEq, Repr

/-- The result a SEARCH REPORT carries (R129), in code order. -/
inductive SearchResult where
  | found | notFound | skipped
deriving DecidableEq, Repr

/-- A candidate key of a search (R122). -/
structure Candidate where
  slot : Slot
  identity : Word32
  strength : Byte
  counter : Counter
deriving DecidableEq, Repr

/-- The open search record (R117). `claimQueued` says that the own INTERIOR SEARCH is with the line interface;
`windowEnd` is present while a collection window is open. -/
structure SearchRec where
  kind : SearchKind
  stage : SearchStage
  area : Area
  touchAt : Nat
  challenge : Option Word32
  windowEnd : Option Nat
  taken : List Reply
  candidates : List Candidate
  deciding : Option Candidate
  number : Byte
  participants : List (Addr × SlotResult)
  claimQueued : Bool
  requester : Addr
  slotIndex : Nat
  slotAt : Option Nat
  decisionAt : Option Nat
deriving DecidableEq, Repr

inductive ClaimKind where
  | searchClaim | interiorSearch
deriving DecidableEq, Repr

/-- An entry of the claim list (R115); its place in the list is its order. -/
structure Claim where
  origin : Addr
  kind : ClaimKind
  expiry : Nat
deriving DecidableEq, Repr

/-- The held touch (R119). -/
structure HeldTouch where
  area : Area
  touchAt : Nat
deriving DecidableEq, Repr

inductive Antenna where
  | outer | inner
deriving DecidableEq, Repr

/-! ## Census unit (chapter 8) -/

/-- A set of capabilities (R154). -/
structure Capabilities where
  window : Bool
  child : Bool
  outer : Bool
  inner : Bool
  receiver : Bool
deriving DecidableEq, Repr

/-- The faults of the fault set (R165), in bit order. -/
inductive StationFault where
  | latchHalt | clash | keyDamaged | store | configDefaulted
deriving DecidableEq, Repr

/-- The fields of an ANNOUNCEMENT (R156); a field a station of another kind does not carry is absent. -/
structure Announced where
  lock : Option LockState
  child : Option ChildState
  latch : Option LatchPosition
  crash : Option Bool
  wclass : Option WindowClass
  wpos : Byte
  ready : Option Bool
  going : Option Bool
  faults : BitVec 5
  epoch : Epoch
  interval : BitVec 16
deriving DecidableEq, Repr

inductive Presence where
  | unknown | present | silent | lost
deriving DecidableEq, Repr

/-- An entry of the peer table (R162). `since` is when the silence timer started. -/
structure Peer where
  presence : Presence
  caps : Option Capabilities
  status : Option Announced
  epoch : Option Epoch
  interval : Nat
  since : Nat
  announced : Bool
  unresponsive : Nat
deriving DecidableEq, Repr

/-! ## Frames (chapters 7 and 11) -/

/-- The cause a WAKE carries (R179), in code order. -/
inductive WakeCause where
  | handle | touch | button | switch | latch | receiver | relock
deriving DecidableEq, Repr

/-- The current state an INTENT ACK carries (R82). -/
inductive AckState where
  | latch (lock : Option LockState) (position : Option LatchPosition)
  | child (c : Option ChildState)
  | window (c : Option WindowClass)
deriving DecidableEq, Repr

/-- The reason of a refused service request (R192), in code order from 1. -/
inductive ServiceReason where
  | notUnlocked | crashHold | duplicate | range | busy | noSecret
deriving DecidableEq, Repr

/-- The result of a SERVICE REPLY (R192). A received one of 3 octets may be a REFUSED without its reason or a STATUS
without its part (R201). -/
inductive ServiceResult where
  | done
  | refused (r : ServiceReason)
  | status (part : Byte) (bytes : List Byte)
  | refusedBare
  | statusBare
deriving DecidableEq, Repr

structure IntentFrame where
  kind : IntentKind
  tag : Tag
  epoch : Epoch
  targets : Stations
  cause : Cause
  notice : Option Notice
deriving DecidableEq, Repr

structure AckFrame where
  toAddr : Addr
  kind : IntentKind
  tag : Tag
  epoch : Epoch
  result : AckResult
  ownEpoch : Epoch
  current : AckState
  wpos : Byte
  window : Option WindowOutcome
  last : Option OrderKey
deriving DecidableEq, Repr

structure OutcomeFrame where
  tag : Tag
  kind : IntentKind
  epoch : Epoch
  outcome : IntentResult
  reason : RefusalReason
  partialSearch : Bool
  applied : Stations
  unresponsive : Stations
deriving DecidableEq, Repr

/-- A SERVICE REQUEST (R192). Its request kind and parameters are judged by the record store interface. -/
structure ServiceFrame where
  bytes : List Byte
deriving DecidableEq, Repr

/-- The kinds of zone line frames (R134) with their data (R201). -/
inductive Payload where
  | crashNotice
  | intent (i : IntentFrame)
  | intentAck (a : AckFrame)
  | fobRelay (r : Reply)
  | searchClaim
  | interiorSearch (number : Byte) (participants : Stations)
  | searchReport (requester : Addr) (result : SearchResult) (number : Byte) (best : Byte)
  | switchPack (fl fr rl rr : SwitchEntry)
  | windowReport (rise : Bool) (unnormalised : Bool) (outcome : Outcome) (p : BitVec 16)
  | faultNotice (f : StationFault) (detail : Byte)
  | announcement (a : Announced)
  | census (position : Addr) (caps : Capabilities) (interval : BitVec 16) (epoch : Epoch)
  | intentOutcome (o : OutcomeFrame)
  | wake (s0 s1 s2 s3 : Stations) (cause : WakeCause)
  | serviceRequest (r : ServiceFrame)
  | serviceReply (number : Byte) (kind : Byte) (result : ServiceResult)
deriving DecidableEq, Repr

/-- A frame of the zone line (R133). -/
structure Frame where
  cls : Fin 8
  origin : Addr
  payload : Payload
deriving DecidableEq, Repr

/-- An entry of the transmit queue (R141). A `jobless` entry has no job left to be told of it: its search has ended
while it was in transmission (R126, R131, R141), or it is a further SERVICE REPLY during a flush (R198). -/
structure TxEntry where
  frame : Frame
  age : Nat
  errors : Nat
  inTx : Bool
  jobless : Bool := false
deriving DecidableEq, Repr

/-- An item of the receive queue (R145) with the time its frame ended on the line: a frame, or the report "sent" of
an own frame, which waits behind the frames that ended on the line before it (R140). -/
inductive RxItem where
  | frame (f : Frame) (endAt : Nat)
  | sent (p : Payload) (endAt : Nat)
deriving DecidableEq, Repr

/-- The line condition (R135). -/
inductive LineCondition where
  | free | frame | busy | held
deriving DecidableEq, Repr

inductive LineCause where
  | held | failures | clash
deriving DecidableEq, Repr

/-- The line state (R147). -/
inductive LineState where
  | ok | lineFault (c : LineCause)
deriving DecidableEq, Repr

/-! ## Power manager (chapter 9) -/

inductive Supply where
  | normal | low | crank | under
deriving DecidableEq, Repr

inductive PowerState where
  | run | sleepPending | sleep
deriving DecidableEq, Repr

/-- The wake filter (R180); OPEN with the end of its 20 ms timer. -/
inductive WakeFilter where
  | watching | opened (until_ : Nat)
deriving DecidableEq, Repr

/-! ## Record store interface (chapter 10) -/

/-- The records of the store (R185). -/
inductive RecordId where
  | config | key (n : Slot) | profile | windowState | latchState
deriving DecidableEq, Repr

/-- The write in progress (R189). `underWay` is false while a further attempt waits on the supply (R190); `stale` says
that the key record has been queued again since the write took its content (R98, R113). -/
structure Writing where
  id : RecordId
  snapshot : List Byte
  attempt : Nat
  underWay : Bool
  stale : Bool := false
deriving DecidableEq, Repr

/-- The pairing buffer (R193). -/
structure Pairing where
  slot : Slot
  sHi : Word32
  sLo : Word32
  expiry : Nat
deriving DecidableEq, Repr

/-- The flush of a SERVICE RESET (R198). -/
structure Flush where
  limitAt : Nat
  replyDue : Bool
deriving DecidableEq, Repr

inductive DriveSide where
  | left | right
deriving DecidableEq, Repr

/-- The fields of the CONFIG record (R187). -/
structure Settings where
  driveSide : DriveSide
  caps : Capabilities
  travel : Nat
  sealZone : Nat
  dropDist : Nat
  revDist : Nat
  stallMs : Nat
  kspeed : Nat
  th : Nat
  rfb : Nat
  outerThr : Nat
  innerThr : Nat
  selective : Bool
  deadlockEn : Bool
  relockS : Nat
  intervalMs : Nat
deriving DecidableEq, Repr

end Sys2Proof.Machine
end

