-- ==== Sys2Proof/Machine/State.lean ====
section
/-! DEFINITION. The state of one CZ-40 station, its fault and refusal types, and the state after reset. -/

namespace Sys2Proof.Machine

/-- Reasons for a command to stop the machine with a fault: none. The spec gives every row of the table an effect in
every state, if only that it is ignored. Safe: nothing is stopped. -/
inductive Fault where
deriving DecidableEq, Repr

/-- Reasons for a command to be refused. -/
inductive Refusal where
  /-- Raised by `exec` for a row without a meaning, by its mnemonic; safe. No row is without one. -/
  | notModelled (mnemonic : String)
deriving DecidableEq, Repr

/-- The input lines of the station (00_scope, The Car and Its Stations). `storeAnswers` is the latest answer of the
external store, which reads without an operand of their own go by (R185, log 101, DESIGN CHOICE). -/
structure Pins where
  strap : Addr
  latchSwitch : LatchPosition
  outerHandle : Bool
  localHold : Option Direction
  localSpent : Bool
  supplySense : Nat
  storeAnswers : Bool
deriving DecidableEq, Repr

/-- The window controller (chapter 1). Times are in us of `State.now`. `pinchAt` is p_d, the position at the latest
declaration of a pinch (R37, log 81, DESIGN CHOICE). -/
structure Window where
  p : Int
  norm : Bool
  drift : Nat
  motion : MotionState
  motor : Motor
  req : Option Request
  pulses : Nat
  startStalls : Nat
  motorStartAt : Nat
  lastPulseAt : Nat
  pauseEnd : Option Nat
  brakeEnd : Option Nat
  pauseLimit : Option Nat
  coast : Option (Nat × Direction)
  clamped : Bool
  heat : Nat
  heatUs : Nat
  coolUs : Nat
  dropOwed : Option Int
  drop : Option DropJob
  dropAnswer : Option DropAnswer
  recMoving : Bool
  pinchAt : Int
  packEntry : SwitchEntry
  packAt : Option Nat
  pack : Vector SwitchEntry 4
  packQueuedAt : Option Nat
  overrideMotion : Bool
  lastEnd : Option (Source × Outcome)
deriving DecidableEq, Repr

/-- The pinch monitor (chapter 2). -/
structure Pinch where
  profile : Vector ZoneEntry 32
  count : Nat
  history : List Nat
  mode : ProtectionMode
  reversals : List Nat
  holdEnd : Option Nat
  holdExpired : Bool
  overrideUsed : Bool
  sums : Vector ZoneSum 32
  transient : Bool
  offNormal : Bool
deriving DecidableEq, Repr

/-- The latch controller (chapter 3). The actuator is energised exactly in RELEASING (R59). -/
structure Latch where
  position : LatchPosition
  filterEnd : Option Nat
  lock : LockState
  child : ChildState
  seq : SeqState
  kind : Option ReleaseKind
  attempts : Nat
  retryUsed : Bool
  dropOut : Bool
  retryDelay : Option Nat
  pulseEnd : Option Nat
  waitEnd : Option Nat
  supplyWait : Option Nat
  lastRelease : ReleaseOutcome
  crashEnd : Option Nat
deriving DecidableEq, Repr

/-- The intent engine (chapter 4). `relockSpent` is the arming UNLOCK of an auto-relock timer that has expired, while
its LOCK may be held (R77, R94). -/
structure Intents where
  epoch : Epoch
  keyLatch : OrderKey
  keyChild : OrderKey
  keyWindow : OrderKey
  table : List OpenEntry
  nextTag : Tag
  held : Option Prepared
  startHold : Option Nat
  pressLatch : Option Press
  pressWindow : Option Press
  relock : Option Relock
  relockSpent : Option Relock
deriving DecidableEq, Repr

/-- The key check unit (chapter 5). -/
structure Keys where
  slots : Vector KeySlot 6
  stale : Nat
  bad : Nat
deriving DecidableEq, Repr

/-- The search unit (chapter 6). -/
structure Search where
  record : Option SearchRec
  claims : List Claim
  held : Option HeldTouch
  nextNumber : Byte
  burst : Option (Antenna × Nat)
deriving DecidableEq, Repr

/-- The line interface (chapter 7). -/
structure Line where
  cond : LineCondition
  freeAt : Nat
  frameAt : Nat
  holdFrom : Option Nat
  state : LineState
  recoverAt : Option Nat
  tx : List TxEntry
  nextAge : Nat
  rx : List RxItem
  gateOpen : Bool
  ext : Nat
  extEnd : Option Nat
  failures : Nat
  damaged : Nat
  overruns : Nat
  txFails : Nat
  markWanted : Bool
  markEnd : Option Nat
deriving DecidableEq, Repr

/-- The census unit (chapter 8). `statusOwed` says that a status change has been handed over in the present command,
also when the watched fields read again as before (R157). -/
structure Census where
  peers : Vector Peer 8
  balance : Int
  intervalEnd : Nat
  urgent : Bool
  waitingChange : Bool
  announced : Bool
  late : Nat
  faults : Vector (Option Byte) 5
  lastWatched : Announced
  statusOwed : Bool
  censusOwed : Bool
deriving DecidableEq, Repr

/-- The power manager (chapter 9). `heldSince` is present while the station is held in reset (R183); `sleepDue` is the
age of the ANNOUNCEMENT whose report SLEEP waits for (R178). -/
structure Power where
  supply : Supply
  samples : List Nat
  sampleAt : Nat
  rise6300 : Option Nat
  rise7800 : Option Nat
  rise9300 : Option Nat
  state : PowerState
  localAt : Nat
  agree : Nat
  loneFrom : Option Nat
  quietEnd : Option Nat
  going : Bool
  sleepDue : Option Nat
  selfAbort : Bool
  filter : WakeFilter
  spurious : Nat
  heldSince : Option Nat
deriving DecidableEq, Repr

/-- The record store interface and the external store (chapter 10). A record is `none` when it is absent or spoilt. -/
structure Store where
  records : Vector (Option (List Byte)) 10
  queue : List RecordId
  writing : Option Writing
  patrol : Fin 38
  patrolAt : Nat
  pendingCfg : Settings
  pairing : Option Pairing
  flush : Option Flush
deriving DecidableEq, Repr

/-- The whole state of the station, with the clock and the queue of waiting commands. -/
structure State where
  now : Nat
  pending : List Instr
  freeCount : Nat
  pins : Pins
  addr : Addr
  cfg : Settings
  win : Window
  pinch : Pinch
  latch : Latch
  intent : Intents
  keys : Keys
  search : Search
  line : Line
  census : Census
  power : Power
  store : Store
deriving DecidableEq, Repr

/-- The default configuration at front-left (R187). -/
def resetSettings : Settings :=
  { driveSide := .left
    caps := { window := true, child := false, outer := true, inner := true, receiver := false }
    travel := 900, sealZone := 24, dropDist := 40, revDist := 200, stallMs := 30, kspeed := 9000000, th := 600
    rfb := 2000, outerThr := 90, innerThr := 120, selective := false, deadlockEn := true, relockS := 45
    intervalMs := 200 }

/-- The first announcement after the reset (R156, R168): unnormalised glass at 0 and CONFIG DEFAULTED. -/
def resetAnnounced : Announced :=
  { lock := some .unlocked, child := some .notFitted, latch := some .closed, crash := some false
    wclass := some .unknown, wpos := 0#8, ready := some false, going := some false, faults := 16#5
    epoch := 0#16, interval := 200#16 }

/-- An unlearned profile entry with its check word (R42); its value 0 is log 99, DESIGN CHOICE. -/
def resetZone (z : Zone) : ZoneEntry :=
  { learned := false, value := 0, check := { zone := z, learned := false, value := 0 } }

/-- An EMPTY key slot whose record is absent (R114), with zeros for what no one reads (log 94, DESIGN CHOICE). -/
def resetSlot (n : Slot) : KeySlot :=
  { state := .empty, identity := 0#32, sHi := 0#32, sLo := 0#32, counter := 0#24, resync := none, badCodes := 0
    windowStart := none, suspendedUntil := none
    check := { slot := n, state := .empty, identity := 0#32, sHi := 0#32, sLo := 0#32, counter := 0#24 }
    storeCurrent := false }

/-- A peer entry as set up at a reset (R168). -/
def resetPeer : Peer :=
  { presence := .unknown, caps := none, status := none, epoch := none, interval := 200, since := 0
    announced := false, unresponsive := 0 }

/-- The station right after a power-on reset: a front-left station (strap lines 0) at 12 V with a blank store
(log 10, DESIGN CHOICE), every block at the values its chapter gives after reset (R25, R47, R70, R95, R114, R132, R152, R168,
R184, R199), CENSUS, the CONFIG DEFAULTED notice and the first ANNOUNCEMENT queued (R154, R159, R166). -/
def State.reset : State :=
  { now := 0, pending := [], freeCount := 0
    pins := { strap := 0, latchSwitch := .closed, outerHandle := false, localHold := none, localSpent := false
              supplySense := 12000, storeAnswers := true }
    addr := 0
    cfg := resetSettings
    win := { p := 0, norm := false, drift := 0, motion := .idle, motor := .off, req := none, pulses := 0
             startStalls := 0, motorStartAt := 0, lastPulseAt := 0, pauseEnd := none, brakeEnd := none
             pauseLimit := none, coast := none, clamped := false, heat := 0, heatUs := 0, coolUs := 0
             dropOwed := none, drop := none, dropAnswer := none, recMoving := false, pinchAt := 0, packEntry := .rest
             packAt := none, pack := Vector.replicate 4 .rest, packQueuedAt := none, overrideMotion := false
             lastEnd := none }
    pinch := { profile := Vector.ofFn resetZone, count := 0, history := [], mode := .normal, reversals := []
               holdEnd := none, holdExpired := false, overrideUsed := false
               sums := Vector.replicate 32 { sum := 0, count := 0, mark := false }
               transient := false, offNormal := false }
    latch := { position := .closed, filterEnd := none, lock := .unlocked, child := .notFitted, seq := .idle
               kind := none, attempts := 0, retryUsed := false, dropOut := false, retryDelay := none
               pulseEnd := none, waitEnd := none, supplyWait := none, lastRelease := .none, crashEnd := none }
    intent := { epoch := 0#16, keyLatch := ⟨0#16, 0⟩, keyChild := ⟨0#16, 0⟩, keyWindow := ⟨0#16, 0⟩, table := []
                nextTag := 0, held := none, startHold := some 200000, pressLatch := none, pressWindow := none
                relock := none, relockSpent := none }
    keys := { slots := Vector.ofFn resetSlot, stale := 0, bad := 0 }
    search := { record := none, claims := [], held := none, nextNumber := 0#8, burst := none }
    line := { cond := .busy, freeAt := 240, frameAt := 0, holdFrom := none, state := .ok, recoverAt := none
              tx := [ { frame := { cls := 4, origin := 0, payload := .faultNotice .configDefaulted 255#8 }
                        age := 0, errors := 0, inTx := false },
                      { frame := { cls := 5, origin := 0, payload := .census 0 resetSettings.caps 200#16 0#16 }
                        age := 1, errors := 0, inTx := false },
                      { frame := { cls := 5, origin := 0, payload := .announcement resetAnnounced }
                        age := 2, errors := 0, inTx := false } ]
              nextAge := 3, rx := [], gateOpen := false, ext := 0, extEnd := none, failures := 0, damaged := 0
              overruns := 0, txFails := 0, markWanted := false, markEnd := none }
    census := { peers := Vector.replicate 8 resetPeer, balance := 0, intervalEnd := 200000, urgent := false
                waitingChange := false, announced := false, late := 0
                faults := #v[none, none, none, none, some 255#8]
                lastWatched := resetAnnounced, statusOwed := false, censusOwed := false }
    power := { supply := .normal, samples := [12000], sampleAt := 0, rise6300 := some 0, rise7800 := some 0
               rise9300 := some 0, state := .run, localAt := 0, agree := 0, loneFrom := none, quietEnd := none
               going := false, sleepDue := none, selfAbort := false, filter := .watching, spurious := 0
               heldSince := none }
    store := { records := Vector.replicate 10 none, queue := [], writing := none, patrol := 0, patrolAt := 0
               pendingCfg := resetSettings, pairing := none, flush := none } }

end Sys2Proof.Machine
end

