-- ==== Sys2Proof/Machine/Operands.lean ====
section
/-! DEFINITION. Operand forms: serial order of epochs, the code function, and the layouts of frames, fob frames and
stored records (chapters 7 and 11), each with its decoder. -/

namespace Sys2Proof.Machine

/-! ## Numbers -/

/-- Epoch `a` is later than `b` (00_scope, Serial comparison of epochs). -/
def epochLater (a b : Epoch) : Bool :=
  decide (1 ≤ (a - b).toNat) && decide ((a - b).toNat ≤ 32767)

/-- Key `x` is higher than key `y` (R74). -/
def keyHigher (x y : OrderKey) : Bool :=
  epochLater x.epoch y.epoch || (decide (x.epoch = y.epoch) && decide (y.origin.val < x.origin.val))

/-- The distance from counter `a` to counter `b` (00_scope, Rolling counter distance). -/
def counterDistance (a b : Counter) : Nat := (b - a).toNat

/-- A count that saturates at 65535. -/
def satInc (n : Nat) : Nat := min 65535 (n + 1)

/-- The octet of a number. -/
def byte (n : Nat) : Byte := BitVec.ofNat 8 n

/-- The field of `w` bits of an octet that begins at bit `lo` (chapter 11). -/
def field (b : Byte) (lo w : Nat) : Nat := b.toNat / 2 ^ lo % 2 ^ w

/-- Two octets, most significant first (chapter 11). -/
def bytes16 (x : BitVec 16) : List Byte := [x.extractLsb' 8 8, x.extractLsb' 0 8]

/-- Three octets, most significant first. -/
def bytes24 (x : BitVec 24) : List Byte := [x.extractLsb' 16 8, x.extractLsb' 8 8, x.extractLsb' 0 8]

/-- Four octets, most significant first. -/
def bytes32 (x : BitVec 32) : List Byte :=
  [x.extractLsb' 24 8, x.extractLsb' 16 8, x.extractLsb' 8 8, x.extractLsb' 0 8]

def word16 (a b : Byte) : BitVec 16 := a ++ b

def word24 (a b c : Byte) : BitVec 24 := a ++ b ++ c

def word32 (a b c d : Byte) : BitVec 32 := a ++ b ++ c ++ d

def nat16 (a b : Byte) : Nat := a.toNat * 256 + b.toNat

def nat24 (a b c : Byte) : Nat := (a.toNat * 256 + b.toNat) * 256 + c.toNat

/-- The n-th octet of a list, 0 where there is none. -/
def octetAt (d : List Byte) (n : Nat) : Byte := d.getD n 0#8

/-! ## Sets of stations -/

/-- All five closure stations (00_scope, Sets of stations). -/
def allStations : Stations := 31#5

/-- The set with the one station `a`; an address above 4 names no closure station. -/
def only (a : Addr) : Stations := if a.val < 5 then BitVec.ofNat 5 (2 ^ a.val) else 0#5

/-- Whether `a` is in the set. -/
def inSet (a : Addr) (s : Stations) : Bool := s.getLsbD a.val

/-- The set without the members of `t`. -/
def without (s t : Stations) : Stations := s &&& ~~~t

/-! ## Check and code functions -/

/-- The bits of an octet, most significant first (R133). -/
def byteBits (b : Byte) : List Bool :=
  [b.getLsbD 7, b.getLsbD 6, b.getLsbD 5, b.getLsbD 4, b.getLsbD 3, b.getLsbD 2, b.getLsbD 1, b.getLsbD 0]

/-- One bit of the CRC-16 with polynomial x^16+x^12+x^5+1 (R133, R185). -/
def crcBit (crc : BitVec 16) (b : Bool) : BitVec 16 :=
  if crc.msb != b then (crc <<< 1) ^^^ 0x1021#16 else crc <<< 1

/-- The CRC-16 of a list of octets, initial value all ones (R133, R185). -/
def crc16 (bs : List Byte) : BitVec 16 :=
  bs.foldl (fun crc b => (byteBits b).foldl crcBit crc) 0xFFFF#16

/-- One round of the code function (R101, step 2). -/
def codeRound (sHi w : Word32) : Word32 :=
  (w * 33#32 + sHi) ^^^ ((w * 33#32 + sHi) >>> 16)

/-- The code function (R101). -/
def codeOf (sHi sLo m : Word32) : BitVec 24 :=
  (codeRound sHi (codeRound sHi (codeRound sHi (codeRound sHi (sLo ^^^ m))))).setWidth 24

/-- The button code (R99). -/
def Button.code : Button → Nat
  | .lock => 1 | .unlock => 2 | .tailgate => 3 | .lockHeld => 4 | .unlockHeld => 5 | .release => 6

/-- The message of a button frame: counter × 256 + button code (R101). -/
def buttonMessage (c : Counter) (b : Button) : Word32 :=
  (c ++ byte b.code : BitVec 32)

/-! ## Codes (R201): in the order the layouts list them -/

def switchCode : SwitchEntry → Nat
  | .rest => 0 | .upManual => 1 | .upAuto => 2 | .downManual => 3 | .downAuto => 4

def switchEntryOf : Nat → Option SwitchEntry
  | 0 => some .rest | 1 => some .upManual | 2 => some .upAuto | 3 => some .downManual | 4 => some .downAuto
  | _ => none

def IntentKind.family : IntentKind → Family
  | .lock | .deadlock | .unlock | .unlockAndOpen => .latch
  | .childOn | .childOff => .child
  | .windowsClose | .windowsOpen | .windowsStop => .window

def Family.code : Family → Nat
  | .latch => 0 | .child => 1 | .window => 2

def familyOf : Nat → Option Family
  | 0 => some .latch | 1 => some .child | 2 => some .window | _ => none

def IntentKind.code : IntentKind → Nat
  | .lock => 0 | .deadlock => 1 | .unlock => 2 | .unlockAndOpen => 3
  | .childOn => 0 | .childOff => 1
  | .windowsClose => 0 | .windowsOpen => 1 | .windowsStop => 2

def intentKindOf : Family → Nat → Option IntentKind
  | .latch, 0 => some .lock | .latch, 1 => some .deadlock | .latch, 2 => some .unlock
  | .latch, 3 => some .unlockAndOpen
  | .child, 0 => some .childOn | .child, 1 => some .childOff
  | .window, 0 => some .windowsClose | .window, 1 => some .windowsOpen | .window, 2 => some .windowsStop
  | _, _ => none

def Cause.code : Cause → Nat
  | .fob => 0 | .passive => 1 | .insideButton => 2 | .switchPack => 3 | .autoRelock => 4 | .speed => 5 | .service => 6

def causeOf : Nat → Option Cause
  | 0 => some .fob | 1 => some .passive | 2 => some .insideButton | 3 => some .switchPack | 4 => some .autoRelock
  | 5 => some .speed | 6 => some .service | _ => none

def AckResult.code : AckResult → Nat
  | .applied => 0 | .alreadyApplied => 1 | .superseded => 2 | .crashHold => 3

def ackResultOf : Nat → AckResult
  | 0 => .applied | 1 => .alreadyApplied | 2 => .superseded | _ => .crashHold

def WindowOutcome.code : WindowOutcome → Nat
  | .started => 0 | .absent => 1 | .unnormalised => 2 | .thermal => 3 | .closureOpen => 4 | .crashHold => 5
  | .busy => 6 | .pinchHold => 7 | .stopped => 8

/-- The window outcome byte of an ack; 15 is absent. -/
def windowOutcomeOf : Nat → Option (Option WindowOutcome)
  | 0 => some (some .started) | 1 => some (some .absent) | 2 => some (some .unnormalised)
  | 3 => some (some .thermal) | 4 => some (some .closureOpen) | 5 => some (some .crashHold)
  | 6 => some (some .busy) | 7 => some (some .pinchHold) | 8 => some (some .stopped) | 15 => some none
  | _ => none

def LockState.code : LockState → Nat
  | .unlocked => 0 | .locked => 1 | .deadlocked => 2

def lockCode : Option LockState → Nat
  | some l => l.code | none => 3

def lockOf : Nat → Option LockState
  | 0 => some .unlocked | 1 => some .locked | 2 => some .deadlocked | _ => none

def childCode : Option ChildState → Nat
  | some .engaged => 0 | some .released => 1 | some .notFitted => 2 | none => 3

def childOf : Nat → Option ChildState
  | 0 => some .engaged | 1 => some .released | 2 => some .notFitted | _ => none

def latchCode : Option LatchPosition → Nat
  | some .closed => 0 | some .opened => 1 | none => 3

/-- Code 2 of the latch position is undefined, 3 is absent. -/
def latchOf : Nat → Option (Option LatchPosition)
  | 0 => some (some .closed) | 1 => some (some .opened) | 3 => some none | _ => none

def flagCode : Option Bool → Nat
  | some false => 0 | some true => 1 | none => 3

def flagOf : Nat → Option (Option Bool)
  | 0 => some (some false) | 1 => some (some true) | 3 => some none | _ => none

def wclassCode : Option WindowClass → Nat
  | some .closed => 0 | some .dropped => 1 | some .partly => 2 | some .opened => 3 | some .unknown => 4
  | some .absent => 5 | none => 7

def wclassOf : Nat → Option (Option WindowClass)
  | 0 => some (some .closed) | 1 => some (some .dropped) | 2 => some (some .partly) | 3 => some (some .opened)
  | 4 => some (some .unknown) | 5 => some (some .absent) | 7 => some none | _ => none

def Capabilities.code (c : Capabilities) : Nat :=
  c.window.toNat + 2 * c.child.toNat + 4 * c.outer.toNat + 8 * c.inner.toNat + 16 * c.receiver.toNat

def capabilitiesOf (n : Nat) : Capabilities :=
  { window := n.testBit 0, child := n.testBit 1, outer := n.testBit 2, inner := n.testBit 3, receiver := n.testBit 4 }

def StationFault.code : StationFault → Nat
  | .latchHalt => 0 | .clash => 1 | .keyDamaged => 2 | .store => 3 | .configDefaulted => 4

/-- The bit of a fault in the fault set (R165). -/
def StationFault.index (f : StationFault) : Fin 5 := Fin.ofNat 5 f.code

def stationFaultOf : Nat → Option StationFault
  | 0 => some .latchHalt | 1 => some .clash | 2 => some .keyDamaged | 3 => some .store | 4 => some .configDefaulted
  | _ => none

def SearchResult.code : SearchResult → Nat
  | .found => 0 | .notFound => 1 | .skipped => 2

def searchResultOf : Nat → Option SearchResult
  | 0 => some .found | 1 => some .notFound | 2 => some .skipped | _ => none

def Outcome.code : Outcome → Nat
  | .closed => 0 | .opened => 1 | .pinched => 2 | .stopped => 3 | .blocked => 4 | .thermal => 5 | .preempted => 6

def outcomeOf : Nat → Option Outcome
  | 0 => some .closed | 1 => some .opened | 2 => some .pinched | 3 => some .stopped | 4 => some .blocked
  | 5 => some .thermal | 6 => some .preempted | _ => none

def IntentResult.code : IntentResult → Nat
  | .complete => 0 | .partialResult => 1 | .superseded => 2 | .refused => 3

def intentResultOf : Nat → IntentResult
  | 0 => .complete | 1 => .partialResult | 2 => .superseded | _ => .refused

def RefusalReason.code : RefusalReason → Nat
  | .none => 0 | .closureOpen => 1 | .keyInside => 2 | .noKey => 3

def refusalReasonOf : Nat → RefusalReason
  | 0 => .none | 1 => .closureOpen | 2 => .keyInside | _ => .noKey

def WakeCause.code : WakeCause → Nat
  | .handle => 0 | .touch => 1 | .button => 2 | .switch => 3 | .latch => 4 | .receiver => 5 | .relock => 6

def wakeCauseOf : Nat → Option WakeCause
  | 0 => some .handle | 1 => some .touch | 2 => some .button | 3 => some .switch | 4 => some .latch
  | 5 => some .receiver | 6 => some .relock | _ => none

def ServiceReason.code : ServiceReason → Nat
  | .notUnlocked => 1 | .crashHold => 2 | .duplicate => 3 | .range => 4 | .busy => 5 | .noSecret => 6

def serviceReasonOf : Nat → Option ServiceReason
  | 1 => some .notUnlocked | 2 => some .crashHold | 3 => some .duplicate | 4 => some .range | 5 => some .busy
  | 6 => some .noSecret | _ => none

/-! ## Frame data (R201) -/

/-- The kind of a frame (R134). -/
def Payload.kind : Payload → Nat
  | .crashNotice => 0
  | .intent i => 1 + i.kind.family.code
  | .intentAck _ => 4
  | .fobRelay _ => 5
  | .searchClaim => 6
  | .interiorSearch _ _ => 7
  | .searchReport _ _ _ _ => 8
  | .switchPack _ _ _ _ => 9
  | .windowReport _ _ _ _ => 10
  | .faultNotice _ _ => 11
  | .announcement _ => 12
  | .census _ _ _ _ => 13
  | .intentOutcome _ => 14
  | .wake _ _ _ _ _ => 15
  | .serviceRequest _ => 16
  | .serviceReply _ _ _ => 17

/-- The class of a frame by its kind (R134); an urgent ANNOUNCEMENT has class 2 instead. -/
def Payload.cls : Payload → Fin 8
  | .crashNotice => 0
  | .intent _ => 1
  | .intentAck _ => 2
  | .fobRelay _ | .searchClaim | .interiorSearch _ _ | .searchReport _ _ _ _ => 3
  | .switchPack _ _ _ _ | .windowReport _ _ _ _ | .faultNotice _ _ => 4
  | .announcement _ | .census _ _ _ _ | .intentOutcome _ => 5
  | .wake _ _ _ _ _ => 2
  | .serviceRequest _ | .serviceReply _ _ _ => 6

/-- Whether frames of this kind are accepted from this origin (R134). -/
def acceptedOrigin (kind : Nat) (origin : Addr) : Bool :=
  match kind with
  | 0 => origin.val == 6
  | 1 | 2 | 3 => decide (origin.val ≤ 5)
  | 16 => origin.val == 7
  | _ => true

/-- The key notice bytes of an intent (R201). -/
def noticeBytes : Option Notice → List Byte
  | none => []
  | some n => bytes32 n.identity ++ bytes24 n.counter

/-- The octets of a passive reply's contents, as a FOB RELAY carries them (R201). -/
def replyBytes (r : Reply) : List Byte :=
  bytes32 r.identity ++ bytes24 r.echo ++ [r.strength] ++ bytes24 r.code

/-- The current state byte of an INTENT ACK (R201). -/
def AckState.code : AckState → Byte
  | .latch l p => byte (lockCode l * 64 + latchCode p * 16)
  | .child c => byte (childCode c * 64)
  | .window c => byte (wclassCode c * 32)

/-- The eight octets of an ANNOUNCEMENT (R201), also part 0 of the status record. -/
def announcedBytes (a : Announced) : List Byte :=
  [ byte (lockCode a.lock * 64 + childCode a.child * 16 + latchCode a.latch * 4 + flagCode a.crash),
    byte (wclassCode a.wclass * 32 + flagCode a.ready * 8 + flagCode a.going * 2),
    a.wpos, a.faults.setWidth 8 ] ++ bytes16 a.epoch ++ bytes16 a.interval

/-- The octets after the first two of a SERVICE REPLY (R201). -/
def serviceResultBytes : ServiceResult → List Byte
  | .done => [byte 0]
  | .refused r => [byte 1, byte r.code]
  | .status part bytes => byte 2 :: part :: bytes
  | .refusedBare => [byte 1]
  | .statusBare => [byte 2]

/-- The data octets of a frame (R201). -/
def Payload.data : Payload → List Byte
  | .crashNotice => []
  | .intent i =>
      byte (i.kind.code * 16 + i.tag.val) :: bytes16 i.epoch
        ++ [byte (i.cause.code * 32 + i.targets.toNat)] ++ noticeBytes i.notice
  | .intentAck a =>
      [byte (a.toAddr.val * 32 + a.kind.family.code * 8 + a.result.code * 2), byte (a.kind.code * 16 + a.tag.val)]
        ++ bytes16 a.epoch ++ bytes16 a.ownEpoch
        ++ [a.current.code, a.wpos, byte (match a.window with | some w => w.code | none => 15)]
        ++ (match a.last with | some k => bytes16 k.epoch ++ [byte k.origin.val] | none => [])
  | .fobRelay r => replyBytes r
  | .searchClaim => []
  | .interiorSearch n ps => [n, ps.setWidth 8]
  | .searchReport q r n best => [byte (q.val * 32 + r.code), n, best]
  | .switchPack fl fr rl rr => [byte (switchCode fl * 16 + switchCode fr), byte (switchCode rl * 16 + switchCode rr)]
  | .windowReport rise unnorm o p => byte (rise.toNat * 128 + unnorm.toNat * 64 + o.code) :: bytes16 p
  | .faultNotice f d => [byte f.code, d]
  | .announcement a => announcedBytes a
  | .census pos caps iv ep => byte (pos.val * 32 + caps.code) :: bytes16 iv ++ bytes16 ep
  | .intentOutcome o =>
      byte (o.tag.val * 16 + o.kind.family.code * 4 + o.kind.code) :: bytes16 o.epoch
        ++ [byte (o.outcome.code * 64 + o.reason.code * 16 + o.partialSearch.toNat * 8),
            o.applied.setWidth 8, o.unresponsive.setWidth 8]
  | .wake a b c d cause => [a.setWidth 8, b.setWidth 8, c.setWidth 8, d.setWidth 8, byte cause.code]
  | .serviceRequest r => r.bytes
  | .serviceReply n k r => n :: k :: serviceResultBytes r

/-- A set of addresses from its octet; a bit above bit 4 is an undefined code (R201). -/
def stationsOf (b : Byte) : Option Stations :=
  if b.toNat < 32 then some (b.setWidth 5) else none

/-- A number of an octet as an address. -/
def addrOf (n : Nat) : Addr := Fin.ofNat 8 n

/-- The decoder of the four octets every intent begins with (R201). -/
def decodeIntentHead (f : Family) (b0 b1 b2 b3 : Byte) (n : Option Notice) : Option Payload :=
  match intentKindOf f (field b0 4 4), causeOf (field b3 5 3) with
  | some k, some c =>
      if field b0 0 4 ≤ 14 then
        some (.intent { kind := k, tag := Fin.ofNat 16 (field b0 0 4), epoch := word16 b1 b2
                        targets := b3.setWidth 5, cause := c, notice := n })
      else none
  | _, _ => none

/-- The decoder of an intent of a family: 4 octets, or 11 with a key notice (R201). -/
def decodeIntent (f : Family) : List Byte → Option Payload
  | [b0, b1, b2, b3] => decodeIntentHead f b0 b1 b2 b3 none
  | [b0, b1, b2, b3, b4, b5, b6, b7, b8, b9, b10] =>
      decodeIntentHead f b0 b1 b2 b3 (some { identity := word32 b4 b5 b6 b7, counter := word24 b8 b9 b10 })
  | _ => none

/-- The current state byte of an ack of a family (R201). -/
def ackStateOf (f : Family) (b : Byte) : Option AckState :=
  match f with
  | .latch => (latchOf (field b 4 2)).map (.latch (lockOf (field b 6 2)))
  | .child => some (.child (childOf (field b 6 2)))
  | .window => (wclassOf (field b 5 3)).map .window

/-- The decoder of the nine octets every ack begins with (R201). -/
def decodeAckHead (b0 b1 b2 b3 b4 b5 b6 b7 b8 : Byte) (last : Option OrderKey) : Option Payload :=
  match familyOf (field b0 3 2) with
  | none => none
  | some f =>
      match intentKindOf f (field b1 4 4), ackStateOf f b6, windowOutcomeOf b8.toNat with
      | some k, some cur, some w =>
          some (.intentAck { toAddr := addrOf (field b0 5 3), kind := k, tag := Fin.ofNat 16 (field b1 0 4)
                             epoch := word16 b2 b3, result := ackResultOf (field b0 1 2), ownEpoch := word16 b4 b5
                             current := cur, wpos := b7, window := w, last := last })
      | _, _, _ => none

/-- The decoder of an INTENT ACK: 9 octets, or 12 with the last-applied key (R201). -/
def decodeAck : List Byte → Option Payload
  | [b0, b1, b2, b3, b4, b5, b6, b7, b8] => decodeAckHead b0 b1 b2 b3 b4 b5 b6 b7 b8 none
  | [b0, b1, b2, b3, b4, b5, b6, b7, b8, b9, b10, b11] =>
      if b11.toNat < 8 then
        decodeAckHead b0 b1 b2 b3 b4 b5 b6 b7 b8 (some { epoch := word16 b9 b10, origin := addrOf b11.toNat })
      else none
  | _ => none

/-- The decoder of an ANNOUNCEMENT (R201). -/
def decodeAnnouncement : List Byte → Option Payload
  | [b0, b1, b2, b3, b4, b5, b6, b7] =>
      match latchOf (field b0 2 2), flagOf (field b0 0 2), wclassOf (field b1 5 3), flagOf (field b1 3 2),
          flagOf (field b1 1 2) with
      | some l, some c, some w, some r, some g =>
          some (.announcement { lock := lockOf (field b0 6 2), child := childOf (field b0 4 2), latch := l, crash := c
                                wclass := w, wpos := b2, ready := r, going := g, faults := b3.setWidth 5
                                epoch := word16 b4 b5, interval := word16 b6 b7 })
      | _, _, _, _, _ => none
  | _ => none

/-- The decoder of an INTENT OUTCOME (R201): bits above bit 4 of its applied and unresponsive sets are passed over
(log 95, DESIGN CHOICE). -/
def decodeOutcome : List Byte → Option Payload
  | [b0, b1, b2, b3, b4, b5] =>
      match familyOf (field b0 2 2) with
      | none => none
      | some f =>
          match intentKindOf f (field b0 0 2) with
          | none => none
          | some k =>
              some (.intentOutcome { tag := Fin.ofNat 16 (field b0 4 4), kind := k, epoch := word16 b1 b2
                                     outcome := intentResultOf (field b3 6 2), reason := refusalReasonOf (field b3 4 2)
                                     partialSearch := field b3 3 1 == 1, applied := b4.setWidth 5
                                     unresponsive := b5.setWidth 5 })
  | _ => none

/-- The decoder of a WAKE (R201). -/
def decodeWake : List Byte → Option Payload
  | [b0, b1, b2, b3, b4] =>
      match stationsOf b0, stationsOf b1, stationsOf b2, stationsOf b3, wakeCauseOf b4.toNat with
      | some a, some b, some c, some d, some w => some (.wake a b c d w)
      | _, _, _, _, _ => none
  | _ => none

/-- Whether a fault's cause detail is a code the fault defines: a frame kind of 5 bits, a slot, a record id, or a number
of the 16 configuration fields and 255 for WHOLE RECORD (R200, R201, log 26, DESIGN CHOICE). -/
def faultDetailDefined (f : StationFault) (d : Byte) : Bool :=
  match f with
  | .latchHalt => true
  | .clash => decide (d.toNat < 32)
  | .keyDamaged => decide (d.toNat < 6)
  | .store => decide (d.toNat < 10)
  | .configDefaulted => decide (d.toNat ≤ 16) || d.toNat == 255

/-- The faults of a fault set, in bit order; bits above bit 4 are passed over (R201, log 95, DESIGN CHOICE). -/
def faultsIn (b : Byte) : List StationFault :=
  [.latchHalt, .clash, .keyDamaged, .store, .configDefaulted].filter fun f => b.getLsbD f.code

/-- Whether the octets of a status part that are present hold defined codes (R201); missing octets carry none (log 26,
DESIGN CHOICE). -/
def statusDefined (part : Nat) (bs : List Byte) : Bool :=
  match part with
  | 0 => (decodeAnnouncement ((bs ++ List.replicate 8 0#8).take 8)).isSome
  | 1 => ((faultsIn (octetAt bs 0)).zip (bs.drop 1)).all fun q => faultDetailDefined q.1 q.2
  | 2 => field (octetAt bs 5) 0 2 != 3
  | 3 => decide ((octetAt bs 0).toNat ≤ 4) && decide ((octetAt bs 2).toNat ≤ 7)
  | 4 | 5 => true
  | n => decide (n ≤ 13) && decide (field (octetAt bs 0) 0 7 ≤ 3)

/-- The decoder of a SERVICE REPLY, of 3 to 12 octets: an octet that a short one leaves out carries no code, and no
octet after the result of a DONE or after the reason of a REFUSED is judged (R201, log 26, DESIGN CHOICE). -/
def decodeReply : List Byte → Option Payload
  | n :: k :: r :: rest =>
      if 8 < k.toNat || 9 < rest.length then none
      else match r.toNat, rest with
        | 0, _ => some (.serviceReply n k .done)
        | 1, [] => some (.serviceReply n k .refusedBare)
        | 1, x :: _ => (serviceReasonOf x.toNat).map fun y => .serviceReply n k (.refused y)
        | 2, [] => some (.serviceReply n k .statusBare)
        | 2, part :: bytes =>
            if statusDefined part.toNat bytes then some (.serviceReply n k (.status part bytes)) else none
        | _, _ => none
  | _ => none

/-- The decoder of a frame's data by its kind (R201): `none` for a length or a code that is not defined. A SERVICE
REQUEST is delivered whatever its request kind, parameters and length (log 26, DESIGN CHOICE). Bits that the table of
R201 assigns to no field are ignored (log 96, DESIGN CHOICE). -/
def decodePayload (kind : Nat) (d : List Byte) : Option Payload :=
  match kind, d with
  | 0, [] => some .crashNotice
  | 1, d => decodeIntent .latch d
  | 2, d => decodeIntent .child d
  | 3, d => decodeIntent .window d
  | 4, d => decodeAck d
  | 5, [a, b, c, d, e, f, g, h, i, j, k] =>
      some (.fobRelay { identity := word32 a b c d, echo := word24 e f g, strength := h, code := word24 i j k })
  | 6, [] => some .searchClaim
  | 7, [n, ps] => (stationsOf ps).map (.interiorSearch n)
  | 8, [q, n, best] => (searchResultOf (field q 0 2)).map fun r => .searchReport (addrOf (field q 5 3)) r n best
  | 9, [a, b] =>
      match switchEntryOf (field a 4 4), switchEntryOf (field a 0 4), switchEntryOf (field b 4 4),
          switchEntryOf (field b 0 4) with
      | some w, some x, some y, some z => some (.switchPack w x y z)
      | _, _, _, _ => none
  | 10, [a, b, c] =>
      (outcomeOf (field a 0 3)).map fun o => .windowReport (field a 7 1 == 1) (field a 6 1 == 1) o (word16 b c)
  | 11, [a, b] =>
      match stationFaultOf a.toNat with
      | some f => if faultDetailDefined f b then some (.faultNotice f b) else none
      | none => none
  | 12, d => decodeAnnouncement d
  | 13, [a, b, c, d, e] =>
      some (.census (addrOf (field a 5 3)) (capabilitiesOf (field a 0 5)) (word16 b c) (word16 d e))
  | 14, d => decodeOutcome d
  | 15, d => decodeWake d
  | 16, d =>
      match d with
      | _ :: t :: _ => if t.toNat < 32 then some (.serviceRequest ⟨d⟩) else none
      | _ => some (.serviceRequest ⟨d⟩)
  | 17, d => decodeReply d
  | _, _ => none

/-! ## The frame on the line (R133, R200) -/

/-- The three header octets (R200), for a class, an origin, a kind and a number of data octets. -/
def headerOctets (cls : Fin 8) (origin : Addr) (kind len : Nat) : List Byte :=
  [byte (cls.val * 32 + origin.val * 4), byte (kind * 8), byte (len * 16 + len)]

/-- All octets of a frame: header, data and check (R133). -/
def frameOctets (f : Frame) : List Byte :=
  let body := headerOctets f.cls f.origin f.payload.kind f.payload.data.length ++ f.payload.data
  body ++ bytes16 (crc16 body)

/-- An octet on the line: a recessive start bit, eight bits, a dominant stop bit (R133); `true` is recessive. -/
def octetBits (b : Byte) : List Bool := true :: byteBits b ++ [false]

/-- The bits of a frame after its sync: its octets, then the end part of 8 recessive bits (R133). -/
def frameBits (f : Frame) : List Bool := (frameOctets f).flatMap octetBits ++ List.replicate 8 true

/-- The bit times of a frame with `len` data octets: sync, octets and end part (R133). -/
def frameBitTimes (len : Nat) : Nat := 12 + 10 * (5 + len) + 8

/-- The number whose bits, most significant first, are given. -/
def bitsToByte (bs : List Bool) : Byte := byte (bs.foldl (fun n b => 2 * n + b.toNat) 0)

/-- One octet read from the line: a start bit read dominant, a stop bit read recessive, or bits that have run out
(a frame that was not read whole) are a framing fault (R143 check 1, log 51, DESIGN CHOICE). -/
def readOctet : List Bool → Option (Byte × List Bool)
  | st :: b7 :: b6 :: b5 :: b4 :: b3 :: b2 :: b1 :: b0 :: sp :: rest =>
      if st && !sp then some (bitsToByte [b7, b6, b5, b4, b3, b2, b1, b0], rest) else none
  | _ => none

/-- `n` octets read from the line (R143 check 1). -/
def readOctets : Nat → List Bool → Option (List Byte × List Bool)
  | 0, bs => some ([], bs)
  | n + 1, bs =>
      match readOctet bs with
      | none => none
      | some (b, rest) =>
          match readOctets n rest with
          | none => none
          | some (l, r) => some (b :: l, r)

/-- What a good frame says before its data is judged: class, origin, kind and data (R200). -/
structure RawFrame where
  cls : Fin 8
  origin : Addr
  kind : Nat
  data : List Byte
deriving DecidableEq, Repr

/-- The data, check and end part after a sound header (R143 checks 1, 4 and 5); the end part is read whole. -/
def readBody (h0 h1 h2 : Byte) (len : Nat) (rest : List Bool) : Option RawFrame :=
  match readOctets len rest with
  | none => none
  | some (d, rest2) =>
      match readOctets 2 rest2 with
      | some ([c0, c1], rest3) =>
          if crc16 (h0 :: h1 :: h2 :: d) = word16 c0 c1 ∧ rest3.take 8 = List.replicate 8 true then
            some { cls := Fin.ofNat 8 (field h0 5 3), origin := addrOf (field h0 2 3), kind := field h1 3 5, data := d }
          else none
      | _ => none

/-- The reception checks in their order (R143): framing, length, duplicate length, check, end part. `none` is a
damaged frame. -/
def readFrame (bs : List Bool) : Option RawFrame :=
  match readOctets 3 bs with
  | some ([h0, h1, h2], rest) =>
      if 12 < field h2 4 4 then none
      else if field h2 0 4 ≠ field h2 4 4 then none
      else readBody h0 h1 h2 (field h2 4 4) rest
  | _ => none

/-- The bits read of `n` octets: all of them, or up to and with the bit that breaks the framing (R143 check 1). -/
def octetsRead : Nat → List Bool → Nat
  | 0, _ => 0
  | _ + 1, [] => 0
  | _ + 1, false :: _ => 1
  | n + 1, bs =>
      match readOctet bs with
      | none => min 10 bs.length
      | some (_, rest) => 10 + octetsRead n rest

/-- The bits read after a sound header of a frame with `len` data octets: to the framing fault, to the end of the check
that fails, or to the end of the end part (R143 checks 1, 4 and 5). -/
def bodyRead (len : Nat) (bs : List Bool) : Nat :=
  match readOctets (5 + len) bs with
  | none => octetsRead (5 + len) bs
  | some (octets, rest) =>
      if bytes16 (crc16 (octets.take (3 + len))) = octets.drop (3 + len) then 10 * (5 + len) + min 8 rest.length
      else 10 * (5 + len)

/-- The bits after the sync that a frame takes until it is judged: a frame discarded at a check is dropped at that
point (R143). -/
def bitsRead (bs : List Bool) : Nat :=
  match readOctets 3 bs with
  | some ([_, _, h2], _) =>
      if 12 < field h2 4 4 ∨ field h2 0 4 ≠ field h2 4 4 then 30 else bodyRead (field h2 4 4) bs
  | _ => octetsRead 3 bs

/-! ## Fob frames (R202) -/

def buttonOf : Nat → Option Button
  | 1 => some .lock | 2 => some .unlock | 3 => some .tailgate | 4 => some .lockHeld | 5 => some .unlockHeld
  | 6 => some .release | _ => none

/-- A button frame of 11 octets (R202). -/
def decodeButton : List Byte → Option ButtonFrame
  | [t, a, b, c, d, e, f, g, h, i, j] =>
      match buttonOf (field t 0 4) with
      | some bt => if field t 4 4 = 1 then
          some { identity := word32 a b c d, counter := word24 e f g, button := bt, code := word24 h i j } else none
      | none => none
  | _ => none

/-- A passive reply of 12 octets (R202). -/
def decodePassive : List Byte → Option Reply
  | [t, a, b, c, d, e, f, g, h, i, j, k] =>
      if t.toNat = 32 then
        some { identity := word32 a b c d, echo := word24 e f g, strength := h, code := word24 i j k }
      else none
  | _ => none

/-! ## Stored records (R203) -/

def RecordId.code : RecordId → Nat
  | .config => 0 | .key n => 1 + n.val | .profile => 7 | .windowState => 8 | .latchState => 9

/-- The number of content octets of a record (R203). -/
def RecordId.size : RecordId → Nat
  | .config => 21 | .key _ => 16 | .profile => 70 | .windowState => 5 | .latchState => 1

/-- The place of a record in the store. -/
def RecordId.index (r : RecordId) : Fin 10 := Fin.ofNat 10 r.code

/-- A whole record: id, content and check (R185, R203). -/
def recordBytes (r : RecordId) (content : List Byte) : List Byte :=
  (byte r.code :: content) ++ bytes16 (crc16 (byte r.code :: content))

/-- The content of a record that is good on reading (R185): its length, id and check are right. -/
def goodContent (r : RecordId) (raw : Option (List Byte)) : Option (List Byte) :=
  match raw with
  | none => none
  | some [] => none
  | some (i :: rest) =>
      if i = byte r.code ∧ rest.length = r.size + 2
          ∧ rest.drop r.size = bytes16 (crc16 (i :: rest.take r.size)) then some (rest.take r.size) else none

/-- The default capability set by address (R187). -/
def defaultCaps (a : Addr) : Capabilities :=
  { window := decide (a.val < 4), child := a.val == 2 || a.val == 3, outer := true, inner := decide (a.val < 4)
    receiver := false }

/-- CHILD is added at RL and RR and removed elsewhere (R187). -/
def adjustCaps (a : Addr) (c : Capabilities) : Capabilities :=
  { c with child := a.val == 2 || a.val == 3 }

/-- The configuration of defaults (R187). -/
def defaultSettings (a : Addr) : Settings := { resetSettings with caps := defaultCaps a }

/-- Whether each number of a configuration lies in its range (R187), in the order of the table. -/
def settingsRanges (c : Settings) : List Bool :=
  [ decide (64 ≤ c.travel ∧ c.travel ≤ 2048), decide (8 ≤ c.sealZone ∧ c.sealZone ≤ 64),
    decide (16 ≤ c.dropDist ∧ c.dropDist ≤ 120), decide (50 ≤ c.revDist ∧ c.revDist ≤ 600),
    decide (20 ≤ c.stallMs ∧ c.stallMs ≤ 60), decide (1 ≤ c.kspeed ∧ c.kspeed ≤ 16777215),
    decide (100 ≤ c.th ∧ c.th ≤ 4000), decide (c.rfb ≤ 16383), decide (c.outerThr ≤ 255), decide (c.innerThr ≤ 255),
    decide (c.relockS = 0 ∨ (15 ≤ c.relockS ∧ c.relockS ≤ 120)), decide (100 ≤ c.intervalMs ∧ c.intervalMs ≤ 1000) ]

def pick {α : Type} (ok : Prop) [Decidable ok] (v d : α) : α := if ok then v else d

/-- Each number outside its range replaced by its default (R187). -/
def defaulted (c : Settings) : Settings :=
  { c with
    travel := pick (64 ≤ c.travel ∧ c.travel ≤ 2048) c.travel 900
    sealZone := pick (8 ≤ c.sealZone ∧ c.sealZone ≤ 64) c.sealZone 24
    dropDist := pick (16 ≤ c.dropDist ∧ c.dropDist ≤ 120) c.dropDist 40
    revDist := pick (50 ≤ c.revDist ∧ c.revDist ≤ 600) c.revDist 200
    stallMs := pick (20 ≤ c.stallMs ∧ c.stallMs ≤ 60) c.stallMs 30
    kspeed := pick (1 ≤ c.kspeed ∧ c.kspeed ≤ 16777215) c.kspeed 9000000
    th := pick (100 ≤ c.th ∧ c.th ≤ 4000) c.th 600
    rfb := pick (c.rfb ≤ 16383) c.rfb 2000
    outerThr := pick (c.outerThr ≤ 255) c.outerThr 90
    innerThr := pick (c.innerThr ≤ 255) c.innerThr 120
    relockS := pick (c.relockS = 0 ∨ (15 ≤ c.relockS ∧ c.relockS ≤ 120)) c.relockS 45
    intervalMs := pick (100 ≤ c.intervalMs ∧ c.intervalMs ≤ 1000) c.intervalMs 200 }

/-- The number of fields a load replaces by defaults (R187). -/
def defaultedCount (c : Settings) : Nat := (settingsRanges c).countP (fun ok => !ok)

def num16 (n : Nat) : List Byte := bytes16 (BitVec.ofNat 16 n)
def num24 (n : Nat) : List Byte := bytes24 (BitVec.ofNat 24 n)

/-- The configuration record (R187, R203); spare bits are written as 0 (log 105, DESIGN CHOICE). -/
def configContent (c : Settings) : List Byte :=
  [byte ((match c.driveSide with | .left => 0 | .right => 1) + 2 * c.selective.toNat + 4 * c.deadlockEn.toNat),
   byte c.caps.code] ++ num16 c.travel ++ [byte c.sealZone, byte c.dropDist] ++ num16 c.revDist ++ [byte c.stallMs]
    ++ num24 c.kspeed ++ num16 c.th ++ num16 c.rfb ++ [byte c.outerThr, byte c.innerThr, byte c.relockS]
    ++ num16 c.intervalMs

/-- The fields of a CONFIG record as stored (R203), before R187 judges them. -/
def decodeConfig : List Byte → Option Settings
  | [fl, cp, t1, t2, se, dd, r1, r2, st, k1, k2, k3, h1, h2, f1, f2, ot, it, rl, i1, i2] =>
      some { driveSide := if field fl 0 1 = 1 then .right else .left
             caps := capabilitiesOf (field cp 0 5), travel := nat16 t1 t2, sealZone := se.toNat, dropDist := dd.toNat
             revDist := nat16 r1 r2, stallMs := st.toNat, kspeed := nat24 k1 k2 k3, th := nat16 h1 h2
             rfb := nat16 f1 f2, outerThr := ot.toNat, innerThr := it.toNat, selective := field fl 1 1 == 1
             deadlockEn := field fl 2 1 == 1, relockS := rl.toNat, intervalMs := nat16 i1 i2 }
  | _ => none

/-- The stored state of a slot (R113): PAIRED for PAIRED and SUSPENDED. -/
def storedPaired (k : KeySlot) : Bool := k.state == .paired || k.state == .suspended

/-- The record of a slot (R113, R203); spare bits are written as 0 (log 105, DESIGN CHOICE). -/
def keyContent (n : Slot) (k : KeySlot) : List Byte :=
  byte (n.val * 32 + (storedPaired k).toNat) :: bytes32 k.identity ++ bytes32 k.sHi ++ bytes32 k.sLo
    ++ bytes24 k.counter

/-- The slot cover a KEY record gives (R203); a slot field that differs from n, or a stored state that is neither
EMPTY nor PAIRED, makes the record bad. -/
def decodeKey (n : Slot) : List Byte → Option SlotCover
  | [f, a, b, c, d, e, g, h, i, j, k, l, m, o, p, q] =>
      if field f 5 3 = n.val then
        match field f 0 2 with
        | 0 => some { slot := n, state := .empty, identity := 0#32, sHi := 0#32, sLo := 0#32, counter := 0#24 }
        | 1 => some { slot := n, state := .paired, identity := word32 a b c d, sHi := word32 e g h i
                      sLo := word32 j k l m, counter := word24 o p q }
        | _ => none
      else none
  | _ => none

/-- The learned flags, zone n in bit n of a 32-bit number (R203). -/
def learnedFlags (profile : Vector ZoneEntry 32) : BitVec 32 :=
  BitVec.ofNat 32 ((List.finRange 32).foldl (fun n z => n + (if profile[z].learned then 2 ^ z.val else 0)) 0)

def profileContent (travel : Nat) (profile : Vector ZoneEntry 32) : List Byte :=
  num16 travel ++ bytes32 (learnedFlags profile) ++ (profile.toList.flatMap fun e => num16 e.value)

/-- Travel, learned flag and value of each zone from a PROFILE record of 70 octets (R203). -/
def decodeProfile (d : List Byte) : Option (Nat × (Zone → Bool × Nat)) :=
  if d.length = 70 then
    some (nat16 (octetAt d 0) (octetAt d 1), fun z =>
      ((word32 (octetAt d 2) (octetAt d 3) (octetAt d 4) (octetAt d 5)).getLsbD z.val,
       nat16 (octetAt d (6 + 2 * z.val)) (octetAt d (7 + 2 * z.val))))
  else none

/-- The window record (R25, R203): the octets of p0 are 0 while drop owed is clear (log 87, DESIGN CHOICE), and the
spare bits always (log 105, DESIGN CHOICE). -/
def windowContent (w : Window) : List Byte :=
  byte ((!w.norm).toNat + 2 * w.recMoving.toNat + 4 * w.dropOwed.isSome.toNat)
    :: bytes16 (BitVec.ofInt 16 w.p) ++ bytes16 (BitVec.ofInt 16 (w.dropOwed.getD 0))

/-- UNNORMALISED, MOVING, drop owed, p and p0 from a WINDOW STATE record (R203). -/
def decodeWindow : List Byte → Option (Bool × Bool × Bool × Int × Int)
  | [f, a, b, c, d] =>
      some (field f 0 1 == 1, field f 1 1 == 1, field f 2 1 == 1, (word16 a b).toInt, (word16 c d).toInt)
  | _ => none

/-- The latch record: at FL, FR and TG the child field is written as RELEASED (R69); spare bits are written as 0
(log 105, DESIGN CHOICE). -/
def latchContent (l : Latch) : List Byte :=
  [byte (l.lock.code * 64 + (match l.child with | .engaged => 0 | _ => 16))]

/-- Lock state and child state (ENGAGED?) of a LATCH STATE record; undefined codes make it bad (R203). -/
def decodeLatch : List Byte → Option (LockState × Bool)
  | [f] =>
      match lockOf (field f 6 2) with
      | some l => if field f 4 2 ≤ 1 then some (l, field f 4 2 == 0) else none
      | none => none
  | _ => none

end Sys2Proof.Machine
end

