-- ==== Sys2Proof/Machine/Flags.lean ====
section
/-! DEFINITION. Conditions and figures the blocks read of one another: window class, announcement fields, supply
levels, sleep readiness and the agreement condition. -/

namespace Sys2Proof.Machine

/-- Whether crash hold is on (R67). -/
def crashHold (s : State) : Bool := s.latch.crashEnd.isSome

/-- Whether the line state is LINE FAULT (R147). -/
def inLineFault (s : State) : Bool := s.line.state != .ok

/-- The station is not in SLEEP (R172). -/
def awake (s : State) : Bool := s.power.state != .sleep

/-- The address of the driver station (00_scope, The Car and Its Stations). -/
def driverAddr (c : Settings) : Addr :=
  match c.driveSide with
  | .left => 0
  | .right => 1

def isDriver (s : State) : Bool := s.addr == driverAddr s.cfg

/-- RL and RR carry child safety (R55). -/
def isRear (s : State) : Bool := s.addr.val == 2 || s.addr.val == 3

def isTailgate (s : State) : Bool := s.addr.val == 4

/-- A side station is FL, FR, RL or RR. -/
def isSide (s : State) : Bool := decide (s.addr.val < 4)

/-! ## Supply (R170) -/

/-- The level state of a sample (R170). -/
def levelState (u : Nat) : Supply :=
  if 9000 ≤ u then .normal else if 7500 ≤ u then .low else if 6000 ≤ u then .crank else .under

/-- The rank of a supply state, UNDER lowest (R170). -/
def Supply.rank : Supply → Nat
  | .under => 0 | .crank => 1 | .low => 2 | .normal => 3

/-- The lower of two supply states (R170). -/
def Supply.lower (a b : Supply) : Supply := if a.rank ≤ b.rank then a else b

/-- CRANK or UNDER. -/
def Supply.poor : Supply → Bool
  | .crank | .under => true
  | _ => false

/-- The announcement interval in effect, in ms (R158). -/
def intervalInEffect (s : State) : Nat :=
  if s.power.supply.poor then 4 * s.cfg.intervalMs else s.cfg.intervalMs

/-! ## Window (R156, R30) -/

/-- The window class: the first row of R156 that fits. -/
def windowClass (c : Settings) (w : Window) : WindowClass :=
  if !c.caps.window then .absent
  else if w.dropOwed.isSome then .dropped
  else if !w.norm then .unknown
  else if w.p ≤ c.sealZone then .closed
  else if (c.travel : Int) - 24 ≤ w.p then .opened
  else .partly

/-- The window position of R156: p clamped to 0..P_travel, times 255, div P_travel. -/
def windowPosition (c : Settings) (w : Window) : Byte :=
  if c.caps.window then byte ((min (max w.p 0) c.travel).toNat * 255 / c.travel) else 0#8

/-- The zone of a position (R30). -/
def zoneOf (c : Settings) (p : Int) : Zone :=
  Fin.ofNat 32 (min 31 ((p * 32).toNat / c.travel))

/-! ## The announcement (R156) -/

/-- The members of the fault set (R165) as bits. -/
def faultBits (faults : Vector (Option Byte) 5) : BitVec 5 :=
  BitVec.ofNat 5 (faults[0].isSome.toNat + 2 * faults[1].isSome.toNat + 4 * faults[2].isSome.toNat
    + 8 * faults[3].isSome.toNat + 16 * faults[4].isSome.toNat)

/-- Whether a transmit queue entry is an own ANNOUNCEMENT. -/
def isAnnouncement (e : TxEntry) : Bool :=
  match e.frame.payload with
  | .announcement _ => true
  | _ => false

/-- Whether a transmit queue entry is an own CENSUS. -/
def isCensus (e : TxEntry) : Bool :=
  match e.frame.payload with
  | .census .. => true
  | _ => false

/-- Whether an own ANNOUNCEMENT waits in the transmit queue, not in transmission. -/
def announcementWaits (s : State) : Bool := s.line.tx.any fun e => isAnnouncement e && !e.inTx

/-- Whether an own ANNOUNCEMENT is in transmission. -/
def announcementInTx (s : State) : Bool := s.line.tx.any fun e => isAnnouncement e && e.inTx

/-- The write-back queue counts as empty (R188). -/
def storeIdle (s : State) : Bool := s.store.queue.isEmpty && s.store.writing.isNone

/-- Sleep-ready (R174). -/
def sleepReady (s : State) : Bool :=
  s.win.motion == .idle && (s.latch.seq == .idle || s.latch.seq == .halted) && s.intent.table.isEmpty
    && s.intent.held.isNone && s.search.record.isNone && s.search.held.isNone && s.line.tx.all isAnnouncement
    && storeIdle s && !crashHold s && decide (s.power.localAt + 5000000 ≤ s.now)
    && (s.census.announced || inLineFault s)

/-- The station's present condition (R156). -/
def announcedNow (s : State) : Announced :=
  { lock := some s.latch.lock, child := some s.latch.child, latch := some s.latch.position
    crash := some (crashHold s), wclass := some (windowClass s.cfg s.win), wpos := windowPosition s.cfg s.win
    ready := some (sleepReady s), going := some s.power.going, faults := faultBits s.census.faults
    epoch := s.intent.epoch, interval := BitVec.ofNat 16 (intervalInEffect s) }

/-- The watched fields (R157): window position and own epoch are left out. -/
def watchedFields (a : Announced) : Announced := { a with wpos := 0#8, epoch := 0#16 }

/-! ## The peer table (R162) -/

/-- The seven other addresses (log 37, DESIGN CHOICE). -/
def peerAddrs (s : State) : List Addr := (List.finRange 8).filter (fun a => a != s.addr)

/-- Every peer is LOST (R175). -/
def allLost (s : State) : Bool := (peerAddrs s).all fun a => s.census.peers[a].presence == .lost

/-- One peer's part of the agreement condition (R175). -/
def peerAgrees (p : Peer) : Bool :=
  p.presence == .lost ||
    match p.status with
    | none => false
    | some a => a.ready != some false

/-- The agreement condition (R175). With every peer LOST no one agrees, and the lone timer alone brings the sleep, 30 s
after the station becomes sleep-ready (R175, R183, log 98, DEDUCED). -/
def agreement (s : State) : Bool :=
  sleepReady s && !allLost s && (peerAddrs s).all fun a => peerAgrees s.census.peers[a]

/-- Every peer that is not LOST has announced since start (R78, R162). -/
def allAnnounced (s : State) : Bool :=
  (peerAddrs s).all fun a => s.census.peers[a].presence == .lost || s.census.peers[a].announced

/-- The latch of an address stands OPEN as this station knows it: its own latch position, or a peer that is not LOST
and last announced OPEN (R91, R124, R130). -/
def closureOpen (s : State) (a : Addr) : Bool :=
  if a = s.addr then s.latch.position == .opened
  else
    s.census.peers[a].presence != .lost &&
      match s.census.peers[a].status with
      | some st => st.latch == some .opened
      | none => false

/-- Some closure stands OPEN. -/
def anyClosureOpen (s : State) : Bool := (List.finRange 8).any (closureOpen s)

end Sys2Proof.Machine
end

