-- ==== Sys2Proof/Machine/Ops.lean ====
section
/-! DEFINITION. Shared operations: the clock, the write-back queue, the transmit queue with its reports, the census
unit's own frames and the fault set. -/

namespace Sys2Proof.Machine

/-! ## The clock -/

/-- The thermal figure after `dt` us (R21): up by 1 for each ms driven, down by 1 for each 8 ms not driven.
The part of a ms driven, and of 8 ms not driven, that has passed when the motor goes off or on is kept for the next
drive or rest, also while H stands at 0 (log 90, DESIGN CHOICE). -/
def heatAfter (w : Window) (dt : Nat) : Window :=
  match w.motor with
  | .driven _ =>
      { w with heat := min 90000 (w.heat + (w.heatUs + dt) / 1000), heatUs := (w.heatUs + dt) % 1000 }
  | _ => { w with heat := w.heat - (w.coolUs + dt) / 8000, coolUs := (w.coolUs + dt) % 8000 }

/-- The line condition at time `t`: BUSY becomes FREE when its 12 recessive bit times have passed (R135). -/
def lineAt (l : Line) (t : Nat) : Line :=
  if l.cond = .busy ∧ l.freeAt ≤ t then { l with cond := .free } else l

/-- The state at time `t`, if `t` is later than now (log 1, DESIGN CHOICE). -/
def advanceTo (t : Nat) (s : State) : State :=
  if t ≤ s.now then { s with line := lineAt s.line s.now }
  else { s with now := t, win := heatAfter s.win (t - s.now), line := lineAt s.line t }

/-- The state `us` microseconds later. -/
def advance (us : Nat) (s : State) : State := advanceTo (s.now + us) s

/-! ## The write-back queue (R188) -/

/-- Queue a record id: one already in the queue stays where it is (R188). -/
def queueRecord (r : RecordId) (s : State) : State :=
  if r ∈ s.store.queue then s else { s with store := { s.store with queue := s.store.queue ++ [r] } }

/-! ## Reports of frames not sent -/

/-- The attempt timer of the open entry of a tag and epoch starts as the report of its frame is handed over (R84, R140,
log 64, DESIGN CHOICE). -/
def startAttemptTimer (i : IntentFrame) (s : State) : State :=
  { s with intent := { s.intent with table := s.intent.table.map fun e =>
      if e.tag = i.tag ∧ e.epoch = i.epoch then { e with timer := some (s.now + 40000) } else e } }

/-- The end of an own claim that is withdrawn, void or not sent (R116, R119, R126): in CLAIMING the record is freed
and its touch held with its original time; in INTERIOR CLAIMING the record waits, or is freed in LINE FAULT (R125). -/
def claimLost (s : State) : State :=
  match s.search.record with
  | none => s
  | some r =>
      match r.stage with
      | .claiming =>
          { s with search := { s.search with record := none, held := some { area := r.area, touchAt := r.touchAt } } }
      | .interiorClaiming =>
          if inLineFault s then { s with search := { s.search with record := none } }
          else { s with search := { s.search with record := some { r with claimQueued := false } } }
      | _ => s

/-- The frame is the own claim that a search record waits for: the SEARCH CLAIM of a search in CLAIMING, or the
INTERIOR SEARCH of this number queued in INTERIOR CLAIMING (R116, R120, R126). -/
def isClaimOf (p : Payload) (r : SearchRec) : Bool :=
  match p, r.stage with
  | .searchClaim, .claiming => true
  | .interiorSearch n _, .interiorClaiming => r.claimQueued && r.number == n
  | _, _ => false

/-- The open search waits for the report of this own claim. -/
def awaitsClaim (p : Payload) (s : State) : Bool := s.search.record.any (isClaimOf p)

/-- The flush's own SERVICE REPLY DONE has been reported sent or "not sent" (R198). -/
def replyReported (s : State) : State :=
  { s with store := { s.store with flush := s.store.flush.map fun f => { f with replyDue := false } } }

/-- What a block does when its frame is reported "not sent" (R84, R116, R137, R154, R160, R176, R198). Other frames
are not queued again (R15, R82, R86, R129, R166, R192, log 47, DEDUCED). An ANNOUNCEMENT not sent sets the waiting
change where none is due (R160), also while another is in transmission (log 84, DESIGN CHOICE), and always in LINE
FAULT (log 110, DESIGN CHOICE). -/
def notSent (p : Payload) (s : State) : State :=
  match p with
  | .intent i => startAttemptTimer i s
  | .searchClaim => if awaitsClaim p s then claimLost s else s
  | .interiorSearch _ _ => if awaitsClaim p s then claimLost s else s
  | .census .. =>
      { s with line := { s.line with gateOpen := true }
               census := { s.census with censusOwed := s.census.censusOwed || !inLineFault s } }
  | .announcement a =>
      { s with census := { s.census with
                 waitingChange := s.census.waitingChange || decide (0 ≤ s.census.balance) || inLineFault s }
               power := { s.power with
                 selfAbort := s.power.selfAbort || (s.power.state == .sleepPending && s.power.quietEnd.isNone
                   && a.going == some true) } }
  | .serviceReply _ k .done => if k.toNat = 7 then replyReported s else s
  | _ => s

/-- The job of an entry is told "not sent"; an entry without a job tells no one (R141, R198). -/
def tell (e : TxEntry) (s : State) : State := if e.jobless then s else notSent e.frame.payload s

/-! ## The transmit queue (R141, R142) -/

/-- The queue order: class, then age (R141). -/
def txBefore (x y : TxEntry) : Bool :=
  decide (x.frame.cls.val < y.frame.cls.val) || (x.frame.cls == y.frame.cls && decide (x.age < y.age))

/-- An entry takes its place by class and age (R141). -/
def insertTx (e : TxEntry) : List TxEntry → List TxEntry
  | [] => [e]
  | x :: xs => if txBefore e x then e :: x :: xs else x :: insertTx e xs

/-- The newest entry of the worst class, passing over the one in transmission, and the rest of the queue (R142)
(log 29, DEDUCED). -/
def splitVictim : List TxEntry → Option (TxEntry × List TxEntry)
  | [] => none
  | x :: xs =>
      match splitVictim xs with
      | some (v, rest) => some (v, x :: rest)
      | none => if x.inTx then none else some (x, xs)

/-- Whether a frame of a class and payload would be admitted to the transmit queue (R137, R141, R142). -/
def admitted (cls : Fin 8) (p : Payload) (s : State) : Bool :=
  !inLineFault s && (decide (s.line.tx.length < 6) ||
    match splitVictim s.line.tx with
    | some (v, _) => decide (cls.val < v.frame.cls.val) || (p.kind == 13 && !s.line.gateOpen)
    | none => false)

/-- A new transmit queue entry of this station. -/
def newEntry (cls : Fin 8) (p : Payload) (s : State) : TxEntry :=
  { frame := { cls := cls, origin := s.addr, payload := p }, age := s.line.nextAge, errors := 0, inTx := false }

/-- Queue a new entry: refused in LINE FAULT (R148), admitted to a queue with room, admitted by eviction (R137, R142),
or refused. -/
def queueEntry (e : TxEntry) (s : State) : State :=
  if !admitted e.frame.cls e.frame.payload s then tell e s
  else if s.line.tx.length < 6 then
    { s with line := { s.line with tx := insertTx e s.line.tx, nextAge := s.line.nextAge + 1 } }
  else
    match splitVictim s.line.tx with
    | some (v, rest) => tell v { s with line := { s.line with tx := insertTx e rest, nextAge := s.line.nextAge + 1 } }
    | none => s

/-- Queue a frame of a given class. -/
def queueAs (cls : Fin 8) (p : Payload) (s : State) : State := queueEntry (newEntry cls p s) s

/-- Queue a frame at the class of its kind (R134). -/
def queueFrame (p : Payload) (s : State) : State := queueAs p.cls p s

/-- Queue a frame at the class of its kind whose report no block waits for. -/
def queueJobless (p : Payload) (s : State) : State := queueEntry { newEntry p.cls p s with jobless := true } s

/-- Take out the entries that satisfy `f`, have a job and are not in transmission: a withdrawal, which draws no report
(R141). -/
def withdraw (f : Payload → Bool) (s : State) : State :=
  { s with line := { s.line with tx := s.line.tx.filter fun e => e.inTx || e.jobless || !f e.frame.payload } }

/-! ## The census unit's own frames (R154, R159) -/

/-- The class of an own ANNOUNCEMENT: 2 while the urgent flag is set (R159). -/
def announcementClass (s : State) : Fin 8 := if s.census.urgent then 2 else 5

/-- The transmit queue with the waiting ANNOUNCEMENT replaced by a newer one, which takes its place in age (R142). -/
def replaceAnnouncement (cls : Fin 8) (p : Payload) (s : State) : List TxEntry :=
  match s.line.tx.find? fun e => isAnnouncement e && !e.inTx with
  | some old =>
      insertTx { newEntry cls p s with age := old.age } (s.line.tx.filter fun e => !(isAnnouncement e && !e.inTx))
  | none => s.line.tx

/-- Queue a fresh ANNOUNCEMENT, replacing a waiting one; this clears the waiting change (R157, R142). In LINE FAULT
none is queued and the waiting change is set (R160). -/
def queueAnnouncement (s : State) : State :=
  let a := announcedNow s
  let s1 := { s with census := { s.census with
    waitingChange := false, lastWatched := watchedFields a, statusOwed := false } }
  if inLineFault s then { s1 with census := { s1.census with waitingChange := true } }
  else if announcementWaits s then
    { s1 with line := { s1.line with tx := replaceAnnouncement (announcementClass s) (.announcement a) s1 } }
  else queueAs (announcementClass s) (.announcement a) s1

/-- The station's own CENSUS, built now (R154). -/
def ownCensus (s : State) : Payload :=
  .census s.addr s.cfg.caps (BitVec.ofNat 16 (intervalInEffect s)) s.intent.epoch

/-- Queue the own CENSUS, unless one is in the queue or the station is in LINE FAULT (R154). -/
def queueCensus (s : State) : State :=
  if inLineFault s || s.line.tx.any isCensus then s else queueFrame (ownCensus s) s

/-- A fault's place in the fault set takes a value; a change of membership is a status change (R157, R165). -/
def setFault (f : StationFault) (d : Option Byte) (s : State) : State :=
  { s with census := { s.census with
      faults := s.census.faults.set f.index d
      statusOwed := s.census.statusOwed || (s.census.faults[f.index].isSome != d.isSome) } }

/-- Enter a fault with its cause detail and queue a FAULT NOTICE (R165, R166). -/
def enterFault (f : StationFault) (detail : Byte) (s : State) : State :=
  queueFrame (.faultNotice f detail) (setFault f (some detail) s)

/-- A fault leaves the set (R167). -/
def leaveFault (f : StationFault) (s : State) : State := setFault f none s

/-! ## Local input (R173) -/

/-- A local input restarts the local-activity timer (R173). Its abort of a sleep and its wake are the power
manager's (R177, R179). -/
def localInput (s : State) : State := { s with power := { s.power with localAt := s.now } }

end Sys2Proof.Machine
end

