-- ==== Sys2Proof/Machine/Keys.lean ====
section
/-! DEFINITION. The key check unit's operations (chapter 5): reading and writing slots, lookups, bad codes, the
counter check, counter notices and validation. -/

namespace Sys2Proof.Machine

/-! ## Slots (R96 to R98) -/

/-- What a slot's check word must cover (R96). -/
def slotCover (n : Slot) (k : KeySlot) : SlotCover :=
  { slot := n, state := k.state, identity := k.identity, sHi := k.sHi, sLo := k.sLo, counter := k.counter }

/-- The check of a slot (R98). -/
def slotGood (n : Slot) (k : KeySlot) : Bool := k.check == slotCover n k

/-- A slot is written with its check word computed afresh (R96). -/
def writeSlot (n : Slot) (k : KeySlot) (s : State) : State :=
  { s with keys := { s.keys with slots := s.keys.slots.set n { k with check := slotCover n k } } }

/-- The good content of a record of the external store, if the store answers (R185): by the answer of the latest
POWER_ON_RESET_END or WRITE_ATTEMPT_END, also at the load of a service reset and at the reload of a slot, which have
none of their own (log 101, DESIGN CHOICE). -/
def readRecord (r : RecordId) (s : State) : Option (List Byte) :=
  if s.pins.storeAnswers then goodContent r s.store.records[r.index] else none

/-- The write in progress once a slot's record is queued: a write of that record no longer holds its content (R113). -/
def staleWrite (n : Slot) (w : Writing) : Writing := { w with stale := w.stale || w.id == .key n }

/-- The key record is queued, store current becomes no, and a write of it in progress is stale (R98, R113). -/
def queueKey (n : Slot) (s : State) : State :=
  queueRecord (.key n)
    { s with keys := { s.keys with slots := s.keys.slots.set n { s.keys.slots[n] with storeCurrent := false } }
             store := { s.store with writing := s.store.writing.map (staleWrite n) } }

/-- A record id that waits leaves the write-back queue. -/
def unqueueRecord (r : RecordId) (s : State) : State :=
  { s with store := { s.store with queue := s.store.queue.filter fun x => x != r } }

/-- A slot that failed its check becomes DAMAGED, with the fault KEY DAMAGED; DAMAGED is not written, so a record of
the slot that still waits is not (R98, R113, log 54, DEDUCED). -/
def damageSlot (n : Slot) (s : State) : State :=
  enterFault .keyDamaged (byte n.val) (unqueueRecord (.key n) (writeSlot n { s.keys.slots[n] with state := .damaged } s))

/-- A slot reloaded from its record; a running suspension timer makes it SUSPENDED again (R98). -/
def reloadedSlot (k : KeySlot) (c : SlotCover) : KeySlot :=
  { k with state := if k.suspendedUntil.isSome && c.state == .paired then .suspended else c.state
           identity := c.identity, sHi := c.sHi, sLo := c.sLo, counter := c.counter }

/-- The check of a slot as it is read: a slot that fails is reloaded or becomes DAMAGED (R98). -/
def readSlot (n : Slot) (s : State) : State :=
  if slotGood n s.keys.slots[n] then s
  else if s.keys.slots[n].storeCurrent then
    match (readRecord (.key n) s).bind (decodeKey n) with
    | some c => writeSlot n (reloadedSlot s.keys.slots[n] c) s
    | none => damageSlot n s
  else damageSlot n s

/-- The lookup of an identity among slots that are not EMPTY, each checked as it is read; it ends at the slot that
holds the identity, or at a slot its check makes DAMAGED (R98, R102, log 24, DESIGN CHOICE). -/
def lookupIn (id : Word32) : List Slot → State → Option Slot × State
  | [], s => (none, s)
  | n :: rest, s =>
      if s.keys.slots[n].state = .empty then lookupIn id rest s
      else
        let s1 := readSlot n s
        if s1.keys.slots[n].state = .damaged ∧ slotGood n s.keys.slots[n] = false then (some n, s1)
        else if s1.keys.slots[n].state ≠ .empty ∧ s1.keys.slots[n].identity = id then (some n, s1)
        else lookupIn id rest s1

/-- The lookup over the whole key table. -/
def lookup (id : Word32) (s : State) : Option Slot × State := lookupIn id (List.finRange 6) s

/-! ## Bad codes (R106, R107) -/

/-- The slot after one more bad code at a time (R106, R107). -/
def countBad (now : Nat) (k : KeySlot) : KeySlot :=
  let fresh := k.badCodes == 0 || (match k.windowStart with
    | some w => decide (w + 60000000 < now)
    | none => true)
  let n := if fresh then 1 else k.badCodes + 1
  if 8 ≤ n then
    { k with state := .suspended, badCodes := 0, windowStart := none, suspendedUntil := some (now + 60000000) }
  else { k with badCodes := n, windowStart := if fresh then some now else k.windowStart }

/-- A bad code for a slot (R106). -/
def badCode (n : Slot) (s : State) : State :=
  writeSlot n (countBad s.now s.keys.slots[n]) { s with keys := { s.keys with bad := satInc s.keys.bad } }

/-! ## Button frames (R102, R103) -/

/-- A resync that the frame's counter completes: one or two counts after the pending value (R103). -/
def resyncs (k : KeySlot) (c : Counter) : Bool :=
  match k.resync with
  | some q => counterDistance q c == 1 || counterDistance q c == 2
  | none => false

/-- The accepting rows of the counter check (R103). -/
def accepts (k : KeySlot) (c : Counter) : Bool :=
  let d := counterDistance k.counter c
  decide (1 ≤ d) && (decide (d ≤ 256) || (decide (d ≤ 32768) && resyncs k c))

/-- The slot takes a counter: the record is queued and store current becomes no (R104, R109). -/
def takeCounter (n : Slot) (c : Counter) (s : State) : State :=
  queueKey n (writeSlot n { s.keys.slots[n] with counter := c, resync := none } s)

/-- The counter check of a frame whose code matched (R103), and whether it is accepted. -/
def counterCheck (n : Slot) (c : Counter) (s : State) : Bool × State :=
  let k := s.keys.slots[n]
  let d := counterDistance k.counter c
  if d = 0 ∨ 32768 < d then (false, { s with keys := { s.keys with stale := satInc s.keys.stale } })
  else if accepts k c then (true, takeCounter n c s)
  else (false, writeSlot n { k with resync := some c } s)

/-- The steps of a button frame in their order (R102), and whether the frame is accepted. -/
def checkButton (f : ButtonFrame) (s : State) : Bool × State :=
  match lookup f.identity s with
  | (none, s1) => (false, s1)
  | (some n, s1) =>
      let k := s1.keys.slots[n]
      if k.state ≠ .paired then (false, s1)
      else if codeOf k.sHi k.sLo (buttonMessage f.counter f.button) ≠ f.code then (false, badCode n s1)
      else counterCheck n f.counter s1

/-! ## Counter notices and passive replies (R108, R109) -/

/-- A counter notice from a received intent (R109). -/
def takeNotice (nt : Notice) (s : State) : State :=
  match lookup nt.identity s with
  | (none, s1) => s1
  | (some n, s1) =>
      let k := s1.keys.slots[n]
      let d := counterDistance k.counter nt.counter
      if (k.state = .paired ∨ k.state = .suspended) ∧ 1 ≤ d ∧ d ≤ 32768 then takeCounter n nt.counter s1 else s1

/-- The validation of a passive reply under a challenge: a candidate when VALID (R108). -/
def validate (r : Reply) (challenge : Word32) (s : State) : Option Candidate × State :=
  match lookup r.identity s with
  | (none, s1) => (none, s1)
  | (some n, s1) =>
      let k := s1.keys.slots[n]
      if k.state ≠ .paired then (none, s1)
      else if codeOf k.sHi k.sLo challenge ≠ r.code then (none, badCode n s1)
      else (some { slot := n, identity := k.identity, strength := r.strength, counter := k.counter }, s1)

/-! ## Pairing (R97, R193) -/

/-- KEY DAMAGED leaves the fault set when no slot is DAMAGED (R97, R167). -/
def clearKeyDamaged (s : State) : State :=
  if s.keys.slots.toList.any fun k => k.state == .damaged then s else leaveFault .keyDamaged s

/-- A slot rewritten by PAIR KEY or REMOVE KEY (R97). -/
def rewriteSlot (n : Slot) (st : SlotState) (id sHi sLo : Word32) (c : Counter) (s : State) : State :=
  let wasDamaged := s.keys.slots[n].state == .damaged
  let s1 := queueKey n (writeSlot n
    { s.keys.slots[n] with state := st, identity := id, sHi := sHi, sLo := sLo, counter := c, resync := none
                           badCodes := 0, windowStart := none, suspendedUntil := none } s)
  if wasDamaged then clearKeyDamaged s1 else s1

/-- PAIR KEY applied to a slot (R97). -/
def pairSlot (n : Slot) (id sHi sLo : Word32) (c : Counter) (s : State) : State := rewriteSlot n .paired id sHi sLo c s

/-- REMOVE KEY applied to a slot (R97): EMPTY, with zeros for the identity, the secret and the counter, which no one reads
and which the KEY record then holds (R203, log 94, DESIGN CHOICE). -/
def removeSlot (n : Slot) (s : State) : State := rewriteSlot n .empty 0#32 0#32 0#32 0#24 s

/-- Every slot is read, as for the duplicate check of PAIR KEY (R98, R193), from 0 to 5 (log 112, DESIGN CHOICE). -/
def readAllSlots (s : State) : State := (List.finRange 6).foldl (fun t n => readSlot n t) s

/-- Another slot that is not EMPTY holds the identity (R193). -/
def duplicateKey (n : Slot) (id : Word32) (s : State) : Bool :=
  (List.finRange 6).any fun m => m != n && s.keys.slots[m].state != .empty && s.keys.slots[m].identity == id

/-! ## The store's reports (R113, R189) -/

/-- A verified write of a key record sets store current, unless the record was queued again since the write took its
content, whether or not its id still waits (R98, R113, R189). -/
def keyVerified (n : Slot) (stale : Bool) (s : State) : State :=
  if stale then s
  else
    { s with keys := { s.keys with slots := s.keys.slots.set n { s.keys.slots[n] with storeCurrent := true } } }

end Sys2Proof.Machine
end

