-- ==== Sys2Proof/Machine/Pinch.lean ====
section
/-! DEFINITION. The pinch monitor (chapter 2): the figures of one pulse, the reference profile, learning, and the
protection modes. -/

namespace Sys2Proof.Machine

/-! ## The figures of one pulse (R27 to R34) -/

/-- The supply at a pulse, clamped to 0..20000 (R27). -/
def pulseSupply (u : Nat) : Nat := min u 20000

/-- The period of a pulse, saturated to 1..65535 (R27). -/
def pulsePeriod (t : Nat) : Nat := max 1 (min t 65535)

/-- Stage 1: the back-EMF share (R28). -/
def backEmf (c : Settings) (u t : Nat) : Nat := min (c.kspeed / t) u

/-- Stage 2: the load figure (R29). -/
def loadFigure (c : Settings) (u t : Nat) : Nat := min 16383 (u - backEmf c u t)

/-- The mode factor m (R33). -/
def modeFactor (w : Window) : Nat :=
  if w.overrideMotion then 8
  else
    match w.req with
    | some r =>
        match r.source with
        | .localSwitch | .remoteSwitch => 4
        | _ => 3
    | none => 3

/-- The supply factor s (R33). -/
def supplyFactor : Supply → Nat
  | .normal => 4
  | _ => 5

/-- Stage 6: the effective threshold (R33). -/
def threshold (s : State) : Nat := s.cfg.th * modeFactor s.win * supplyFactor s.power.supply / 16

/-- Stage 7: the transient guard fails (R34). -/
def transientAt (history : List Nat) (u : Nat) : Bool :=
  match history with
  | [] => false
  | old :: _ => decide (8 ≤ history.length) && (decide (old + 600 < u) || decide (u + 600 < old))

/-- The supply history with one more value, 8 at most (R27). -/
def pushHistory (history : List Nat) (u : Nat) : List Nat :=
  if 8 ≤ history.length then history.drop (history.length - 7) ++ [u] else history ++ [u]

/-! ## The reference profile (R42) -/

/-- An entry with its fresh check word (R42). -/
def zoneEntry (z : Zone) (learned : Bool) (value : Nat) : ZoneEntry :=
  { learned := learned, value := value, check := { zone := z, learned := learned, value := value } }

/-- The check of an entry: its word recomputed and compared (R42). -/
def zoneGood (z : Zone) (e : ZoneEntry) : Bool :=
  e.check == { zone := z, learned := e.learned, value := e.value }

/-- An entry is rewritten as unlearned and the profile record queued: with the value 0 at a demand check (R42), and at a
patrol mismatch too (R191, log 99, DESIGN CHOICE). -/
def unlearnZone (z : Zone) (s : State) : State :=
  queueRecord .profile { s with pinch := { s.pinch with profile := s.pinch.profile.set z (zoneEntry z false 0) } }

/-- Stage 4's demand check: a learned entry whose check fails becomes unlearned (R31, R42). -/
def demandZone (z : Zone) (s : State) : State :=
  if s.pinch.profile[z].learned && !zoneGood z s.pinch.profile[z] then unlearnZone z s else s

/-- Stage 4: the reference of a zone after its demand check (R31). -/
def referenceOf (z : Zone) (s : State) : Nat :=
  if s.pinch.profile[z].learned then s.pinch.profile[z].value else s.cfg.rfb

/-! ## Learning (R44, R45) -/

/-- All sums, counts and marks clear (R44). -/
def clearSums : Vector ZoneSum 32 := Vector.replicate 32 { sum := 0, count := 0, mark := false }

/-- A driven UP pulse that is not evaluated marks its zone (R44). -/
def markZone (z : Zone) (p : Pinch) : Pinch :=
  { p with sums := p.sums.set z { p.sums[z] with mark := true } }

/-- An evaluated pulse adds its load to its zone (R44). -/
def addLoad (z : Zone) (l : Nat) (p : Pinch) : Pinch :=
  { p with sums := p.sums.set z { p.sums[z] with sum := p.sums[z].sum + l, count := p.sums[z].count + 1 } }

/-- A zone teaches: at least one evaluated pulse and no mark (R45). -/
def teaches (q : ZoneSum) : Bool := decide (1 ≤ q.count) && !q.mark

/-- The value a zone takes from its own average (R45). -/
def learnedValue (z : Zone) (e : ZoneEntry) (q : ZoneSum) : Nat :=
  let avg := q.sum / q.count
  if e.learned && zoneGood z e then
    (max 0 (min 16383 ((e.value : Int) + ((avg : Int) - e.value).tdiv 8))).toNat
  else min 16383 avg

/-- One zone's entry after learning (R45). -/
def learnZone (q : Vector ZoneSum 32) (profile : Vector ZoneEntry 32) (z : Zone) : ZoneEntry :=
  if teaches q[z] then zoneEntry z true (learnedValue z profile[z] q[z]) else profile[z]

/-- Learning at the clean end of a motion at the closed stop; a change queues the profile record (R44 to R46). -/
def learn (s : State) : State :=
  if s.pinch.transient || s.pinch.offNormal || s.win.overrideMotion then s
  else if s.pinch.sums.toList.any teaches then
    queueRecord .profile
      { s with pinch := { s.pinch with profile := Vector.ofFn (learnZone s.pinch.sums s.pinch.profile) } }
  else s

/-! ## Starts (R26, R35, R44) -/

/-- A motion start: the count, sums and marks are set afresh (R35, R44). -/
def pinchMotionStart (p : Pinch) : Pinch :=
  { p with count := 0, sums := clearSums, transient := false, offNormal := false }

/-- A motor start: the count is 0 and the supply history empty (R27, R35). -/
def pinchMotorStart (p : Pinch) : Pinch := { p with count := 0, history := [] }

/-! ## The evaluation of a counted, driven pulse (R26, R34, R35) -/

/-- The pulse meets the four conditions of R26; `s` is the state with the pulse counted. -/
def weighed (s : State) : Bool :=
  s.cfg.caps.window && s.win.norm && s.win.motor == .driven .up
    && (s.win.motion == .starting || s.win.motion == .moving) && decide (17 ≤ s.win.pulses)
    && decide ((s.cfg.sealZone : Int) < s.win.p)

/-- Stages 5, 7 and 8 and the learning sums of a pulse that meets R26's conditions, after its demand check. -/
def pinchStages (u t : Nat) (z : Zone) (s : State) : Pinch :=
  let l := loadFigure s.cfg u t
  if transientAt s.pinch.history u then markZone z { s.pinch with transient := true }
  else
    addLoad z l
      { s.pinch with
        count := if (threshold s : Int) < (l : Int) - referenceOf z s then s.pinch.count + 1 else 0 }

/-- What the pinch monitor does with a pulse counted with the motor driven (R26, R27, R44). A driven pulse counted in
another supply state than NORMAL keeps the motion from teaching (log 60, DESIGN CHOICE). -/
def pinchPulse (uRaw tRaw : Nat) (s : State) : State :=
  let u := pulseSupply uRaw
  let z := zoneOf s.cfg s.win.p
  let s1 := if weighed s then demandZone z s else s
  let q := if weighed s then pinchStages u (pulsePeriod tRaw) z s1
    else if s.win.motor = .driven .up then markZone z s1.pinch else s1.pinch
  { s1 with pinch := { q with history := pushHistory s.pinch.history u
                              offNormal := q.offNormal || s.power.supply != .normal } }

/-! ## Protection modes (R39, R40) -/

/-- A pinch is entered in the reversal history with its time, which may bring PINCH HOLD (R39). -/
def enterPinch (now : Nat) (p : Pinch) : Pinch :=
  let reversals := (if 3 ≤ p.reversals.length then p.reversals.drop 1 else p.reversals) ++ [now]
  let close := match reversals with
    | [a, _, c] => decide (c - a < 10000000)
    | _ => false
  let entry := p.mode == .normal && close
  { p with
    count := 0
    reversals := reversals
    mode := if entry then .pinchHold else p.mode
    overrideUsed := if entry then false else p.overrideUsed
    holdEnd := if entry || p.mode != .normal then some (now + 10000000) else p.holdEnd
    holdExpired := false }

/-- The mode when PINCH HOLD ends: NORMAL, the history empty and the override available again (R39). -/
def endPinchHold (p : Pinch) : Pinch :=
  { p with mode := .normal, reversals := [], holdEnd := none, holdExpired := false, overrideUsed := false }

/-- The end of the override motion (R40). -/
def endOverride (p : Pinch) : Pinch :=
  if p.mode = .override then (if p.holdExpired then endPinchHold p else { p with mode := .pinchHold }) else p

/-- A granted request takes the override (R40, log 36, DEDUCED). -/
def takesOverride (r : Request) (s : State) : Bool :=
  s.pinch.mode == .pinchHold && !s.pinch.overrideUsed && s.win.norm && r.dir == .up && r.mode == .manual
    && (r.source == .localSwitch || r.source == .remoteSwitch)

end Sys2Proof.Machine
end

