-- ==== Sys2Proof/Machine/Window.lean ====
section
/-! DEFINITION. The window controller's operations (chapter 1): position, motions, the arbiter, drops, rises and the
limits on motion. -/

namespace Sys2Proof.Machine

/-! ## The motor -/

/-- The window with other fields, for short. -/
def State.withWin (s : State) (w : Window) : State := { s with win := w }

/-- The run of a timed drop is suspended: the drive passed so far leaves the 150 ms (R19). -/
def suspendTimed (now : Nat) (j : DropJob) : DropJob :=
  match j.timedFrom with
  | some f => { j with timedLeft := j.timedLeft - (now - f), timedFrom := none }
  | none => j

/-- The motor stops being driven: a coast window of 30 ms opens in the direction last driven (R1, R8). -/
def motorTo (m : Motor) (s : State) : State :=
  match s.win.motor with
  | .driven d =>
      s.withWin { s.win with motor := m, coast := some (s.now + 30000, d), drop := s.win.drop.map (suspendTimed s.now) }
  | _ => s.withWin { s.win with motor := m }

/-- The rest field becomes MOVING when the motor is first driven after the motion left IDLE (R25). -/
def markMoving (s : State) : State :=
  if s.win.recMoving then s else queueRecord .windowState (s.withWin { s.win with recMoving := true })

/-- The motor is driven: no coast window, the stall measure starts, a timed drop runs on. -/
def drive (d : Direction) (m : MotionState) (s : State) : State :=
  markMoving (s.withWin
    { s.win with motor := .driven d, motion := m, motorStartAt := s.now, coast := none, pulses := 0, pauseEnd := none
                 brakeEnd := none, pauseLimit := none
                 drop := s.win.drop.map fun j => if j.timed && !j.waiting then { j with timedFrom := some s.now } else j })

/-! ## The end of a motion -/

/-- The WINDOW REPORT of an ended motion whose source is GLOBAL or RISE (R24). -/
def reportMotion (r : Request) (o : Outcome) (s : State) : State :=
  if r.source = .global ∨ r.source = .rise then
    queueFrame (.windowReport (r.source == .rise) (!s.win.norm) o (BitVec.ofInt 16 s.win.p)) s
  else s

/-- The drop job's answer when a DROP motion ends: DONE at its target or the open stop, else BLOCKED (R19). -/
def answerDrop (r : Request) (o : Outcome) (w : Window) : Window :=
  match w.drop with
  | some j =>
      if r.source = .drop ∧ j.waiting = false then
        { w with drop := none, dropAnswer := some (if o = .opened then .done else .blocked) }
      else w
  | none => w

/-- The bookkeeping of a motion's end with its outcome (R13): the report, the drop's answer and the override. -/
def closeMotion (r : Request) (o : Outcome) (s : State) : State :=
  let s1 := reportMotion r o s
  { s1 with
    win := { answerDrop r o s1.win with lastEnd := some (r.source, o), overrideMotion := false }
    pinch := if s1.win.overrideMotion then endOverride s1.pinch else s1.pinch }

/-- The rest field becomes AT REST on the return to IDLE; the record is queued when the coast window that follows
closes, or at once where none is open (R25, log 12, DEDUCED). -/
def markRest (s : State) : State :=
  if s.win.recMoving then
    if s.win.coast.isSome then s.withWin { s.win with recMoving := false }
    else queueRecord .windowState (s.withWin { s.win with recMoving := false })
  else s

/-- The running motion ends with an outcome, the motor goes off and the state returns to IDLE (R8, R13). -/
def finishMotion (o : Outcome) (s : State) : State :=
  match s.win.req with
  | none => s
  | some r =>
      let s1 := motorTo .off (closeMotion r o s)
      markRest (s1.withWin
        { s1.win with motion := .idle, req := none, pauseEnd := none, brakeEnd := none, pauseLimit := none })

/-! ## Starting the motor -/

/-- The frameless rule forbids driving the glass up from here (R18). -/
def framelessStops (d : Direction) (s : State) : Bool :=
  s.latch.position == .opened && s.win.norm && d == .up && decide (s.win.p ≤ s.cfg.dropDist)

/-- A motor start (R26): STARTING with a fresh start exclusion. -/
def motorStart (d : Direction) (s : State) : State :=
  drive d .starting { s with pinch := pinchMotorStart s.pinch }

/-- The target of a TO POSITION request lies at or behind the glass (R9). -/
def satisfied (r : Request) (p : Int) : Bool :=
  match r.mode with
  | .toPosition t =>
      match r.dir with
      | .up => decide (p ≤ t)
      | .down => decide (t ≤ p)
  | _ => false

/-- The outcome of a motion that reaches its target, by direction (R13). -/
def reached : Direction → Outcome
  | .up => .closed
  | .down => .opened

/-- The waiting or paused request takes the motor: a reversal in REVERSING, unless its target lay at or behind p_d (R37)
or the glass has coasted to it in a pause (log 72, DESIGN CHOICE); the supply history stays as it is (R27, log 73, DESIGN
CHOICE). Any other request is a motor start, unless the frameless rule forbids it (R18, log 20, DEDUCED). -/
def startRequest (r : Request) (s : State) : State :=
  if r.source = .reversal then
    if satisfied r s.win.pinchAt || satisfied r s.win.p then finishMotion (reached r.dir) s
    else drive r.dir .reversing { s with pinch := { s.pinch with count := 0 } }
  else if framelessStops r.dir s then finishMotion .stopped s
  else motorStart r.dir s

/-! ## The arbiter (R9 to R12) -/

/-- The rank of a source; lower ranks higher (R11). -/
def Source.rank : Source → Nat
  | .reversal => 0 | .drop => 1 | .localSwitch => 2 | .rise => 3 | .remoteSwitch => 4 | .global => 5 | .service => 6

/-- A motion start: the grant of a request that becomes the running request (R26, R35, R40, R44). -/
def motionStart (r : Request) (s : State) : State :=
  let o := takesOverride r s
  { s with
    win := { s.win with req := some r, clamped := false, overrideMotion := o }
    pinch := pinchMotionStart
      (if o then { s.pinch with mode := .override, overrideUsed := true } else s.pinch) }

/-- The motion waits in PAUSED under the 3 s limit (R22); such a motion does not teach (R44). A start-stall pause ends
with it (R7, log 55, DESIGN CHOICE). -/
def pauseMotion (s : State) : State :=
  let s1 := motorTo .off s
  { s1 with win := { s1.win with motion := .paused, pauseLimit := some (s.now + 3000000), pauseEnd := none, brakeEnd := none }
            pinch := { s1.pinch with offNormal := true } }

/-- A request is granted with none running (R8): STARTING, or PAUSED in CRANK (log 14, DEDUCED). -/
def grantIdle (r : Request) (s : State) : State :=
  let s1 := motionStart r (s.withWin { s.win with startStalls := 0 })
  if s.power.supply = .crank then pauseMotion s1 else motorStart r.dir s1

/-- The motion goes into BRAKING for 20 ms with a request waiting (R12). -/
def brake (s : State) : State :=
  let s1 := motorTo .braked s
  s1.withWin { s1.win with motion := .braking, brakeEnd := some (s.now + 20000), pauseEnd := none, startStalls := 0 }

/-- A request takes the place of the running one, which has ended or been replaced: in BRAKING it waits, in PAUSED it
waits under its own 3 s limit (log 16, DEDUCED), in the same direction it takes over the motor or the start-stall pause (R7,
R11), in the opposite direction it goes through BRAKING. -/
def takeOver (old r : Request) (s : State) : State :=
  match s.win.motion with
  | .braking => motionStart r s
  | .paused =>
      let s1 := motionStart r s
      pauseMotion (s1.withWin { s1.win with startStalls := 0 })
  | _ =>
      if old.dir = r.dir then
        let s1 := motionStart r s
        if s1.win.pauseEnd.isSome then s1 else s1.withWin { s1.win with startStalls := 0 }
      else brake (motionStart r s)

/-- A new record of the same source and direction replaces the running one without a stop (R11). -/
def replaceRequest (r : Request) (s : State) : State :=
  if takesOverride r s then
    { s with win := { s.win with req := some r, overrideMotion := true }
             pinch := { s.pinch with mode := .override, overrideUsed := true } }
  else s.withWin { s.win with req := some r }

/-- A TO POSITION request granted at its target ends at once without driving the motor (R9, R13, log 15, DEDUCED). -/
def endAtOnce (r : Request) (s : State) : State := s.withWin { s.win with lastEnd := some (r.source, reached r.dir) }

/-- The arbiter's decision on a request that has passed the checks (R11), as the window outcome a GLOBAL request
would answer: STARTED when granted, STOPPED when it stops a motion of its own source, BUSY when refused
(log 13, DEDUCED). -/
def arbiter (r : Request) (s : State) : WindowOutcome × State :=
  match s.win.req with
  | none => (.started, if satisfied r s.win.p then endAtOnce r s else grantIdle r s)
  | some x =>
      if r.source.rank < x.source.rank then
        (.started, if satisfied r s.win.p then endAtOnce r s else takeOver x r (closeMotion x .preempted s))
      else if x.source = r.source then
        if x.dir = r.dir then
          (.started, if satisfied r s.win.p then endAtOnce r s else replaceRequest r s)
        else if x.mode = .manual then
          (.started, if satisfied r s.win.p then endAtOnce r s else takeOver x r (closeMotion x .stopped s))
        else (.stopped, finishMotion .stopped s)
      else (.busy, s)

/-- The checks of R10 before the arbiter, in their order; the window outcome of the first that fails. -/
def checkRequest (r : Request) (s : State) : Option WindowOutcome :=
  if !s.cfg.caps.window then some .absent
  else if s.power.supply = .under then some .busy
  else if !s.win.norm && !(r.source == .localSwitch && r.mode == .manual) then some .unnormalised
  else if crashHold s && r.dir == .up then some .crashHold
  else if 80000 ≤ s.win.heat ∨ (60000 ≤ s.win.heat ∧ r.dir = .down) then some .thermal
  else if s.latch.position == .opened && s.win.norm && r.dir == .up
      && (r.source == .global || decide (s.win.p ≤ s.cfg.dropDist)) then some .closureOpen
  else if s.pinch.mode != .normal && r.dir == .up && (r.mode == .auto || r.source == .global || r.source == .rise) then
    some .pinchHold
  else none

/-- A motion request is checked and then weighed (R10, R11). -/
def request (r : Request) (s : State) : WindowOutcome × State :=
  match checkRequest r s with
  | some o => (o, s)
  | none => arbiter r s

/-- A request was granted (or ended at once). -/
def WindowOutcome.granted : WindowOutcome → Bool
  | .started => true
  | _ => false

/-! ## The drop (R19) -/

/-- The DROP request as it stands: TO POSITION while NORMALISED, else a timed MANUAL run (R9). -/
def dropRequest (s : State) : Request :=
  { source := .drop, dir := .down, mode := if s.win.norm then .toPosition s.cfg.dropDist else .manual }

/-- A drop request is weighed (R19, log 17, DEDUCED): answered at once, waiting for a reversal, or granted. -/
def weighDrop (limitAt : Nat) (s : State) : State :=
  if !s.cfg.caps.window || (s.win.norm && decide ((s.cfg.dropDist : Int) ≤ s.win.p)) then
    s.withWin { s.win with drop := none, dropAnswer := some .done }
  else if 80000 ≤ s.win.heat ∨ s.power.supply = .under then
    s.withWin { s.win with drop := none, dropAnswer := some .blocked }
  else
    let job : DropJob := { limitAt := limitAt, grantP := s.win.p, waiting := false, timed := !s.win.norm
                           timedLeft := 150000
                           timedFrom := if s.win.motor = .driven .down then some s.now else none }
    match s.win.req with
    | some x =>
        if x.source = .reversal then s.withWin { s.win with drop := some { job with waiting := true, timedFrom := none } }
        else (arbiter (dropRequest s) (s.withWin { s.win with drop := some job })).2
    | none => (arbiter (dropRequest s) (s.withWin { s.win with drop := some job })).2

/-- The latch controller asks for a drop; its 800 ms run from now (R19). -/
def requestDrop (s : State) : State := weighDrop (s.now + 800000) (s.withWin { s.win with dropAnswer := none })

/-- A drop that waited for a reversal is weighed when no motion runs (R19). -/
def serveWaitingDrop (s : State) : State :=
  match s.win.drop, s.win.req with
  | some j, none => if j.waiting then weighDrop j.limitAt s else s
  | _, _ => s

/-- The running motion ends, and a drop that waited for it is served (R8, R13, R19). -/
def endMotion (o : Outcome) (s : State) : State := serveWaitingDrop (finishMotion o s)

/-- A waiting or paused request takes the motor (R8, R12, R22), and a waiting drop is served if it ends at once. -/
def resume (s : State) : State :=
  match s.win.req with
  | some r => serveWaitingDrop (startRequest r s)
  | none => s

/-- The window becomes UNNORMALISED: the record is queued and a running motion other than LOCAL SWITCH MANUAL ends
STOPPED (R2). -/
def unnormalise (s : State) : State :=
  if s.win.norm then
    let s1 := queueRecord .windowState (s.withWin { s.win with norm := false })
    match s1.win.req with
    | some r => if r.source = .localSwitch ∧ r.mode = .manual then s1 else endMotion .stopped s1
    | none => s1
  else s

/-! ## A pinch (R36, R37) -/

/-- A pinch is declared: the motion ends PINCHED, the motor is braked, the REVERSAL waits, and the pinch enters the
reversal history after the end of the motion has been taken (R37, R39, R40, log 59, DEDUCED). -/
def declarePinch (s : State) : State :=
  match s.win.req with
  | none => s
  | some r =>
      let s1 := closeMotion r .pinched s
      let rev : Request :=
        { source := .reversal, dir := .down, mode := .toPosition (min (s.win.p + s.cfg.revDist) s.cfg.travel) }
      let s2 := brake (motionStart rev s1)
      { s2 with win := { s2.win with pinchAt := s.win.p }, pinch := enterPinch s.now s2.pinch }

/-! ## Counting a pulse (R1) -/

/-- The bounds of the count (R1). -/
def countLow : Int := -32
def countHigh (c : Settings) : Int := c.travel + 32

/-- The count moved by one pulse in a direction. -/
def movedCount (d : Direction) (p : Int) : Int :=
  match d with
  | .up => p - 1
  | .down => p + 1

/-- A pulse is counted with the clamp; the first pulse of a motion at a bound makes the window UNNORMALISED and adds
a drift event (R1). A coast pulse at a bound ends a request that waits, like any loss of normalisation (R2, log 68,
DESIGN CHOICE). -/
def countPulse (d : Direction) (s : State) : State :=
  let q := movedCount d s.win.p
  if countLow ≤ q ∧ q ≤ countHigh s.cfg then s.withWin { s.win with p := q }
  else if s.win.clamped then s
  else unnormalise (s.withWin { s.win with clamped := true, drift := satInc s.win.drift })

/-- A driven pulse of a DROP motion sets drop owed, with p0 unless it was set (R20, log 19, DEDUCED), also one that the
clamp then leaves at the bound of the count (log 91, DESIGN CHOICE). -/
def oweDrop (s : State) : State :=
  match s.win.req, s.win.drop, s.win.dropOwed with
  | some r, some j, none =>
      if r.source = .drop then queueRecord .windowState (s.withWin { s.win with dropOwed := some j.grantP }) else s
  | _, _, _ => s

/-- STARTING becomes MOVING at the 16th pulse of the drive (R7, R8). -/
def passStart (w : Window) : Window :=
  if w.motion = .starting ∧ 16 ≤ w.pulses then { w with motion := .moving, startStalls := 0 } else w

/-- After a pulse without a declaration: the target of a TO POSITION request, then the frameless bound (R9, R18). -/
def afterPulse (s : State) : State :=
  match s.win.req, s.win.motor with
  | some r, .driven d =>
      if satisfied r s.win.p then endMotion (reached r.dir) s
      else if framelessStops d s then endMotion .stopped s
      else s
  | _, _ => s

/-- A hall pulse with the motor driven (R1, R26): counted, weighed, and compared. A pulse whose count at a bound ends the
motion enters no supply history (R27, log 58, DESIGN CHOICE). -/
def drivenPulse (d : Direction) (u t : Nat) (s : State) : State :=
  let s1 := oweDrop (s.withWin { s.win with pulses := s.win.pulses + 1, lastPulseAt := s.now })
  let s2 := countPulse d s1
  if s2.win.motor = .driven d ∧ s2.win.pulses = s1.win.pulses then
    let s3 := pinchPulse u t s2
    let s4 := s3.withWin (passStart s3.win)
    if s4.pinch.count = 3 then declarePinch s4 else afterPulse s4
  else s2

/-- A hall pulse with the motor not driven: counted while a coast window is open (R1). -/
def coastPulse (s : State) : State :=
  match s.win.coast with
  | some (e, d) => if s.now ≤ e then countPulse d (s.withWin { s.win with lastPulseAt := s.now }) else s
  | none => s

/-! ## Stalls (R5 to R7) -/

/-- The time since which the motor has been driven without a pulse (R5). -/
def stallFrom (w : Window) : Nat := max w.motorStartAt w.lastPulseAt

/-- An end stop corrects the count and ends the motion (R6). -/
def endStop (at_ : Int) (o : Outcome) (s : State) : State :=
  let off := (s.win.p - at_).natAbs
  let s1 := s.withWin { s.win with p := at_, drift := if 4 < off then satInc s.win.drift else s.win.drift
                                   norm := s.win.norm && decide (off ≤ 64) }
  endMotion o (queueRecord .windowState s1)

/-- A start stall: a pause of 300 ms, or the end BLOCKED at the third of the request (R7). -/
def startStall (s : State) : State :=
  if 2 ≤ s.win.startStalls then endMotion .blocked s
  else
    let s1 := motorTo .off s
    s1.withWin { s1.win with startStalls := s.win.startStalls + 1, pauseEnd := some (s.now + 300000) }

/-- A stall is classified by direction, position, normalisation and motion state, and acted on (R5). A closed stop first
learns and queues PROFILE, and then corrects the count and queues WINDOW STATE (R6, R44, log 70, DESIGN CHOICE). -/
def stalled (s : State) : State :=
  match s.win.motor, s.win.req with
  | .driven .up, some _ =>
      if !s.win.norm then s
      else if s.win.p ≤ s.cfg.sealZone then endStop 0 .closed (learn s)
      else declarePinch s
  | .driven .down, some r =>
      let near := decide ((s.cfg.travel : Int) - 24 ≤ s.win.p)
      if s.win.motion = .reversing then
        if near then endStop s.cfg.travel .opened s else endMotion .blocked s
      else if r.source = .drop ∧ r.mode = .manual then endMotion .blocked s
      else if near then endStop s.cfg.travel .opened s
      else if s.win.motion = .starting then startStall s
      else endMotion .blocked s
  | _, _ => s

/-- The close hold is complete: p is 0, the window NORMALISED, drop owed clear (R4). -/
def closeHold (s : State) : State :=
  let s1 := s.withWin { s.win with p := 0, norm := true, dropOwed := none }
  endMotion .closed (queueRecord .windowState s1)

/-! ## Holds of a MANUAL motion (R9, R16, R22) -/

/-- The direction of a switch pack entry. -/
def entryDir : SwitchEntry → Option Direction
  | .rest => none
  | .upManual | .upAuto => some .up
  | .downManual | .downAuto => some .down

/-- The MANUAL entry of a direction (R15). -/
def manualEntry : Direction → SwitchEntry
  | .up => .upManual
  | .down => .downManual

/-- The hold of a request still holds: the local switch at either detent, or the MANUAL entry of its direction as the
entry taken; the override motion runs on under the AUTO entry that was refused (R9, R16, R40, log 43, DEDUCED). -/
def holds (r : Request) (s : State) : Bool :=
  match r.mode with
  | .manual =>
      match r.source with
      | .localSwitch => s.pins.localHold == some r.dir
      | .remoteSwitch =>
          s.win.packEntry == manualEntry r.dir || (s.win.overrideMotion && entryDir s.win.packEntry == some r.dir)
      | _ => true
  | _ => true

/-- A MANUAL motion whose hold is lost ends STOPPED, in BRAKING at the end of the brake (R9, R12, R22). -/
def dropLostHold (s : State) : State :=
  match s.win.req with
  | some r => if holds r s || s.win.motion == .braking then s else endMotion .stopped s
  | none => s

/-- The brake's 20 ms end: the waiting request starts, waits in PAUSED, or has lost its hold (R8, R12). In CRANK a reversal
with nowhere to go waits too (R22, R37, log 71, DESIGN CHOICE). -/
def endBrake (s : State) : State :=
  match s.win.req with
  | some r =>
      if !holds r s then endMotion .stopped s
      else if s.power.supply = .crank then pauseMotion s
      else resume (s.withWin { s.win with startStalls := 0 })
  | none => s

/-! ## What other blocks bring -/

/-- The supply state has changed (R22). -/
def windowSupply (s : State) : State :=
  match s.win.motion, s.power.supply with
  | .idle, _ => s
  | _, .under => endMotion .stopped s
  | .braking, .crank => s
  | .paused, .crank => s
  | _, .crank => pauseMotion s
  | .paused, _ =>
      match s.win.req with
      | some r => if holds r s then resume s else endMotion .stopped s
      | none => s
  | _, _ => s

/-- The running request drives or would drive the glass up. -/
def runsUp (s : State) : Bool :=
  match s.win.req with
  | some r => r.dir == .up
  | none => false

/-- Crash hold starts: a running UP motion ends STOPPED (R23). -/
def windowCrash (s : State) : State := if runsUp s then endMotion .stopped s else s

/-- The latch went OPEN: an UP motion at or above the drop position ends STOPPED (R18). -/
def windowLatchOpen (s : State) : State := if runsUp s && framelessStops .up s then endMotion .stopped s else s

/-- The latch went CLOSED with drop owed set: a RISE is weighed, or drop owed is cleared (R20). -/
def windowLatchClosed (s : State) : State :=
  match s.win.dropOwed with
  | none => s
  | some p0 =>
      if !s.win.norm then s
      else if s.win.p ≤ s.cfg.dropDist then
        let out := request { source := .rise, dir := .up, mode := .toPosition p0 } s
        if out.1.granted then queueRecord .windowState (out.2.withWin { out.2.win with dropOwed := none }) else out.2
      else queueRecord .windowState (s.withWin { s.win with dropOwed := none })

/-- Child safety became ENGAGED: a LOCAL SWITCH motion ends STOPPED (R14). -/
def windowChild (s : State) : State :=
  match s.win.req with
  | some r => if r.source = .localSwitch then endMotion .stopped s else s
  | none => s

/-- An applied window kind becomes a GLOBAL request or a stop, and answers with its window outcome (R17). -/
def windowIntentApplied (k : IntentKind) (s : State) : WindowOutcome × State :=
  match k with
  | .windowsClose => request { source := .global, dir := .up, mode := .auto } s
  | .windowsOpen => request { source := .global, dir := .down, mode := .auto } s
  | _ =>
      match s.win.req with
      | some r => if r.source = .global then (.stopped, endMotion .stopped s) else (.stopped, s)
      | none => (.stopped, s)

/-- A press that stopped an AUTO motion starts nothing until the switch is released (R14). -/
def markSpent (b : Bool) (s : State) : State :=
  { s with pins := { s.pins with localSpent := s.pins.localSpent || b } }

/-- A press of the local switch at either detent makes its request (R14). A motion of its own source that it does not
replace has lost its hold (R9). An AUTO motion runs on at an opposite press that R10 refuses (log 69, DESIGN CHOICE). -/
def localPress (d : Direction) (m : Mode) (s : State) : State :=
  if isRear s && s.latch.child == .engaged then s
  else
    let out := request { source := .localSwitch, dir := d, mode := m } s
    dropLostHold (markSpent (out.1 == .stopped) out.2)

end Sys2Proof.Machine
end

