-- ==== Sys2Proof/Machine/Latch.lean ====
section
/-! DEFINITION. The latch controller's operations (chapter 3): lock and child states, release requests and the release
sequence. -/

namespace Sys2Proof.Machine

/-- The sequence returns to IDLE with its last release outcome; the attempt count stays (R59). -/
def endSequence (o : ReleaseOutcome) (s : State) : State :=
  { s with latch := { s.latch with seq := .idle, kind := none, dropOut := false, retryDelay := none, pulseEnd := none
                                   waitEnd := none, supplyWait := none, lastRelease := o } }

/-- The sequence would enter RELEASING: a pulse of at most 250 ms with one more attempt, or in CRANK and UNDER the
supply wait of 2 s in the state it was in, DROPPING when it was IDLE (R59, R62, R65, log 38, DEDUCED). -/
def enterReleasing (s : State) : State :=
  if s.power.supply.poor then
    { s with latch := { s.latch with
        seq := if s.latch.seq = .idle then .dropping else s.latch.seq
        dropOut := false, retryDelay := none, waitEnd := none
        supplyWait := some (s.latch.supplyWait.getD (s.now + 2000000)) } }
  else
    { s with latch := { s.latch with
        seq := .releasing, attempts := s.latch.attempts + 1, pulseEnd := some (s.now + 250000), dropOut := false
        retryDelay := none, waitEnd := none, supplyWait := none } }

/-- The sequence acts on the answer of its outstanding drop (R60); another answer is discarded (R61, R64, R68). -/
def takeDropAnswer (s : State) : State :=
  match s.win.dropAnswer with
  | none => s
  | some a =>
      let s1 := s.withWin { s.win with dropAnswer := none }
      if s.latch.seq = .dropping ∧ s.latch.dropOut then
        let s2 := { s1 with latch := { s1.latch with dropOut := false } }
        if a = .done ∨ s.latch.kind = some .egress then enterReleasing s2
        else if s.latch.retryUsed then endSequence .glassBlocked s2
        else { s2 with latch := { s2.latch with retryUsed := true, retryDelay := some (s.now + 300000) } }
      else s1

/-- The sequence is in DROPPING with a drop requested (R60). -/
def startDrop (s : State) : State :=
  takeDropAnswer (requestDrop
    { s with latch := { s.latch with seq := .dropping, dropOut := true, retryDelay := none } })

/-- A release request is taken when the sequence is IDLE and the latch CLOSED; else it is ignored (R57, R68). -/
def releaseRequest (k : ReleaseKind) (s : State) : State :=
  if s.latch.seq = .idle ∧ s.latch.position = .closed then
    let s1 := { s with latch := { s.latch with kind := some k, attempts := 0, retryUsed := false } }
    if crashHold s then enterReleasing s1 else startDrop s1
  else s

/-- An outstanding drop is withdrawn: a drop motion already running ends STOPPED (R56, R61). One that the sequence no
longer waits for, as crash hold has moved it on, runs to its end (R68, log 92, DESIGN CHOICE). -/
def withdrawDrop (s : State) : State :=
  if s.latch.dropOut then
    let s1 := s.withWin { s.win with drop := none, dropAnswer := none }
    match s1.win.req with
    | some r => if r.source = .drop then endMotion .stopped s1 else s1
    | none => s1
  else s

/-- A change to LOCKED or DEADLOCKED reaches a sequence in DROPPING (R61). -/
def lockChangeOnSequence (s : State) : State :=
  if s.latch.seq = .dropping ∧ (s.latch.lock = .deadlocked ∨ (s.latch.lock = .locked ∧ s.latch.kind = some .entry)) then
    endSequence .lockChange (withdrawDrop s)
  else s

/-- The lock state is set: a change queues the latch record, acts on the sequence, and a change to UNLOCKED with the
outer handle held is taken as a pull, which is local input (R50, R51, R61, R173). -/
def setLock (l : LockState) (s : State) : State :=
  if s.latch.lock = l then s
  else
    let s1 := lockChangeOnSequence (queueRecord .latchState { s with latch := { s.latch with lock := l } })
    if l = .unlocked ∧ s.pins.outerHandle = true ∧ ¬ isTailgate s then releaseRequest .entry (localInput s1) else s1

/-- An applied kind of the latch family (R50, R57). -/
def applyLatch (k : IntentKind) (s : State) : State :=
  match k with
  | .lock => setLock .locked s
  | .deadlock => setLock (if s.latch.position = .closed then .deadlocked else .locked) s
  | .unlock => setLock .unlocked s
  | _ => releaseRequest .entry (setLock .unlocked s)

/-- Child safety became ENGAGED during an EGRESS: the sequence is abandoned at once (R56). -/
def childOnSequence (s : State) : State :=
  if s.latch.kind = some .egress
      ∧ (s.latch.seq = .dropping ∨ s.latch.seq = .releasing ∨ s.latch.seq = .retryWait) then
    endSequence .childEngaged (withdrawDrop s)
  else s

/-- An applied kind of the child family: it acts at RL and RR alone (R55, R14, R56). -/
def applyChild (k : IntentKind) (s : State) : State :=
  let c : ChildState := if k = .childOn then .engaged else .released
  if !isRear s || s.latch.child == c then s
  else
    let s1 := queueRecord .latchState { s with latch := { s.latch with child := c } }
    if c = .engaged then windowChild (childOnSequence s1) else s1

/-- The outer handle as a pull (R51). -/
def outerPull (s : State) : State := if s.latch.lock = .unlocked then releaseRequest .entry s else s

/-- The inner handle as a pull (R51, R52): its unlocking comes first, and with it the pull of a held outer handle
(log 61, DESIGN CHOICE). -/
def innerPull (s : State) : State :=
  if s.latch.lock = .deadlocked ∨ s.latch.child = .engaged then s
  else releaseRequest .egress (setLock .unlocked s)

/-- The local-only lock change of the inside lock button in LINE FAULT (R54). -/
def localLockChange (s : State) : State :=
  match s.latch.lock with
  | .unlocked => if crashHold s then s else setLock .locked s
  | .locked => setLock .unlocked s
  | .deadlocked => s

/-- A filtered OPEN edge at the window controller and the release sequence (R49, R62, R64). -/
def latchOpened (s : State) : State :=
  let s1 := windowLatchOpen s
  match s1.latch.seq with
  | .releasing => endSequence .opened s1
  | .dropping | .retryWait => endSequence .openedOtherwise s1
  | _ => s1

/-- A pulse of 250 ms ended with the latch CLOSED: RETRY WAIT, or HALTED at the third with its fault (R62, R63). -/
def pulseFailed (s : State) : State :=
  if s.latch.attempts < 3 then
    { s with latch := { s.latch with seq := .retryWait, pulseEnd := none, waitEnd := some (s.now + 300000) } }
  else
    let detail := byte ((if s.latch.kind = some .egress then 128 else 0) + s.latch.attempts % 4)
    enterFault .latchHalt detail
      { s with latch := { s.latch with seq := .halted, kind := none, pulseEnd := none, lastRelease := .halted } }

/-- CLEAR HALT: a HALTED sequence returns to IDLE with attempt count 0 and LATCH HALT leaves the fault set (R63). The
last release outcome stays HALTED (R59, log 62, DESIGN CHOICE). -/
def clearHaltOp (s : State) : State :=
  if s.latch.seq = .halted then
    leaveFault .latchHalt { s with latch := { s.latch with seq := .idle, attempts := 0 } }
  else s

/-- The supply state has changed (R65). -/
def latchSupply (s : State) : State :=
  if s.power.supply = .under ∧ s.latch.seq = .releasing then endSequence .supply s
  else if s.latch.supplyWait.isSome ∧ s.power.supply.poor = false then enterReleasing s
  else s

/-- Crash hold starts: a sequence in DROPPING goes to RELEASING; an outstanding drop is not withdrawn (R68), nor is it
later, when CHILD ON ends the EGRESS in its supply wait (R56, log 92, DESIGN CHOICE). -/
def crashOnSequence (s : State) : State := if s.latch.seq = .dropping then enterReleasing s else s

end Sys2Proof.Machine
end

