-- ==== Sys2Proof/Machine/Intents.lean ====
section
/-! DEFINITION. The intent engine's operations (chapter 4): epochs and keys, issuing, application, acks, closing,
mappings and auto-relock. -/

namespace Sys2Proof.Machine

/-! ## Epochs and keys (R73, R74) -/

/-- The own epoch is raised to a later epoch heard (R73). -/
def raiseEpoch (e : Epoch) (s : State) : State :=
  if epochLater e s.intent.epoch then { s with intent := { s.intent with epoch := e } } else s

/-- The last-applied key of a family (R74). -/
def lastKey (f : Family) (n : Intents) : OrderKey :=
  match f with
  | .latch => n.keyLatch
  | .child => n.keyChild
  | .window => n.keyWindow

/-- The last-applied key of a family is set (R80). -/
def setLastKey (f : Family) (k : OrderKey) (n : Intents) : Intents :=
  match f with
  | .latch => { n with keyLatch := k }
  | .child => { n with keyChild := k }
  | .window => { n with keyWindow := k }

/-! ## Auto-relock and press memory (R77, R90, R94) -/

/-- Auto-relock is cancelled, and with it a held AUTO RELOCK intent (R77, R94). -/
def cancelRelock (s : State) : State :=
  { s with intent := { s.intent with
      relock := none
      relockSpent := none
      held := match s.intent.held with
        | some p => if p.cause = .autoRelock then none else some p
        | none => none } }

/-- An intent seen with cause FOB or PASSIVE and its key notice joins the press memory (R90, log 33, DEDUCED). -/
def rememberPress (k : IntentKind) (ts : Stations) (c : Cause) (nt : Option Notice) (s : State) : State :=
  match nt with
  | none => s
  | some n =>
      if c = .fob ∨ c = .passive then
        let e : Press := { kind := k, targets := ts, identity := n.identity, seenAt := s.now }
        match k.family with
        | .latch => { s with intent := { s.intent with pressLatch := some e } }
        | .window => { s with intent := { s.intent with pressWindow := some e } }
        | .child => s
      else s

/-- A WINDOWS STOP seen with any cause follows the window entry of the press memory (R92). -/
def followPress (k : IntentKind) (s : State) : State :=
  if k = .windowsStop then
    { s with intent := { s.intent with pressWindow := s.intent.pressWindow.map fun p => { p with followed := true } } }
  else s

/-- The press memory at an intent seen, issued or received; each frame received counts as the intent seen anew (R90,
R92, log 63, DESIGN CHOICE). -/
def seePress (k : IntentKind) (ts : Stations) (c : Cause) (nt : Option Notice) (s : State) : State :=
  rememberPress k ts c nt (followPress k s)

/-- A received latch intent is one that leaves the timer running: an UNLOCK with the arming UNLOCK's key notice and a
lower order key (R94); an unordered key is not lower (log 106, DESIGN CHOICE). -/
def sparesRelock (r : Relock) (k : IntentKind) (key : OrderKey) (nt : Option Notice) : Bool :=
  k == .unlock && nt.isSome && nt == r.notice && keyHigher r.key key

/-- The UNLOCK that armed the running timer, or the timer that has expired with its LOCK perhaps held (R94,
log 67, DEDUCED). -/
def armingUnlock (n : Intents) : Option Relock := n.relock.or n.relockSpent

/-- Auto-relock on a latch-family intent received (R79, R94). -/
def relockSees (k : IntentKind) (key : OrderKey) (nt : Option Notice) (s : State) : State :=
  if k.family = .latch then
    match armingUnlock s.intent with
    | some r => if sparesRelock r k key nt then s else cancelRelock s
    | none => cancelRelock s
  else s

/-! ## Application (R80, R81) -/

/-- An intent decided APPLIED is handed to the block that owns its family (R81). -/
def applyKind (k : IntentKind) (s : State) : Option WindowOutcome × State :=
  match k.family with
  | .latch => (none, applyLatch k s)
  | .child => (none, applyChild k s)
  | .window =>
      let out := windowIntentApplied k s
      (some out.1, out.2)

/-- A target's decision on an intent (R80): the result, the window outcome and the state after it. -/
def decideIntent (k : IntentKind) (key : OrderKey) (s : State) : AckResult × Option WindowOutcome × State :=
  if crashHold s = true ∧ (k = .lock ∨ k = .deadlock) then (.crashHold, none, s)
  else if keyHigher key (lastKey k.family s.intent) then
    let out := applyKind k { s with intent := setLastKey k.family key s.intent }
    (.applied, out.1, out.2)
  else if key = lastKey k.family s.intent then (.alreadyApplied, none, s)
  else (.superseded, none, s)

/-- The current state an ack carries (R82). -/
def ackState (f : Family) (s : State) : AckState :=
  match f with
  | .latch => .latch (some s.latch.lock) (some s.latch.position)
  | .child => .child (some s.latch.child)
  | .window => .window (some (windowClass s.cfg s.win))

/-- The ack of an intent received from an origin (R82). -/
def ackOf (origin : Addr) (i : IntentFrame) (r : AckResult) (w : Option WindowOutcome) (s : State) : Payload :=
  .intentAck
    { toAddr := origin, kind := i.kind, tag := i.tag, epoch := i.epoch, result := r, ownEpoch := s.intent.epoch
      current := ackState i.kind.family s
      wpos := if i.kind.family = .window then windowPosition s.cfg s.win else 0#8
      window := w
      last := if r = .superseded then some (lastKey i.kind.family s.intent) else none }

/-- What every station does with an intent frame it receives (R79), after its epoch is raised at the delivery (R73). -/
def hearIntent (origin : Addr) (i : IntentFrame) (s : State) : State :=
  let s1 := match i.notice with
    | some n => takeNotice n s
    | none => s
  relockSees i.kind { epoch := i.epoch, origin := origin } i.notice (seePress i.kind i.targets i.cause i.notice s1)

/-- A received intent: heard by every station, decided and acked at a target (R79, R80, R82). -/
def receiveIntent (origin : Addr) (i : IntentFrame) (s : State) : State :=
  let s1 := hearIntent origin i s
  if inSet s.addr i.targets then
    let d := decideIntent i.kind { epoch := i.epoch, origin := origin } s1
    queueFrame (ackOf origin i d.1 d.2.1 d.2.2) d.2.2
  else s1

/-! ## The open intent table (R75, R76, R85, R86) -/

/-- The first tag from a value upward mod 16 that is neither 15 nor held by an open entry (R76). -/
def freeTag (table : List OpenEntry) : Nat → Tag → Tag
  | 0, t => t
  | n + 1, t => if t = 15 ∨ table.any (fun e => e.tag == t) then freeTag table n (t + 1) else t

/-- The intent frame of an open entry; every attempt sends the same frame (R84). -/
def intentPayload (e : OpenEntry) : Payload :=
  .intent { kind := e.kind, tag := e.tag, epoch := e.epoch, targets := e.targets, cause := e.cause, notice := e.notice }

/-- Whether some recorded result is `r`. -/
def hasResult (r : AckResult) (e : OpenEntry) : Bool := e.results.toList.any fun x => x == some r

/-- The outcome of an entry that closes: the first row that fits (R86). -/
def outcomeOfEntry (e : OpenEntry) : IntentResult :=
  if hasResult .crashHold e then .refused
  else if hasResult .superseded e then .superseded
  else if e.unresponsive ≠ 0#5 then .partialResult
  else .complete

/-- The stations with result APPLIED or ALREADY APPLIED (R86). -/
def appliedSet (e : OpenEntry) : Stations :=
  BitVec.ofNat 5 ((List.finRange 5).foldl
    (fun n a => n + (if e.results[a] == some .applied || e.results[a] == some .alreadyApplied then 2 ^ a.val else 0)) 0)

/-- The INTENT OUTCOME of an issued intent (R86). -/
def outcomePayload (e : OpenEntry) (o : IntentResult) : Payload :=
  .intentOutcome { tag := e.tag, kind := e.kind, epoch := e.epoch, outcome := o, reason := .none
                   partialSearch := e.partialSearch, applied := appliedSet e, unresponsive := e.unresponsive }

/-- A peer handed over as unresponsive: its count rises, and a PRESENT peer becomes SILENT (R164). -/
def unresponsivePeer (p : Peer) : Peer :=
  { p with unresponsive := min 255 (p.unresponsive + 1)
           presence := if p.presence = .present then .silent else p.presence }

/-- The stations of a set are handed to the census unit (R85, R164). -/
def handOver (set : Stations) (s : State) : State :=
  { s with census := { s.census with
      peers := Vector.ofFn fun a : Addr =>
        if inSet a set && a != s.addr then unresponsivePeer s.census.peers[a] else s.census.peers[a] } }

/-- The table without the entry of a tag. -/
def removeEntry (t : Tag) (s : State) : State :=
  { s with intent := { s.intent with table := s.intent.table.filter fun e => e.tag != t } }

/-- An entry closes: its unresponsive stations are handed over, INTENT OUTCOME is queued, and the entry is freed with
its tag (R85, R86). -/
def closeEntry (e : OpenEntry) (s : State) : State :=
  removeEntry e.tag (queueFrame (outcomePayload e (outcomeOfEntry e)) (handOver e.unresponsive s))

/-- The table with the entry of a tag replaced. -/
def putEntry (e : OpenEntry) (s : State) : State :=
  { s with intent := { s.intent with table := s.intent.table.map fun x => if x.tag = e.tag then e else x } }

/-- An entry that has been changed closes if its pending set is empty (R83, R85). -/
def settleEntry (e : OpenEntry) (s : State) : State :=
  if e.pending = 0#5 then closeEntry e (putEntry e s) else putEntry e s

/-- The entry of a tag. -/
def entryOf (t : Tag) (s : State) : Option OpenEntry := s.intent.table.find? fun e => e.tag == t

/-- The result of an answering target (R83); an address above 4 has none. -/
def setResult (a : Addr) (r : AckResult) (e : OpenEntry) : OpenEntry :=
  if h : a.val < 5 then { e with results := e.results.set a.val (some r) } else e

/-- The result already recorded for a target. -/
def resultOf (a : Addr) (e : OpenEntry) : Option AckResult :=
  if h : a.val < 5 then e.results[a.val] else none

/-! ## Issuing (R75 to R78) -/

/-- The peers that are LOST, as a set. -/
def lostSet (s : State) : Stations :=
  BitVec.ofNat 5 ((List.finRange 8).foldl
    (fun n a => n + (if a.val < 5 ∧ a ≠ s.addr ∧ s.census.peers[a].presence = .lost then 2 ^ a.val else 0)) 0)

/-- The entry a prepared intent opens, with the epoch and tag it takes (R75). -/
def openEntryOf (p : Prepared) (s : State) : OpenEntry :=
  { tag := freeTag s.intent.table 16 s.intent.nextTag, kind := p.kind, epoch := s.intent.epoch + 1
    targets := p.targets, cause := p.cause, notice := p.notice, partialSearch := p.partialSearch
    pending := without (without p.targets (only s.addr)) (lostSet s)
    results := Vector.replicate 5 none, unresponsive := 0#5, attempts := 1, timer := none }

/-- Auto-relock at an own issue: any latch intent cancels, and an UNLOCK with cause FOB or PASSIVE arms (R94). -/
def relockIssues (e : OpenEntry) (s : State) : State :=
  if e.kind.family = .latch then
    let s1 := cancelRelock s
    if e.kind = .unlock ∧ (e.cause = .fob ∨ e.cause = .passive) ∧ s.cfg.relockS ≠ 0 then
      { s1 with intent := { s1.intent with
          relock := some { expiry := s.now + s.cfg.relockS * 1000000
                           key := { epoch := e.epoch, origin := s.addr }, notice := e.notice } } }
    else s1
  else s

/-- Step 5 of issuing: the station applies its own intent, and its result is recorded (R75, R80). -/
def applyOwn (e : OpenEntry) (s : State) : State :=
  if inSet s.addr e.targets then
    let d := decideIntent e.kind { epoch := e.epoch, origin := s.addr } s
    match entryOf e.tag d.2.2 with
    | some x => putEntry (setResult s.addr d.1 x) d.2.2
    | none => d.2.2
  else s

/-- An entry whose pending set was empty at issue closes when step 5 is done (R75). -/
def closeIfDone (t : Tag) (s : State) : State :=
  match entryOf t s with
  | some e => if e.pending = 0#5 then closeEntry e s else s
  | none => s

/-- Issuing, in the order of R75: epoch, tag, entry, frame, own application. -/
def issue (p : Prepared) (s : State) : State :=
  let e := openEntryOf p s
  let s1 := { s with intent := { s.intent with epoch := e.epoch, nextTag := e.tag + 1, table := s.intent.table ++ [e] } }
  let s2 := seePress p.kind p.targets p.cause p.notice (relockIssues e s1)
  closeIfDone e.tag (applyOwn e (queueFrame (intentPayload e) s2))

/-- An intent may be issued: the start hold is over and the table has a free entry (R75). -/
def mayIssue (s : State) : Bool := s.intent.startHold.isNone && decide (s.intent.table.length < 4)

/-- A prepared intent is issued at once or held; in LINE FAULT it is dropped (R75, R77, R89). -/
def prepare (p : Prepared) (s : State) : State :=
  if inLineFault s then s
  else if mayIssue s then issue p s
  else { s with intent := { s.intent with held := some p } }

/-- The held intent is issued as soon as it may be (R77). -/
def issueHeld (s : State) : State :=
  match s.intent.held with
  | some p => if mayIssue s && !inLineFault s then issue p { s with intent := { s.intent with held := none } } else s
  | none => s

/-- The start hold begins, for one own interval as now in effect (R78). -/
def beginStartHold (s : State) : State :=
  { s with intent := { s.intent with startHold := some (s.now + intervalInEffect s * 1000) } }

/-- A refusal before issue (R87); in LINE FAULT none is sent (R89). -/
def refuseIntent (k : IntentKind) (r : RefusalReason) (s : State) : State :=
  queueFrame
    (.intentOutcome { tag := 15, kind := k, epoch := s.intent.epoch, outcome := .refused, reason := r
                      partialSearch := false, applied := 0#5, unresponsive := 0#5 }) s

/-! ## Acks, retries and lost peers (R83 to R85) -/

/-- An ack from a sender is recorded in its entry (R83). -/
def recordAck (from_ : Addr) (r : AckResult) (e : OpenEntry) : OpenEntry :=
  if inSet from_ e.pending then
    setResult from_ r { e with pending := without e.pending (only from_) }
  else if inSet from_ e.targets ∧ resultOf from_ e = none then
    setResult from_ r { e with unresponsive := without e.unresponsive (only from_) }
  else e

/-- A delivered ack addressed to this origin (R83); its epochs are raised at the delivery (R73). -/
def receiveAck (from_ : Addr) (a : AckFrame) (s : State) : State :=
  if a.toAddr = s.addr then
    match entryOf a.tag s with
    | some e => if e.epoch = a.epoch then settleEntry (recordAck from_ a.result e) s else s
    | none => s
  else s

/-- An attempt timer expires with stations pending: the frame is queued again, or the entry closes (R84, R85). -/
def attemptExpired (e : OpenEntry) (s : State) : State :=
  if e.attempts < 4 then
    queueFrame (intentPayload e) (putEntry { e with attempts := e.attempts + 1, timer := none } s)
  else settleEntry { e with unresponsive := e.unresponsive ||| e.pending, pending := 0#5, timer := none } s

/-- A peer went LOST: it leaves an entry's pending set for the unresponsive set (R85). -/
def loseFrom (a : Addr) (s : State) (e : OpenEntry) : State :=
  if inSet a e.pending then
    settleEntry { e with pending := without e.pending (only a), unresponsive := e.unresponsive ||| only a } s
  else s

/-- A peer went LOST: every open entry, in the order of issue (R85, R163, log 74, DESIGN CHOICE). -/
def intentsLose (a : Addr) (s : State) : State := s.intent.table.foldl (loseFrom a) s

/-! ## Crash hold and LINE FAULT (R88, R89) -/

/-- An open LOCK or DEADLOCK entry closes REFUSED at the start of crash hold, handing over no one (R88). -/
def crashEntry (s : State) (e : OpenEntry) : State :=
  if e.kind = .lock ∨ e.kind = .deadlock then
    removeEntry e.tag (queueFrame (outcomePayload { e with unresponsive := 0#5 } .refused) s)
  else s

/-- Crash hold starts: the open entries close in the order of issue (R88, log 74, DESIGN CHOICE). -/
def intentsCrash (s : State) : State :=
  let s1 := s.intent.table.foldl crashEntry s
  cancelRelock
    { s1 with intent := { s1.intent with
        held := match s1.intent.held with
          | some p => if p.kind = .lock ∨ p.kind = .deadlock then none else some p
          | none => none } }

/-- Entry to LINE FAULT (R89). -/
def intentsLineFault (s : State) : State :=
  { s with intent := { s.intent with table := [], held := none, relock := none, relockSpent := none } }

/-! ## Mappings (R90 to R93) -/

def prepared (k : IntentKind) (ts : Stations) (c : Cause) (nt : Option Notice) : Prepared :=
  { kind := k, targets := ts, cause := c, notice := nt, partialSearch := false }

/-- The latch entry of the press memory is of a kind and identity, seen less than `us` ago. -/
def pressedWithin (k : IntentKind) (id : Word32) (us : Nat) (s : State) : Bool :=
  match s.intent.pressLatch with
  | some p => p.kind == k && p.identity == id && decide (s.now < p.seenAt + us)
  | none => false

/-- The press was not to all. -/
def pressPart (s : State) : Bool :=
  match s.intent.pressLatch with
  | some p => p.targets != allStations
  | none => false

/-- The target set of an UNLOCK from a fob or a passive entry (R90). -/
def unlockTargets (one : Addr) (id : Word32) (s : State) : Stations :=
  if !s.cfg.selective then allStations
  else if pressedWithin .unlock id 5000000 s && pressPart s then allStations
  else only one

/-- A fob UNLOCK or a successful entry search (R90). -/
def mapUnlock (c : Cause) (one : Addr) (n : Notice) (s : State) : State :=
  prepare (prepared .unlock (unlockTargets one n.identity s) c (some n)) s

/-- The kind a fob LOCK makes: DEADLOCK for a second press within 3 s (R91). -/
def lockKind (n : Notice) (s : State) : IntentKind :=
  if s.cfg.deadlockEn && pressedWithin .lock n.identity 3000000 s then .deadlock else .lock

/-- A fob LOCK (R91), refused with the kind it would have made (R87). -/
def mapLock (n : Notice) (s : State) : State :=
  if anyClosureOpen s then refuseIntent (lockKind n s) .closureOpen s
  else prepare (prepared (lockKind n s) allStations .fob (some n)) s

/-- A fob RELEASE stops a window intent of the same identity not yet followed by a stop (R92). -/
def mapRelease (n : Notice) (s : State) : State :=
  match s.intent.pressWindow with
  | some p =>
      if p.kind ≠ .windowsStop ∧ p.identity = n.identity ∧ p.followed = false then
        prepare (prepared .windowsStop allStations .fob (some n)) s
      else s
  | none => s

/-- The tailgate alone. -/
def tailgateOnly : Stations := only 4

/-- The intent engine takes an accepted fob button frame (R90 to R92); in LINE FAULT it takes no action (R89). -/
def mapButton (b : Button) (n : Notice) (s : State) : State :=
  if inLineFault s then s
  else
    match b with
    | .lock => mapLock n s
    | .unlock => mapUnlock .fob (driverAddr s.cfg) n s
    | .tailgate => prepare (prepared .unlockAndOpen tailgateOnly .fob (some n)) s
    | .lockHeld => prepare (prepared .windowsClose allStations .fob (some n)) s
    | .unlockHeld => prepare (prepared .windowsOpen allStations .fob (some n)) s
    | .release => mapRelease n s

/-- A rear station, not LOST, last announced RELEASED (R93). -/
def rearReleased (a : Addr) (s : State) : Bool :=
  s.census.peers[a].presence != .lost &&
    match s.census.peers[a].status with
    | some st => st.child == some .released
    | none => false

/-- The driver lockout switch (R93). -/
def mapLockout (s : State) : State :=
  let k : IntentKind := if rearReleased 2 s || rearReleased 3 s then .childOn else .childOff
  prepare (prepared k (only 2 ||| only 3) .switchPack none) s

/-- The inside lock button's kind reverses the own lock state; a DEADLOCKED station ignores it (R51, R93). -/
def mapInsideButton (s : State) : State :=
  match s.latch.lock with
  | .unlocked => prepare (prepared .lock allStations .insideButton none) s
  | .locked => prepare (prepared .unlock allStations .insideButton none) s
  | .deadlocked => s

end Sys2Proof.Machine
end

