-- ==== Sys2Proof/Machine/Search.lean ====
section
/-! DEFINITION. The search unit's operations (chapter 6): claims, touches, challenges, replies, slots and decisions. -/

namespace Sys2Proof.Machine

/-! ## The claim list (R115, R116) -/

/-- The claim list holds an unexpired entry (R115, R116). -/
def airTaken (s : State) : Bool := s.search.claims.any fun c => decide (s.now < c.expiry)

/-- A claim joins the list in its order, replacing an entry of its origin (R115). -/
def addClaim (origin : Addr) (k : ClaimKind) (expiry : Nat) (s : State) : State :=
  { s with search := { s.search with
      claims := s.search.claims.filter (fun c => c.origin != origin) ++ [{ origin := origin, kind := k, expiry := expiry }] } }

/-- The claim of an origin is removed (R115). -/
def removeClaim (origin : Addr) (s : State) : State :=
  { s with search := { s.search with claims := s.search.claims.filter fun c => c.origin != origin } }

def isClaimPayload : Payload → Bool
  | .searchClaim => true
  | .interiorSearch _ _ => true
  | _ => false

/-- The own claim is queued and not in transmission. -/
def ownClaimWaits (s : State) : Bool :=
  s.line.tx.any fun e => isClaimPayload e.frame.payload && !e.inTx && !e.jobless

/-- A search ends without its own claim: a claim that waits is withdrawn, and one in transmission goes on without a job
(R126, R131, R141). A report not yet handed over finds no one (R140, log 76, DESIGN CHOICE). -/
def abandonClaim (s : State) : State :=
  let s1 := withdraw isClaimPayload s
  { s1 with line := { s1.line with
      tx := s1.line.tx.map fun e => if isClaimPayload e.frame.payload then { e with jobless := true } else e
      rx := s1.line.rx.filter fun x => match x with
        | .sent p _ => !isClaimPayload p
        | .frame _ _ => true } }

/-- Another claim was delivered: an own claim that waits is withdrawn (R116). -/
def withdrawOwnClaim (s : State) : State :=
  if ownClaimWaits s then claimLost (withdraw isClaimPayload s) else s

/-! ## Records -/

def setRecord (r : Option SearchRec) (s : State) : State := { s with search := { s.search with record := r } }

/-- A touch becomes the held touch, whatever its age (R119, log 100, DESIGN CHOICE). -/
def holdTouch (h : HeldTouch) (s : State) : State := { s with search := { s.search with held := some h } }

/-- A fresh record of a touch (R117). -/
def touchRecord (area : Area) (touchAt : Nat) : SearchRec :=
  { kind := if area = .lockArea then .passiveLock else .entry, stage := .claiming, area := area, touchAt := touchAt
    challenge := none, windowEnd := none, taken := [], candidates := [], deciding := none, number := 0#8
    participants := [], claimQueued := false, requester := 0, slotIndex := 0, slotAt := none, decisionAt := none }

/-! ## Challenges (R121) -/

/-- A challenge is driven on an antenna: 10 ms of burst, 45 ms of collection, replies and candidates emptied; the
challenge is a free value (R121, log 6, DESIGN CHOICE). -/
def driveChallenge (a : Antenna) (r : SearchRec) (s : State) : State :=
  { s with
    freeCount := s.freeCount + 1
    search := { s.search with
      burst := some (a, s.now + 10000)
      record := some { r with
        stage := if r.stage = .interior then .interior else .collecting
        challenge := some (Config.freeChallenge s.freeCount), windowEnd := some (s.now + 45000)
        taken := [], candidates := [] } } }

/-- The outer challenge falls due: in CRANK the touch is held, in UNDER it is dropped (R121). -/
def outerChallenge (r : SearchRec) (s : State) : State :=
  match s.power.supply with
  | .crank => holdTouch { area := r.area, touchAt := r.touchAt } (setRecord none s)
  | .under => setRecord none s
  | _ => driveChallenge .outer r s

/-! ## Touches (R118, R119, R124, R125) -/

/-- A touch in LINE FAULT: an entry search with the own receiver and without a claim (R125, log 50, DEDUCED). -/
def faultTouch (area : Area) (touchAt : Nat) (s : State) : State :=
  if area = .lockArea ∨ s.cfg.caps.receiver = false ∨ s.search.record.isSome then s
  else if airTaken s || s.power.supply.poor then holdTouch { area := area, touchAt := touchAt } s
  else outerChallenge (touchRecord area touchAt) s

/-- The checks of a lock area touch pass (R124). -/
def lockAreaPasses (s : State) : Bool := s.latch.lock == .unlocked && !anyClosureOpen s

/-- A search opens in CLAIMING and queues its SEARCH CLAIM (R120). -/
def openSearch (area : Area) (touchAt : Nat) (s : State) : State :=
  queueFrame .searchClaim (setRecord (some (touchRecord area touchAt)) s)

/-- A touch is taken: refused by the lock area's checks, ignored, held, or the start of a search (R118, R124, R187)
(log 25, DEDUCED). The lock area's refusal stands in UNDER too (log 75, DESIGN CHOICE). -/
def takeTouch (area : Area) (touchAt : Nat) (s : State) : State :=
  if !s.cfg.caps.outer then s
  else if inLineFault s then faultTouch area touchAt s
  else if area == .lockArea && !lockAreaPasses s then refuseIntent .lock .closureOpen s
  else if s.search.record.isSome || s.power.supply == .under then s
  else if airTaken s || s.power.supply == .crank then holdTouch { area := area, touchAt := touchAt } s
  else openSearch area touchAt s

/-- The held touch may be tried again (R119). -/
def mayRetry (s : State) : Bool := !airTaken s && !s.power.supply.poor && s.search.record.isNone

/-- The held touch is tried as a fresh touch; a tailgate press at an UNLOCKED station is an ENTRY request (R58, R119). -/
def retryTouch (h : HeldTouch) (s : State) : State :=
  let s1 := { s with search := { s.search with held := none } }
  if h.area = .tailgateButton ∧ s.latch.lock = .unlocked then releaseRequest .entry s1
  else takeTouch h.area h.touchAt s1

/-! ## Replies (R122) -/

/-- A VALID reply joins the candidate list; an identity held keeps the higher strength and the counter returned with
it (R122). -/
def addCandidate (c : Candidate) : List Candidate → List Candidate
  | [] => [c]
  | x :: xs =>
      if x.identity = c.identity then (if x.strength.toNat < c.strength.toNat then c else x) :: xs
      else x :: addCandidate c xs

/-- The echo a challenge draws: its low 24 bits (R100). -/
def echoOf (ch : Word32) : BitVec 24 := ch.setWidth 24

/-- The open search collects replies to this echo now (R100, R122). -/
def collects (r : SearchRec) (echo : BitVec 24) (now : Nat) : Bool :=
  (match r.challenge with
    | some ch => echoOf ch == echo
    | none => false)
  && (match r.windowEnd with
    | some w => decide (now ≤ w)
    | none => false)

/-- A reply is weighed: echo, window, duplicate, validation, candidate (R122). -/
def weighReply (rp : Reply) (s : State) : State :=
  match s.search.record with
  | none => s
  | some r =>
      match r.challenge with
      | none => s
      | some ch =>
          if collects r rp.echo s.now && !r.taken.contains rp then
            let s1 := setRecord (some { r with taken := r.taken ++ [rp] }) s
            match validate rp ch s1 with
            | (none, s2) => s2
            | (some c, s2) =>
                setRecord (some { r with taken := r.taken ++ [rp], candidates := addCandidate c r.candidates }) s2
          else s

/-- A passive reply from the own receiver goes to the open search whose challenge it echoes, else it is relayed
(R100, R111). -/
def routeReply (rp : Reply) (s : State) : State :=
  let own := match s.search.record with
    | some r => (match r.challenge with
        | some ch => echoOf ch == rp.echo
        | none => false)
    | none => false
  if own then weighReply rp s else queueFrame (.fobRelay rp) s

/-- The stronger candidate, between equals the one in the lower slot (R123). -/
def stronger (a b : Candidate) : Candidate :=
  if a.strength.toNat < b.strength.toNat ∨ (a.strength = b.strength ∧ b.slot.val < a.slot.val) then b else a

/-- The deciding key of a candidate list (R123). -/
def decidingKey : List Candidate → Option Candidate
  | [] => none
  | c :: cs => some (cs.foldl stronger c)

/-- The deciding key at or above the outer threshold (R123, R124). -/
def outerKey (r : SearchRec) (s : State) : Option Candidate :=
  match decidingKey r.candidates with
  | some c => if s.cfg.outerThr ≤ c.strength.toNat then some c else none
  | none => none

/-- The notice of a candidate (R110). -/
def noticeOf (c : Candidate) : Notice := { identity := c.identity, counter := c.counter }

/-- A successful entry search (R54, R90, R92, R123, R125). -/
def entryFound (area : Area) (c : Candidate) (s : State) : State :=
  if inLineFault s then
    let s1 := setLock .unlocked s
    if area = .tailgateButton then releaseRequest .entry s1 else s1
  else if area = .tailgateButton then prepare (prepared .unlockAndOpen tailgateOnly .passive (some (noticeOf c))) s
  else mapUnlock .passive s.addr (noticeOf c) s

/-- The decision of an ENTRY search at its window end (R123). -/
def decideEntry (r : SearchRec) (s : State) : State :=
  match outerKey r s with
  | some c => entryFound r.area c (setRecord none s)
  | none => setRecord none s

/-! ## The interior stage (R126 to R130) -/

/-- The participants in ascending order of address (R127). -/
def participantList (s : State) : List Addr :=
  (List.finRange 8).filter fun a =>
    if a = s.addr then s.cfg.caps.inner
    else s.census.peers[a].presence != .lost && (match s.census.peers[a].caps with
      | some c => c.inner
      | none => false)

/-- A list of addresses as a set of stations, which has no place for an address above 4 (R201, log 66, DESIGN CHOICE). -/
def setOf (l : List Addr) : Stations := l.foldl (fun b a => b ||| only a) 0#5

/-- The passive lock's decision (R130): refused, or a LOCK to all, marked PARTIAL SEARCH where a participant is
missing or the list was empty. In LINE FAULT it ends without a frame (R125). -/
def decidePassive (r : SearchRec) (s : State) : State :=
  let s1 := setRecord none s
  if inLineFault s then s1
  else if anyClosureOpen s then refuseIntent .lock .closureOpen s1
  else if r.participants.any fun q => q.2 == .found then refuseIntent .lock .keyInside s1
  else
    let missing := r.participants.isEmpty || r.participants.any fun q => q.2 == .noneYet || q.2 == .skipped
    prepare { kind := .lock, targets := allStations, cause := .passive, notice := r.deciding.map noticeOf
              partialSearch := missing } s1

/-- The requester queues its INTERIOR SEARCH with a fresh list and number; with an empty list it decides at once, and
in LINE FAULT the passive lock ends (R125 to R127). The search number is taken as the frame is queued (log 77, DESIGN
CHOICE), also where the 500 ms from the touch have passed (log 82, DESIGN CHOICE). -/
def claimInterior (r : SearchRec) (s : State) : State :=
  if inLineFault s then setRecord none s
  else
    let l := participantList s
    if l.isEmpty then decidePassive { r with participants := [] } s
    else
      let n := s.search.nextNumber
      let r1 := { r with number := n, participants := l.map (fun a => (a, SlotResult.noneYet)), claimQueued := true }
      queueFrame (.interiorSearch n (setOf l))
        { s with search := { s.search with record := some r1, nextNumber := n + 1 } }

/-- The INTERIOR SEARCH waits to be queued: the claim list is free and the frame would be admitted (R126, log 9, DESIGN CHOICE). -/
def interiorDue (r : SearchRec) (s : State) : Bool :=
  r.stage == .interiorClaiming && !r.claimQueued && !airTaken s
    && (inLineFault s || admitted 3 (.interiorSearch 0#8 0#5) s)

/-- The outer stage's decision of a passive lock: NO KEY, or on to INTERIOR CLAIMING, or with no
participant straight to the decision (R124, R126, R127, log 49, DEDUCED). No search number is taken here (log 77, DESIGN
CHOICE), and the 500 ms from the touch end nothing here (log 82, DESIGN CHOICE). -/
def decideOuter (r : SearchRec) (s : State) : State :=
  match outerKey r s with
  | none => refuseIntent .lock .noKey (setRecord none s)
  | some c =>
      let r1 := { r with deciding := some c, stage := .interiorClaiming, windowEnd := none, claimQueued := false }
      if inLineFault s then setRecord none s
      else if (participantList s).isEmpty then decidePassive { r1 with participants := [] } s
      else setRecord (some r1) s

/-- The place of an address in a participant set (R127). -/
def slotIndexIn (a : Addr) (ps : Stations) : Nat := (List.finRange 8).countP fun b => decide (b.val < a.val) && inSet b ps

/-- The number of participants of a set. -/
def setSize (ps : Stations) : Nat := (List.finRange 8).countP fun b => inSet b ps

/-- Slot k begins 5 ms after the end of the frame, plus k times 50 ms (R126). -/
def slotTime (endAt k : Nat) : Nat := endAt + 5000 + k * 50000

/-- The decision falls 40 ms after the end of the last of n slots (R115, R126). -/
def decisionTime (endAt n : Nat) : Nat := endAt + 5000 + n * 50000 + 40000

/-- The own claim was reported sent: void if the claim list holds an unexpired entry, else the next step follows
(R116, R120, R126). -/
def claimSent (endAt : Nat) (s : State) : State :=
  match s.search.record with
  | none => s
  | some r =>
      match r.stage with
      | .claiming => if airTaken s then claimLost s else outerChallenge r s
      | .interiorClaiming =>
          if !r.claimQueued then s
          else if airTaken s then claimLost s
          else
            let l := r.participants.map fun q => q.1
            setRecord (some { r with
              stage := .interior, claimQueued := false
              slotIndex := l.idxOf s.addr
              slotAt := if s.addr ∈ l then some (slotTime endAt (l.idxOf s.addr)) else none
              decisionAt := some (decisionTime endAt l.length) }) s
      | _ => s

/-- A participant's result is recorded (R129, R130). -/
def recordResult (a : Addr) (res : SlotResult) (r : SearchRec) : SearchRec :=
  { r with participants := r.participants.map fun q => if q.1 = a ∧ q.2 = .noneYet then (q.1, res) else q }

/-- The own slot becomes SKIPPED, whatever its result was (R131). -/
def skipOwn (a : Addr) (r : SearchRec) : SearchRec :=
  { r with participants := r.participants.map fun q => if q.1 = a then (q.1, .skipped) else q }

/-- A slot duty ends with its SEARCH REPORT (R129). -/
def reportSlot (r : SearchRec) (res : SearchResult) (best : Byte) (s : State) : State :=
  queueFrame (.searchReport r.requester res r.number best) (setRecord none s)

/-- The own slot begins (R129). -/
def startSlot (r0 : SearchRec) (s : State) : State :=
  let r := { r0 with slotAt := none }
  if inLineFault s then (if r.kind = .slotDuty then setRecord none s else setRecord (some r) s)
  else if s.power.supply.poor then
    if r.kind = .slotDuty then reportSlot r .skipped 0#8 s
    else setRecord (some (recordResult s.addr .skipped r)) s
  else driveChallenge .inner r s

/-- The highest strength of a candidate list, 0 when it is empty (R129). -/
def bestStrength (cs : List Candidate) : Byte :=
  match decidingKey cs with
  | some c => c.strength
  | none => 0#8

/-- The window of the own slot ends: the result is recorded or reported (R129). -/
def endSlot (r0 : SearchRec) (s : State) : State :=
  let r := { r0 with windowEnd := none }
  let best := bestStrength r.candidates
  let found := decide (s.cfg.innerThr ≤ best.toNat)
  if r.kind = .slotDuty then reportSlot r (if found then .found else .notFound) best s
  else setRecord (some (recordResult s.addr (if found then .found else .notFound) r)) s

/-- A delivered INTERIOR SEARCH that names this station makes a slot duty (R128). -/
def dutyRecord (origin : Addr) (n : Byte) (ps : Stations) (endAt : Nat) (s : State) : SearchRec :=
  { touchRecord .unlockArea s.now with
    kind := .slotDuty, stage := .waiting, number := n, requester := origin, slotIndex := slotIndexIn s.addr ps
    slotAt := some (slotTime endAt (slotIndexIn s.addr ps)) }

/-- The station may take up a slot duty (R128). -/
def mayServe (origin : Addr) (s : State) : Bool :=
  s.search.record.isNone && !(s.search.claims.any fun c => c.origin != origin && decide (s.now < c.expiry))

/-- A delivered INTERIOR SEARCH (R115, R116, R128): whether a record is open is judged before the own claim is withdrawn
(log 65, DESIGN CHOICE). -/
def hearInterior (origin : Addr) (n : Byte) (ps : Stations) (endAt : Nat) (s : State) : State :=
  let s1 := withdrawOwnClaim (addClaim origin .interiorSearch (decisionTime endAt (setSize ps)) s)
  if inSet s.addr ps && mayServe origin s then setRecord (some (dutyRecord origin n ps endAt s)) s1 else s1

/-- A delivered SEARCH REPORT (R130). -/
def hearReport (origin requester : Addr) (res : SearchResult) (n : Byte) (s : State) : State :=
  match s.search.record with
  | none => s
  | some r =>
      if requester = s.addr ∧ r.kind = .passiveLock ∧ r.stage = .interior ∧ r.number = n then
        let q : SlotResult := match res with
          | .found => .found
          | .notFound => .notFound
          | .skipped => .skipped
        setRecord (some (recordResult origin q r)) s
      else s

/-! ## What other blocks bring -/

/-- A burst is being driven. -/
def bursting (s : State) : Bool :=
  match s.search.burst with
  | some (_, e) => decide (s.now < e)
  | none => false

/-- The burst stops. -/
def stopBurst (s : State) : State := { s with search := { s.search with burst := none } }

/-- The supply became UNDER: the held touch is dropped, a burst stops and ends its search, and a passive lock is
acted on by its stage (R119, R121, R129, R131, log 30, DEDUCED). The SKIPPED report of a stopped burst carries the best
strength 0 (log 79, DESIGN CHOICE). -/
def searchUnder (s : State) : State :=
  let s1 := stopBurst { s with search := { s.search with held := none } }
  match s1.search.record with
  | none => s1
  | some r =>
      match r.kind with
      | .slotDuty => if bursting s then reportSlot r .skipped 0#8 s1 else s1
      | .entry => if bursting s then setRecord none s1 else s1
      | .passiveLock =>
          match r.stage with
          | .claiming => setRecord none (abandonClaim s1)
          | .collecting => setRecord none s1
          | .interior =>
              setRecord (some { skipOwn s.addr r with slotAt := none, windowEnd := none }) s1
          | _ => s1

/-- The supply state has changed (R121). -/
def searchSupply (s : State) : State := if s.power.supply = .under then searchUnder s else s

/-- Entry to LINE FAULT drops the held touch (R119). -/
def searchLineFault (s : State) : State := { s with search := { s.search with held := none } }

end Sys2Proof.Machine
end

