-- ==== Sys2Proof/Machine/Census.lean ====
section
/-! DEFINITION. The census unit's operations (chapter 8): frames heard, the peer table, the balance, recovery and wake. -/

namespace Sys2Proof.Machine

/-- The entry of one peer changed. -/
def setPeer (a : Addr) (f : Peer → Peer) (s : State) : State :=
  { s with census := { s.census with peers := s.census.peers.set a (f s.census.peers[a]) } }

/-- A frame heard from a peer makes it PRESENT and restarts its silence timer (R163). -/
def heard (a : Addr) (s : State) : State :=
  if a = s.addr then s else setPeer a (fun p => { p with presence := .present, since := s.now }) s

/-- An interval received is clamped to 100..4000 ms (R162). -/
def clampInterval (iv : BitVec 16) : Nat := max 100 (min 4000 iv.toNat)

/-- A pull-in: an announcement below +4, the waiting change at +4 (R155, R159). -/
def pullIn (s : State) : State :=
  if s.census.balance < 4 then queueAnnouncement s
  else { s with census := { s.census with waitingChange := true } }

/-- A delivered CENSUS (R155); its epoch is raised at the delivery (R73). -/
def hearCensus (origin pos : Addr) (caps : Capabilities) (iv : BitVec 16) (ep : Epoch) (s : State) : State :=
  let lost := s.census.peers[origin].presence == .lost
  let s2 := setPeer origin (fun p =>
    { p with caps := if pos = origin then some caps else p.caps
             interval := clampInterval iv, epoch := some ep, announced := true }) s
  let s3 := pullIn s2
  if lost then queueCensus s3 else s3

/-- A delivered ANNOUNCEMENT at the census unit and the intent engine (R161); its epoch is raised at the delivery
(R73). -/
def hearAnnouncement (origin : Addr) (a : Announced) (s : State) : State :=
  let s1 := setPeer origin (fun p =>
    { p with status := some a, interval := clampInterval a.interval, epoch := some a.epoch, announced := true })
    s
  if a.latch = some .opened then cancelRelock s1 else s1

/-- The interval timer restarts with the interval in effect (R158). -/
def restartInterval (s : State) : State :=
  { s with census := { s.census with intervalEnd := s.now + intervalInEffect s * 1000 } }

/-- The balance at an expiry of the interval timer (R159): it falls, or at -4 the late count rises, the urgent flag is
set and a waiting announcement is queued afresh. -/
def balanceFalls (s : State) : State :=
  if -4 < s.census.balance then { s with census := { s.census with balance := s.census.balance - 1 } }
  else
    let s1 := { s with census := { s.census with late := satInc s.census.late, urgent := true } }
    if announcementWaits s1 then queueAnnouncement s1 else s1

/-- An own ANNOUNCEMENT was reported sent: the balance rises (R159). -/
def balanceRises (s : State) : State :=
  { s with census := { s.census with balance := min 4 (s.census.balance + 1), urgent := false, announced := true } }

/-- A peer entry set up afresh; the unresponsive count is kept (R162, R169). -/
def freshPeer (s : State) (p : Peer) : Peer :=
  { presence := .unknown, caps := none, status := none, epoch := none, interval := s.cfg.intervalMs, since := s.now
    announced := false, unresponsive := p.unresponsive }

/-- The census unit at a wake (R169). -/
def censusWake (s : State) : State :=
  restartInterval
    { s with census := { s.census with
        peers := s.census.peers.map (freshPeer s), balance := 0, urgent := false, waitingChange := false
        announced := false, statusOwed := false, censusOwed := false } }

/-- The own frames of a start: the CENSUS and the first ANNOUNCEMENT (R154, R159). -/
def firstFrames (s : State) : State := queueAnnouncement (queueCensus s)

/-- A peer's silence bound, if its timer has one (R163). -/
def silenceBound (p : Peer) : Option Nat :=
  match p.presence with
  | .present => some (p.since + 3 * p.interval * 1000)
  | .silent | .unknown => some (p.since + 8 * p.interval * 1000)
  | .lost => none

/-- A peer's silence timer has reached its bound: SILENT, or LOST, which the intent engine is told (R163). -/
def peerSilent (a : Addr) (s : State) : State :=
  match s.census.peers[a].presence with
  | .present => setPeer a (fun p => { p with presence := .silent }) s
  | .silent | .unknown => intentsLose a (setPeer a (fun p => { p with presence := .lost }) s)
  | .lost => s

end Sys2Proof.Machine
end

