-- ==== Sys2Proof/Machine/Power.lean ====
section
/-! DEFINITION. The power manager's operations (chapter 9): the supply state, sleep agreement, aborts and wakes. -/

namespace Sys2Proof.Machine

/-! ## The supply state (R170, R171) -/

/-- A write that waits on the supply resumes (R190). -/
def storeSupply (s : State) : State :=
  { s with store := { s.store with
      writing := s.store.writing.map fun w => if s.power.supply.poor then w else { w with underWay := true } } }

/-- The supply state becomes another and is handed to the blocks that act on it (R171). -/
def setSupply (v : Supply) (s : State) : State :=
  if s.power.supply = v then s
  else storeSupply (searchSupply (latchSupply (windowSupply { s with power := { s.power with supply := v } })))

/-- A rise measure after a sample: started, kept or stopped (R171). -/
def measure (level u now : Nat) (m : Option Nat) : Option Nat := if level ≤ u then some (m.getD now) else none

/-- A rise measure restarted by a fast fall (R171). -/
def remeasure (level u now : Nat) : Option Nat := if level ≤ u then some now else none

/-- The three measures after a sample without a fast fall (R171). -/
def takeMeasures (u : Nat) (s : State) : State :=
  { s with power := { s.power with
      rise6300 := measure 6300 u s.now s.power.rise6300
      rise7800 := measure 7800 u s.now s.power.rise7800
      rise9300 := measure 9300 u s.now s.power.rise9300 } }

/-- The supply state falls to a lower indicated state (R170). -/
def supplyFalls (v : Supply) (s : State) : State := if v.rank < s.power.supply.rank then setSupply v s else s

/-- The sample at a hall pulse: level state only, no fast-fall test (R170, log 31, DEDUCED). -/
def pulseSample (u : Nat) (s : State) : State := supplyFalls (levelState u) (takeMeasures u s)

/-- A periodic sample is a fast fall: more than 1500 mV below the sample 20 ms before it (R170). -/
def fastFall (u : Nat) (s : State) : Bool :=
  match s.power.samples[19]? with
  | some old => decide (u + 1500 < old)
  | none => false

/-- A periodic sample (R170, R171). -/
def periodicSample (u : Nat) (s : State) : State :=
  let fast := fastFall u s
  let s1 := takeMeasures u s
  let s2 := if fast then
      { s1 with power := { s1.power with rise7800 := remeasure 7800 u s.now, rise9300 := remeasure 9300 u s.now } }
    else s1
  supplyFalls (if fast then (levelState u).lower .crank else levelState u)
    { s2 with power := { s2.power with samples := (u :: s.power.samples).take 20 } }

/-- The state a measure that has reached 50 ms leads to, the highest first (R171). -/
def risen (now : Nat) (p : Power) : Supply :=
  let done (m : Option Nat) : Bool := match m with
    | some t => decide (t + 50000 ≤ now)
    | none => false
  if done p.rise9300 then .normal else if done p.rise7800 then .low else if done p.rise6300 then .crank else .under

/-- The earliest time at which a measure of a level above the supply state reaches 50 ms (R171, log 40, DEDUCED). -/
def riseAt (p : Power) : Option Nat :=
  let cands := (if p.supply.rank < 1 then p.rise6300.toList else []) ++ (if p.supply.rank < 2 then p.rise7800.toList else [])
    ++ (if p.supply.rank < 3 then p.rise9300.toList else [])
  (cands.map (· + 50000)).min?

/-- The supply state rises to the highest state whose measure has reached 50 ms (R171). -/
def supplyRises (s : State) : State :=
  if s.power.supply.rank < (risen s.now s.power).rank then setSupply (risen s.now s.power) s else s

/-- The supply state, history and measures from a first sample (R171, R184). -/
def firstSample (u now : Nat) (p : Power) : Power :=
  { p with supply := levelState u, samples := [u], sampleAt := now, rise6300 := measure 6300 u now none
           rise7800 := measure 7800 u now none, rise9300 := measure 9300 u now none }

/-! ## Sleep (R175 to R178) -/

/-- The wake set of all five stations with a cause (R179). -/
def wakePayload (c : WakeCause) : Payload := .wake allStations allStations allStations allStations c

/-- SLEEP PENDING is entered from RUN: going-to-sleep is set and announced, or in LINE FAULT the quiet timer starts
(R176). -/
def enterSleepPending (s : State) : State :=
  if s.power.state = .run then
    let s1 := { s with power := { s.power with state := .sleepPending, going := true, selfAbort := false
                                               sleepDue := none, quietEnd := none } }
    if inLineFault s then { s1 with power := { s1.power with quietEnd := some (s.now + 100000) } }
    else queueAnnouncement s1
  else s

/-- The agreement count moves as at an own announcement sent; at 2 the station enters SLEEP PENDING (R175). -/
def moveAgreement (s : State) : State :=
  let n := if agreement s then min 2 (s.power.agree + 1) else 0
  let s1 := { s with power := { s.power with agree := n } }
  if n = 2 then enterSleepPending s1 else s1

/-- The power manager is told of an own announcement sent (R159, R175, R176). -/
def announcementSent (going : Bool) (s : State) : State :=
  if going then
    if s.power.state = .sleepPending ∧ s.power.quietEnd = none then
      { s with power := { s.power with quietEnd := some (s.now + 100000) } }
    else s
  else moveAgreement s

/-- A peer's going-to-sleep is followed (R175). -/
def followPeer (s : State) : State := if 1 ≤ s.power.agree ∧ agreement s then enterSleepPending s else s

/-- An abort of the sleep: back to RUN, CENSUS queued, and for a local input a wake mark and a WAKE (R177). -/
def abortSleep (cause : Option WakeCause) (s : State) : State :=
  if s.power.state = .sleepPending then
    let s1 := queueCensus { s with power := { s.power with
      state := .run, agree := 0, quietEnd := none, going := false, sleepDue := none, selfAbort := false } }
    match cause with
    | some c =>
        if inLineFault s then s1
        else queueFrame (wakePayload c) { s1 with line := { s1.line with markWanted := true } }
    | none => s1
  else s

/-- An own ANNOUNCEMENT that waits is withdrawn without a report (R141, R178). -/
def withdrawAnnouncement (s : State) : State := withdraw (fun p => p.kind == 12) s

/-- SLEEP is entered (R178, R153, R193); the latch filter is no timer that runs on (R71, log 34, DEDUCED). -/
def enterSleep (s : State) : State :=
  let s1 := withdrawAnnouncement s
  { s1 with
    power := { s1.power with state := .sleep, quietEnd := none, sleepDue := none, selfAbort := false, agree := 0
                             loneFrom := none, filter := .watching }
    latch := { s1.latch with filterEnd := none }
    line := { s1.line with rx := [], markWanted := false, markEnd := none, extEnd := none }
    store := { s1.store with pairing := none } }

/-! ## Wake (R179, R182) -/

/-- The line interface at a wake: a LINE FAULT other than CLASH ends (R153). -/
def lineWake (now : Nat) (l : Line) : Line :=
  { l with cond := .busy, freeAt := now + 240, holdFrom := none, tx := [], rx := [], gateOpen := false, ext := 0
           extEnd := none, failures := 0, markWanted := false, markEnd := none, recoverAt := none
           state := if l.state = .lineFault .clash then l.state else .ok }

/-- Steps 1 and 2 of a wake: the power state, the supply and every block's wake state (R71, R95, R132, R153, R169,
R179, R199). The patrol takes its next step 100 ms later (R191, log 86, DESIGN CHOICE). The
first sample is the latest reading of the supply sense (R171, log 103, DESIGN CHOICE). -/
def wakeBlocks (s : State) : State :=
  let s1 : State := { s with
    power := { firstSample s.pins.supplySense s.now s.power with
      state := .run, localAt := s.now, agree := 0, loneFrom := none, quietEnd := none, going := false
      sleepDue := none, selfAbort := false, filter := .watching }
    latch := { s.latch with position := s.pins.latchSwitch, filterEnd := none }
    search := { s.search with record := none, held := none, claims := [], burst := none }
    line := lineWake s.now s.line
    store := { s.store with patrolAt := s.now } }
  beginStartHold (censusWake s1)

/-- A local wake: the blocks, then the mark and the frames; a station in CLASH queues none (R179). The frames are queued
here and wait for the mark to be driven (R153, log 109, DEDUCED). -/
def localWake (c : WakeCause) (s : State) : State :=
  let s1 := wakeBlocks s
  if inLineFault s1 then s1
  else firstFrames (queueFrame (wakePayload c) { s1 with line := { s1.line with markWanted := true } })

/-- A wake by an accepted WAKE: no mark and no WAKE (R182). -/
def wakeByLine (s : State) : State :=
  let s1 := wakeBlocks s
  if inLineFault s1 then s1 else firstFrames s1

/-- A local input with its cause: it wakes a sleeping station, aborts a sleep, and restarts the local-activity timer
(R173, R176, R179, log 41, DEDUCED). -/
def localCause (c : WakeCause) (s : State) : State :=
  match s.power.state with
  | .sleep => localInput (localWake c s)
  | .sleepPending => localInput (abortSleep (some c) s)
  | .run => localInput s

/-- A cause that wakes a sleeping station without being a local input: a receiver frame, the relock timer (R179). -/
def wakeCause (c : WakeCause) (s : State) : State := if s.power.state = .sleep then localWake c s else s

/-! ## The wake filter (R180, R181) -/

/-- A dominant run the filter or the line takes as a wake mark: 0.5..2 ms (R176, R180). -/
def isMark (us : Nat) : Bool := decide (500 ≤ us) && decide (us ≤ 2000)

/-- A good frame is a WAKE whose four copies are equal and name the station (R181, log 35, DEDUCED). -/
def acceptsWake (r : RawFrame) (a : Addr) : Bool :=
  r.kind == 15 &&
    match r.data with
    | [w, x, y, z, _] => w == x && x == y && y == z && w.getLsbD a.val
    | _ => false

/-- The filter rejects: WATCHING again and one more spurious wake (R180, R181). -/
def spuriousWake (s : State) : State :=
  { s with power := { s.power with filter := .watching, spurious := satInc s.power.spurious } }

end Sys2Proof.Machine
end

