-- ==== Sys2Proof/Machine/Line.lean ====
section
/-! DEFINITION. The line interface's operations (chapter 7): LINE FAULT, reports in line order, sending, reception,
overload extensions and delivery. -/

namespace Sys2Proof.Machine

/-! ## LINE FAULT (R147, R149) -/

/-- When recovery falls for a cause, as known at entry (R149). -/
def recoveryAt (now : Nat) : LineCause → Option Nat
  | .failures => some (now + 1000000)
  | _ => none

/-- A cause changes in LINE FAULT: CLASH takes over any cause, HELD takes over FAILURES (R136, R147). -/
def changeCause (c old : LineCause) (s : State) : State :=
  if c = .clash ∨ (c = .held ∧ old = .failures) then
    { s with line := { s.line with state := .lineFault c, recoverAt := none } }
  else s

/-- The jobs of the discarded frames are told "not sent", in queue order (R147). -/
def tellNotSent : List TxEntry → State → State
  | [], s => s
  | e :: es, s => tellNotSent es (tell e s)

/-- The line interface at entry to LINE FAULT: the queue emptied, no extension and no mark (R147, R148). -/
def faultLine (c : LineCause) (now : Nat) (l : Line) : Line :=
  { l with
    state := .lineFault c, recoverAt := recoveryAt now c, failures := 0, tx := [], extEnd := none
    markWanted := false, markEnd := none
    cond := if l.tx.any (fun e => e.inTx) then .busy else l.cond
    freeAt := if l.tx.any (fun e => e.inTx) then now + 240 else l.freeAt }

/-- LINE FAULT is entered with a cause (R147): the queue is emptied, every block takes the entry, and then the jobs
are told. A further cause only changes the cause. -/
def enterLineFault (c : LineCause) (s : State) : State :=
  match s.line.state with
  | .lineFault old => changeCause c old s
  | .ok =>
      let s1 := { s with line := faultLine c s.now s.line }
      tellNotSent s.line.tx (searchLineFault (intentsLineFault s1))

/-- Recovery from LINE FAULT (R149, R160, R78, log 42, DEDUCED). -/
def recoverLine (s : State) : State :=
  let s1 := { s with
    line := { s.line with state := .ok, recoverAt := none, gateOpen := false, failures := 0 }
    census := { s.census with balance := 0, urgent := false, censusOwed := false } }
  beginStartHold (firstFrames s1)

/-- The line reads recessive at time `t` after a dominant bit: in LINE FAULT with cause HELD the 50 ms start again
from there (R149). -/
def restartRecovery (t : Nat) (s : State) : State :=
  if s.line.state = .lineFault .held then { s with line := { s.line with recoverAt := some (t + 50000) } } else s

/-! ## Reports in line order (R140) -/

/-- What a block does when its frame is reported "sent" (R84, R116, R137, R159, R198). The station's own FOB RELAY
reaches its own search unit here (R111, R140, log 97, DEDUCED). -/
def reportSent (p : Payload) (endAt : Nat) (s : State) : State :=
  match p with
  | .intent i => startAttemptTimer i s
  | .searchClaim => if awaitsClaim p s then claimSent endAt s else s
  | .interiorSearch _ _ => if awaitsClaim p s then claimSent endAt s else s
  | .census .. => { s with line := { s.line with gateOpen := true } }
  | .announcement a => announcementSent (a.going == some true) (balanceRises s)
  | .fobRelay r => weighReply r s
  | .serviceReply _ k .done => if k.toNat = 7 then replyReported s else s
  | _ => s

/-- The "sent" reports at the head of the receive queue are handed over (R140, R145). -/
def drainList : List RxItem → State → State
  | .sent p e :: rest, s => drainList rest (reportSent p e { s with line := { s.line with rx := rest } })
  | _, s => s

def drainReports (s : State) : State := drainList s.line.rx s

/-! ## Delivery (R145) -/

/-- The epochs a delivered frame brings, raised before anything else (R73, R145); of an ack the answered intent's is
taken before the sender's (log 102, DESIGN CHOICE). -/
def raiseFrom (p : Payload) (s : State) : State :=
  match p with
  | .intent i => raiseEpoch i.epoch s
  | .intentAck a => raiseEpoch a.ownEpoch (raiseEpoch a.epoch s)
  | .announcement a => raiseEpoch a.epoch s
  | .census _ _ _ ep => raiseEpoch ep s
  | _ => s

/-- A delivered frame other than a going-to-sleep ANNOUNCEMENT aborts a sleep (R176). -/
def frameAborts : Payload → Bool
  | .announcement a => a.going != some true
  | _ => true

/-- The frame at the head of the receive queue is delivered to its blocks by `f`, heard by the census unit, and leaves
the queue (R134, R145, R163). -/
def deliver (fr : Frame) (endAt : Nat) (rest : List RxItem) (f : Frame → Nat → State → State) (s : State) : State :=
  let s1 := raiseFrom fr.payload { s with line := { s.line with rx := rest } }
  let s2 := if frameAborts fr.payload then abortSleep none s1 else s1
  drainReports (heard fr.origin (f fr endAt s2))

/-- The head frame is delivered if it is one that the command speaks of; else nothing happens (log 4, DESIGN CHOICE). -/
def takeHead (is : Payload → Bool) (f : Frame → Nat → State → State) (s : State) : State :=
  match s.line.rx with
  | .frame fr e :: rest => if is fr.payload then deliver fr e rest f s else s
  | _ => s

/-! ## Overload extensions (R146) -/

/-- The frames held in the receive queue. -/
def framesHeld (rx : List RxItem) : Nat := rx.countP fun x => match x with
  | .frame _ _ => true
  | .sent _ _ => false

/-- The test at the end of a frame or an extension (R146); the gap is measured from the end of an extension
(log 46, DEDUCED), or from a later dominant bit of the frame; a line that is HELD stays so (R135). -/
def overloadTest (s : State) : State :=
  if 7 ≤ framesHeld s.line.rx ∧ s.line.ext < 2 ∧ inLineFault s = false then
    { s with line := { s.line with ext := s.line.ext + 1, extEnd := some (s.now + 160)
                                   cond := if s.line.cond = .held then .held else .busy
                                   freeAt := max s.line.freeAt (s.now + 160 + 260) } }
  else { s with line := { s.line with extEnd := none } }

/-- The end of a frame or of its abandoning: BUSY, and FREE after a gap (R135). -/
def endFrame (us : Nat) (s : State) : State :=
  { s with line := { s.line with cond := .busy, freeAt := s.now + us } }

/-! ## Sending (R137 to R141) -/

/-- The census gate lets a frame pass (R137). -/
def gatePasses (open_ : Bool) (p : Payload) : Bool := open_ || p.kind == 13 || p.kind == 15

/-- The head of the transmit queue: the first frame that the gate lets pass goes into transmission (R137, R141). -/
def markHead (open_ : Bool) : List TxEntry → Option (List TxEntry)
  | [] => none
  | e :: es =>
      if gatePasses open_ e.frame.payload then some ({ e with inTx := true } :: es)
      else (markHead open_ es).map (e :: ·)

/-- The line is or becomes FREE for a frame to start: no extension, no wake mark (R137, R146, R177). -/
def lineClear (s : State) : Bool :=
  awake s && !s.line.markWanted && s.line.markEnd.isNone && s.line.extEnd.isNone
    && (s.line.cond == .free || s.line.cond == .busy)

/-- The time at which the line is FREE, not before now (R135). -/
def freeTime (s : State) : Nat := if s.line.cond = .busy then max s.now s.line.freeAt else s.now

/-- The head frame starts at the FREE line (R137). -/
def startFrame (s : State) : State :=
  if lineClear s && !inLineFault s then
    match markHead s.line.gateOpen s.line.tx with
    | some tx =>
        let s1 := advanceTo (freeTime s) s
        { s1 with line := { s1.line with tx := tx, cond := .frame, frameAt := s1.now, ext := 0 } }
    | none => s
  else s

/-- The frame in transmission. -/
def inTxEntry (s : State) : Option TxEntry := s.line.tx.find? fun e => e.inTx

/-- The queue with the frame in transmission changed. -/
def mapInTx (f : TxEntry → TxEntry) (l : List TxEntry) : List TxEntry := l.map fun e => if e.inTx then f e else e

/-- The queue without the frame in transmission. -/
def dropInTx (l : List TxEntry) : List TxEntry := l.filter fun e => !e.inTx

/-- An ANNOUNCEMENT in transmission that a newer one waits behind is removed without a report when it loses
arbitration or meets a bit error (R142). -/
def superseded (e : TxEntry) (s : State) : Bool := isAnnouncement e && announcementWaits s

/-- The age of the own ANNOUNCEMENT that waits. -/
def waitingAge (s : State) : Option Nat := (s.line.tx.find? fun e => isAnnouncement e && !e.inTx).map fun e => e.age

/-- A superseded ANNOUNCEMENT leaves the queue without a report; a SLEEP that waited for its report waits for that of
the newer one (R142, R178, log 88, DESIGN CHOICE). -/
def supersede (e : TxEntry) (s : State) : State :=
  { s with
    line := { s.line with tx := dropInTx s.line.tx }
    power := { s.power with sleepDue := if s.power.sleepDue = some e.age then waitingAge s else s.power.sleepDue } }

/-- Arbitration is lost: the frame waits again, and the station receives the frame in progress (R138, R142). -/
def loseArbitration (s : State) : State :=
  match inTxEntry s with
  | none => s
  | some e =>
      if superseded e s then supersede e s
      else { s with line := { s.line with tx := mapInTx (fun x => { x with inTx := false }) s.line.tx } }

/-- The frame is dropped after its 8th bit error (R139). -/
def dropFailed (e : TxEntry) (s : State) : State :=
  let s1 := tell e
    { s with line := { s.line with tx := dropInTx s.line.tx, txFails := satInc s.line.txFails
                                   failures := s.line.failures + 1 } }
  if 32 ≤ s1.line.failures then enterLineFault .failures s1 else s1

/-- A bit error: the abandon mark of 16 bit times, and the error count (R139). The 8th bit error of a superseded
ANNOUNCEMENT only removes it, and raises no count (R142, log 83, DESIGN CHOICE). No overload test is made (R146,
log 108, DESIGN CHOICE). -/
def meetBitError (s : State) : State :=
  match inTxEntry s with
  | none => s
  | some e =>
      let s1 := endFrame 560 s
      if superseded e s then supersede e s1
      else if 7 ≤ e.errors then dropFailed e s1
      else { s1 with line := { s1.line with
              tx := mapInTx (fun x => { x with inTx := false, errors := x.errors + 1 }) s1.line.tx } }

/-- The report of a frame sent, for a job that waits for it (R140, R141). -/
def sentReport (e : TxEntry) (now : Nat) : List RxItem := if e.jobless then [] else [.sent e.frame.payload now]

/-- The frame in transmission has been read back whole: it leaves the queue, the failures clear, and its report joins
the line order (R140, R146). -/
def finishFrame (s : State) : State :=
  match inTxEntry s with
  | none => s
  | some e =>
      let s1 := endFrame 240 (advanceTo (s.line.frameAt + frameBitTimes e.frame.payload.data.length * 20) s)
      let s2 := { s1 with line := { s1.line with
        tx := dropInTx s1.line.tx, failures := 0, rx := s1.line.rx ++ sentReport e s1.now } }
      drainReports (overloadTest s2)

/-- When the line is FREE after a dominant run that ends now: after a gap, and not before the gap after an own overload
extension or wake mark that is still driven (R135, R146). -/
def freeAfterRun (s : State) : Nat :=
  max (s.now + 240) (max ((s.line.extEnd.map (· + 260)).getD 0) ((s.line.markEnd.map (· + 240)).getD 0))

/-- A dominant run of `us` that is no part of a frame ends now: BUSY, the measure of a recovery starts again, and a
wake mark aborts a sleep (R135, R136, R149, R176). -/
def runEnds (us : Nat) (s : State) : State :=
  let s1 := restartRecovery s.now { s with line := { s.line with cond := .busy, freeAt := freeAfterRun s } }
  if isMark us then abortSleep none s1 else s1

/-- A dominant run of `us` in all that began at `start` and is no part of a frame: 100 ms of it bring LINE FAULT with
cause HELD (R136), and then it ends. -/
def readRun (start us : Nat) (s : State) : State :=
  let s1 := if 100000 ≤ us then enterLineFault .held (advanceTo (start + 100000) s) else s
  runEnds us (advanceTo (start + us) s1)

/-! ## Reception (R143 to R145, R150) -/

/-- A frame is discarded and counted (R143, R144, R150). -/
def countDamaged (s : State) : State := { s with line := { s.line with damaged := satInc s.line.damaged } }

/-- A good frame with the own address: discarded, LINE FAULT with cause CLASH, and the fault CLASH (R150). -/
def clash (r : RawFrame) (s : State) : State :=
  enterFault .clash (byte r.kind) (enterLineFault .clash (countDamaged s))

/-- A good frame of another origin: judged by its kind, and joined to the receive queue (R144, R145, R201). -/
def joinFrame (r : RawFrame) (s : State) : State :=
  match (if acceptedOrigin r.kind r.origin then decodePayload r.kind r.data else none) with
  | none => countDamaged s
  | some p =>
      if 8 ≤ framesHeld s.line.rx then { s with line := { s.line with overruns := satInc s.line.overruns } }
      else
        { s with line := { s.line with
            rx := s.line.rx ++ [.frame { cls := r.cls, origin := r.origin, payload := p } s.now] } }

/-- A frame read from the line is judged (R143, R144, R150). -/
def judgeFrame (bits : List Bool) (s : State) : State :=
  match readFrame bits with
  | none => countDamaged s
  | some r => if r.origin = s.addr then clash r s else joinFrame r s

/-- When the frame being received began: after a lost arbitration its sync was the own one (R138). -/
def receptionStart (s : State) : Nat := if s.line.cond = .frame then s.line.frameAt else freeTime s

/-- The station may be receiving a frame: it is awake, sends none, and no own mark or extension is driven (R143). -/
def mayReceive (s : State) : Bool :=
  awake s && (inTxEntry s).isNone && s.line.markEnd.isNone && s.line.extEnd.isNone && s.line.cond != .held

/-- The bits given up to and with the last dominant one. -/
def lastDominant (bits : List Bool) : Nat := bits.length - (bits.reverse.takeWhile id).length

/-- The end of a frame received or of its discarding: its judgment at the bit that settles it, then the overload test,
in mid-frame at the bit that discards it (log 78, DESIGN CHOICE). The gap is measured from that end, or from a later
dominant bit (R135, R143, R146). -/
def readReception (bits : List Bool) (s : State) : State :=
  let start := receptionStart s + 240
  let dominant := start + lastDominant bits * 20
  let s1 := advanceTo (start + bitsRead bits * 20) s
  let s2 := { s1 with line := { s1.line with cond := .busy, freeAt := max s1.now dominant + 240, ext := 0 } }
  drainReports (overloadTest (judgeFrame bits (restartRecovery dominant s2)))

/-- The dominant bits that follow the 12 of a run which began at the FREE line. -/
def leadingDominant (bits : List Bool) : Nat := (bits.takeWhile fun b => !b).length

/-- A dominant run of more than 12 bit times is no sync, and no frame follows it: the run ends, one of more than 20 bit
times as a hold and one of 100 ms as LINE FAULT, and FREE is measured again from the last dominant bit (R135, R136,
log 80, DESIGN CHOICE). -/
def ignoreRun (bits : List Bool) (s : State) : State :=
  let start := freeTime s
  let dominant := start + (12 + lastDominant bits) * 20
  let s1 := readRun start ((12 + leadingDominant bits) * 20) s
  restartRecovery dominant { s1 with line := { s1.line with freeAt := max s1.line.freeAt (dominant + 240) } }

/-- A dominant run at the line and the bits after its 12th: a frame in reception, or no sync (R135, R143). After a lost
arbitration the sync was the own one (R138). -/
def receiveBits (bits : List Bool) (s : State) : State :=
  if !mayReceive s then s
  else if s.line.cond ≠ .frame ∧ bits.head? = some false then ignoreRun bits s
  else readReception bits s

end Sys2Proof.Machine
end

