-- ==== Sys2Proof/Machine/Store.lean ====
section
/-! DEFINITION. The record store interface's operations (chapter 10): resets and loads, writes, patrol, service
requests and the status record. -/

namespace Sys2Proof.Machine

/-! ## Values after a reset, before the load -/

/-- A write under way is cut: the record then fails its check (R190, log 28, DEDUCED). -/
def cutWrite (s : State) : Vector (Option (List Byte)) 10 :=
  match s.store.writing with
  | some w => if w.underWay then s.store.records.set w.id.index none else s.store.records
  | none => s.store.records

/-- Every block at its values after a reset, nothing loaded and no frame queued; the input lines, the external store
and the clock go on (R25, R47, R70, R95, R114, R132, R152, R168, R184, R199). The switch pack's entries are input lines
that go on; no SWITCH PACK has been queued yet (R15, log 57, DESIGN CHOICE). No coast window follows a motor that the
reset turns off (R1, R25, log 113, DESIGN CHOICE). -/
def blankState (s : State) : State :=
  { State.reset with
    now := s.now, pending := s.pending, freeCount := s.freeCount, pins := s.pins, addr := s.pins.strap
    win := { State.reset.win with pack := s.win.pack }
    latch := { State.reset.latch with position := s.pins.latchSwitch }
    intent := { State.reset.intent with startHold := none }
    line := { State.reset.line with tx := [], nextAge := 0, freeAt := s.now + 240 }
    census := { State.reset.census with faults := Vector.replicate 5 none }
    store := { State.reset.store with records := cutWrite s, patrolAt := s.now } }

/-- The station is held in reset: outputs off, the line released (R183). -/
def holdReset (s : State) : State :=
  let b := blankState s
  { b with power := { b.power with heldSince := some s.now } }

/-- The supply sense read while the station is held in reset: a reading below 4500 mV starts the 20 ms afresh (R183). -/
def senseInReset (u : Nat) (s : State) : State :=
  { s with
    pins := { s.pins with supplySense := u }
    power := { s.power with heldSince := if u < 4500 then some s.now else s.power.heldSince } }

/-! ## The load (R186) -/

/-- CONFIG (R187): stored values with defaults for those out of range, the capability set adjusted by address. -/
def loadConfig (s : State) : State :=
  match (readRecord .config s).bind decodeConfig with
  | some c =>
      let cfg := { defaulted c with caps := adjustCaps s.addr c.caps }
      let s1 := { s with cfg := cfg, store := { s.store with pendingCfg := cfg } }
      if 0 < defaultedCount c then enterFault .configDefaulted (byte (defaultedCount c)) s1 else s1
  | none =>
      let cfg := defaultSettings s.addr
      enterFault .configDefaulted 255#8 { s with cfg := cfg, store := { s.store with pendingCfg := cfg } }

/-- The slot a key record loads (R114). -/
def loadedSlot (n : Slot) (c : Option SlotCover) : KeySlot :=
  match c with
  | none => resetSlot n
  | some c =>
      let k := { resetSlot n with state := c.state, identity := c.identity, sHi := c.sHi, sLo := c.sLo
                                  counter := c.counter, storeCurrent := true }
      { k with check := slotCover n k }

/-- KEY n: EMPTY for a bad record, and for an identity a lower slot already holds (R114). -/
def loadKey (s : State) (n : Slot) : State :=
  let k := loadedSlot n ((readRecord (.key n) s).bind (decodeKey n))
  let dup := (List.finRange 6).any fun m =>
    decide (m.val < n.val) && s.keys.slots[m].state == .paired && s.keys.slots[m].identity == k.identity
  { s with keys := { s.keys with slots := s.keys.slots.set n (if k.state = .paired ∧ dup then resetSlot n else k) } }

/-- One profile entry as stored; a value above 16383 loads unlearned (R43), with the value 0 (log 99, DESIGN CHOICE). -/
def loadedZone (f : Zone → Bool × Nat) (z : Zone) : ZoneEntry :=
  if 16383 < (f z).2 then zoneEntry z false 0 else zoneEntry z (f z).1 (f z).2

/-- PROFILE (R43); a bad or absent record and another travel leave every zone as `resetZone` has it (log 99, DESIGN
CHOICE). -/
def loadProfile (s : State) : State :=
  match (readRecord .profile s).bind decodeProfile with
  | some (travel, f) =>
      if travel = s.cfg.travel then { s with pinch := { s.pinch with profile := Vector.ofFn (loadedZone f) } }
      else queueRecord .profile s
  | none => s

/-- p clamped to the bounds of the count (R1, R25). -/
def clampCount (c : Settings) (p : Int) : Int := max countLow (min (countHigh c) p)

/-- WINDOW STATE (R25, log 44, DEDUCED). -/
def loadWindow (s : State) : State :=
  match (readRecord .windowState s).bind decodeWindow with
  | some (unnorm, moving, owed, p, p0) =>
      s.withWin { s.win with
        p := clampCount s.cfg p, norm := !unnorm && !moving && clampCount s.cfg p == p
        dropOwed := if owed && !moving then some p0 else none }
  | none => s

/-- LATCH STATE (R70). -/
def loadLatch (s : State) : State :=
  match (readRecord .latchState s).bind decodeLatch with
  | some (l, engaged) =>
      let c : ChildState := if isRear s then (if engaged then .engaged else .released) else .notFitted
      if l = .deadlocked ∧ s.latch.position = .opened then
        queueRecord .latchState { s with latch := { s.latch with lock := .locked, child := c } }
      else { s with latch := { s.latch with lock := l, child := c } }
  | none =>
      { s with latch := { s.latch with lock := .unlocked, child := if isRear s then .engaged else .notFitted } }

/-- The ten records read in their order (R186). -/
def loadRecords (s : State) : State :=
  loadLatch (loadWindow (loadProfile ((List.finRange 6).foldl loadKey (loadConfig s))))

/-- A reset ends: values after reset, the supply from the first sample, the records loaded, the peer table and timers
set up, the start hold begun, and CENSUS and the first ANNOUNCEMENT queued (R183, R186, R198). The first sample is the
latest reading of the supply sense, also at a service reset, which brings none (R171, log 103, DESIGN CHOICE). -/
def boot (s : State) : State :=
  let b := blankState s
  let s1 := loadRecords
    { b with power := { firstSample s.pins.supplySense s.now b.power with localAt := s.now } }
  firstFrames (beginStartHold (censusWake s1))

/-! ## Writes (R189) -/

/-- The content of a record as it stands in RAM (R25, R43, R69, R113, R196). -/
def recordContent (r : RecordId) (s : State) : List Byte :=
  match r with
  | .config => configContent s.store.pendingCfg
  | .key n => keyContent n s.keys.slots[n]
  | .profile => profileContent s.cfg.travel s.pinch.profile
  | .windowState => windowContent s.win
  | .latchState => latchContent s.latch

/-- A write begins with a snapshot of the head id's record (R188 to R190). -/
def beginWrite (s : State) : State :=
  match s.store.writing, s.store.queue with
  | none, r :: rest =>
      if s.power.supply.poor then s
      else
        { s with store := { s.store with
            queue := rest
            writing := some { id := r, snapshot := recordBytes r (recordContent r s), attempt := 1, underWay := true } } }
  | _, _ => s

/-- The write is verified and its owner told (R113, R189). -/
def writeVerified (w : Writing) (s : State) : State :=
  let s1 := { s with store := { s.store with writing := none } }
  match w.id with
  | .key n => keyVerified n w.stale s1
  | _ => s1

/-- An attempt ends with what the record then holds and whether the store answers the read-back (R189, R190); a third
attempt without an answer drops the write like one that differs (log 104, DESIGN CHOICE). -/
def endAttempt (content : List Byte) (answers : Bool) (s : State) : State :=
  match s.store.writing with
  | none => s
  | some w =>
      if !w.underWay then s
      else
        let s1 := { s with
          pins := { s.pins with storeAnswers := answers }
          store := { s.store with records := s.store.records.set w.id.index (some content) } }
        if answers = true ∧ content = w.snapshot then writeVerified w s1
        else if w.attempt < 3 then
          { s1 with store := { s1.store with
              writing := some { w with attempt := w.attempt + 1, underWay := !s.power.supply.poor } } }
        else enterFault .store (byte w.id.code) { s1 with store := { s1.store with writing := none } }

/-! ## Patrol (R191) -/

/-- The item of a patrol index is checked (R191). -/
def patrolItem (i : Fin 38) (s : State) : State :=
  if i.val < 6 then readSlot (Fin.ofNat 6 i.val) s
  else
    let z : Zone := Fin.ofNat 32 (i.val - 6)
    if zoneGood z s.pinch.profile[z] then s else unlearnZone z s

/-! ## Service requests (R192 to R198) -/

/-- A reply to a request. -/
def reply (number kind : Byte) (r : ServiceResult) (s : State) : State := queueFrame (.serviceReply number kind r) s

/-- The parts of a SERVICE REQUEST (R201): number, targets, kind and parameters; 255 stands for a missing kind. -/
structure ServiceParts where
  number : Byte
  targets : Byte
  kind : Byte
  params : List Byte
deriving DecidableEq, Repr

/-- A request as its octets give it; `none` where no target set is present (log 45, DEDUCED). -/
def serviceParts : List Byte → Option ServiceParts
  | n :: t :: k :: ps => some { number := n, targets := t, kind := k, params := ps }
  | [n, t] => some { number := n, targets := t, kind := 255#8, params := [] }
  | _ => none

/-- A delivered SERVICE REQUEST is of a request kind of R192. -/
def isService (k : Nat) : Payload → Bool
  | .serviceRequest r =>
      match serviceParts r.bytes with
      | some q => q.kind.toNat == k
      | none => false
  | _ => false

/-- A delivered SERVICE REQUEST has no defined request kind, or lacks its kind. -/
def isUndefinedService : Payload → Bool
  | .serviceRequest r =>
      match serviceParts r.bytes with
      | some q => decide (8 < q.kind.toNat)
      | none => true
  | _ => false

/-- A targeted station acts by `f`, unless a flush is on and the request is neither READ STATUS nor SERVICE RESET
(R192). -/
def serve (f : ServiceParts → State → State) (fr : Frame) (_endAt : Nat) (s : State) : State :=
  match fr.payload with
  | .serviceRequest r =>
      match serviceParts r.bytes with
      | none => s
      | some q =>
          if q.targets.getLsbD s.addr.val = false then s
          else if s.store.flush.isSome ∧ q.kind.toNat ≠ 6 ∧ q.kind.toNat ≠ 7 then reply q.number q.kind (.refused .busy) s
          else f q s
  | _ => s

/-- A refusal with its reason. -/
def refuse (q : ServiceParts) (r : ServiceReason) (s : State) : State := reply q.number q.kind (.refused r) s

/-- DONE. -/
def done (q : ServiceParts) (s : State) : State := reply q.number q.kind .done s

/-- The slot a parameter octet names. -/
def slotOf (b : Byte) : Option Slot := if h : b.toNat < 6 then some ⟨b.toNat, h⟩ else none

/-- PAIR SECRET (R193). -/
def doPairSecret (q : ServiceParts) (s : State) : State :=
  match q.params with
  | [n, a, b, c, d, e, f, g, h] =>
      match slotOf n with
      | none => refuse q .range s
      | some slot =>
          if s.latch.lock ≠ .unlocked then refuse q .notUnlocked s
          else if crashHold s then refuse q .crashHold s
          else done q { s with store := { s.store with
            pairing := some { slot := slot, sHi := word32 a b c d, sLo := word32 e f g h, expiry := s.now + 5000000 } } }
  | _ => refuse q .range s

/-- PAIR KEY after its parameters (R193). -/
def pairKeyWith (q : ServiceParts) (slot : Slot) (id : Word32) (c : Counter) (s : State) : State :=
  if s.latch.lock ≠ .unlocked then refuse q .notUnlocked s
  else if crashHold s then refuse q .crashHold s
  else
    match s.store.pairing with
    | none => refuse q .noSecret s
    | some b =>
        if b.slot ≠ slot then refuse q .noSecret s
        else
          let s1 := readAllSlots s
          if duplicateKey slot id s1 then refuse q .duplicate s1
          else
            let s2 := pairSlot slot id b.sHi b.sLo c s1
            done q { s2 with store := { s2.store with pairing := none } }

/-- PAIR KEY (R193). -/
def doPairKey (q : ServiceParts) (s : State) : State :=
  match q.params with
  | [n, a, b, c, d, x, y, z] =>
      match slotOf n with
      | none => refuse q .range s
      | some slot => pairKeyWith q slot (word32 a b c d) (word24 x y z) s
  | _ => refuse q .range s

/-- REMOVE KEY (R193). -/
def doRemoveKey (q : ServiceParts) (s : State) : State :=
  match q.params with
  | [n] =>
      match slotOf n with
      | none => refuse q .range s
      | some slot => done q (removeSlot slot s)
  | _ => refuse q .range s

/-- CLEAR HALT (R63, R194). -/
def doClearHalt (q : ServiceParts) (s : State) : State :=
  if q.params = [] then done q (clearHaltOp s) else refuse q .range s

/-- All 32 zones become unlearned (R43), with the value 0 (log 99, DESIGN CHOICE). -/
def unlearnAll (s : State) : State :=
  queueRecord .profile { s with pinch := { s.pinch with profile := Vector.ofFn fun z => zoneEntry z false 0 } }

/-- RELEARN WINDOW (R194): WINDOW STATE is queued whatever the normalisation was. -/
def doRelearn (q : ServiceParts) (s : State) : State :=
  if q.params ≠ [] then refuse q .range s
  else if s.win.motion ≠ .idle then refuse q .busy s
  else done q (queueRecord .windowState (unnormalise (unlearnAll s)))

/-- The value octets of a field number (R196, R201). -/
def fieldWidth : Nat → Nat
  | 2 | 5 | 8 | 9 | 15 => 2
  | 7 => 3
  | _ => 1

/-- The number of a value's octets, most significant first. -/
def valueOf (bs : List Byte) : Nat := bs.foldl (fun n b => n * 256 + b.toNat) 0

/-- A configuration field's range (R187, R201), by field number. -/
def fieldInRange (f v : Nat) : Bool :=
  match f with
  | 0 | 12 | 13 => decide (v ≤ 1)
  | 1 => decide (v < 32)
  | 2 => decide (64 ≤ v) && decide (v ≤ 2048)
  | 3 => decide (8 ≤ v) && decide (v ≤ 64)
  | 4 => decide (16 ≤ v) && decide (v ≤ 120)
  | 5 => decide (50 ≤ v) && decide (v ≤ 600)
  | 6 => decide (20 ≤ v) && decide (v ≤ 60)
  | 7 => decide (1 ≤ v)
  | 8 => decide (100 ≤ v) && decide (v ≤ 4000)
  | 9 => decide (v ≤ 16383)
  | 10 | 11 => true
  | 14 => v == 0 || (decide (15 ≤ v) && decide (v ≤ 120))
  | 15 => decide (100 ≤ v) && decide (v ≤ 1000)
  | _ => false

/-- The pending configuration with a field written (R196). -/
def writeField (f v : Nat) (c : Settings) : Settings :=
  match f with
  | 0 => { c with driveSide := if v = 0 then .left else .right }
  | 1 => { c with caps := capabilitiesOf v }
  | 2 => { c with travel := v }
  | 3 => { c with sealZone := v }
  | 4 => { c with dropDist := v }
  | 5 => { c with revDist := v }
  | 6 => { c with stallMs := v }
  | 7 => { c with kspeed := v }
  | 8 => { c with th := v }
  | 9 => { c with rfb := v }
  | 10 => { c with outerThr := v }
  | 11 => { c with innerThr := v }
  | 12 => { c with selective := v == 1 }
  | 13 => { c with deadlockEn := v == 1 }
  | 14 => { c with relockS := v }
  | 15 => { c with intervalMs := v }
  | _ => c

/-- WRITE CONFIG (R196). -/
def doWriteConfig (q : ServiceParts) (s : State) : State :=
  match q.params with
  | f :: v =>
      if v.length = fieldWidth f.toNat ∧ fieldInRange f.toNat (valueOf v) = true then
        done q (queueRecord .config
          { s with store := { s.store with pendingCfg := writeField f.toNat (valueOf v) s.store.pendingCfg } })
      else refuse q .range s
  | [] => refuse q .range s

/-! ## The status record (R197, R201) -/

/-- Two octets of a count. -/
def count16 (n : Nat) : List Byte := bytes16 (BitVec.ofNat 16 n)

def protectionCode : ProtectionMode → Nat
  | .normal => 0 | .pinchHold => 1 | .override => 2

def seqCode : SeqState → Nat
  | .idle => 0 | .dropping => 1 | .releasing => 2 | .retryWait => 3 | .halted => 4

def releaseCode : ReleaseOutcome → Nat
  | .none => 0 | .opened => 1 | .openedOtherwise => 2 | .glassBlocked => 3 | .lockChange => 4 | .childEngaged => 5
  | .supply => 6 | .halted => 7

def slotCode : SlotState → Nat
  | .empty => 0 | .paired => 1 | .suspended => 2 | .damaged => 3

def presenceCode : Presence → Nat
  | .unknown => 0 | .present => 1 | .silent => 2 | .lost => 3

def lineCode : LineState → Nat
  | .ok => 0 | .lineFault .held => 129 | .lineFault .failures => 130 | .lineFault .clash => 131

/-- The key slot states, slot n in bits 2n+1..2n (R201, log 27, DEDUCED). -/
def slotCodes (k : Keys) : BitVec 16 :=
  BitVec.ofNat 16 ((List.finRange 6).foldl (fun n i => n + slotCode k.slots[i].state * 4 ^ i.val) 0)

/-- A peer entry's part; bit 7 of the presence marks an absent last epoch, sent as 0 (R201, log 27, DEDUCED). -/
def peerPart (p : Peer) : List Byte :=
  [byte (presenceCode p.presence + (if p.epoch.isNone then 128 else 0)), byte p.unresponsive] ++ bytes16 (p.epoch.getD 0#16)

/-- The cause details of the fault set's members, in bit order (R201). -/
def faultDetails (faults : Vector (Option Byte) 5) : List Byte := faults.toList.filterMap id

/-- The contents of a part of the status record; `none` for a part out of range (R197). -/
def statusPart (part : Nat) (s : State) : Option (List Byte) :=
  match part with
  | 0 => some (announcedBytes (announcedNow s))
  | 1 => some ((faultBits s.census.faults).setWidth 8 :: faultDetails s.census.faults)
  | 2 => some (bytes16 (BitVec.ofInt 16 s.win.p) ++ num24 s.win.heat
      ++ [byte ((!s.win.norm).toNat * 128 + protectionCode s.pinch.mode)] ++ count16 s.win.drift)
  | 3 => some ([byte (seqCode s.latch.seq), byte s.latch.attempts, byte (releaseCode s.latch.lastRelease)]
      ++ bytes16 (slotCodes s.keys))
  | 4 => some (byte (lineCode s.line.state) :: count16 s.line.damaged ++ count16 s.line.overruns ++ count16 s.line.txFails)
  | 5 => some (count16 s.census.late ++ count16 s.keys.stale ++ count16 s.keys.bad ++ count16 s.power.spurious)
  | n =>
      if n ≤ 13 ∧ n - 6 ≠ s.addr.val then some (peerPart (s.census.peers[(Fin.ofNat 8 (n - 6) : Addr)])) else none

/-- READ STATUS (R197). -/
def doReadStatus (q : ServiceParts) (s : State) : State :=
  match q.params with
  | [p] =>
      match statusPart p.toNat s with
      | some bs => reply q.number q.kind (.status p bs) s
      | none => refuse q .range s
  | _ => refuse q .range s

/-- The motion request a MOVE WINDOW makes; `none` for a parameter out of range (R195, R201). -/
def moveRequest (c : Settings) : List Byte → Option Request
  | [d, m, t1, t2] =>
      if 1 < d.toNat ∨ 1 < m.toNat ∨ (m.toNat = 1 ∧ c.travel < nat16 t1 t2) then none
      else some { source := .service, dir := if d.toNat = 0 then .up else .down
                  mode := if m.toNat = 0 then .auto else .toPosition (nat16 t1 t2) }
  | _ => none

/-- MOVE WINDOW (R195): BUSY when a check of R10 refuses the request, DONE otherwise. -/
def doMoveWindow (q : ServiceParts) (s : State) : State :=
  match moveRequest s.cfg q.params with
  | none => refuse q .range s
  | some r =>
      let out := request r s
      if out.1 = .started ∨ out.1 = .stopped then done q out.2 else refuse q .busy out.2

/-- SERVICE RESET (R198): the flush and its 2 s timer start; during a flush it is answered DONE by a reply the flush
does not wait for (log 39, DEDUCED). -/
def doServiceReset (q : ServiceParts) (s : State) : State :=
  if q.params ≠ [] then refuse q .range s
  else if s.store.flush.isSome then queueJobless (.serviceReply q.number q.kind .done) s
  else done q { s with store := { s.store with flush := some { limitAt := s.now + 2000000, replyDue := true } } }

end Sys2Proof.Machine
end

