-- ==== Sys2Proof/Machine/Settle.lean ====
section
/-! DEFINITION. What follows at the end of every command: the hand-overs between blocks that depend on conditions
rather than on one event (log 8, DESIGN CHOICE), and the wrappers the meanings are written with. -/

namespace Sys2Proof.Machine

/-- A CENSUS reported "not sent" is queued again as soon as the queue admits it (R154, log 9, DESIGN CHOICE). -/
def settleCensus (s : State) : State :=
  if s.census.censusOwed && (s.line.tx.any isCensus || admitted 5 (ownCensus s) s) then
    queueCensus { s with census := { s.census with censusOwed := false } }
  else s

/-- An INTERIOR SEARCH that waits is queued as soon as it may be (R126, log 9, DESIGN CHOICE). -/
def settleInterior (s : State) : State :=
  match s.search.record with
  | some r => if interiorDue r s then claimInterior r s else s
  | none => s

/-- The own ANNOUNCEMENT that SLEEP waits for has been reported: its entry has left the transmit queue, no other is in
transmission, and no report of one waits behind a received frame (R140, R178). -/
def reportedForSleep (age : Nat) (s : State) : Bool :=
  !announcementInTx s && !(s.line.tx.any fun e => isAnnouncement e && e.age == age)
    && s.line.rx.all fun x => match x with
      | .sent p _ => p.kind != 12
      | .frame _ _ => true

/-- A sleep aborts itself when sleep-ready ceases to hold or its announcement was not sent, or is entered when the
announcement that was in transmission has been reported (R176, R178). -/
def settleSleep (s : State) : State :=
  if s.power.state = .sleepPending then
    if s.power.selfAbort || !sleepReady s then abortSleep none s
    else match s.power.sleepDue with
      | some age => if reportedForSleep age s then enterSleep s else s
      | none => s
  else s

/-- The start hold ends when every peer that is not LOST has announced (R78, R162). -/
def settleStartHold (s : State) : State :=
  if s.intent.startHold.isSome && allAnnounced s then { s with intent := { s.intent with startHold := none } } else s

/-- The lone timer and the agreement count follow their conditions (R175). -/
def settleAgreement (s : State) : State :=
  { s with power := { s.power with
      loneFrom := if allLost s && sleepReady s then some (s.power.loneFrom.getD s.now) else none
      agree := if agreement s then s.power.agree else 0 } }

/-- A status change is announced, or at +4 waits (R157, R160). -/
def settleStatus (s : State) : State :=
  if watchedFields (announcedNow s) = s.census.lastWatched ∧ s.census.statusOwed = false then s
  else if announcementWaits s || decide (s.census.balance < 4) then queueAnnouncement s
  else
    { s with census := { s.census with
        waitingChange := true, lastWatched := watchedFields (announcedNow s), statusOwed := false } }

/-- An announcement that is due is queued when none waits or is in transmission and the queue admits it (R159, R160);
after one reported "not sent" while another is in transmission it waits for that one (log 84, DESIGN CHOICE). -/
def settleDue (s : State) : State :=
  if decide (s.census.balance < 0) && !announcementWaits s && !announcementInTx s
      && admitted (announcementClass s) (.announcement (announcedNow s)) s then queueAnnouncement s
  else s

/-- The end of a command (log 8, DESIGN CHOICE). Nothing follows in SLEEP, nor in a station that the command has put
into reset (R183). -/
def settle (s : State) : State :=
  if awake s && s.power.heldSince.isNone then
    let s1 := settleSleep (settleInterior (settleCensus (takeDropAnswer s)))
    if awake s1 then settleDue (settleStatus (settleAgreement (issueHeld (settleStartHold s1)))) else s1
  else s

/-! ## Wrappers of the meanings -/

/-- A command's effect `f`; a station held in reset takes only `pin`, the level of an input line (R48, R51, R183,
log 5, DEDUCED). -/
def liveInput (pin f : State → State) (s : State) : Host.Outcome State Fault Refusal :=
  if s.power.heldSince.isSome then .next (pin s) else .next (settle (f s))

/-- A command's effect `f`, unless the station is held in reset (R183, log 5, DEDUCED). -/
def live (f : State → State) (s : State) : Host.Outcome State Fault Refusal := liveInput id f s

/-- A command's effect that does not take place in SLEEP (R172, R178, log 34, DEDUCED). -/
def whileAwake (f : State → State) (s : State) : Host.Outcome State Fault Refusal :=
  live (fun t => if awake t then f t else t) s

/-- The end of a timer: `f` at its time, or nothing if it does not run (log 1, DESIGN CHOICE)
(log 3, DESIGN CHOICE). -/
def atTime (t : Option Nat) (f : State → State) (s : State) : State :=
  match t with
  | some e => f (advanceTo e s)
  | none => s

/-- The delivery of the frame at the head of the receive queue (R145, log 4, DESIGN CHOICE). -/
def onDelivery (is : Payload → Bool) (f : Frame → Nat → State → State) (s : State) :
    Host.Outcome State Fault Refusal :=
  whileAwake (takeHead is f) s

end Sys2Proof.Machine
end

