-- ==== Sys2Proof/Machine/CensusCommands.lean ====
section
/-! DEFINITION. The meanings of the census unit's commands (chapter 8). -/

namespace Sys2Proof.Machine

/-- A delivered CENSUS (R155). -/
def takeCensus (fr : Frame) (_endAt : Nat) (s : State) : State :=
  match fr.payload with
  | .census pos caps iv ep => hearCensus fr.origin pos caps iv ep s
  | _ => s

/-- CENSUS (R155). -/
def execCensus (s : State) : Host.Outcome State Fault Refusal := onDelivery (fun p => p.kind == 13) takeCensus s

/-- A delivered ANNOUNCEMENT: entered in the peer table, then judged for sleep agreement (R161, R175). -/
def takeAnnouncement (fr : Frame) (_endAt : Nat) (s : State) : State :=
  match fr.payload with
  | .announcement a =>
      let s1 := heard fr.origin (hearAnnouncement fr.origin a s)
      if a.going = some true then followPeer s1 else s1
  | _ => s

/-- ANNOUNCEMENT (R161). -/
def execAnnouncement (s : State) : Host.Outcome State Fault Refusal :=
  onDelivery (fun p => p.kind == 12) takeAnnouncement s

/-- A frame that counts as heard and changes nothing else (R86, R161). -/
def onlyHeard (_fr : Frame) (_endAt : Nat) (s : State) : State := s

/-- WINDOW_REPORT (R161). -/
def execWindowReport (s : State) : Host.Outcome State Fault Refusal := onDelivery (fun p => p.kind == 10) onlyHeard s

/-- FAULT_NOTICE (R161). -/
def execFaultNotice (s : State) : Host.Outcome State Fault Refusal := onDelivery (fun p => p.kind == 11) onlyHeard s

/-- INTENT_OUTCOME (R86, R161). -/
def execIntentOutcome (s : State) : Host.Outcome State Fault Refusal := onDelivery (fun p => p.kind == 14) onlyHeard s

/-- SERVICE_REPLY (R161). -/
def execServiceReply (s : State) : Host.Outcome State Fault Refusal := onDelivery (fun p => p.kind == 17) onlyHeard s

/-- WAKE at a station that is awake (R134, R176): it counts as heard, and its delivery aborts a sleep. -/
def execWake (s : State) : Host.Outcome State Fault Refusal := onDelivery (fun p => p.kind == 15) onlyHeard s

/-- The announcement interval expires (R158 to R160, R175). -/
def intervalOver (s : State) : State :=
  let s1 := restartInterval s
  if inLineFault s then moveAgreement s1 else balanceFalls s1

/-- INTERVAL_TIMER_EXPIRY (R159). -/
def execIntervalTimerExpiry (s : State) : Host.Outcome State Fault Refusal :=
  whileAwake (fun t => intervalOver (advanceTo t.census.intervalEnd t)) s

/-- The bound of a peer's silence timer; the own address has no entry (R162, R163). -/
def silenceAt (peer : Addr) (s : State) : Option Nat :=
  if peer = s.addr then none else silenceBound s.census.peers[peer]

/-- SILENCE_TIMEOUT (R163). -/
def execSilenceTimeout (peer : Addr) (s : State) : Host.Outcome State Fault Refusal :=
  whileAwake (fun t => atTime (silenceAt peer t) (peerSilent peer) t) s

end Sys2Proof.Machine
end

