-- ==== Sys2Proof/Machine/GlassCommands.lean ====
section
/-! DEFINITION. The meanings of the window controller's and the pinch monitor's commands (chapters 1 and 2). -/

namespace Sys2Proof.Machine

/-- A hall pulse with the motor driven or not; a driven pulse also brings its supply sample (R1, R26, R170), and a
supply sense below 4500 mV resets the station (R183). No coast window runs on through SLEEP (R178, log 34, DEDUCED). -/
def hallPulseOp (u t : Nat) (s0 : State) : State :=
  let s := advanceTo (s0.win.lastPulseAt + t) s0
  if u < 4500 then holdReset { s with pins := { s.pins with supplySense := u } }
  else
    match s.win.motor with
    | .driven d =>
        let s1 := drivenPulse d u t s
        pulseSample u { s1 with pins := { s1.pins with supplySense := u } }
    | _ => if awake s then coastPulse s else s

/-- HALL_PULSE (R1, R183). -/
def execHallPulse (u t : Nat) (s : State) : Host.Outcome State Fault Refusal :=
  liveInput (senseInReset u) (hallPulseOp u t) s

/-- The coast window closes; where it follows a motion's end, so that the rest field reads AT REST, the record is queued,
also when a request granted since then waits in PAUSED (R1, R22, R25). -/
def closeCoast (s : State) : State :=
  let s1 := s.withWin { s.win with coast := none }
  if s.win.recMoving then s1 else queueRecord .windowState s1

/-- COAST_WINDOW_END (R1, R25). -/
def execCoastWindowEnd (s : State) : Host.Outcome State Fault Refusal :=
  whileAwake (fun t => atTime (t.win.coast.map fun c => c.1) closeCoast t) s

/-- The motor is driven. -/
def isDriven (m : Motor) : Bool :=
  match m with
  | .driven _ => true
  | _ => false

/-- STALL (R5): the stall time after the motor start or the latest pulse. -/
def execStall (s : State) : Host.Outcome State Fault Refusal :=
  whileAwake (fun t =>
    if isDriven t.win.motor then stalled (advanceTo (stallFrom t.win + t.cfg.stallMs * 1000) t) else t) s

/-- The motor is driven again after a start-stall pause (R7, R26). -/
def endStallPause (s : State) : State :=
  match s.win.req with
  | some r => startRequest r s
  | none => s

/-- START_STALL_PAUSE_END (R7). -/
def execStartStallPauseEnd (s : State) : Host.Outcome State Fault Refusal :=
  whileAwake (fun t => atTime t.win.pauseEnd endStallPause t) s

/-- A LOCAL SWITCH MANUAL UP motion drives while the window is UNNORMALISED (R4). -/
def inCloseHold (s : State) : Bool :=
  !s.win.norm && s.win.motor == .driven .up && s.win.req == some { source := .localSwitch, dir := .up, mode := .manual }

/-- CLOSE_HOLD_COMPLETE (R4): 500 ms of stall. -/
def execCloseHoldComplete (s : State) : Host.Outcome State Fault Refusal :=
  whileAwake (fun t => if inCloseHold t then closeHold (advanceTo (stallFrom t.win + 500000) t) else t) s

/-- BRAKE_END (R12). -/
def execBrakeEnd (s : State) : Host.Outcome State Fault Refusal :=
  whileAwake (fun t => atTime t.win.brakeEnd endBrake t) s

/-- The local switch stands at a detent. -/
def setHold (d : Option Direction) (spent : Bool) (s : State) : State :=
  { s with pins := { s.pins with localHold := d, localSpent := spent } }

/-- The first detent: a MANUAL request, or only local input on the way back from the second (R14, log 21, DEDUCED). -/
def firstDetent (d : Direction) (s : State) : State :=
  if s.pins.localHold = some d then localCause .switch s
  else localPress d .manual (localCause .switch (setHold (some d) false s))

/-- LOCAL_SWITCH_FIRST_DETENT (R14). -/
def execLocalSwitchFirstDetent (d : Direction) (s : State) : Host.Outcome State Fault Refusal :=
  liveInput (setHold (some d) false) (firstDetent d) s

/-- The second detent: an AUTO request, unless this press has stopped an AUTO motion (R14, log 21, DEDUCED). -/
def secondDetent (d : Direction) (s : State) : State :=
  let spent := s.pins.localHold == some d && s.pins.localSpent
  let s1 := localCause .switch (setHold (some d) spent s)
  if spent then s1 else localPress d .auto s1

/-- LOCAL_SWITCH_SECOND_DETENT (R14). -/
def execLocalSwitchSecondDetent (d : Direction) (s : State) : Host.Outcome State Fault Refusal :=
  liveInput (setHold (some d) false) (secondDetent d) s

/-- LOCAL_SWITCH_RELEASE (R14): a MANUAL motion loses its hold. -/
def execLocalSwitchRelease (s : State) : Host.Outcome State Fault Refusal :=
  liveInput (setHold none false) (fun t => dropLostHold (setHold none false t)) s

/-- The SWITCH PACK frame of the entries as they stand (R15). -/
def packFrame (w : Window) : Payload := .switchPack w.pack[0] w.pack[1] w.pack[2] w.pack[3]

/-- A SWITCH PACK is queued (R15). One that the line interface refuses, in LINE FAULT or at a full queue, counts as the
last one queued all the same: the 100 ms of the refresh start again (log 89, DESIGN CHOICE). -/
def sendPack (s : State) : State := queueFrame (packFrame s.win) (s.withWin { s.win with packQueuedAt := some s.now })

/-- A change of any entry of the switch pack at the driver station (R15, log 56, DESIGN CHOICE). -/
def packChanged (p : Vector SwitchEntry 4) (s : State) : State :=
  if isDriver s && s.win.pack != p then
    let s1 := localCause .switch s
    sendPack (s1.withWin { s1.win with pack := p })
  else s

/-- SWITCH_PACK_CHANGE (R15): in reset the entries move all the same (log 57, DESIGN CHOICE). -/
def execSwitchPackChange (fl fr rl rr : SwitchEntry) (s : State) : Host.Outcome State Fault Refusal :=
  liveInput (fun t => t.withWin { t.win with pack := #v[fl, fr, rl, rr] }) (packChanged #v[fl, fr, rl, rr]) s

/-- An entry is not NONE. -/
def packActive (w : Window) : Bool := w.pack.toList.any fun e => e != .rest

/-- SWITCH_PACK_REFRESH (R15): 100 ms after the last one queued. -/
def execSwitchPackRefresh (s : State) : Host.Outcome State Fault Refusal :=
  whileAwake (fun t =>
    if isDriver t && packActive t.win then atTime (t.win.packQueuedAt.map (· + 100000)) sendPack t else t) s

/-- The validity of the entry taken lapses (R16). -/
def lapsePack (s : State) : State := dropLostHold (s.withWin { s.win with packEntry := .rest, packAt := none })

/-- The entry taken is 250 ms old (R16). -/
def packExpired (s : State) : Bool :=
  match s.win.packAt with
  | some a => decide (a + 250000 ≤ s.now)
  | none => false

/-- The REMOTE SWITCH request of an entry (R16). -/
def remoteRequest : SwitchEntry → Option Request
  | .rest => none
  | .upManual => some { source := .remoteSwitch, dir := .up, mode := .manual }
  | .upAuto => some { source := .remoteSwitch, dir := .up, mode := .auto }
  | .downManual => some { source := .remoteSwitch, dir := .down, mode := .manual }
  | .downAuto => some { source := .remoteSwitch, dir := .down, mode := .auto }

/-- A new entry is judged against the last entry taken (R16). -/
def judgeEntry (e : SwitchEntry) (endAt : Nat) (s : State) : State :=
  let old := s.win.packEntry
  let s1 := s.withWin { s.win with packEntry := e, packAt := some endAt }
  if e = old then s1
  else
    match remoteRequest e with
    | some r => dropLostHold (request r s1).2
    | none => dropLostHold s1

/-- The entry of an address. -/
def entryFor (a : Addr) (fl fr rl rr : SwitchEntry) : SwitchEntry :=
  if a.val = 0 then fl else if a.val = 1 then fr else if a.val = 2 then rl else rr

/-- A delivered SWITCH PACK (R16). -/
def takePack (fr : Frame) (endAt : Nat) (s : State) : State :=
  match fr.payload with
  | .switchPack a b c d =>
      if isSide s && !isDriver s && fr.origin == driverAddr s.cfg then
        judgeEntry (entryFor s.addr a b c d) endAt (if packExpired s then lapsePack s else s)
      else s
  | _ => s

/-- SWITCH_PACK (R16). -/
def execSwitchPack (s : State) : Host.Outcome State Fault Refusal := onDelivery (fun p => p.kind == 9) takePack s

/-- SWITCH_PACK_VALIDITY_LAPSE (R16): 250 ms after the frame. -/
def execSwitchPackValidityLapse (s : State) : Host.Outcome State Fault Refusal :=
  live (fun t => atTime (t.win.packAt.map (· + 250000)) lapsePack t) s

/-- The drop limit passes: TIMEOUT, and a DROP motion ends STOPPED (R19). -/
def dropTimeout (s : State) : State :=
  let s1 := s.withWin { s.win with drop := none, dropAnswer := some .timeout }
  match s.win.req with
  | some r => if r.source = .drop then endMotion .stopped s1 else s1
  | none => s1

/-- DROP_LIMIT_EXPIRY (R19): 800 ms after the drop request. -/
def execDropLimitExpiry (s : State) : Host.Outcome State Fault Refusal :=
  whileAwake (fun t => atTime (t.win.drop.map fun j => j.limitAt) dropTimeout t) s

/-- A timed drop has driven its 150 ms: DONE (R19, log 18, DESIGN CHOICE). -/
def timedDone (s : State) : State :=
  endMotion .stopped (s.withWin { s.win with drop := none, dropAnswer := some .done })

/-- When the drive of a timed drop reaches 150 ms, while it is being driven (R19). -/
def timedEnd (j : DropJob) : Option Nat := if j.timed then j.timedFrom.map (· + j.timedLeft) else none

/-- TIMED_DROP_END (R19). -/
def execTimedDropEnd (s : State) : Host.Outcome State Fault Refusal :=
  whileAwake (fun t => atTime (t.win.drop.bind timedEnd) timedDone t) s

/-- The us of drive until H reaches 80000 (R21). -/
def thermalLeft (w : Window) : Nat := (80000 - w.heat) * 1000 - w.heatUs

/-- H has reached 80000 while the motor is driven: the motion ends THERMAL unless it is reversing (R21). -/
def hardLimit (s : State) : State := if s.win.motion = .reversing then s else endMotion .thermal s

/-- THERMAL_HARD_LIMIT (R21, log 48, DESIGN CHOICE). -/
def execThermalHardLimit (s : State) : Host.Outcome State Fault Refusal :=
  whileAwake (fun t => if isDriven t.win.motor then hardLimit (advance (thermalLeft t.win) t) else t) s

/-- PAUSE_LIMIT_EXPIRY (R22): a pause of 3 s ends the motion STOPPED. -/
def execPauseLimitExpiry (s : State) : Host.Outcome State Fault Refusal :=
  whileAwake (fun t => atTime t.win.pauseLimit (endMotion .stopped) t) s

/-- The hold timer expires (R39). -/
def holdTimerEnds (p : Pinch) : Pinch :=
  if p.mode = .override then { p with holdEnd := none, holdExpired := true } else endPinchHold p

/-- PINCH_HOLD_TIMER_EXPIRY (R39). -/
def execPinchHoldTimerExpiry (s : State) : Host.Outcome State Fault Refusal :=
  live (fun t => atTime t.pinch.holdEnd (fun u => { u with pinch := holdTimerEnds u.pinch }) t) s

end Sys2Proof.Machine
end

