-- ==== Sys2Proof/Machine/IntentCommands.lean ====
section
/-! DEFINITION. The meanings of the intent engine's commands (chapter 4). -/

namespace Sys2Proof.Machine

/-- A delivered intent of any family (R79, R80). -/
def takeIntent (fr : Frame) (_endAt : Nat) (s : State) : State :=
  match fr.payload with
  | .intent i => receiveIntent fr.origin i s
  | _ => s

/-- LATCH_INTENT (R79 to R82). -/
def execLatchIntent (s : State) : Host.Outcome State Fault Refusal := onDelivery (fun p => p.kind == 1) takeIntent s

/-- CHILD_INTENT (R79 to R82). -/
def execChildIntent (s : State) : Host.Outcome State Fault Refusal := onDelivery (fun p => p.kind == 2) takeIntent s

/-- WINDOW_INTENT (R79 to R82). -/
def execWindowIntent (s : State) : Host.Outcome State Fault Refusal := onDelivery (fun p => p.kind == 3) takeIntent s

/-- A delivered INTENT ACK (R83). -/
def takeAck (fr : Frame) (_endAt : Nat) (s : State) : State :=
  match fr.payload with
  | .intentAck a => receiveAck fr.origin a s
  | _ => s

/-- INTENT_ACK (R83). -/
def execIntentAck (s : State) : Host.Outcome State Fault Refusal := onDelivery (fun p => p.kind == 4) takeAck s

/-- The attempt timer of a tag, if it runs. -/
def attemptTimer (tag : Tag) (s : State) : Option Nat := (entryOf tag s).bind fun e => e.timer

/-- The entry's attempt is over (R84). -/
def attemptOver (tag : Tag) (s : State) : State :=
  match entryOf tag s with
  | some e => attemptExpired e s
  | none => s

/-- ATTEMPT_TIMER_EXPIRY (R84). -/
def execAttemptTimerExpiry (tag : Tag) (s : State) : Host.Outcome State Fault Refusal :=
  whileAwake (fun t => atTime (attemptTimer tag t) (attemptOver tag) t) s

/-- START_HOLD_TIMEOUT (R78): the held intent is issued at the end of the command. -/
def execStartHoldTimeout (s : State) : Host.Outcome State Fault Refusal :=
  whileAwake (fun t => atTime t.intent.startHold (fun u => { u with intent := { u.intent with startHold := none } }) t) s

/-- The driver lockout switch, wired at the driver station alone (R93). -/
def lockoutOp (s : State) : State := if isDriver s then mapLockout (localCause .switch s) else s

/-- DRIVER_LOCKOUT_SWITCH (R93). -/
def execDriverLockoutSwitch (s : State) : Host.Outcome State Fault Refusal := live lockoutOp s

/-- The auto-relock timer expires: a LOCK to all, which an UNLOCK spared by R94 does not discard (R77, R94). -/
def relockOver (s : State) : State :=
  let s1 := wakeCause .relock { s with intent := { s.intent with relock := none, relockSpent := s.intent.relock } }
  prepare (prepared .lock allStations .autoRelock none) s1

/-- AUTO_RELOCK_EXPIRY (R94). -/
def execAutoRelockExpiry (s : State) : Host.Outcome State Fault Refusal :=
  live (fun t => atTime (t.intent.relock.map fun r => r.expiry) relockOver t) s

end Sys2Proof.Machine
end

