-- ==== Sys2Proof/Machine/KeyCommands.lean ====
section
/-! DEFINITION. The meanings of the key check unit's commands (chapter 5). -/

namespace Sys2Proof.Machine

/-- A button frame that decodes is checked; an accepted one is local input and goes to the intent engine (R102 to
R104). -/
def takeButton (f : ButtonFrame) (s : State) : State :=
  match checkButton f s with
  | (true, s1) => mapButton f.button { identity := f.identity, counter := f.counter } (localCause .receiver s1)
  | (false, s1) => s1

/-- A frame of the receiver data line, which is read only with a receiver fitted (R99, R187, R202). -/
def buttonFrameOp (bytes : List Byte) (s : State) : State :=
  if s.cfg.caps.receiver then
    let s1 := wakeCause .receiver s
    match decodeButton bytes with
    | some f => takeButton f s1
    | none => s1
  else s

/-- BUTTON_FRAME (R102). -/
def execButtonFrame (bytes : List Byte) (s : State) : Host.Outcome State Fault Refusal := live (buttonFrameOp bytes) s

/-- A bad-code window of 60 s has passed (R106). -/
def lapseBadCodes (n : Slot) (s : State) : State :=
  { s with keys := { s.keys with
      slots := s.keys.slots.set n { s.keys.slots[n] with badCodes := 0, windowStart := none } } }

/-- BAD_CODE_WINDOW_END (R106). -/
def execBadCodeWindowEnd (n : Slot) (s : State) : Host.Outcome State Fault Refusal :=
  live (fun t => atTime (t.keys.slots[n].windowStart.map (· + 60000000)) (lapseBadCodes n) t) s

/-- The suspension timer of a slot expires (R97, R107). -/
def suspensionOver (n : Slot) (s : State) : State :=
  let k := { s.keys.slots[n] with suspendedUntil := none }
  if k.state = .suspended then writeSlot n { k with state := .paired } s
  else { s with keys := { s.keys with slots := s.keys.slots.set n k } }

/-- SUSPENSION_TIMER_EXPIRY (R107). -/
def execSuspensionTimerExpiry (n : Slot) (s : State) : Host.Outcome State Fault Refusal :=
  live (fun t => atTime t.keys.slots[n].suspendedUntil (suspensionOver n) t) s

/-- A passive reply of the receiver data line (R100, R111, R202). -/
def passiveReplyOp (bytes : List Byte) (s : State) : State :=
  if s.cfg.caps.receiver then
    let s1 := wakeCause .receiver s
    match decodePassive bytes with
    | some r => routeReply r s1
    | none => s1
  else s

/-- PASSIVE_REPLY (R100). -/
def execPassiveReply (bytes : List Byte) (s : State) : Host.Outcome State Fault Refusal := live (passiveReplyOp bytes) s

/-- A delivered FOB RELAY (R122). -/
def takeRelay (fr : Frame) (_endAt : Nat) (s : State) : State :=
  match fr.payload with
  | .fobRelay r => weighReply r s
  | _ => s

/-- FOB_RELAY (R122). -/
def execFobRelay (s : State) : Host.Outcome State Fault Refusal := onDelivery (fun p => p.kind == 5) takeRelay s

end Sys2Proof.Machine
end

