-- ==== Sys2Proof/Machine/LatchCommands.lean ====
section
/-! DEFINITION. The meanings of the latch controller's commands (chapter 3). -/

namespace Sys2Proof.Machine

/-- The latch switch reads otherwise: a local wake in SLEEP, else the 10 ms filter starts or falls back (R48, R71). -/
def switchChanged (r : LatchPosition) (s : State) : State :=
  if r = s.pins.latchSwitch then s
  else
    let s1 := { s with pins := { s.pins with latchSwitch := r } }
    if s.power.state = .sleep then localCause .latch s1
    else
      { s1 with latch := { s1.latch with
          filterEnd := if r = s1.latch.position then none else some (s1.now + 10000) } }

/-- LATCH_SWITCH_CHANGE (R48, R70): in reset the switch is read all the same. -/
def execLatchSwitchChange (r : LatchPosition) (s : State) : Host.Outcome State Fault Refusal :=
  liveInput (fun t => { t with pins := { t.pins with latchSwitch := r } }) (switchChanged r) s

/-- A latch edge is handed to the blocks that act on it (R49). -/
def latchEdge (s : State) : State :=
  let s1 := localCause .latch { s with latch := { s.latch with position := s.pins.latchSwitch, filterEnd := none } }
  match s.pins.latchSwitch with
  | .opened => latchOpened (cancelRelock s1)
  | .closed => windowLatchClosed s1

/-- LATCH_EDGE (R49); the filter does not run through SLEEP (R71, R178). -/
def execLatchEdge (s : State) : Host.Outcome State Fault Refusal :=
  whileAwake (fun t => atTime t.latch.filterEnd latchEdge t) s

/-- The outer handle switch: a pull at its edge, or let go (R51, log 23, DEDUCED). The tailgate has none (R58). -/
def outerHandleOp (pulled : Bool) (s : State) : State :=
  if isTailgate s || s.pins.outerHandle == pulled then s
  else
    let s1 := { s with pins := { s.pins with outerHandle := pulled } }
    if pulled then outerPull (localCause .handle s1) else s1

/-- The outer handle switch as it stands; the tailgate has none (R58). -/
def outerHandlePin (pulled : Bool) (s : State) : State :=
  if isTailgate s then s else { s with pins := { s.pins with outerHandle := pulled } }

/-- OUTER_HANDLE_PULL (R51): in reset the switch moves all the same. -/
def execOuterHandlePull (pulled : Bool) (s : State) : Host.Outcome State Fault Refusal :=
  liveInput (outerHandlePin pulled) (outerHandleOp pulled) s

/-- INNER_HANDLE_PULL (R51, R52). -/
def execInnerHandlePull (s : State) : Host.Outcome State Fault Refusal :=
  live (fun t => innerPull (localCause .handle t)) s

/-- The inside lock button (R51, R54, R93). -/
def insideButtonOp (s : State) : State :=
  let s1 := localCause .button s
  if inLineFault s1 then localLockChange s1 else mapInsideButton s1

/-- INSIDE_LOCK_BUTTON (R51). -/
def execInsideLockButton (s : State) : Host.Outcome State Fault Refusal := live insideButtonOp s

/-- The tailgate button: an ENTRY request while UNLOCKED, else a touch handed to the search unit (R58). -/
def tailgateButtonOp (s : State) : State :=
  if isTailgate s then
    let s1 := localCause .button s
    if s1.latch.lock = .unlocked then releaseRequest .entry s1 else takeTouch .tailgateButton s1.now s1
  else s

/-- TAILGATE_BUTTON (R58). -/
def execTailgateButton (s : State) : Host.Outcome State Fault Refusal := live tailgateButtonOp s

/-- DROP_RETRY_DELAY_END (R60): the second drop is requested. -/
def execDropRetryDelayEnd (s : State) : Host.Outcome State Fault Refusal :=
  whileAwake (fun t => atTime t.latch.retryDelay startDrop t) s

/-- RELEASE_PULSE_END (R62, R63). -/
def execReleasePulseEnd (s : State) : Host.Outcome State Fault Refusal :=
  whileAwake (fun t => atTime t.latch.pulseEnd pulseFailed t) s

/-- RETRY_WAIT_END (R59, R65). -/
def execRetryWaitEnd (s : State) : Host.Outcome State Fault Refusal :=
  whileAwake (fun t => atTime t.latch.waitEnd enterReleasing t) s

/-- SUPPLY_WAIT_EXPIRY (R65). -/
def execSupplyWaitExpiry (s : State) : Host.Outcome State Fault Refusal :=
  whileAwake (fun t => atTime t.latch.supplyWait (endSequence .supply) t) s

/-- A delivered CRASH NOTICE (R66, R68, R88): crash hold, UNLOCKED, an announcement as a status change, and at the
start of the hold the window, the intents and the release sequence (log 22, DEDUCED) (log 53, DEDUCED). -/
def takeCrash (_fr : Frame) (_endAt : Nat) (s : State) : State :=
  let s1 := setLock .unlocked
    { s with
      latch := { s.latch with crashEnd := some (s.now + 10000000) }
      census := { s.census with statusOwed := true } }
  if crashHold s then s1 else crashOnSequence (intentsCrash (windowCrash s1))

/-- CRASH_NOTICE (R66). -/
def execCrashNotice (s : State) : Host.Outcome State Fault Refusal := onDelivery (fun p => p.kind == 0) takeCrash s

/-- CRASH_HOLD_EXPIRY (R67). -/
def execCrashHoldExpiry (s : State) : Host.Outcome State Fault Refusal :=
  whileAwake (fun t => atTime t.latch.crashEnd (fun u => { u with latch := { u.latch with crashEnd := none } }) t) s

end Sys2Proof.Machine
end

