-- ==== Sys2Proof/Machine/LineCommands.lean ====
section
/-! DEFINITION. The meanings of the line interface's commands (chapter 7). -/

namespace Sys2Proof.Machine

/-- FRAME_START (R137). -/
def execFrameStart (s : State) : Host.Outcome State Fault Refusal := whileAwake startFrame s

/-- ARBITRATION_LOSS (R138, log 51, DESIGN CHOICE). -/
def execArbitrationLoss (s : State) : Host.Outcome State Fault Refusal := whileAwake loseArbitration s

/-- BIT_ERROR (R139). -/
def execBitError (s : State) : Host.Outcome State Fault Refusal := whileAwake meetBitError s

/-- FRAME_SENT (R140). -/
def execFrameSent (s : State) : Host.Outcome State Fault Refusal := whileAwake finishFrame s

/-- FRAME_RECEPTION (R143). -/
def execFrameReception (bits : List Bool) (s : State) : Host.Outcome State Fault Refusal := whileAwake (receiveBits bits) s

/-- An extension ends: the line is released for one bit time and the test made again (R146). -/
def extensionOver (s : State) : State :=
  let s1 := advance 20 s
  overloadTest s1

/-- OVERLOAD_EXTENSION_END (R146). -/
def execOverloadExtensionEnd (s : State) : Host.Outcome State Fault Refusal :=
  whileAwake (fun t => atTime t.line.extEnd extensionOver t) s

/-- A dominant run that is not part of a frame has lasted more than 20 bit times (R135, log 32, DESIGN CHOICE). A frame
that was in reception after a lost arbitration is dropped by it uncounted (log 93, DESIGN CHOICE). -/
def holdStarts (s : State) : State :=
  if (inTxEntry s).isSome || s.line.cond == .held then s
  else
    let s1 := advance 420 s
    { s1 with line := { s1.line with
        cond := .held, holdFrom := some s.now
        recoverAt := if s.line.state = .lineFault .held then none else s.line.recoverAt } }

/-- LINE_HOLD_START (R135). -/
def execLineHoldStart (s : State) : Host.Outcome State Fault Refusal := whileAwake holdStarts s

/-- The line reads recessive again; a hold of 0.5..2 ms in all was a wake mark (R135, R136, R149, R176). -/
def holdEnds (s : State) : State :=
  if s.line.cond = .held then
    runEnds (s.now - s.line.holdFrom.getD s.now) { s with line := { s.line with holdFrom := none } }
  else s

/-- LINE_HOLD_END (R136). -/
def execLineHoldEnd (s : State) : Host.Outcome State Fault Refusal := whileAwake holdEnds s

/-- The 100 ms of a hold that still lasts (R136). -/
def holdLimit (s : State) : Option Nat := if s.line.cond = .held then s.line.holdFrom.map (· + 100000) else none

/-- LINE_HOLD_TIMEOUT (R136, R147). -/
def execLineHoldTimeout (s : State) : Host.Outcome State Fault Refusal :=
  whileAwake (fun t => atTime (holdLimit t) (enterLineFault .held) t) s

/-- The time of recovery in LINE FAULT (R149). -/
def recoveryTime (s : State) : Option Nat := if inLineFault s then s.line.recoverAt else none

/-- LINE_FAULT_RECOVERY (R149). -/
def execLineFaultRecovery (s : State) : Host.Outcome State Fault Refusal :=
  whileAwake (fun t => atTime (recoveryTime t) recoverLine t) s

end Sys2Proof.Machine
end

