-- ==== Sys2Proof/Machine/PowerCommands.lean ====
section
/-! DEFINITION. The meanings of the power manager's commands (chapter 9). -/

namespace Sys2Proof.Machine

/-- The supply sense reads `u`: below 4500 mV a power-on reset in any power state (R183), else a periodic sample 1 ms
after the last one while the station is not in SLEEP (R170). In SLEEP it is the level of the line alone, which a wake
reads (log 103, DESIGN CHOICE). -/
def supplySampleOp (u : Nat) (s : State) : State :=
  let s1 := { s with pins := { s.pins with supplySense := u } }
  let s2 := if awake s then advanceTo (s.power.sampleAt + 1000) s1 else s1
  if u < 4500 then holdReset s2
  else if awake s then periodicSample u { s2 with power := { s2.power with sampleAt := s2.now } }
  else s2

/-- SUPPLY_SAMPLE (R170, R183). -/
def execSupplySample (u : Nat) (s : State) : Host.Outcome State Fault Refusal :=
  liveInput (senseInReset u) (supplySampleOp u) s

/-- SUPPLY_RISE (R171). -/
def execSupplyRise (s : State) : Host.Outcome State Fault Refusal :=
  whileAwake (fun t => atTime (riseAt t.power) supplyRises t) s

/-- LOCAL_ACTIVITY_TIMEOUT (R173, R174): 5 s after the latest local input; sleep-ready is judged at the end of the
command. -/
def execLocalActivityTimeout (s : State) : Host.Outcome State Fault Refusal :=
  whileAwake (fun t => advanceTo (t.power.localAt + 5000000) t) s

/-- LONE_TIMER_EXPIRY (R175): 30 s of sleep-ready with every peer LOST. An abort leaves the lone timer as it is, so
that the expiry acts again (log 85, DESIGN CHOICE). -/
def execLoneTimerExpiry (s : State) : Host.Outcome State Fault Refusal :=
  whileAwake (fun t => atTime (t.power.loneFrom.map (· + 30000000)) enterSleepPending t) s

/-- When the dominant run that is now read began: the first bit of a hold, else now (R135). -/
def runFrom (s : State) : Nat := if s.line.cond = .held then s.line.holdFrom.getD s.now else s.now

/-- A dominant run of `us` in all, read on the line while awake: 100 ms of it bring LINE FAULT (R136), and one of
0.5..2 ms is a wake mark and aborts a sleep (R135, R176). A frame that was in reception after a lost arbitration is
dropped by it uncounted (log 93, DESIGN CHOICE). -/
def markRead (us : Nat) (s : State) : State :=
  if (inTxEntry s).isSome then s else readRun (runFrom s) us { s with line := { s.line with holdFrom := none } }

/-- WAKE_MARK_DETECTED (R176). -/
def execWakeMarkDetected (us : Nat) (s : State) : Host.Outcome State Fault Refusal := whileAwake (markRead us) s

/-- The age of the own ANNOUNCEMENT in transmission. -/
def announcementAge (s : State) : Option Nat :=
  (s.line.tx.find? fun e => isAnnouncement e && e.inTx).map fun e => e.age

/-- The quiet timer expires: SLEEP, or once the announcement in transmission has been reported; one that waits behind
it is withdrawn (R178). -/
def quietOver (s : State) : State :=
  if s.power.state = .sleepPending ∧ sleepReady s = true ∧ s.power.sleepDue = none then
    match announcementAge s with
    | some age => withdrawAnnouncement { s with power := { s.power with sleepDue := some age } }
    | none => enterSleep s
  else s

/-- SLEEP_QUIET_TIMER_EXPIRY (R178). -/
def execSleepQuietTimerExpiry (s : State) : Host.Outcome State Fault Refusal :=
  whileAwake (fun t => atTime t.power.quietEnd quietOver t) s

/-- The wake mark asked for is driven at the first FREE line (R135, R177, R179); to its driver the line is BUSY until the
gap after it (log 107, DESIGN CHOICE). -/
def driveMark (s : State) : State :=
  if s.line.markWanted && s.line.extEnd.isNone && (s.line.cond == .free || s.line.cond == .busy) then
    let s1 := advanceTo (freeTime s) s
    { s1 with line := { s1.line with markWanted := false, markEnd := some (s1.now + 1000), cond := .busy
                                     freeAt := s1.now + 1240 } }
  else s

/-- WAKE_MARK_DRIVE (R179). -/
def execWakeMarkDrive (s : State) : Host.Outcome State Fault Refusal := whileAwake driveMark s

/-- WAKE_MARK_END (R135): the line is released after 1 ms. -/
def execWakeMarkEnd (s : State) : Host.Outcome State Fault Refusal :=
  whileAwake (fun t => atTime t.line.markEnd (fun u => { u with line := { u.line with markEnd := none } }) t) s

/-- A dominant run at a sleeping station's wake filter (R180); one that ends after the 20 ms of an OPEN filter restarts
them (log 111, DESIGN CHOICE). -/
def filterRun (us : Nat) (s : State) : State :=
  if awake s then s
  else
    let s1 := advance us s
    if isMark us then { s1 with power := { s1.power with filter := .opened (s1.now + 20000) } } else s1

/-- WAKE_FILTER_RUN (R180). -/
def execWakeFilterRun (us : Nat) (s : State) : Host.Outcome State Fault Refusal := live (filterRun us) s

/-- The end of the filter's 20 ms while it is OPEN in SLEEP. -/
def filterEnd (s : State) : Option Nat :=
  match s.power.state, s.power.filter with
  | .sleep, .opened e => some e
  | _, _ => none

/-- WAKE_FILTER_TIMEOUT (R180). -/
def execWakeFilterTimeout (s : State) : Host.Outcome State Fault Refusal :=
  live (fun t => atTime (filterEnd t) spuriousWake t) s

/-- A frame read while the filter is OPEN: damaged ones are passed over, the first good one is judged (R180, R181). A
run of more than 12 bit times is no sync, and only a run (R135, R180). -/
def filterFrame (bits : List Bool) (s : State) : State :=
  match filterEnd s with
  | none => s
  | some e =>
    if bits.head? = some false then filterRun ((12 + leadingDominant bits) * 20) s
    else
      let s1 := advance ((12 + bitsRead bits) * 20) s
      if e < s1.now then s1
      else
        match readFrame bits with
        | none => s1
        | some r => if acceptsWake r s.addr then wakeByLine s1 else spuriousWake s1

/-- WAKE_FILTER_FRAME (R181, R182). -/
def execWakeFilterFrame (bits : List Bool) (s : State) : Host.Outcome State Fault Refusal := live (filterFrame bits) s

/-- POWER_ON_RESET (R183): the supply sense falls below 4500 mV, in any power state, held in reset or not. -/
def execPowerOnReset (s : State) : Host.Outcome State Fault Refusal := .next (holdReset s)

/-- The supply has been read for 20 ms in reset: a reading below 4500 mV starts them afresh, else the reset ends
(R183). -/
def resetOver (u : Nat) (answers : Bool) (s : State) : State :=
  let s1 := { s with pins := { s.pins with supplySense := u, storeAnswers := answers } }
  if u < 4500 then { s1 with power := { s1.power with heldSince := some s.now } } else settle (boot s1)

/-- POWER_ON_RESET_END (R183, R186). -/
def execPowerOnResetEnd (u : Nat) (storeAnswers : Bool) (s : State) : Host.Outcome State Fault Refusal :=
  .next (atTime (s.power.heldSince.map (· + 20000)) (resetOver u storeAnswers) s)

end Sys2Proof.Machine
end

