-- ==== Sys2Proof/Machine/SearchCommands.lean ====
section
/-! DEFINITION. The meanings of the search unit's commands (chapter 6). -/

namespace Sys2Proof.Machine

/-- A touch on an area of the outer handle, which the tailgate does not have (R58, R118). -/
def touchOp (area : Area) (s : State) : State :=
  if isTailgate s then s
  else
    let s1 := localCause .touch s
    takeTouch area s1.now s1

/-- UNLOCK_AREA_TOUCH (R118). -/
def execUnlockAreaTouch (s : State) : Host.Outcome State Fault Refusal := live (touchOp .unlockArea) s

/-- LOCK_AREA_TOUCH (R124). -/
def execLockAreaTouch (s : State) : Host.Outcome State Fault Refusal := live (touchOp .lockArea) s

/-- The held touch is tried when it may be (R119), also after its 500 ms while HELD_TOUCH_DROP has not been given (log
100, DESIGN CHOICE). -/
def retryOp (s : State) : State :=
  match s.search.held with
  | some h => if mayRetry s then retryTouch h s else s
  | none => s

/-- HELD_TOUCH_RETRY (R119). -/
def execHeldTouchRetry (s : State) : Host.Outcome State Fault Refusal := whileAwake retryOp s

/-- HELD_TOUCH_DROP (R119): 500 ms after the original touch. -/
def execHeldTouchDrop (s : State) : Host.Outcome State Fault Refusal :=
  whileAwake (fun t => atTime (t.search.held.map fun h => h.touchAt + 500000)
    (fun u => { u with search := { u.search with held := none } }) t) s

/-- A delivered SEARCH CLAIM holds the air for 50 ms from its end (R115, R116). -/
def takeClaim (fr : Frame) (endAt : Nat) (s : State) : State :=
  withdrawOwnClaim (addClaim fr.origin .searchClaim (endAt + 50000) s)

/-- SEARCH_CLAIM (R115). -/
def execSearchClaim (s : State) : Host.Outcome State Fault Refusal := onDelivery (fun p => p.kind == 6) takeClaim s

/-- The expiry of an origin's claim. -/
def claimEnd (origin : Addr) (s : State) : Option Nat :=
  (s.search.claims.find? fun c => c.origin == origin).map fun c => c.expiry

/-- CLAIM_EXPIRY (R115). -/
def execClaimExpiry (origin : Addr) (s : State) : Host.Outcome State Fault Refusal :=
  whileAwake (fun t => atTime (claimEnd origin t) (removeClaim origin) t) s

/-- The record and window end of a collection of this kind and stage. -/
def collectingEnd (k : SearchKind) (s : State) : Option Nat :=
  match s.search.record with
  | some r => if r.kind = k ∧ r.stage = .collecting then r.windowEnd else none
  | none => none

/-- `f` on the open search record. -/
def withRecord (f : SearchRec → State → State) (s : State) : State :=
  match s.search.record with
  | some r => f r s
  | none => s

/-- ENTRY_SEARCH_DECISION (R123). -/
def execEntrySearchDecision (s : State) : Host.Outcome State Fault Refusal :=
  whileAwake (fun t => atTime (collectingEnd .entry t) (withRecord decideEntry) t) s

/-- OUTER_STAGE_DECISION (R124, R126). -/
def execOuterStageDecision (s : State) : Host.Outcome State Fault Refusal :=
  whileAwake (fun t => atTime (collectingEnd .passiveLock t) (withRecord decideOuter) t) s

/-- The 500 ms of an INTERIOR SEARCH whose report "sent" has not been handed over (R126, log 76, DESIGN CHOICE). Where
the outer stage ended after them, the passive lock ends when this command is next given (log 82, DESIGN CHOICE). -/
def interiorTimeout (s : State) : Option Nat :=
  match s.search.record with
  | some r => if r.stage = .interiorClaiming then some (r.touchAt + 500000) else none
  | none => none

/-- INTERIOR_CLAIM_TIMEOUT (R126): the passive lock ends without a frame. -/
def execInteriorClaimTimeout (s : State) : Host.Outcome State Fault Refusal :=
  whileAwake (fun t => atTime (interiorTimeout t) (fun u => setRecord none (abandonClaim u)) t) s

/-- A delivered INTERIOR SEARCH (R115, R116, R128). -/
def takeInterior (fr : Frame) (endAt : Nat) (s : State) : State :=
  match fr.payload with
  | .interiorSearch n ps => hearInterior fr.origin n ps endAt s
  | _ => s

/-- INTERIOR_SEARCH (R128). -/
def execInteriorSearch (s : State) : Host.Outcome State Fault Refusal := onDelivery (fun p => p.kind == 7) takeInterior s

/-- When the own slot begins (R126, R128). -/
def slotStartAt (s : State) : Option Nat := s.search.record.bind fun r => r.slotAt

/-- SLOT_START (R129). -/
def execSlotStart (s : State) : Host.Outcome State Fault Refusal :=
  whileAwake (fun t => atTime (slotStartAt t) (withRecord startSlot) t) s

/-- When the window of the own slot ends (R129). -/
def slotWindow (s : State) : Option Nat :=
  match s.search.record with
  | some r => if r.kind = .slotDuty ∨ r.stage = .interior then r.windowEnd else none
  | none => none

/-- SLOT_WINDOW_END (R129). -/
def execSlotWindowEnd (s : State) : Host.Outcome State Fault Refusal :=
  whileAwake (fun t => atTime (slotWindow t) (withRecord endSlot) t) s

/-- A delivered SEARCH REPORT (R130). -/
def takeReport (fr : Frame) (_endAt : Nat) (s : State) : State :=
  match fr.payload with
  | .searchReport q r n _ => hearReport fr.origin q r n s
  | _ => s

/-- SEARCH_REPORT (R130). -/
def execSearchReport (s : State) : Host.Outcome State Fault Refusal := onDelivery (fun p => p.kind == 8) takeReport s

/-- The decision time of an open interior search (R126). -/
def decisionAtOf (s : State) : Option Nat := s.search.record.bind fun r => r.decisionAt

/-- PASSIVE_LOCK_DECISION (R130). -/
def execPassiveLockDecision (s : State) : Host.Outcome State Fault Refusal :=
  whileAwake (fun t => atTime (decisionAtOf t) (withRecord decidePassive) t) s

/-- CHALLENGE_BURST_END (R121): the 10 ms burst ends. -/
def execChallengeBurstEnd (s : State) : Host.Outcome State Fault Refusal :=
  whileAwake (fun t => atTime (t.search.burst.map fun b => b.2) stopBurst t) s

end Sys2Proof.Machine
end

