-- ==== Sys2Proof/Machine/StoreCommands.lean ====
section
/-! DEFINITION. The meanings of the record store interface's commands (chapter 10). -/

namespace Sys2Proof.Machine

/-- WRITE_BEGIN (R189). -/
def execWriteBegin (s : State) : Host.Outcome State Fault Refusal := whileAwake beginWrite s

/-- WRITE_ATTEMPT_END (R189, R190). -/
def execWriteAttemptEnd (content : List Byte) (answers : Bool) (s : State) : Host.Outcome State Fault Refusal :=
  whileAwake (endAttempt content answers) s

/-- The patrol step falls due 100 ms after the last one (R191). -/
def patrolOp (s : State) : State :=
  let s1 := advanceTo (s.store.patrolAt + 100000) s
  patrolItem s.store.patrol { s1 with store := { s1.store with patrol := s.store.patrol + 1, patrolAt := s1.now } }

/-- PATROL_STEP (R191). -/
def execPatrolStep (s : State) : Host.Outcome State Fault Refusal := whileAwake patrolOp s

/-- PAIR_SECRET (R193). -/
def execPairSecret (s : State) : Host.Outcome State Fault Refusal := onDelivery (isService 0) (serve doPairSecret) s

/-- PAIR_KEY (R193). -/
def execPairKey (s : State) : Host.Outcome State Fault Refusal := onDelivery (isService 1) (serve doPairKey) s

/-- REMOVE_KEY (R193). -/
def execRemoveKey (s : State) : Host.Outcome State Fault Refusal := onDelivery (isService 2) (serve doRemoveKey) s

/-- PAIRING_BUFFER_EXPIRY (R193). -/
def execPairingBufferExpiry (s : State) : Host.Outcome State Fault Refusal :=
  whileAwake (fun t => atTime (t.store.pairing.map fun b => b.expiry)
    (fun u => { u with store := { u.store with pairing := none } }) t) s

/-- CLEAR_HALT (R194). -/
def execClearHalt (s : State) : Host.Outcome State Fault Refusal := onDelivery (isService 3) (serve doClearHalt) s

/-- RELEARN_WINDOW (R194). -/
def execRelearnWindow (s : State) : Host.Outcome State Fault Refusal := onDelivery (isService 4) (serve doRelearn) s

/-- WRITE_CONFIG (R196). -/
def execWriteConfig (s : State) : Host.Outcome State Fault Refusal := onDelivery (isService 5) (serve doWriteConfig) s

/-- READ_STATUS (R197). -/
def execReadStatus (s : State) : Host.Outcome State Fault Refusal := onDelivery (isService 6) (serve doReadStatus) s

/-- SERVICE_RESET (R198). -/
def execServiceReset (s : State) : Host.Outcome State Fault Refusal := onDelivery (isService 7) (serve doServiceReset) s

/-- MOVE_WINDOW (R195). -/
def execMoveWindow (s : State) : Host.Outcome State Fault Refusal := onDelivery (isService 8) (serve doMoveWindow) s

/-- SERVICE_REQUEST_UNDEFINED_KIND (R192): refused with RANGE. -/
def execServiceRequestUndefinedKind (s : State) : Host.Outcome State Fault Refusal :=
  onDelivery isUndefinedService (serve fun q t => refuse q .range t) s

/-- The flush is complete: queue and write done, and the reply reported (R198). -/
def flushDone (s : State) : Bool :=
  storeIdle s && (match s.store.flush with
    | some f => !f.replyDue
    | none => false)

/-- SERVICE_RESET_PERFORM (R198). -/
def execServiceResetPerform (s : State) : Host.Outcome State Fault Refusal :=
  live (fun t => if flushDone t then boot t else t) s

/-- FLUSH_TIMEOUT (R198): the reset at once, cutting an attempt under way. -/
def execFlushTimeout (s : State) : Host.Outcome State Fault Refusal :=
  live (fun t => atTime (t.store.flush.map fun f => f.limitAt) boot t) s

end Sys2Proof.Machine
end

