-- ==== Sys2Proof/Machine/Dispatch.lean ====
section
/-! DEFINITION. The dispatch of commands to their meanings: one arm per row of spec/opcode_table.json. -/

namespace Sys2Proof.Machine

def exec (i : Instr) (s : State) : Host.Outcome State Fault Refusal :=
  match i with
  | .hallPulse u t => Sys2Proof.Machine.execHallPulse u t s
  | .coastWindowEnd => Sys2Proof.Machine.execCoastWindowEnd s
  | .stall => Sys2Proof.Machine.execStall s
  | .startStallPauseEnd => Sys2Proof.Machine.execStartStallPauseEnd s
  | .closeHoldComplete => Sys2Proof.Machine.execCloseHoldComplete s
  | .brakeEnd => Sys2Proof.Machine.execBrakeEnd s
  | .localSwitchFirstDetent d => Sys2Proof.Machine.execLocalSwitchFirstDetent d s
  | .localSwitchSecondDetent d => Sys2Proof.Machine.execLocalSwitchSecondDetent d s
  | .localSwitchRelease => Sys2Proof.Machine.execLocalSwitchRelease s
  | .switchPackChange fl fr rl rr => Sys2Proof.Machine.execSwitchPackChange fl fr rl rr s
  | .switchPackRefresh => Sys2Proof.Machine.execSwitchPackRefresh s
  | .switchPack => Sys2Proof.Machine.execSwitchPack s
  | .switchPackValidityLapse => Sys2Proof.Machine.execSwitchPackValidityLapse s
  | .dropLimitExpiry => Sys2Proof.Machine.execDropLimitExpiry s
  | .timedDropEnd => Sys2Proof.Machine.execTimedDropEnd s
  | .thermalHardLimit => Sys2Proof.Machine.execThermalHardLimit s
  | .pauseLimitExpiry => Sys2Proof.Machine.execPauseLimitExpiry s
  | .pinchHoldTimerExpiry => Sys2Proof.Machine.execPinchHoldTimerExpiry s
  | .latchSwitchChange r => Sys2Proof.Machine.execLatchSwitchChange r s
  | .latchEdge => Sys2Proof.Machine.execLatchEdge s
  | .outerHandlePull pulled => Sys2Proof.Machine.execOuterHandlePull pulled s
  | .innerHandlePull => Sys2Proof.Machine.execInnerHandlePull s
  | .insideLockButton => Sys2Proof.Machine.execInsideLockButton s
  | .tailgateButton => Sys2Proof.Machine.execTailgateButton s
  | .dropRetryDelayEnd => Sys2Proof.Machine.execDropRetryDelayEnd s
  | .releasePulseEnd => Sys2Proof.Machine.execReleasePulseEnd s
  | .retryWaitEnd => Sys2Proof.Machine.execRetryWaitEnd s
  | .supplyWaitExpiry => Sys2Proof.Machine.execSupplyWaitExpiry s
  | .crashNotice => Sys2Proof.Machine.execCrashNotice s
  | .crashHoldExpiry => Sys2Proof.Machine.execCrashHoldExpiry s
  | .latchIntent => Sys2Proof.Machine.execLatchIntent s
  | .childIntent => Sys2Proof.Machine.execChildIntent s
  | .windowIntent => Sys2Proof.Machine.execWindowIntent s
  | .intentAck => Sys2Proof.Machine.execIntentAck s
  | .attemptTimerExpiry tag => Sys2Proof.Machine.execAttemptTimerExpiry tag s
  | .startHoldTimeout => Sys2Proof.Machine.execStartHoldTimeout s
  | .driverLockoutSwitch => Sys2Proof.Machine.execDriverLockoutSwitch s
  | .autoRelockExpiry => Sys2Proof.Machine.execAutoRelockExpiry s
  | .buttonFrame bytes => Sys2Proof.Machine.execButtonFrame bytes s
  | .badCodeWindowEnd slot => Sys2Proof.Machine.execBadCodeWindowEnd slot s
  | .suspensionTimerExpiry slot => Sys2Proof.Machine.execSuspensionTimerExpiry slot s
  | .passiveReply bytes => Sys2Proof.Machine.execPassiveReply bytes s
  | .fobRelay => Sys2Proof.Machine.execFobRelay s
  | .unlockAreaTouch => Sys2Proof.Machine.execUnlockAreaTouch s
  | .lockAreaTouch => Sys2Proof.Machine.execLockAreaTouch s
  | .heldTouchRetry => Sys2Proof.Machine.execHeldTouchRetry s
  | .heldTouchDrop => Sys2Proof.Machine.execHeldTouchDrop s
  | .searchClaim => Sys2Proof.Machine.execSearchClaim s
  | .claimExpiry origin => Sys2Proof.Machine.execClaimExpiry origin s
  | .entrySearchDecision => Sys2Proof.Machine.execEntrySearchDecision s
  | .outerStageDecision => Sys2Proof.Machine.execOuterStageDecision s
  | .interiorClaimTimeout => Sys2Proof.Machine.execInteriorClaimTimeout s
  | .interiorSearch => Sys2Proof.Machine.execInteriorSearch s
  | .slotStart => Sys2Proof.Machine.execSlotStart s
  | .slotWindowEnd => Sys2Proof.Machine.execSlotWindowEnd s
  | .searchReport => Sys2Proof.Machine.execSearchReport s
  | .passiveLockDecision => Sys2Proof.Machine.execPassiveLockDecision s
  | .frameStart => Sys2Proof.Machine.execFrameStart s
  | .arbitrationLoss => Sys2Proof.Machine.execArbitrationLoss s
  | .bitError => Sys2Proof.Machine.execBitError s
  | .frameSent => Sys2Proof.Machine.execFrameSent s
  | .frameReception bits => Sys2Proof.Machine.execFrameReception bits s
  | .overloadExtensionEnd => Sys2Proof.Machine.execOverloadExtensionEnd s
  | .lineHoldEnd => Sys2Proof.Machine.execLineHoldEnd s
  | .lineHoldTimeout => Sys2Proof.Machine.execLineHoldTimeout s
  | .lineFaultRecovery => Sys2Proof.Machine.execLineFaultRecovery s
  | .census => Sys2Proof.Machine.execCensus s
  | .announcement => Sys2Proof.Machine.execAnnouncement s
  | .windowReport => Sys2Proof.Machine.execWindowReport s
  | .faultNotice => Sys2Proof.Machine.execFaultNotice s
  | .intentOutcome => Sys2Proof.Machine.execIntentOutcome s
  | .serviceReply => Sys2Proof.Machine.execServiceReply s
  | .wake => Sys2Proof.Machine.execWake s
  | .intervalTimerExpiry => Sys2Proof.Machine.execIntervalTimerExpiry s
  | .silenceTimeout peer => Sys2Proof.Machine.execSilenceTimeout peer s
  | .supplySample u => Sys2Proof.Machine.execSupplySample u s
  | .supplyRise => Sys2Proof.Machine.execSupplyRise s
  | .localActivityTimeout => Sys2Proof.Machine.execLocalActivityTimeout s
  | .loneTimerExpiry => Sys2Proof.Machine.execLoneTimerExpiry s
  | .wakeMarkDetected us => Sys2Proof.Machine.execWakeMarkDetected us s
  | .sleepQuietTimerExpiry => Sys2Proof.Machine.execSleepQuietTimerExpiry s
  | .wakeMarkDrive => Sys2Proof.Machine.execWakeMarkDrive s
  | .wakeFilterRun us => Sys2Proof.Machine.execWakeFilterRun us s
  | .wakeFilterTimeout => Sys2Proof.Machine.execWakeFilterTimeout s
  | .wakeFilterFrame bits => Sys2Proof.Machine.execWakeFilterFrame bits s
  | .powerOnReset => Sys2Proof.Machine.execPowerOnReset s
  | .powerOnResetEnd u storeAnswers => Sys2Proof.Machine.execPowerOnResetEnd u storeAnswers s
  | .writeBegin => Sys2Proof.Machine.execWriteBegin s
  | .writeAttemptEnd content answers => Sys2Proof.Machine.execWriteAttemptEnd content answers s
  | .patrolStep => Sys2Proof.Machine.execPatrolStep s
  | .pairSecret => Sys2Proof.Machine.execPairSecret s
  | .pairKey => Sys2Proof.Machine.execPairKey s
  | .removeKey => Sys2Proof.Machine.execRemoveKey s
  | .pairingBufferExpiry => Sys2Proof.Machine.execPairingBufferExpiry s
  | .clearHalt => Sys2Proof.Machine.execClearHalt s
  | .relearnWindow => Sys2Proof.Machine.execRelearnWindow s
  | .writeConfig => Sys2Proof.Machine.execWriteConfig s
  | .readStatus => Sys2Proof.Machine.execReadStatus s
  | .moveWindow => Sys2Proof.Machine.execMoveWindow s
  | .serviceReset => Sys2Proof.Machine.execServiceReset s
  | .serviceRequestUndefinedKind => Sys2Proof.Machine.execServiceRequestUndefinedKind s
  | .serviceResetPerform => Sys2Proof.Machine.execServiceResetPerform s
  | .flushTimeout => Sys2Proof.Machine.execFlushTimeout s
  | .challengeBurstEnd => Sys2Proof.Machine.execChallengeBurstEnd s
  | .lineHoldStart => Sys2Proof.Machine.execLineHoldStart s
  | .wakeMarkEnd => Sys2Proof.Machine.execWakeMarkEnd s

end Sys2Proof.Machine
end

