-- ==== Sys2Proof/Safety.lean ====
section
/-! DEFINITION. What counts as a safe run, in the terms the statements use: the ordinary running station, what the
end of a command leaves alone, and the invariants that every step keeps. -/

namespace Sys2Proof.Machine

/-! ## The ordinary running station -/

/-- The station runs and nothing waits to be done at the end of the next command: it is not held in reset (R183), its
power state is RUN (R172), no intent is held (R77), no drop answer is outstanding (R60), and no INTERIOR SEARCH waits
to be queued (R126). -/
abbrev Calm (s : State) : Prop :=
  s.power.heldSince = none ∧ s.power.state = .run ∧ s.intent.held = none ∧ s.win.dropAnswer = none
    ∧ ∀ r ∈ s.search.record, r.stage ≠ .interiorClaiming

/-- The transmit queue has room for `n` more frames (R141). -/
abbrev Roomy (n : Nat) (s : State) : Prop := s.line.tx.length + n ≤ 6

/-- The supply is NORMAL or LOW (R170). -/
abbrev GoodSupply (s : State) : Prop := s.power.supply.poor = false

/-- A frame with this data waits in the transmit queue. -/
abbrev Queued (p : Payload) (s : State) : Prop := ∃ e ∈ s.line.tx, e.frame.payload = p ∧ e.frame.origin = s.addr

/-- The frame `fr`, which ended at `endAt`, is at the head of the receive queue, with no report due right behind it
(R140, R145). -/
abbrev Head (fr : Frame) (endAt : Nat) (rest : List RxItem) (s : State) : Prop :=
  s.line.rx = .frame fr endAt :: rest ∧ rest.all (fun x => match x with | .frame _ _ => true | .sent _ _ => false)

/-- The state in which a frame's delivery leaves the parts every frame acts on: it leaves the receive queue (R145),
its epochs are raised (R73), and its origin is PRESENT with its silence timer restarted (R163). -/
def afterHearing (fr : Frame) (rest : List RxItem) (s : State) : State :=
  heard fr.origin (raiseFrom fr.payload { s with line := { s.line with rx := rest } })

/-! ## What the statements name -/

/-- The motor is driven toward `d` in motion state `m` (R8, R26): the stall measure starts, no coast window, brake,
pause or start-stall pause is left, and the rest field is MOVING with its record queued when it was not (R25). -/
def motorRuns (d : Direction) (m : MotionState) (s : State) : State :=
  let t := { s with win := { s.win with
    motor := .driven d, motion := m, motorStartAt := s.now, coast := none, pulses := 0, pauseEnd := none
    brakeEnd := none, pauseLimit := none, recMoving := true } }
  if s.win.recMoving then t else queueRecord .windowState t

/-- A motor start toward `d` (R26): STARTING with the pinch count 0 and an empty supply history (R27, R35). -/
def motorStarts (d : Direction) (s : State) : State :=
  motorRuns d .starting { s with pinch := { s.pinch with count := 0, history := [] } }

/-- The grant of request `r` that is no override motion (R26, R35, R44): it is the running request, and the count,
the learning sums and the marks of the motion are fresh. -/
def requestRuns (r : Request) (s : State) : State :=
  { s with
    win := { s.win with req := some r, clamped := false, overrideMotion := false }
    pinch := { s.pinch with count := 0, sums := clearSums, transient := false, offNormal := false } }

/-- Request `r`, granted with no motion running in a supply other than CRANK, drives the motor (R8). -/
def motionStarts (r : Request) (s : State) : State :=
  motorStarts r.dir (requestRuns r { s with win := { s.win with startStalls := 0 } })

/-- The motion of request `r` has ended with outcome `o` (R8, R13): IDLE, the motor off, a coast window of 30 ms where
it was driven, the override motion over, and the rest field AT REST (R25); that its record is queued now where no
coast window follows is log 12. -/
def motionEnds (r : Request) (o : Outcome) (s : State) : State :=
  let c := match s.win.motor with
    | .driven d => some (s.now + 30000, d)
    | _ => s.win.coast
  let t := { s with
    win := { s.win with
      motion := .idle, req := none, motor := .off, pauseEnd := none, brakeEnd := none, pauseLimit := none, coast := c
      recMoving := false, lastEnd := some (r.source, o), overrideMotion := false }
    pinch := if s.win.overrideMotion then endOverride s.pinch else s.pinch }
  if s.win.recMoving && c.isNone then queueRecord .windowState t else t

/-- The motor is braked for 20 ms with request `r` waiting (R8, R12). -/
def brakes (r : Request) (s : State) : State :=
  { s with win := { s.win with
    motion := .braking, motor := .braked, req := some r, brakeEnd := some (s.now + 20000), pauseEnd := none
    startStalls := 0
    coast := match s.win.motor with
      | .driven d => some (s.now + 30000, d)
      | _ => s.win.coast } }

/-- The motor is off and the motion waits in PAUSED for at most 3 s (R22); it does not teach (R44). -/
def pauses (s : State) : State :=
  { s with
    win := { s.win with
      motion := .paused, motor := .off, pauseLimit := some (s.now + 3000000), pauseEnd := none, brakeEnd := none
      coast := match s.win.motor with
        | .driven d => some (s.now + 30000, d)
        | _ => s.win.coast }
    pinch := { s.pinch with offNormal := true } }

/-- The whole supply figures of a pulse: U clamped to 0..20000 and T saturated to 1..65535 (R27). -/
abbrev pulseU (u : Nat) : Nat := min u 20000
abbrev pulseT (t : Nat) : Nat := max 1 (min t 65535)

/-- A hall pulse with the motor driven leaves the count at `q` and brings the supply sample `u` (R1, R7, R27, R171): the
16th pulse of the drive makes STARTING MOVING with no start stall, U joins the supply history, and the rise measures
move. The pinch count, the sums and the request are not touched. -/
def pulseCounts (u : Nat) (q : Int) (s : State) : State :=
  let past := s.win.motion = .starting ∧ 15 ≤ s.win.pulses
  let since := fun (level : Nat) (m : Option Nat) => if level ≤ u then some (m.getD s.now) else none
  { s with
    win := { s.win with
      p := q, pulses := s.win.pulses + 1, lastPulseAt := s.now, motion := if past then .moving else s.win.motion
      startStalls := if past then 0 else s.win.startStalls }
    pins := { s.pins with supplySense := u }
    pinch := { s.pinch with
      history := (s.pinch.history ++ [pulseU u]).drop (s.pinch.history.length + 1 - 8)
      offNormal := s.pinch.offNormal || s.power.supply != .normal }
    power := { s.power with
      rise6300 := since 6300 s.power.rise6300, rise7800 := since 7800 s.power.rise7800
      rise9300 := since 9300 s.power.rise9300 } }

/-- The latch with its release sequence IDLE again and an outcome (R59); the attempt count stays. -/
def Latch.ended (o : ReleaseOutcome) (l : Latch) : Latch :=
  { l with
    seq := .idle, kind := none, dropOut := false, retryDelay := none, pulseEnd := none, waitEnd := none
    supplyWait := none, lastRelease := o }

/-- The latch with a pulse of at most 250 ms begun at `now` and one more attempt (R59, R62). -/
def Latch.pulsed (now : Nat) (l : Latch) : Latch :=
  { l with
    seq := .releasing, attempts := l.attempts + 1, pulseEnd := some (now + 250000), dropOut := false
    retryDelay := none, waitEnd := none, supplyWait := none }

/-- A lookup of `id` meets slot `m` failing its check (R98): the slots below are EMPTY, or sound under another identity.
That the slots are read in this order is log 24. -/
abbrev MeetsSpoiltSlot (id : Word32) (m : Slot) (s : State) : Prop :=
  s.keys.slots[m].state ≠ .empty ∧ slotGood m s.keys.slots[m] = false
    ∧ ∀ j : Slot, j < m →
      s.keys.slots[j].state = .empty ∨ (slotGood j s.keys.slots[j] = true ∧ s.keys.slots[j].identity ≠ id)

/-- What a good record of slot `m` in a store that answers gives (R185, R203). -/
abbrev slotRecord (m : Slot) (s : State) : Option SlotCover :=
  if s.pins.storeAnswers then (goodContent (.key m) s.store.records[(RecordId.key m).index]).bind (decodeKey m) else none

/-- Slot `m` reloaded from its record `c` (R98): SUSPENDED again under a running suspension timer, its pending resync and
bad-code fields as they were, its check word fresh; nothing is queued. -/
def slotReloaded (m : Slot) (c : SlotCover) (s : State) : State :=
  let k : KeySlot := { s.keys.slots[m] with
    state := if s.keys.slots[m].suspendedUntil.isSome && c.state == .paired then .suspended else c.state
    identity := c.identity, sHi := c.sHi, sLo := c.sLo, counter := c.counter }
  { s with keys := { s.keys with slots := s.keys.slots.set m { k with check := slotCover m k } } }

/-- Slot `m` DAMAGED with the fault KEY DAMAGED, whose detail is the slot (R98); that its id leaves the write-back queue
is log 54. -/
def slotDamaged (m : Slot) (s : State) : State :=
  let k : KeySlot := { s.keys.slots[m] with state := .damaged }
  { s with
    keys := { s.keys with slots := s.keys.slots.set m { k with check := slotCover m k } }
    census := { s.census with faults := s.census.faults.set 2 (some (byte m.val)) }
    store := { s.store with queue := s.store.queue.filter fun x => x != .key m } }

/-! ## What the end of a command leaves alone -/

/-- An open entry without its timer, which a report of its frame starts (R84). -/
def OpenEntry.untimed (e : OpenEntry) : OpenEntry := { e with timer := none }

/-- The intent engine without its table and start hold. -/
def Intents.fixed (n : Intents) : Intents := { n with table := [], startHold := none }

/-- The line interface without its transmit queue and census gate. -/
def Line.fixed (l : Line) : Line := { l with tx := [], nextAge := 0, gateOpen := false }

/-- The census unit without the bookkeeping of its own frames. -/
def Census.fixed (c : Census) : Census :=
  { c with waitingChange := false, lastWatched := resetAnnounced, statusOwed := false, censusOwed := false }

/-- The power manager without the agreement count, the lone timer and a pending self-abort. -/
def Power.fixed (p : Power) : Power := { p with agree := 0, loneFrom := none, selfAbort := false }

/-- The record store interface without its flush. -/
def Store.fixed (t : Store) : Store := { t with flush := none }

/-- No own SEARCH CLAIM or INTERIOR SEARCH with a job waits in the transmit queue, where it could be evicted (R142). -/
abbrev NoClaimWaits (s : State) : Prop :=
  ∀ e ∈ s.line.tx, isClaimPayload e.frame.payload = true → e.inTx = true ∨ e.jobless = true

/-- `b` differs from `a` only in what queuing the station's own CENSUS and ANNOUNCEMENT and judging the waiting
conditions may change: the transmit queue with the census gate, the attempt timers, the waiting change with the fields
last watched, the agreement count with the lone timer, a start hold that ends as every peer has announced, and what the
eviction of a frame brings (R78, R154, R157, R159, R175). In a queue with room no frame is evicted, so that the others
stay, with the flush's reply; there, and where no own claim waits, the search record and the held touch are the same
(R116, R142). -/
structure Kept (a b : State) : Prop where
  now : b.now = a.now
  pending : b.pending = a.pending
  freeCount : b.freeCount = a.freeCount
  pins : b.pins = a.pins
  addr : b.addr = a.addr
  cfg : b.cfg = a.cfg
  win : b.win = a.win
  pinch : b.pinch = a.pinch
  latch : b.latch = a.latch
  keys : b.keys = a.keys
  intent : b.intent.fixed = a.intent.fixed
  table : b.intent.table.map OpenEntry.untimed = a.intent.table.map OpenEntry.untimed
  startHold : b.intent.startHold = a.intent.startHold ∨ (b.intent.startHold = none ∧ allAnnounced b = true)
  claims : b.search.claims = a.search.claims
  nextNumber : b.search.nextNumber = a.search.nextNumber
  burst : b.search.burst = a.search.burst
  search : Roomy 4 a ∨ NoClaimWaits a → b.search.record = a.search.record ∧ b.search.held = a.search.held
  line : b.line.fixed = a.line.fixed
  stays : Roomy 4 a → ∀ e ∈ a.line.tx, isAnnouncement e = false → e ∈ b.line.tx
  census : b.census.fixed = a.census.fixed
  power : b.power.fixed = a.power.fixed
  store : b.store.fixed = a.store.fixed
  flush : b.store.flush.map (·.limitAt) = a.store.flush.map (·.limitAt)
  reply : Roomy 4 a → b.store.flush = a.store.flush

/-! ## Invariants -/

/-- Every own ANNOUNCEMENT in the transmit queue has the census unit waiting for its report (R141, R159). -/
abbrev AnnouncementsHaveJobs (s : State) : Prop := ∀ x ∈ s.line.tx, isAnnouncement x = true → x.jobless = false

/-- The line interface's bounds: 6 frames to send (R141), 8 received (R145), 2 extensions (R146), 31 consecutive
failures between commands (R139), an empty transmit queue in LINE FAULT (R147, R148), and a job for every
ANNOUNCEMENT. -/
abbrev LineBounds (s : State) : Prop :=
  s.line.tx.length ≤ 6 ∧ framesHeld s.line.rx ≤ 8 ∧ s.line.ext ≤ 2 ∧ s.line.failures ≤ 31
    ∧ (s.line.state ≠ .ok → s.line.tx = []) ∧ AnnouncementsHaveJobs s

/-- The open intent table: at most 4 entries, no tag 15, no tag twice (R76). -/
abbrev TableBounds (s : State) : Prop :=
  s.intent.table.length ≤ 4 ∧ (∀ e ∈ s.intent.table, e.tag ≠ 15) ∧ (s.intent.table.map (·.tag)).Nodup

/-- Motion state, request and motor go together (R8): IDLE exactly with no request; the motor driven only in STARTING,
MOVING or REVERSING and in the request's direction; braked exactly in BRAKING; driven whenever MOVING or REVERSING,
and in STARTING outside a start-stall pause; never resting in BLOCKED. The pinch count rests below 3 (R35). -/
abbrev MotionFits (s : State) : Prop :=
  (s.win.motion = .idle ↔ s.win.req = none)
    ∧ (∀ d, s.win.motor = .driven d →
        (s.win.motion = .starting ∨ s.win.motion = .moving ∨ s.win.motion = .reversing) ∧ s.win.req.map (·.dir) = some d)
    ∧ (s.win.motion = .braking ↔ s.win.motor = .braked)
    ∧ (s.win.motion = .moving ∨ s.win.motion = .reversing → ∃ d, s.win.motor = .driven d)
    ∧ (s.win.motion = .starting → (∃ d, s.win.motor = .driven d) ∨ s.win.pauseEnd.isSome)
    ∧ s.win.motion ≠ .blocked ∧ s.pinch.count ≤ 2

/-- The release sequence and its timers go together (R59, R60, R62, R65), with at most 3 attempts, and no EGRESS
request while child safety is ENGAGED (R56). The actuator is energised exactly in RELEASING. -/
abbrev ReleaseFits (s : State) : Prop :=
  (s.latch.kind.isNone ↔ s.latch.seq = .idle ∨ s.latch.seq = .halted)
    ∧ (s.latch.pulseEnd.isSome ↔ s.latch.seq = .releasing)
    ∧ (s.latch.waitEnd.isSome → s.latch.seq = .retryWait)
    ∧ (s.latch.retryDelay.isSome → s.latch.seq = .dropping)
    ∧ (s.latch.dropOut = true → s.latch.seq = .dropping)
    ∧ (s.latch.supplyWait.isSome → s.latch.seq = .dropping ∨ s.latch.seq = .retryWait)
    ∧ (s.latch.seq = .dropping → s.latch.attempts = 0)
    ∧ (s.latch.seq = .retryWait → s.latch.attempts ≤ 2)
    ∧ s.latch.attempts ≤ 3
    ∧ (s.latch.child = .engaged → s.latch.kind ≠ some .egress)

/-- The write-back queue holds no id twice (R188). -/
abbrev QueueDistinct (s : State) : Prop := s.store.queue.Nodup

/-- The figures lie in their ranges: the travel (R187) and the count (R1), H (R21), B (R159), the reversal history
(R39), every profile value (R45), and the saturating counts (R1, R96, R151, R159, R162, R170). -/
abbrev FiguresInRange (s : State) : Prop :=
  (64 ≤ s.cfg.travel ∧ s.cfg.travel ≤ 2048) ∧ (-32 ≤ s.win.p ∧ s.win.p ≤ s.cfg.travel + 32) ∧ s.win.heat ≤ 90000
    ∧ (-4 ≤ s.census.balance ∧ s.census.balance ≤ 4) ∧ s.pinch.reversals.length ≤ 3
    ∧ (∀ z : Zone, s.pinch.profile[z].value ≤ 16383)
    ∧ s.win.drift ≤ 65535 ∧ s.keys.stale ≤ 65535 ∧ s.keys.bad ≤ 65535 ∧ s.line.damaged ≤ 65535
    ∧ s.line.overruns ≤ 65535 ∧ s.line.txFails ≤ 65535 ∧ s.census.late ≤ 65535 ∧ s.power.spurious ≤ 65535
    ∧ (∀ a : Addr, s.census.peers[a].unresponsive ≤ 255)

/-- A station that may be in SLEEP: nothing is moving, released, open, held, searched, unwritten or unannounced, and
crash hold is off (R174, R178). -/
abbrev SleepFits (s : State) : Prop :=
  s.win.motion = .idle ∧ (s.latch.seq = .idle ∨ s.latch.seq = .halted) ∧ s.intent.table = [] ∧ s.intent.held = none
    ∧ s.search.record = none ∧ s.search.held = none ∧ s.store.queue = [] ∧ s.store.writing = none
    ∧ s.latch.crashEnd = none ∧ (s.census.announced = true ∨ s.line.state ≠ .ok) ∧ s.line.tx = [] ∧ s.line.rx = []

/-- The commands that end in a reset (R183, R198), those that read the supply sense below 4500 mV among them. -/
def isReset : Instr → Bool
  | .powerOnReset | .powerOnResetEnd _ _ | .serviceResetPerform | .flushTimeout => true
  | .supplySample u | .hallPulse u _ => decide (u < 4500)
  | _ => false

/-- The commands that may wake a sleeping station: the local inputs of R173 save an accepted fob frame, a frame of the
receiver data line, the relock timer's expiry (R179), and a WAKE at the wake filter (R181). -/
def mayWake : Instr → Bool
  | .outerHandlePull _ | .innerHandlePull | .unlockAreaTouch | .lockAreaTouch | .tailgateButton | .insideLockButton
  | .driverLockoutSwitch | .localSwitchFirstDetent _ | .localSwitchSecondDetent _ | .switchPackChange _ _ _ _
  | .latchSwitchChange _ | .buttonFrame _ | .passiveReply _ | .autoRelockExpiry | .wakeFilterFrame _ => true
  | _ => false

/-- The data a station builds for a frame (R201), and what a frame may carry as a SERVICE REQUEST. -/
def Payload.defined : Payload → Bool
  | .intent i => decide (i.tag.val ≤ 14)
  | .intentAck a =>
      match a.kind.family, a.current with
      | .latch, .latch _ _ => true
      | .child, .child _ => true
      | .window, .window _ => true
      | _, _ => false
  | .faultNotice f d => faultDetailDefined f d
  | .serviceRequest r =>
      decide (r.bytes.length ≤ 12) && (match r.bytes with
        | _ :: t :: _ => decide (t.toNat < 32)
        | _ => true)
  | .serviceReply _ k r =>
      decide (k.toNat ≤ 8) && (match r with
        | .status part bytes => statusDefined part.toNat bytes && decide (bytes.length ≤ 8)
        | _ => true)
  | _ => true

end Sys2Proof.Machine
end

