-- ==== Sys2Proof/Certificates/Slice0/Obligations.lean ====
section
/-! DEFINITION. The statements for the provers. Each docstring names the chapter and the rules it rests on; a statement
that follows a choice of the model names the log entry. -/

open Sys2Proof Sys2Proof.Machine

/-! ## The machine -/

/-- The step takes the command at the front of the queue and answers what `exec` answers for it on the queue's rest.
On an empty queue 1 ms passes and nothing else changes: the thermal figure follows the motor (R21) and a BUSY line
becomes FREE when its time has come (R135). What an empty queue does is the model's choice (log 2). That the parts
passed before of a ms driven and of 8 ms at rest count on is its choice too (log 90). -/
def Obligations.StepRunsTheFrontCommandOrIdles : Prop :=
  (∀ (c : Instr) (rest : List Instr) (s : State), s.pending = c :: rest → step s = exec c { s with pending := rest })
    ∧ ∀ s : State, s.pending = [] →
      step s = .next { s with
        now := s.now + 1000
        win := heatAfter s.win 1000
        line := if s.line.cond = .busy ∧ s.line.freeAt ≤ s.now + 1000 then { s.line with cond := .free } else s.line }

/-- No command of the table faults or is refused: each answers a next state, in every state. None touches the queue of
waiting commands or the strap lines, and time never goes back. -/
def Obligations.EveryCommandCompletes : Prop :=
  ∀ (c : Instr) (s : State), ∃ t, exec c s = .next t ∧
    t.pending = s.pending ∧ t.pins.strap = s.pins.strap ∧ s.now ≤ t.now ∧ s.freeCount ≤ t.freeCount

/-- The state after reset meets every invariant that the statements below say each step keeps. -/
def Obligations.ResetMeetsTheInvariants : Prop :=
  LineBounds State.reset ∧ TableBounds State.reset ∧ MotionFits State.reset ∧ ReleaseFits State.reset
    ∧ QueueDistinct State.reset ∧ FiguresInRange State.reset

/-! ## Invariants -/

/-- Chapter 7: every step keeps the line interface's bounds, the transmit queue empty in LINE FAULT, and a job for
every own ANNOUNCEMENT in the queue, so that SLEEP may withdraw it. -/
def Obligations.EveryStepKeepsLineBounds : Prop :=
  ∀ s t : State, LineBounds s → step s = .next t → LineBounds t

/-- Chapter 1, 1.4: every step keeps motion state, running request and motor in step with one another. -/
def Obligations.EveryStepKeepsMotionStateRequestAndMotor : Prop :=
  ∀ s t : State, MotionFits s → step s = .next t → MotionFits t

/-- Chapter 3, 3.5: every step keeps the release sequence in step with its timers and within 3 attempts, and no EGRESS
request is in progress at a station whose child safety is ENGAGED. The actuator is energised exactly in RELEASING. A
HALTED release sequence is left only by a CLEAR HALT request or a reset. -/
def Obligations.EveryStepKeepsTheReleaseSequenceAndHalted : Prop :=
  (∀ s t : State, ReleaseFits s → step s = .next t → ReleaseFits t)
    ∧ ∀ (c : Instr) (s t : State), ReleaseFits s → exec c s = .next t → s.latch.seq = .halted → c ≠ .clearHalt →
      isReset c = false → t.latch.seq = .halted

/-- Chapters 1, 2, 4, 5, 7, 8, 9 and 10: every step keeps the count, the thermal figure, the balance, the profile
values and the saturating counts in their ranges, and the write-back queue holding each id at most once. The open
intent table never holds more than 4 entries, none with tag 15, and no two with one tag (4.3). -/
def Obligations.EveryStepKeepsFiguresQueueAndTable : Prop :=
  (∀ s t : State, FiguresInRange s → step s = .next t → FiguresInRange t)
    ∧ (∀ s t : State, QueueDistinct s → step s = .next t → QueueDistinct t)
    ∧ ∀ s t : State, TableBounds s → step s = .next t → TableBounds t

/-- Chapter 9, 9.3 and 9.4: a command that takes the station into SLEEP leaves it with nothing moving, released, open,
held, searched, unwritten or queued, and with crash hold off. Every step keeps that while the station is in SLEEP:
from any state in which it holds whenever the power state is SLEEP, a step leads to a state in which it does (R178). A
sleeping station leaves SLEEP by a reset, or by one of the commands that `mayWake` lists: the local wake causes and a
frame at the wake filter. The premises, that every own ANNOUNCEMENT has a job and that motion state and request go
together, are invariants of their own (EveryStepKeepsLineBounds, EveryStepKeepsMotionStateRequestAndMotor,
ResetMeetsTheInvariants). That the coast window and the timers of the window and the release sequence do not run on in
SLEEP is the model's reading of R178 (log 34). -/
def Obligations.SleepIsEnteredWhenReadyAndEndedByWakesAndResets : Prop :=
  (∀ (c : Instr) (s t : State), AnnouncementsHaveJobs s → exec c s = .next t →
      (s.power.state ≠ .sleep → t.power.state = .sleep → SleepFits t)
        ∧ (s.power.state = .sleep → isReset c = false → mayWake c = false → t.power.state = .sleep))
    ∧ ∀ s t : State, AnnouncementsHaveJobs s → MotionFits s → (s.power.state = .sleep → SleepFits s) → step s = .next t →
      (t.power.state = .sleep → SleepFits t)

/-- Chapter 4, 4.2 and 4.4: a target's decision on an intent leaves the last-applied key of every family as it is, or
sets that of the intent's own family to the intent's key, which is higher than the key before. A command makes at most
one decision where no intent is held and no INTERIOR SEARCH waits to be queued: between resets it then leaves each
last-applied key equal, or raises it directly to a higher one. -/
def Obligations.LastAppliedKeysRiseByHigherKeys : Prop :=
  (∀ (k : IntentKind) (key : OrderKey) (s : State) (f : Family),
      lastKey f (decideIntent k key s).2.2.intent = lastKey f s.intent
        ∨ (f = k.family ∧ lastKey f (decideIntent k key s).2.2.intent = key ∧ keyHigher key (lastKey f s.intent) = true))
    ∧ ∀ (c : Instr) (s t : State) (f : Family), s.intent.held = none →
      (∀ r ∈ s.search.record, r.stage ≠ .interiorClaiming) → exec c s = .next t → isReset c = false →
      lastKey f t.intent = lastKey f s.intent ∨ keyHigher (lastKey f t.intent) (lastKey f s.intent) = true

/-! ## Layouts -/

/-- Chapters 7 and 11: whatever class, origin and data a frame has, its bits pass the reception checks and are read
back as its class, origin, kind and data, and the data as what it stood for. -/
def Obligations.FrameBitsReadBack : Prop :=
  ∀ f : Frame, f.payload.defined = true →
    readFrame (frameBits f) = some { cls := f.cls, origin := f.origin, kind := f.payload.kind, data := f.payload.data }
      ∧ decodePayload f.payload.kind f.payload.data = some f.payload

/-- Chapter 11, 11.4: a record written with content of its size is good when it is read, and gives back that content;
the contents of all ten records are read back as the fields they were written from. A PAIRED or SUSPENDED slot reads
back PAIRED with its identity, secret and counter (R113, 5.10), any other slot EMPTY; DAMAGED is never written, so
that EMPTY is the one stored state beside PAIRED. The profile reads back as the travel and the learned flag and value
of its 32 zones. That p0 of WINDOW STATE is written and read as 0 while drop owed is clear is the model's choice (log
87), as is the 0 written into spare bits (log 105). -/
def Obligations.StoredRecordsReadBack : Prop :=
  (∀ (r : RecordId) (c : List Byte), c.length = r.size → goodContent r (some (recordBytes r c)) = some c)
    ∧ (∀ c : Settings, (settingsRanges c).all id = true → (configContent c).length = RecordId.config.size
        ∧ decodeConfig (configContent c) = some c)
    ∧ (∀ (n : Slot) (k : KeySlot), (keyContent n k).length = (RecordId.key n).size
        ∧ (k.state = .paired ∨ k.state = .suspended →
          decodeKey n (keyContent n k) = some (slotCover n { k with state := .paired }))
        ∧ (k.state = .empty ∨ k.state = .damaged →
          decodeKey n (keyContent n k) = some
            { slot := n, state := .empty, identity := 0#32, sHi := 0#32, sLo := 0#32, counter := 0#24 }))
    ∧ (∀ (travel : Nat) (profile : Vector ZoneEntry 32), travel ≤ 65535 → (∀ z : Zone, profile[z].value ≤ 65535) →
        (profileContent travel profile).length = RecordId.profile.size
          ∧ ∃ read, decodeProfile (profileContent travel profile) = some (travel, read)
            ∧ ∀ z : Zone, read z = (profile[z].learned, profile[z].value))
    ∧ (∀ w : Window, -32768 ≤ w.p → w.p ≤ 32767 → (∀ q ∈ w.dropOwed, -32768 ≤ q ∧ q ≤ 32767) →
        decodeWindow (windowContent w)
          = some (!w.norm, w.recMoving, w.dropOwed.isSome, w.p, w.dropOwed.getD 0))
    ∧ (∀ l : Latch, decodeLatch (latchContent l) = some (l.lock, l.child == .engaged))

/-! ## Glass travel and pinch protection (chapters 1 and 2) -/

/-- 1.1: in every state with the motor driven, a hall pulse moves the count by one in the direction of drive, and not
past its bounds -32 and P_travel + 32, whatever else it brings about; the supply sense reads no reset (9.5). With the
motor not driven it moves the count while a coast window is open, in its direction, and changes nothing else but the
time of the latest pulse; without a coast window it is not counted. That such a coast pulse leaves drop owed clear
also after or during a DROP motion with no driven pulse yet is the model's reading (log 19). -/
def Obligations.HallPulseMovesTheCount : Prop :=
  (∀ (s : State) (u t : Nat) (d : Direction), s.power.heldSince = none → 4500 ≤ u → s.win.motor = .driven d →
       let q := if d = .up then s.win.p - 1 else s.win.p + 1
       ∃ v, exec (.hallPulse u t) s = .next v
         ∧ v.win.p = if -32 ≤ q ∧ q ≤ (s.cfg.travel : Int) + 32 then q else s.win.p)
    ∧ (∀ (s : State) (u t : Nat), Calm s → 4500 ≤ u → isDriven s.win.motor = false →
          let n := advanceTo (s.win.lastPulseAt + t) s
          (s.win.coast = none → ∃ v, exec (.hallPulse u t) s = .next v ∧ Kept n v)
            ∧ (∀ c ∈ s.win.coast, c.1 < n.now → ∃ v, exec (.hallPulse u t) s = .next v ∧ Kept n v)
            ∧ ∀ c ∈ s.win.coast, n.now ≤ c.1 →
                let q := if c.2 = .up then s.win.p - 1 else s.win.p + 1
                (-32 ≤ q) → q ≤ (s.cfg.travel : Int) + 32 →
                  ∃ v, exec (.hallPulse u t) s = .next v
                    ∧ Kept { n with win := { n.win with p := q, lastPulseAt := n.now } } v)

/-- 2.1 to 2.3: an evaluated pulse of a closing motion (R26) that passes the transient guard (R34). From U and T the
load figure L and the excess over the reference are computed, and compared with the effective threshold (R28 to R33).
The count rises by 1 on a greater excess, and else returns to 0 (R35). A learned zone whose check fails at this demand
is unlearned with a fresh check and the profile record queued, and the reference is then the fallback (R31, R42).
Unless the count reaches 3, nothing else changes but the count, the position, the drive's pulses, the supply history,
the learning sums and the supply sample with its rise measures (R171). At 3 a pinch is declared on that pulse (R35,
R37): the motion ends PINCHED, the motor is braked for 20 ms, a REVERSAL to the reversal distance further down waits
with the count at 0, and the pinch enters the reversal history; a motion of source GLOBAL or RISE queues its WINDOW
REPORT. That is said outside the override motion. That the sample of a pulse moves the rise measures and nothing else
of the supply is the model's reading (log 31). -/
def Obligations.EvaluatedPulseMovesThePinchCount : Prop :=
  ∀ (s : State) (r : Request) (u t : Nat), Calm s → 4500 ≤ u → s.cfg.caps.window = true → s.win.norm = true →
    s.win.motor = .driven .up → s.win.motion = .moving → s.win.req = some r → r.source ≠ .drop →
    satisfied r (s.win.p - 1) = false → 16 ≤ s.win.pulses → (s.cfg.sealZone : Int) < s.win.p - 1 →
    s.win.p - 1 ≤ (s.cfg.travel : Int) + 32 → s.latch.position = .closed →
    ¬ (levelState u).rank < s.power.supply.rank →
    transientAt s.pinch.history (pulseU u) = false →
    let z := zoneOf s.cfg (s.win.p - 1)
    let spoilt := s.pinch.profile[z].learned = true ∧ zoneGood z s.pinch.profile[z] = false
    let n := advanceTo (s.win.lastPulseAt + t) s
    let B := if pulseU u < s.cfg.kspeed / pulseT t then pulseU u else s.cfg.kspeed / pulseT t
    let L := min 16383 (pulseU u - B)
    let R := if s.pinch.profile[z].learned = true ∧ zoneGood z s.pinch.profile[z] = true then s.pinch.profile[z].value
      else s.cfg.rfb
    let m := if s.win.overrideMotion then 8 else if r.source = .localSwitch ∨ r.source = .remoteSwitch then 4 else 3
    let f := if s.power.supply = .normal then 4 else 5
    let c := if ((s.cfg.th * m * f / 16 : Nat) : Int) < (L : Int) - R then s.pinch.count + 1 else 0
    let sampled : State :=
      { n with
        win := { n.win with p := s.win.p - 1, pulses := s.win.pulses + 1, lastPulseAt := n.now }
        pins := { s.pins with supplySense := u }
        pinch := { s.pinch with
          count := c
          sums := s.pinch.sums.set z
            { s.pinch.sums[z] with sum := s.pinch.sums[z].sum + L, count := s.pinch.sums[z].count + 1 }
          history := (s.pinch.history ++ [pulseU u]).drop (s.pinch.history.length + 1 - 8)
          offNormal := s.pinch.offNormal || s.power.supply != .normal }
        power := { s.power with
          rise6300 := if 6300 ≤ u then some (s.power.rise6300.getD n.now) else none
          rise7800 := if 7800 ≤ u then some (s.power.rise7800.getD n.now) else none
          rise9300 := if 9300 ≤ u then some (s.power.rise9300.getD n.now) else none } }
    let weighed_ := if spoilt then queueRecord .profile { sampled with pinch := { sampled.pinch with
        profile := s.pinch.profile.set z
          { learned := false, value := 0, check := { zone := z, learned := false, value := 0 } } } }
      else sampled
    (c ≠ 3 → ∃ v, exec (.hallPulse u t) s = .next v ∧ Kept weighed_ v)
      ∧ (c = 3 → s.win.overrideMotion = false → s.win.drop = none →
        let rev : Request :=
          { source := .reversal, dir := .down, mode := .toPosition (min (s.win.p - 1 + s.cfg.revDist) s.cfg.travel) }
        ∃ v, exec (.hallPulse u t) s = .next v
          ∧ Kept (brakes rev (requestRuns rev { weighed_ with
              win := { weighed_.win with lastEnd := some (r.source, .pinched), pinchAt := s.win.p - 1 }
              pinch := enterPinch n.now weighed_.pinch })) v
          ∧ (r.source = .global ∨ r.source = .rise → s.line.state = .ok → Roomy 4 s →
            Queued (.windowReport (r.source == .rise) false .pinched (BitVec.ofInt 16 (s.win.p - 1))) v))

/-- 1.1, 1.3, 1.4, 1.6 and 2.1 to 2.3: hall pulses of a running motion that are not weighed against the threshold. A
pulse of a DOWN motion, and one of an UP motion in the first 16 of its drive, in the seal zone or while UNNORMALISED,
only moves the count, joins the supply history, and marks its zone when UP; the 16th of the drive makes STARTING
MOVING (R7, R8). One that the transient guard stops, more than 600 mV from the oldest of 8, marks its zone and the
motion too and leaves the pinch count (R34). The pulse at which a TO POSITION motion reaches its target ends it CLOSED
or OPENED (R9); while the latch is OPEN and the window NORMALISED, the one that takes an UP motion to the drop
position ends it STOPPED (R18). A pulse past a bound leaves the count there, adds a drift event and makes the window
UNNORMALISED with its record queued; a LOCAL SWITCH MANUAL motion runs on, any other ends STOPPED, and a further such
pulse adds none (R1, R2). A motion of source GLOBAL or RISE that ends queues its WINDOW REPORT. The supply state does
not fall. That the pulse at which a bound ends the motion joins no supply history is the model's choice (log 58). A
pulse of the coast window that would pass a bound is clamped in the same way: the first since the last grant adds a
drift event and makes a NORMALISED window UNNORMALISED, a further one changes nothing but the time of the latest
pulse; that a request which waits then ends STOPPED, unless it is LOCAL SWITCH MANUAL, is the model's choice (log 68).
The transient guard comes after the demand check: a learned zone that fails it is unlearned, with the profile record
queued (R31, R42). That the sample of a driven pulse moves the rise measures and nothing else of the supply is the
model's reading (log 31). -/
def Obligations.PulseEndsGuardsOrClampsAMotion : Prop :=
  (∀ (s : State) (r : Request) (u t : Nat), Calm s → 4500 ≤ u → s.power.supply.rank ≤ (levelState u).rank →
      s.win.req = some r → s.win.motor = .driven r.dir → s.win.drop = none → s.pinch.count ≤ 2 →
      let n := advanceTo (s.win.lastPulseAt + t) s
      let q := if r.dir = .up then s.win.p - 1 else s.win.p + 1
      let inside := -32 ≤ q ∧ q ≤ (s.cfg.travel : Int) + 32
      let runs := fun m : State => ∃ v, exec (.hallPulse u t) s = .next v ∧ Kept m v
      let ends := fun (o : Outcome) (m : State) => ∃ v, exec (.hallPulse u t) s = .next v ∧ Kept (motionEnds r o m) v
        ∧ (r.source = .global ∨ r.source = .rise → s.line.state = .ok → Roomy 4 s →
          Queued (.windowReport (r.source == .rise) (!m.win.norm) o (BitVec.ofInt 16 m.win.p)) v)
      let marked := fun (p : Int) (m : State) =>
        let z := zoneOf s.cfg p
        { m with pinch := { m.pinch with sums := m.pinch.sums.set z { m.pinch.sums[z] with mark := true } } }
      (r.dir = .down → r.source ≠ .drop → inside →
          (∀ x, r.mode = .toPosition x → x ≤ q → ends .opened (pulseCounts u q n))
          ∧ ((∀ x, r.mode = .toPosition x → q < x) → runs (pulseCounts u q n)))
        ∧ (r.dir = .up → inside → s.win.pulses < 16 ∨ q ≤ s.cfg.sealZone ∨ s.win.norm = false →
          let m := marked q (pulseCounts u q n)
          let frameless := s.latch.position = .opened ∧ s.win.norm = true ∧ q ≤ s.cfg.dropDist
          (∀ x, r.mode = .toPosition x → q ≤ x → ends .closed m)
          ∧ ((∀ x, r.mode = .toPosition x → x < q) → frameless → ends .stopped m)
          ∧ ((∀ x, r.mode = .toPosition x → x < q) → ¬ frameless → runs m))
        ∧ (r.dir = .up → inside → s.cfg.caps.window = true → s.win.norm = true → s.win.motion = .moving →
          16 ≤ s.win.pulses → (s.cfg.sealZone : Int) < q → (∀ x, r.mode = .toPosition x → x < q) →
          s.latch.position = .closed →
          s.pinch.history.length = 8 → (∀ o ∈ s.pinch.history.head?, o + 600 < pulseU u ∨ pulseU u + 600 < o) →
          let z := zoneOf s.cfg q
          let m := marked q (pulseCounts u q n)
          let touched := { m with pinch := { m.pinch with transient := true } }
          let bare : ZoneEntry := { learned := false, value := 0, check := { zone := z, learned := false, value := 0 } }
          runs (if s.pinch.profile[z].learned = true ∧ zoneGood z s.pinch.profile[z] = false then
              queueRecord .profile { touched with
                pinch := { touched.pinch with profile := s.pinch.profile.set z bare } }
            else touched))
        ∧ (¬ inside → s.win.norm = true → s.win.clamped = false → r.source ≠ .drop →
          let beyond := fun m : State => queueRecord .windowState { m with win := { m.win with
            clamped := true, drift := min 65535 (s.win.drift + 1), norm := false } }
          let m := beyond (pulseCounts u s.win.p n)
          (r.source = .localSwitch → r.mode = .manual → runs (if r.dir = .up then marked s.win.p m else m))
          ∧ (¬ (r.source = .localSwitch ∧ r.mode = .manual) →
            ends .stopped { m with
              win := { m.win with motion := s.win.motion, startStalls := s.win.startStalls }, pinch := s.pinch }))
        ∧ (¬ inside → s.win.clamped = true →
          ∃ v, exec (.hallPulse u t) s = .next v ∧ v.win.p = s.win.p ∧ v.win.drift = s.win.drift
            ∧ v.win.norm = s.win.norm))
    ∧ ∀ (s : State) (u t : Nat), Calm s → 4500 ≤ u → isDriven s.win.motor = false →
      let n := advanceTo (s.win.lastPulseAt + t) s
      ∀ c ∈ s.win.coast, n.now ≤ c.1 →
      let q := if c.2 = .up then s.win.p - 1 else s.win.p + 1
      q < -32 ∨ (s.cfg.travel : Int) + 32 < q →
      let passed := { n with win := { n.win with lastPulseAt := n.now } }
      let drifted := { n with win := { n.win with
        lastPulseAt := n.now, clamped := true, drift := min 65535 (s.win.drift + 1) } }
      let lost := queueRecord .windowState { drifted with win := { drifted.win with norm := false } }
      (s.win.clamped = true → ∃ v, exec (.hallPulse u t) s = .next v ∧ Kept passed v)
        ∧ (s.win.clamped = false → s.win.norm = false → ∃ v, exec (.hallPulse u t) s = .next v ∧ Kept drifted v)
        ∧ (s.win.clamped = false → s.win.norm = true →
          ((∀ r ∈ s.win.req, r.source = .localSwitch ∧ r.mode = .manual) →
            ∃ v, exec (.hallPulse u t) s = .next v ∧ Kept lost v)
          ∧ ∀ r ∈ s.win.req, ¬ (r.source = .localSwitch ∧ r.mode = .manual) → s.win.drop = none →
            ∃ v, exec (.hallPulse u t) s = .next v ∧ Kept (motionEnds r .stopped lost) v
              ∧ (r.source = .global ∨ r.source = .rise → s.line.state = .ok → Roomy 4 s →
                Queued (.windowReport (r.source == .rise) true .stopped (BitVec.ofInt 16 s.win.p)) v))

/-- 2.3 and 2.4: a stall of an UP motion above the seal zone while NORMALISED is declared a pinch whatever the count:
the motor is braked for 20 ms, and a REVERSAL down to min(p + reversal distance, P_travel) waits with the count at 0.
The pinch enters the reversal history with its time; the third within less than 10 s brings PINCH HOLD (R39). A motion
of source GLOBAL or RISE queues its WINDOW REPORT. -/
def Obligations.StallAboveTheSealZoneIsAPinch : Prop :=
  ∀ (s : State) (r : Request), Calm s → s.win.norm = true → s.win.motor = .driven .up → s.win.req = some r →
    s.win.drop = none → (s.cfg.sealZone : Int) < s.win.p → s.win.overrideMotion = false →
    let n := advanceTo (stallFrom s.win + s.cfg.stallMs * 1000) s
    let rev : Request :=
      { source := .reversal, dir := .down, mode := .toPosition (min (s.win.p + s.cfg.revDist) s.cfg.travel) }
    ∃ v, exec .stall s = .next v
      ∧ Kept (brakes rev (requestRuns rev
          { n with
            win := { n.win with lastEnd := some (r.source, .pinched), pinchAt := s.win.p }
            pinch := enterPinch n.now s.pinch })) v
      ∧ (s.pinch.mode = .normal → s.pinch.reversals.length = 2 → (∀ x ∈ s.pinch.reversals.head?, n.now - x < 10000000) →
          v.pinch.mode = .pinchHold ∧ v.pinch.holdEnd = some (n.now + 10000000))
      ∧ (s.pinch.mode = .normal → s.pinch.reversals.length ≤ 1 → v.pinch.mode = .normal)
      ∧ (r.source = .global ∨ r.source = .rise → s.line.state = .ok → Roomy 4 s →
        Queued (.windowReport (r.source == .rise) false .pinched (BitVec.ofInt 16 s.win.p)) v)

/-- 1.2 and 1.3: a stall at an end stop corrects the count and ends the motion there: UP at or below the seal zone at
0 and CLOSED, DOWN within 24 of the travel's end at P_travel and OPEN. A correction of more than 4 is a drift event,
one of more than 64 makes the window UNNORMALISED, and the window record is queued. A clean close in NORMAL teaches
each zone with evaluated pulses and no mark, and queues the profile record (R44, R45): that a supply which left NORMAL
only between driven pulses, or only within BRAKING, leaves the close clean is the model's choice (log 60). A stall of
a DOWN motion elsewhere is in STARTING a start stall: the motor goes off for 300 ms and the start-stall count rises,
or at the third the motion ends BLOCKED. In MOVING and in a REVERSAL it ends BLOCKED. A motion of source GLOBAL or
RISE that ends queues its WINDOW REPORT with the position and the normalisation at its end. While UNNORMALISED an UP
stall changes nothing and the motor stays driven; a stall of 500 ms of the held LOCAL SWITCH MANUAL UP motion
completes the close hold: p 0, NORMALISED, drop owed clear, the window record queued and the motion ended CLOSED with
the motor off. -/
def Obligations.StallIsJudgedByPlaceAndCloseHold : Prop :=
  (∀ (s : State) (r : Request), Calm s → s.win.req = some r → s.win.drop = none → r.source ≠ .drop →
       let n := advanceTo (stallFrom s.win + s.cfg.stallMs * 1000) s
       let corrected := fun q : Int => queueRecord .windowState { n with win := { n.win with
         p := q
         drift := if 4 < (s.win.p - q).natAbs then min 65535 (s.win.drift + 1) else s.win.drift
         norm := s.win.norm && decide ((s.win.p - q).natAbs ≤ 64) } }
       let reported := fun (o : Outcome) (q : Int) (v : State) =>
         r.source = .global ∨ r.source = .rise → s.line.state = .ok → Roomy 4 s →
           Queued (.windowReport (r.source == .rise)
             (!(s.win.norm && decide ((s.win.p - q).natAbs ≤ 64))) o (BitVec.ofInt 16 q)) v
       (s.win.motor = .driven .up → s.win.norm = true → s.win.p ≤ s.cfg.sealZone →
           s.pinch.sums.toList.any teaches = false →
           ∃ v, exec .stall s = .next v ∧ Kept (motionEnds r .closed (corrected 0)) v ∧ reported .closed 0 v)
         ∧ (s.win.motor = .driven .up → s.win.norm = true → s.win.p ≤ s.cfg.sealZone → s.win.overrideMotion = false →
           s.pinch.transient = false → s.pinch.offNormal = false → ∀ z : Zone, teaches s.pinch.sums[z] = true →
           let g := s.pinch.profile[z]
           let avg := s.pinch.sums[z].sum / s.pinch.sums[z].count
           let step := ((avg : Int) - g.value).tdiv 8
           let value := if g.learned = true ∧ zoneGood z g = true then (max 0 (min 16383 ((g.value : Int) + step))).toNat
             else min 16383 avg
           ∃ v, exec .stall s = .next v ∧ v.win.req = none ∧ v.win.p = 0 ∧ .profile ∈ v.store.queue
             ∧ v.pinch.profile[z] =
                 { learned := true, value := value, check := { zone := z, learned := true, value := value } })
         ∧ (s.win.motor = .driven .down → (s.cfg.travel : Int) - 24 ≤ s.win.p →
           ∃ v, exec .stall s = .next v ∧ Kept (motionEnds r .opened (corrected s.cfg.travel)) v
             ∧ reported .opened s.cfg.travel v))
    ∧ (∀ (s : State) (r : Request), Calm s → s.win.req = some r → s.win.drop = none → r.source ≠ .drop →
          s.win.motor = .driven .down → s.win.p < (s.cfg.travel : Int) - 24 →
          let n := advanceTo (stallFrom s.win + s.cfg.stallMs * 1000) s
          (s.win.motion = .starting → s.win.startStalls < 2 →
              ∃ v, exec .stall s = .next v ∧ Kept { n with win := { n.win with
                motor := .off, coast := some (n.now + 30000, .down), startStalls := s.win.startStalls + 1
                pauseEnd := some (n.now + 300000) } } v)
            ∧ ((s.win.motion = .starting ∧ 2 ≤ s.win.startStalls) ∨ s.win.motion = .moving ∨ s.win.motion = .reversing →
              ∃ v, exec .stall s = .next v ∧ Kept (motionEnds r .blocked n) v
                ∧ (r.source = .global ∨ r.source = .rise → s.line.state = .ok → Roomy 4 s →
                  Queued (.windowReport (r.source == .rise) (!s.win.norm) .blocked (BitVec.ofInt 16 s.win.p)) v)))
    ∧ ∀ s : State, Calm s → s.win.norm = false → s.win.motor = .driven .up → s.win.drop = none →
      let r : Request := { source := .localSwitch, dir := .up, mode := .manual }
      s.win.req = some r →
      (∃ v, exec .stall s = .next v ∧ Kept (advanceTo (stallFrom s.win + s.cfg.stallMs * 1000) s) v)
        ∧ let n := advanceTo (stallFrom s.win + 500000) s
          ∃ v, exec .closeHoldComplete s = .next v ∧ Kept (motionEnds r .closed
            (queueRecord .windowState { n with win := { n.win with p := 0, norm := true, dropOwed := none } })) v

/-- 1.4, 1.3 and 2.4: at the end of the 20 ms brake the waiting request starts the motor, with its start-stall count
0, or a REVERSAL runs; a REVERSAL whose target lay at or behind p_d, the position at the declaration, ends OPENED
without driving the motor (R37), wherever the glass has coasted since, and the supply history stays as it is as a
REVERSAL goes to REVERSING (log 73); a MANUAL request whose switch was let go ends STOPPED. At the end of a
start-stall pause the request starts the motor again. The latch is CLOSED, so that the frameless rule does not act
(R18). That the start-stall count is 0 after a brake is the model's reading (log 14). -/
def Obligations.WaitingRequestTakesTheMotor : Prop :=
  ∀ (s : State) (r : Request), Calm s → s.win.req = some r → s.win.drop = none → s.latch.position = .closed →
    (∀ e ∈ s.win.brakeEnd, s.win.motion = .braking → s.win.motor = .braked → s.power.supply ≠ .crank →
        let n := advanceTo e s
        (r.source ≠ .reversal → holds r s = true →
          ∃ v, exec .brakeEnd s = .next v
            ∧ Kept (motorStarts r.dir { n with win := { n.win with startStalls := 0 } }) v)
        ∧ (∀ q : Int, r = { source := .reversal, dir := .down, mode := .toPosition q } → q ≤ s.win.pinchAt →
          ∃ v, exec .brakeEnd s = .next v
            ∧ Kept (motionEnds r .opened { n with win := { n.win with startStalls := 0 } }) v)
        ∧ (r.source = .reversal → holds r s = true → satisfied r s.win.pinchAt = false → satisfied r s.win.p = false →
          ∃ v, exec .brakeEnd s = .next v
            ∧ Kept (motorRuns r.dir .reversing
                { n with win := { n.win with startStalls := 0 }, pinch := { n.pinch with count := 0 } }) v)
        ∧ (r.source ≠ .drop → holds r s = false →
          ∃ v, exec .brakeEnd s = .next v ∧ Kept (motionEnds r .stopped n) v))
      ∧ ∀ e ∈ s.win.pauseEnd, r.source ≠ .reversal →
          ∃ v, exec .startStallPauseEnd s = .next v ∧ Kept (motorStarts r.dir (advanceTo e s)) v

/-- 1.8, 1.9 and 2.5: a motion paused for 3 s ends STOPPED, and its window record is queued at once where no coast
window follows, which is the model's reading (log 12); a driven motion other than a reversal ends THERMAL at the
moment the thermal figure reaches 80000; and the end of a coast window with the rest field AT REST, as it is after a
motion's end, queues the window record. When the hold timer expires in PINCH HOLD the mode is NORMAL with an empty
reversal history; during the override motion the expiry is remembered until the motion ends. That the thermal limit
acts by its command, and the part of a ms by which H stands nearer to it, are the model's choices (logs 48 and 90). -/
def Obligations.TimersOfMotionCoastAndPinchHoldExpire : Prop :=
  (∀ (s : State), Calm s → s.win.drop = none →
       (∀ r ∈ s.win.req, r.source ≠ .drop → ∀ e ∈ s.win.pauseLimit,
           ∃ v, exec .pauseLimitExpiry s = .next v ∧ Kept (motionEnds r .stopped (advanceTo e s)) v)
         ∧ (∀ r ∈ s.win.req, r.source ≠ .drop → isDriven s.win.motor = true → s.win.motion ≠ .reversing →
           ∃ v, exec .thermalHardLimit s = .next v
             ∧ Kept (motionEnds r .thermal (advanceTo (s.now + ((80000 - s.win.heat) * 1000 - s.win.heatUs)) s)) v)
         ∧ (∀ c ∈ s.win.coast,
           let n := advanceTo c.1 s
           let t := { n with win := { n.win with coast := none } }
           ∃ v, exec .coastWindowEnd s = .next v
             ∧ Kept (if s.win.recMoving then t else queueRecord .windowState t) v))
    ∧ (∀ (s : State), Calm s → ∀ e ∈ s.pinch.holdEnd,
          let n := advanceTo e s
          (s.pinch.mode = .pinchHold → ∃ v, exec .pinchHoldTimerExpiry s = .next v
              ∧ Kept { n with pinch := { s.pinch with
                  mode := .normal, reversals := [], holdEnd := none, holdExpired := false, overrideUsed := false } } v)
            ∧ (s.pinch.mode = .override → ∃ v, exec .pinchHoldTimerExpiry s = .next v
              ∧ Kept { n with pinch := { s.pinch with holdEnd := none, holdExpired := true } } v))

/-- 1.5: a press of the local switch with no motion running, taken at either detent, starts the motion that R14 gives:
MANUAL at the first detent, AUTO at the second. It is local input (R173). The window is present and NORMALISED, the
latch CLOSED, the supply neither CRANK nor UNDER, H below the soft limit, crash hold off, the protection mode NORMAL,
and no rear child safety ENGAGED. In CRANK the granted motion waits in PAUSED (R8, R22). While UNNORMALISED the first
detent starts its MANUAL motion all the same, and the AUTO request of the second is refused (R3). In PINCH HOLD a
MANUAL UP press takes the override, if it has not been used since PINCH HOLD began, and is the override motion; else
it is a MANUAL motion like any other; an AUTO UP press is refused (R40). That a MANUAL UP press which replaces the
running LOCAL SWITCH UP motion takes the override too is the model's reading (log 36). A press in the opposite
direction stops a LOCAL SWITCH AUTO motion and starts nothing; at a rear station whose child safety is ENGAGED a press
moves nothing and is local input alone. That such a replacement keeps the start-stall count (log 14), and that a press
which stopped an AUTO motion starts nothing until it is let go (log 21), are its readings too, as is the record queued
at once where the motion that ends has no coast window (log 12). -/
def Obligations.LocalSwitchPressStartsOrStopsAMotion : Prop :=
  (∀ (s : State) (d : Direction), Calm s → s.win.drop = none → s.win.req = none → s.cfg.caps.window = true →
       s.power.supply ≠ .under → s.latch.crashEnd = none → s.win.heat < 60000 → s.latch.position = .closed →
       s.latch.child ≠ .engaged → s.pins.localHold = none →
       let pressed := { s with
         pins := { s.pins with localHold := some d, localSpent := false }
         power := { s.power with localAt := s.now } }
       let mine := fun m : Mode => ({ source := .localSwitch, dir := d, mode := m } : Request)
       let held := fun m : Mode => motionStarts (mine m) pressed
       let first := fun t : State => ∃ v, exec (.localSwitchFirstDetent d) s = .next v ∧ Kept t v
       let second := fun t : State => ∃ v, exec (.localSwitchSecondDetent d) s = .next v ∧ Kept t v
       (GoodSupply s → s.win.norm = true → s.pinch.mode = .normal → first (held .manual) ∧ second (held .auto))
         ∧ (s.power.supply = .crank → s.win.norm = true → s.pinch.mode = .normal →
           let waits := fun m : Mode => pauses (requestRuns (mine m) { pressed with win := { s.win with startStalls := 0 } })
           first (waits .manual) ∧ second (waits .auto))
         ∧ (GoodSupply s → s.win.norm = false → first (held .manual) ∧ second pressed)
         ∧ (GoodSupply s → s.win.norm = true → s.pinch.mode = .pinchHold → d = .up →
           let runs := requestRuns (mine .manual) { pressed with win := { s.win with startStalls := 0 } }
           (s.pinch.overrideUsed = false → first (motorStarts .up { runs with
               win := { runs.win with overrideMotion := true }
               pinch := { runs.pinch with mode := .override, overrideUsed := true } }))
           ∧ (s.pinch.overrideUsed = true → first (held .manual))
           ∧ second pressed))
    ∧ (∀ (s : State) (m : Mode), Calm s → s.win.req = some { source := .localSwitch, dir := .up, mode := m } →
          s.cfg.caps.window = true → s.power.supply ≠ .under → s.win.norm = true → s.latch.crashEnd = none →
          s.win.heat < 80000 → s.latch.position = .closed → s.latch.child ≠ .engaged → s.pins.localHold ≠ some .up →
          s.pinch.mode = .pinchHold → s.pinch.overrideUsed = false →
          ∃ v, exec (.localSwitchFirstDetent .up) s = .next v ∧ Kept { s with
            pins := { s.pins with localHold := some .up, localSpent := false }
            power := { s.power with localAt := s.now }
            win := { s.win with
              req := some { source := .localSwitch, dir := .up, mode := .manual }, overrideMotion := true }
            pinch := { s.pinch with mode := .override, overrideUsed := true } } v)
    ∧ (∀ (s : State) (d : Direction), Calm s → s.win.drop = none → s.pins.localHold = none →
          let pressed := fun b : Bool =>
            { s with
              pins := { s.pins with localHold := some d, localSpent := b }
              power := { s.power with localAt := s.now } }
          (isRear s = true → s.latch.child = .engaged →
              ∃ v, exec (.localSwitchFirstDetent d) s = .next v ∧ Kept (pressed false) v)
            ∧ (∀ x ∈ s.win.req, x.source = .localSwitch → x.mode = .auto → x.dir ≠ d →
              s.latch.child ≠ .engaged → s.cfg.caps.window = true → s.power.supply.poor = false → s.win.norm = true →
              s.latch.crashEnd = none → s.win.heat < 60000 → s.latch.position = .closed → s.pinch.mode = .normal →
              ∃ v, exec (.localSwitchFirstDetent d) s = .next v ∧ Kept (motionEnds x .stopped (pressed true)) v))

/-- 1.4 and 1.6: the checks and the arbiter of motion requests (R10 to R12). A WINDOWS CLOSE or WINDOWS OPEN that is
applied is refused with the window outcome of the first check that fails, or with BUSY by a running motion of a higher
source, and then changes nothing; a GLOBAL AUTO motion of the opposite direction it ends STOPPED. A press of the local
switch at the first detent, past every check, meets a running motion. A RISE, REMOTE SWITCH, GLOBAL or SERVICE motion
it preempts, and that motion ends PREEMPTED, with its WINDOW REPORT where its source is GLOBAL or RISE: in the same
direction the press takes the motor over, in the opposite one the motor is braked for 20 ms with the press waiting,
and in BRAKING and PAUSED it waits. A REVERSAL or DROP motion refuses it. A LOCAL SWITCH MANUAL motion of the other
direction ends STOPPED through the brake. At the second detent its own MANUAL motion becomes AUTO, as does a REMOTE
SWITCH MANUAL motion at a MANUAL entry that becomes AUTO. That a press in PAUSED waits there under its own 3 s limit
is the model's reading (log 16). No drop is outstanding where a motion is preempted or ends. That a takeover begins
with the start-stall count 0, but for one in the same direction in a start-stall pause, which carries it over, and
that a replacement or an upgrade keeps it, (log 14), the record queued at once where the motion that ends has no coast
window (log 12), and that an intent without a notice leaves the press memory (log 33), are its readings too. -/
def Obligations.ArbiterRefusesPreemptsAndReplaces : Prop :=
  (∀ (s : State) (f : Frame) (e : Nat) (rest : List RxItem) (i : IntentFrame), Calm s → Head f e rest s →
      f.payload = .intent i → i.notice = none → inSet s.addr i.targets = true →
      i.kind = .windowsClose ∨ i.kind = .windowsOpen →
      keyHigher { epoch := i.epoch, origin := f.origin } s.intent.keyWindow = true → s.line.state = .ok → Roomy 4 s →
      let up := i.kind = .windowsClose
      let t := afterHearing f rest s
      let u := { t with intent := { t.intent with keyWindow := { epoch := i.epoch, origin := f.origin } } }
      let ack := fun o : WindowOutcome => Payload.intentAck
        { toAddr := f.origin, kind := i.kind, tag := i.tag, epoch := i.epoch, result := .applied
          ownEpoch := t.intent.epoch, current := .window (some (windowClass s.cfg s.win))
          wpos := windowPosition s.cfg s.win, window := some o, last := none }
      let refusal :=
        if s.cfg.caps.window = false then some WindowOutcome.absent
        else if s.power.supply = .under then some .busy
        else if s.win.norm = false then some .unnormalised
        else if s.latch.crashEnd.isSome = true ∧ up then some .crashHold
        else if 80000 ≤ s.win.heat ∨ (60000 ≤ s.win.heat ∧ ¬ up) then some .thermal
        else if s.latch.position = .opened ∧ up then some .closureOpen
        else if s.pinch.mode ≠ .normal ∧ up then some .pinchHold
        else if s.win.req.any (fun r => r.source != .global && r.source != .service) then some .busy
        else none
      (∀ o ∈ refusal, ∃ v, exec .windowIntent s = .next v ∧ Kept u v ∧ Queued (ack o) v)
        ∧ ∀ r ∈ s.win.req, refusal = none → r.source = .global → r.mode = .auto →
          r.dir ≠ (if up then Direction.up else .down) → s.win.drop = none →
          ∃ v, exec .windowIntent s = .next v ∧ Kept (motionEnds r .stopped u) v ∧ Queued (ack .stopped) v)
    ∧ (∀ (s : State) (r : Request) (d : Direction), Calm s → s.win.req = some r → s.win.overrideMotion = false →
      s.cfg.caps.window = true → s.power.supply ≠ .under → s.win.norm = true → s.latch.crashEnd = none →
      s.win.heat < 60000 → s.latch.position = .closed → s.pinch.mode = .normal → s.latch.child ≠ .engaged →
      s.pins.localHold ≠ some d →
      let pressed := { s with
        pins := { s.pins with localHold := some d, localSpent := false }
        power := { s.power with localAt := s.now } }
      let mine : Request := { source := .localSwitch, dir := d, mode := .manual }
      let begun := fun (o : Outcome) (stalls : Nat) => requestRuns mine { pressed with
        win := { s.win with lastEnd := some (r.source, o), startStalls := stalls } }
      let driven := s.win.motion = .starting ∨ s.win.motion = .moving
      (r.source = .reversal ∨ r.source = .drop →
        ∃ v, exec (.localSwitchFirstDetent d) s = .next v ∧ Kept pressed v)
      ∧ (r.source = .rise ∨ r.source = .remoteSwitch ∨ r.source = .global ∨ r.source = .service → s.win.drop = none →
        let answers := fun m : State => ∃ v, exec (.localSwitchFirstDetent d) s = .next v ∧ Kept m v
          ∧ (r.source = .global ∨ r.source = .rise → s.line.state = .ok → Roomy 4 s →
            Queued (.windowReport (r.source == .rise) false .preempted (BitVec.ofInt 16 s.win.p)) v)
        (driven → r.dir = d → answers (begun .preempted (if s.win.pauseEnd.isSome then s.win.startStalls else 0)))
        ∧ (driven → r.dir ≠ d → answers (brakes mine (begun .preempted s.win.startStalls)))
        ∧ (s.win.motion = .braking → answers (begun .preempted s.win.startStalls))
        ∧ (s.win.motion = .paused → answers (pauses (begun .preempted 0))))
      ∧ (r.source = .localSwitch → r.mode = .manual → r.dir ≠ d → driven → s.win.drop = none →
        ∃ v, exec (.localSwitchFirstDetent d) s = .next v ∧ Kept (brakes mine (begun .stopped s.win.startStalls)) v))
    ∧ (∀ (s : State) (d : Direction), Calm s →
      s.win.req = some { source := .localSwitch, dir := d, mode := .manual } → s.cfg.caps.window = true →
      s.power.supply ≠ .under → s.win.norm = true → s.latch.crashEnd = none → s.win.heat < 60000 →
      s.latch.position = .closed → s.pinch.mode = .normal → s.latch.child ≠ .engaged → s.pins.localSpent = false →
      ∃ v, exec (.localSwitchSecondDetent d) s = .next v ∧ Kept { s with
        pins := { s.pins with localHold := some d }
        power := { s.power with localAt := s.now }
        win := { s.win with req := some { source := .localSwitch, dir := d, mode := .auto } } } v)
    ∧ ∀ (s : State) (f : Frame) (e : Nat) (rest : List RxItem) (a b c d : SwitchEntry) (w : Direction), Calm s →
      Head f e rest s → f.payload = .switchPack a b c d → f.origin = driverAddr s.cfg → s.addr ≠ driverAddr s.cfg →
      s.addr.val < 4 → (∀ q ∈ s.win.packAt, s.now < q + 250000) →
      s.win.req = some { source := .remoteSwitch, dir := w, mode := .manual } → s.cfg.caps.window = true →
      s.power.supply ≠ .under → s.win.norm = true → s.latch.crashEnd = none → s.win.heat < 60000 →
      s.latch.position = .closed → s.pinch.mode = .normal →
      let own := if s.addr = 0 then a else if s.addr = 1 then b else if s.addr = 2 then c else d
      s.win.packEntry = (if w = .up then SwitchEntry.upManual else .downManual) →
      own = (if w = .up then SwitchEntry.upAuto else .downAuto) →
      let t := afterHearing f rest s
      ∃ v, exec .switchPack s = .next v ∧ Kept { t with win := { t.win with
        packEntry := own, packAt := some e, req := some { source := .remoteSwitch, dir := w, mode := .auto } } } v

/-- 1.5: letting the local switch go ends a LOCAL SWITCH MANUAL motion STOPPED and leaves an AUTO motion running; the
lapse of a switch pack entry after 250 ms, and a SWITCH PACK whose own entry has gone to NONE, do the same for REMOTE
SWITCH motions. That letting the switch go is not local input, so that the local-activity timer runs on, is the
model's choice (log 21). The record queued at once where the motion that ends has no coast window is its reading (log
12). -/
def Obligations.LostHoldEndsAManualMotion : Prop :=
  ∀ (s : State) (r : Request) (f : Frame) (at_ : Nat) (rest : List RxItem) (a b c d : SwitchEntry), Calm s →
    s.win.drop = none → s.win.req = some r → s.win.motion ≠ .braking →
    let freed := { s with pins := { s.pins with localHold := none, localSpent := false } }
    (r.source = .localSwitch → r.mode = .manual →
        ∃ v, exec .localSwitchRelease s = .next v ∧ Kept (motionEnds r .stopped freed) v)
      ∧ (r.mode ≠ .manual → ∃ v, exec .localSwitchRelease s = .next v ∧ Kept freed v)
      ∧ (∀ p ∈ s.win.packAt,
        let n := advanceTo (p + 250000) s
        let lapsed := { n with win := { n.win with packEntry := .rest, packAt := none } }
        (r.source = .remoteSwitch → r.mode = .manual →
            ∃ v, exec .switchPackValidityLapse s = .next v ∧ Kept (motionEnds r .stopped lapsed) v)
          ∧ (r.mode ≠ .manual → ∃ v, exec .switchPackValidityLapse s = .next v ∧ Kept lapsed v))
      ∧ (Head f at_ rest s → f.payload = .switchPack a b c d → f.origin = driverAddr s.cfg → s.addr ≠ driverAddr s.cfg →
        s.addr.val < 4 → (∀ p ∈ s.win.packAt, s.now < p + 250000) → s.win.packEntry ≠ .rest →
        (if s.addr = 0 then a else if s.addr = 1 then b else if s.addr = 2 then c else d) = SwitchEntry.rest →
        let t := afterHearing f rest s
        let taken := { t with win := { t.win with packEntry := .rest, packAt := some at_ } }
        (r.source = .remoteSwitch → r.mode = .manual →
            ∃ v, exec .switchPack s = .next v ∧ Kept (motionEnds r .stopped taken) v)
          ∧ (r.mode ≠ .manual → ∃ v, exec .switchPack s = .next v ∧ Kept taken v))

/-- 1.5: at the driver station a change of the switch pack queues a SWITCH PACK with the four entries and is local
input; while an entry is not NONE, a further one is queued 100 ms after the last. A side station takes its own entry
of a SWITCH PACK from the driver's address: with no motion running a changed entry starts the REMOTE SWITCH motion it
stands for, and an entry equal to the last one taken only renews its time. There the window is present and NORMALISED,
the latch CLOSED, the supply neither CRANK nor UNDER, H below the soft limit, crash hold off, the protection mode
NORMAL, and the last entry still valid. While UNNORMALISED every entry is refused (R3), and in PINCH HOLD a MANUAL UP
entry takes the override, if it has not been used, while an AUTO UP entry is refused (R40). That a change of the
driver's own entry makes no LOCAL SWITCH request is the model's choice (log 56). -/
def Obligations.SwitchPackIsReportedAndActedOn : Prop :=
  (∀ (s : State) (fl fr rl rr : SwitchEntry), Calm s → Roomy 4 s → s.line.state = .ok → isDriver s = true →
       (s.win.pack ≠ #v[fl, fr, rl, rr] →
           ∃ v, exec (.switchPackChange fl fr rl rr) s = .next v
             ∧ Kept { s with
                 win := { s.win with pack := #v[fl, fr, rl, rr], packQueuedAt := some s.now }
                 power := { s.power with localAt := s.now } } v
             ∧ Queued (.switchPack fl fr rl rr) v)
         ∧ (s.win.pack = #v[fl, fr, rl, rr] → (fl ≠ .rest ∨ fr ≠ .rest ∨ rl ≠ .rest ∨ rr ≠ .rest) →
           ∀ q ∈ s.win.packQueuedAt,
             let n := advanceTo (q + 100000) s
             ∃ v, exec .switchPackRefresh s = .next v
               ∧ Kept { n with win := { n.win with packQueuedAt := some n.now } } v
               ∧ Queued (.switchPack fl fr rl rr) v))
    ∧ (∀ (s : State) (f : Frame) (e : Nat) (rest : List RxItem) (a b c d : SwitchEntry), Calm s → Head f e rest s →
          f.payload = .switchPack a b c d → f.origin = driverAddr s.cfg → s.addr ≠ driverAddr s.cfg → s.addr.val < 4 →
          s.win.drop = none → s.win.req = none → s.cfg.caps.window = true → s.power.supply.poor = false →
          s.latch.crashEnd = none → s.win.heat < 60000 → s.latch.position = .closed →
          (∀ q ∈ s.win.packAt, s.now < q + 250000) →
          let x := if s.addr = 0 then a else if s.addr = 1 then b else if s.addr = 2 then c else d
          let t := afterHearing f rest s
          let taken := { t with win := { t.win with packEntry := x, packAt := some e } }
          (x = s.win.packEntry ∨ x = .rest → ∃ v, exec .switchPack s = .next v ∧ Kept taken v)
            ∧ (s.win.norm = false → ∃ v, exec .switchPack s = .next v ∧ Kept taken v)
            ∧ (x ≠ s.win.packEntry → s.win.norm = true → s.pinch.mode = .pinchHold →
              (x = .upManual → s.pinch.overrideUsed = false →
                let runs := requestRuns { source := .remoteSwitch, dir := .up, mode := .manual }
                  { taken with win := { taken.win with startStalls := 0 } }
                ∃ v, exec .switchPack s = .next v ∧ Kept (motorStarts .up { runs with
                  win := { runs.win with overrideMotion := true }
                  pinch := { runs.pinch with mode := .override, overrideUsed := true } }) v)
              ∧ (x = .upAuto → ∃ v, exec .switchPack s = .next v ∧ Kept taken v))
            ∧ (x ≠ s.win.packEntry → x ≠ .rest → s.win.norm = true → s.pinch.mode = .normal →
                let r : Request :=
                  { source := .remoteSwitch, dir := if x = .upManual ∨ x = .upAuto then .up else .down
                    mode := if x = .upManual ∨ x = .downManual then .manual else .auto }
                ∃ v, exec .switchPack s = .next v ∧ Kept (motionStarts r taken) v))

/-- 1.7 and 3.5: the first pulse that a DROP motion counts sets drop owed with p0, the position at its grant, and
queues the window record; a p0 already set stays. The pulse that reaches the drop position ends the motion OPENED and
the drop DONE, and the actuator is energised. A drop that the limit of 800 ms overtakes ends TIMEOUT, its motion
STOPPED; a stall (blocked travel, a third start stall, any stall of a timed drop) ends it BLOCKED. After either the
first drop of an ENTRY request is asked for again after 300 ms, the second ends the sequence with GLASS BLOCKED, and
an EGRESS request releases all the same. A timed drop that has driven 150 ms ends DONE, and the release follows. That
the motion of a timed drop that ends DONE ends STOPPED is the model's choice (log 18). That driven pulses alone set
drop owed (log 19), that the sample of one moves the rise measures alone (log 31), and the record queued at once where
the motion that ends has no coast window (log 12), are its readings. -/
def Obligations.DropIsRunEndedAndAnswered : Prop :=
  ∀ (s : State) (r : Request) (j : DropJob) (u t : Nat), Calm s → s.win.req = some r → r.source = .drop →
    s.win.drop = some j → j.waiting = false → s.win.overrideMotion = false → s.latch.seq = .dropping →
    s.latch.dropOut = true → s.latch.kind.isSome = true → GoodSupply s →
    let dropped := fun (o : Outcome) (n : State) => motionEnds r o { n with win := { n.win with drop := none } }
    let failed := fun n : State =>
      if s.latch.kind = some .egress then s.latch.pulsed n.now
      else if s.latch.retryUsed then s.latch.ended .glassBlocked
      else { s.latch with dropOut := false, retryUsed := true, retryDelay := some (n.now + 300000) }
    (let n := advanceTo j.limitAt s
     ∃ v, exec .dropLimitExpiry s = .next v ∧ Kept { dropped .stopped n with latch := failed n } v)
      ∧ (s.win.motor = .driven .down →
        (r.mode = .manual ∧ s.win.motion ≠ .reversing)
          ∨ (s.win.p < (s.cfg.travel : Int) - 24
            ∧ (s.win.motion = .moving ∨ (s.win.motion = .starting ∧ 2 ≤ s.win.startStalls))) →
        let n := advanceTo (stallFrom s.win + s.cfg.stallMs * 1000) s
        ∃ v, exec .stall s = .next v ∧ Kept { dropped .blocked n with latch := failed n } v)
      ∧ (j.timed = true → ∀ f ∈ j.timedFrom,
        let n := advanceTo (f + j.timedLeft) s
        ∃ v, exec .timedDropEnd s = .next v ∧ Kept { dropped .stopped n with latch := s.latch.pulsed n.now } v)
      ∧ (s.win.motor = .driven .down → r.dir = .down → 4500 ≤ u → s.power.supply.rank ≤ (levelState u).rank →
        s.pinch.count ≤ 2 → -32 ≤ s.win.p + 1 → s.win.p + 1 ≤ (s.cfg.travel : Int) + 32 →
        let n := advanceTo (s.win.lastPulseAt + t) s
        let moved := pulseCounts u (s.win.p + 1) n
        let counted := if s.win.dropOwed.isSome then moved
          else queueRecord .windowState { moved with win := { moved.win with dropOwed := some j.grantP } }
        (∀ x, r.mode = .toPosition x → x ≤ s.win.p + 1 →
          ∃ v, exec (.hallPulse u t) s = .next v
            ∧ Kept { dropped .opened counted with latch := s.latch.pulsed n.now } v)
        ∧ ((∀ x, r.mode = .toPosition x → s.win.p + 1 < x) →
          ∃ v, exec (.hallPulse u t) s = .next v ∧ Kept counted v))

/-! ## Latch, lock and child safety (chapter 3) -/

/-- 3.1, 3.5, 1.6 and 1.7: a changed reading of the latch switch starts the 10 ms filter, or ends it when the reading
has returned to the latch position; an unchanged reading does nothing. An OPEN edge sets the latch position, is local
input, and cancels auto-relock. A sequence in RELEASING ends OPENED and one in DROPPING or RETRY WAIT ends OPENED
OTHERWISE, with the actuator off; any other stays. A motion running UP at or above the drop position while NORMALISED
ends STOPPED, with its WINDOW REPORT where its source is GLOBAL or RISE; any other runs on. A CLOSED edge sets the
latch position and is local input. With drop owed set, NORMALISED and at or below the drop position, a RISE to the
position before the drop starts and drop owed is cleared; further down drop owed is cleared without a rise; while
UNNORMALISED it stays set. There the window is present, no motion runs, the supply is good, H lies below the hard
limit, crash hold is off and the protection mode NORMAL. The record queued at once where the motion that ends has no
coast window is the model's reading (log 12). -/
def Obligations.LatchEdgesActOnSequenceAndGlass : Prop :=
  (∀ (s : State) (r : LatchPosition), Calm s →
       (r = s.pins.latchSwitch → ∃ v, exec (.latchSwitchChange r) s = .next v ∧ Kept s v)
         ∧ (r ≠ s.pins.latchSwitch →
           ∃ v, exec (.latchSwitchChange r) s = .next v ∧ Kept { s with
             pins := { s.pins with latchSwitch := r }
             latch := { s.latch with filterEnd := if r = s.latch.position then none else some (s.now + 10000) } } v))
    ∧ (∀ (s : State), Calm s → s.pins.latchSwitch = .opened → ∀ e ∈ s.latch.filterEnd,
          let n := advanceTo e s
          let sequence := match s.latch.seq with
            | .releasing => s.latch.ended .opened
            | .dropping | .retryWait => s.latch.ended .openedOtherwise
            | .idle | .halted => s.latch
          let opened :=
            { n with
              latch := { sequence with position := .opened, filterEnd := none }
              intent := { s.intent with relock := none, relockSpent := none }
              power := { s.power with localAt := n.now } }
          ((∀ r ∈ s.win.req, r.dir = .down ∨ s.win.norm = false ∨ (s.cfg.dropDist : Int) < s.win.p) →
              ∃ v, exec .latchEdge s = .next v ∧ Kept opened v)
            ∧ ∀ r ∈ s.win.req, r.dir = .up → s.win.norm = true → s.win.p ≤ s.cfg.dropDist → s.win.drop = none →
              ∃ v, exec .latchEdge s = .next v ∧ Kept (motionEnds r .stopped opened) v
                ∧ (r.source = .global ∨ r.source = .rise → s.line.state = .ok → Roomy 4 s →
                  Queued (.windowReport (r.source == .rise) false .stopped (BitVec.ofInt 16 s.win.p)) v))
    ∧ ∀ (s : State), Calm s → s.win.req = none → s.win.drop = none → s.pins.latchSwitch = .closed →
      s.cfg.caps.window = true → GoodSupply s → s.win.heat < 80000 → s.latch.crashEnd = none →
      s.pinch.mode = .normal → ∀ e ∈ s.latch.filterEnd,
      let n := advanceTo e s
      let edge := fun owed : Option Int =>
        { n with
          win := { n.win with dropOwed := owed }
          latch := { s.latch with position := .closed, filterEnd := none }
          power := { s.power with localAt := n.now } }
      (s.win.dropOwed = none ∨ s.win.norm = false →
          ∃ v, exec .latchEdge s = .next v ∧ Kept (edge s.win.dropOwed) v)
        ∧ ∀ p0 ∈ s.win.dropOwed, s.win.norm = true →
          (s.win.p ≤ s.cfg.dropDist → p0 < s.win.p →
            ∃ v, exec .latchEdge s = .next v ∧ Kept (queueRecord .windowState
              (motionStarts { source := .rise, dir := .up, mode := .toPosition p0 } (edge none))) v)
          ∧ ((s.cfg.dropDist : Int) < s.win.p →
            ∃ v, exec .latchEdge s = .next v ∧ Kept (queueRecord .windowState (edge none)) v)

/-- 3.2 to 3.4: a pull that makes a release request at an IDLE sequence with the latch CLOSED. Where the glass needs
no drop (window absent, the glass at or beyond the drop position, or crash hold on) the actuator is energised at once:
the outer handle and the tailgate button make an ENTRY while UNLOCKED, the inner handle an EGRESS, which first unlocks
a LOCKED station. A pull that is no release request is local input alone: the outer handle while LOCKED or DEADLOCKED,
the inner handle while DEADLOCKED or with child safety ENGAGED. That letting the outer handle go is not even that is
the model's choice (log 23), and that no drop is needed at the hard thermal limit is its reading (log 17). -/
def Obligations.PullReleasesTheLatchOrIsLocalInputAlone : Prop :=
  (∀ (s : State), Calm s → s.latch.seq = .idle → s.latch.position = .closed → GoodSupply s →
       (s.cfg.caps.window = false ∨ (s.win.norm = true ∧ (s.cfg.dropDist : Int) ≤ s.win.p) ∨ s.latch.crashEnd.isSome = true) →
       s.win.drop = none →
       let released := fun k : ReleaseKind =>
         { s with
           latch := { s.latch with
             lock := .unlocked, seq := .releasing, kind := some k, attempts := 1, retryUsed := false, dropOut := false
             retryDelay := none, pulseEnd := some (s.now + 250000), waitEnd := none, supplyWait := none }
           power := { s.power with localAt := s.now } }
       (s.latch.lock = .unlocked → isTailgate s = false → s.pins.outerHandle = false →
           ∃ v, exec (.outerHandlePull true) s = .next v
             ∧ Kept { released .entry with pins := { s.pins with outerHandle := true } } v)
         ∧ (s.latch.lock = .unlocked → isTailgate s = true →
           ∃ v, exec .tailgateButton s = .next v ∧ Kept (released .entry) v)
         ∧ (s.latch.lock ≠ .deadlocked → s.latch.child ≠ .engaged → s.pins.outerHandle = false →
           ∃ v, exec .innerHandlePull s = .next v
             ∧ Kept (if s.latch.lock = .unlocked then released .egress
                 else queueRecord .latchState (released .egress)) v))
    ∧ (∀ (s : State), Calm s →
          let input := { s with power := { s.power with localAt := s.now } }
          (s.latch.lock ≠ .unlocked → isTailgate s = false → s.pins.outerHandle = false →
              ∃ v, exec (.outerHandlePull true) s = .next v
                ∧ Kept { input with pins := { s.pins with outerHandle := true } } v)
            ∧ (isTailgate s = false → s.pins.outerHandle = true →
              ∃ v, exec (.outerHandlePull false) s = .next v
                ∧ Kept { s with pins := { s.pins with outerHandle := false } } v)
            ∧ (s.latch.lock = .deadlocked ∨ s.latch.child = .engaged →
              ∃ v, exec .innerHandlePull s = .next v ∧ Kept input v))

/-- 3.3, 3.4 and 1.7: a release request with the glass above the drop position asks for a drop first: the sequence
goes to DROPPING, and a DROP motion to the drop position starts, with its limit of 800 ms. While UNNORMALISED it is a
timed run of 150 ms. At the hard thermal limit the drop is answered BLOCKED at once: an ENTRY asks for it again after
300 ms, and an EGRESS releases all the same (R60). The ENTRY requests are the pull of the outer handle and the press
of the tailgate button while UNLOCKED, and an applied UNLOCK AND OPEN, which unlocks first; the EGRESS request is the
pull of the inner handle, not DEADLOCKED and with child safety not ENGAGED, which unlocks a LOCKED station first. Each
change to UNLOCKED queues the latch record. The outer handle is not held. That an intent without a notice leaves the
press memory is the model's reading (log 33). -/
def Obligations.PullDropsTheGlassFirst : Prop :=
  ∀ (s : State) (f : Frame) (e : Nat) (rest : List RxItem) (i : IntentFrame), Calm s → s.latch.seq = .idle →
    s.latch.position = .closed → GoodSupply s → s.cfg.caps.window = true → s.latch.crashEnd = none → s.win.req = none →
    s.win.motor = .off → s.pins.outerHandle = false →
    let job : DropJob :=
      { limitAt := s.now + 800000, grantP := s.win.p, waiting := false, timed := !s.win.norm, timedLeft := 150000
        timedFrom := if s.win.norm then none else some s.now }
    let dropping := fun (k : ReleaseKind) (j : Option DropJob) (retry : Bool) (t : State) =>
      { t with
        latch := { t.latch with
          seq := .dropping, kind := some k, attempts := 0, retryUsed := retry, dropOut := !retry
          retryDelay := if retry then some (s.now + 300000) else none }
        win := { t.win with drop := j } }
    let blocked := fun (k : ReleaseKind) (t : State) => match k with
      | .entry => dropping .entry none true t
      | .egress =>
          { t with
            latch := { t.latch with
              seq := .releasing, kind := some .egress, attempts := 1, retryUsed := false, dropOut := false
              retryDelay := none, pulseEnd := some (s.now + 250000), waitEnd := none, supplyWait := none }
            win := { t.win with drop := none } }
    let asks := fun (c : Instr) (k : ReleaseKind) (t : State) =>
      (s.win.norm = true → s.win.p < (s.cfg.dropDist : Int) → s.win.heat < 80000 →
          ∃ v, exec c s = .next v ∧ Kept (motionStarts
            { source := .drop, dir := .down, mode := .toPosition s.cfg.dropDist } (dropping k (some job) false t)) v)
        ∧ (s.win.norm = false → s.win.heat < 80000 →
          ∃ v, exec c s = .next v
            ∧ Kept (motionStarts { source := .drop, dir := .down, mode := .manual } (dropping k (some job) false t)) v)
        ∧ (s.win.norm = false ∨ s.win.p < (s.cfg.dropDist : Int) → 80000 ≤ s.win.heat →
          ∃ v, exec c s = .next v ∧ Kept (blocked k t) v)
    let input := { s with power := { s.power with localAt := s.now } }
    let unlocked := fun t : State => if s.latch.lock = .unlocked then t
      else queueRecord .latchState { t with latch := { t.latch with lock := .unlocked } }
    (s.latch.lock = .unlocked → isTailgate s = false →
        asks (.outerHandlePull true) .entry { input with pins := { s.pins with outerHandle := true } })
      ∧ (s.latch.lock = .unlocked → isTailgate s = true → asks .tailgateButton .entry input)
      ∧ (s.latch.lock ≠ .deadlocked → s.latch.child ≠ .engaged → asks .innerHandlePull .egress (unlocked input))
      ∧ (Head f e rest s → f.payload = .intent i → i.kind = .unlockAndOpen → i.notice = none →
        s.intent.relock = none → s.intent.relockSpent = none → inSet s.addr i.targets = true →
        let K : OrderKey := { epoch := i.epoch, origin := f.origin }
        keyHigher K s.intent.keyLatch = true →
        let t := afterHearing f rest s
        asks .latchIntent .entry (unlocked { t with intent := { t.intent with keyLatch := K } }))

/-- 3.5: at the end of a pulse that did not open the latch the sequence waits 300 ms in RETRY WAIT, and after the
third pulse it is HALTED with the fault LATCH HALT, whose cause detail holds the release kind and the attempt count,
and a FAULT NOTICE is queued. After RETRY WAIT, and after the 300 ms before a second drop that needs no motion, the
next pulse of 250 ms begins with the attempt count one higher; in CRANK or UNDER RETRY WAIT goes on under the supply
wait of 2 s, and its expiry ends the sequence with SUPPLY. That a drop which needs no motion is DONE also at the hard
thermal limit is the model's reading (log 17). -/
def Obligations.FailedPulseAndWaitsOfTheSequenceEnd : Prop :=
  (∀ (s : State), Calm s → ∀ e ∈ s.latch.pulseEnd,
     let n := advanceTo e s
     let detail : Byte := if s.latch.kind = some .egress then 131#8 else 3#8
     (s.latch.attempts < 3 → ∃ v, exec .releasePulseEnd s = .next v ∧ Kept { n with latch := { s.latch with
         seq := .retryWait, pulseEnd := none, waitEnd := some (n.now + 300000) } } v)
       ∧ (s.latch.attempts = 3 → Roomy 4 s → s.line.state = .ok →
         ∃ v, exec .releasePulseEnd s = .next v
           ∧ Kept { n with
               latch := { s.latch with seq := .halted, kind := none, pulseEnd := none, lastRelease := .halted }
               census := { s.census with faults := s.census.faults.set 0 (some detail) } } v
           ∧ Queued (.faultNotice .latchHalt detail) v))
    ∧ ∀ (s : State), Calm s → s.win.drop = none →
      let pulse := fun n : State => { n with latch := s.latch.pulsed n.now }
      (∀ e ∈ s.latch.waitEnd, GoodSupply s →
          ∃ v, exec .retryWaitEnd s = .next v ∧ Kept (pulse (advanceTo e s)) v)
        ∧ (∀ e ∈ s.latch.waitEnd, s.power.supply.poor = true → s.latch.seq = .retryWait → s.latch.supplyWait = none →
          let n := advanceTo e s
          ∃ v, exec .retryWaitEnd s = .next v ∧ Kept { n with latch := { s.latch with
            dropOut := false, retryDelay := none, waitEnd := none, supplyWait := some (n.now + 2000000) } } v)
        ∧ (∀ e ∈ s.latch.retryDelay, GoodSupply s →
          (s.cfg.caps.window = false ∨ (s.win.norm = true ∧ (s.cfg.dropDist : Int) ≤ s.win.p)) →
          ∃ v, exec .dropRetryDelayEnd s = .next v ∧ Kept (pulse (advanceTo e s)) v)
        ∧ ∀ e ∈ s.latch.supplyWait,
          ∃ v, exec .supplyWaitExpiry s = .next v
            ∧ Kept { advanceTo e s with latch := s.latch.ended .supply } v

/-- 3.6, 1.8 and 4.6: a CRASH NOTICE starts crash hold for 10 s, or starts its 10 s again, and sets UNLOCKED with the
latch record queued on a change. At its start auto-relock is cancelled, every open LOCK and DEADLOCK entry closes with
an INTENT OUTCOME REFUSED that hands over no one, a running UP motion ends STOPPED, and a sequence in DROPPING
energises the actuator at once while its drop runs on; another sequence goes on. The outer handle is not held, and the
transmit queue has room for the outcomes. When the 10 s have passed crash hold is off and nothing else changes. The
record queued at once where the motion that ends has no coast window is the model's reading (log 12). -/
def Obligations.CrashNoticeStartsCrashHold : Prop :=
  ∀ (s : State) (f : Frame) (e : Nat) (rest : List RxItem), Calm s →
    (Head f e rest s → f.payload = .crashNotice → s.pins.outerHandle = false →
      let t := afterHearing f rest s
      let t1 := { t with latch := { s.latch with lock := .unlocked, crashEnd := some (s.now + 10000000) } }
      let t2 := if s.latch.lock = .unlocked then t1 else queueRecord .latchState t1
      let closes := fun x : OpenEntry => x.kind == .lock || x.kind == .deadlock
      let t3 := { t2 with
        intent := { t.intent with
          relock := none, relockSpent := none, table := s.intent.table.filter fun x => !closes x }
        latch := if s.latch.seq = .dropping then t2.latch.pulsed s.now else t2.latch }
      let closed := fun v : State => s.line.state = .ok → ∀ x ∈ s.intent.table, closes x = true →
        Queued (.intentOutcome { tag := x.tag, kind := x.kind, epoch := x.epoch, outcome := .refused, reason := .none
                                 partialSearch := x.partialSearch, applied := appliedSet x, unresponsive := 0#5 }) v
      (s.latch.crashEnd.isSome = true → ∃ v, exec .crashNotice s = .next v ∧ Kept t2 v)
        ∧ (s.latch.crashEnd = none → (s.latch.seq = .dropping → GoodSupply s) → TableBounds s →
          s.intent.table = [] ∨ Roomy (s.intent.table.length + 4) s →
          ((∀ r ∈ s.win.req, r.dir = .down) → ∃ v, exec .crashNotice s = .next v ∧ Kept t3 v ∧ closed v)
          ∧ ∀ r ∈ s.win.req, r.dir = .up → s.win.drop = none →
            ∃ v, exec .crashNotice s = .next v ∧ Kept (motionEnds r .stopped t3) v ∧ closed v))
      ∧ ∀ e ∈ s.latch.crashEnd,
        ∃ v, exec .crashHoldExpiry s = .next v
          ∧ Kept { advanceTo e s with latch := { s.latch with crashEnd := none } } v

/-- 3.5 and 3.3: what else reaches a release sequence. A change to DEADLOCKED, and to LOCKED for an ENTRY, ends a
sequence in DROPPING with LOCK CHANGE, and the drop motion it waits for STOPPED; an EGRESS goes on through LOCKED.
Child safety that becomes ENGAGED ends an EGRESS in DROPPING, RELEASING or RETRY WAIT with CHILD ENGAGED, the actuator
off, and the drop motion it waits for STOPPED. A sequence that crash hold moved on from DROPPING, and that waits for
the supply, has ceased to wait for its drop: there CHILD ON ends the sequence and the drop motion, PAUSED, goes on,
the model's choice of R68 over R56 (log 92). Both are said of a received intent without a notice, which becomes the
last-applied key; that it leaves the press memory is the model's reading (log 33), as is the record queued at once
where the drop motion that ends has no coast window (log 12). A rise of the supply that ends CRANK ends the supply
wait too: the next pulse begins. -/
def Obligations.ReleaseSequenceIsAbandonedOrResumed : Prop :=
  ∀ (s : State) (f : Frame) (e : Nat) (rest : List RxItem) (i : IntentFrame), Calm s →
    let t := afterHearing f rest s
    let K : OrderKey := { epoch := i.epoch, origin := f.origin }
    let ends := fun (c : Instr) (o : ReleaseOutcome) (m : State) =>
      (s.latch.dropOut = false → ∃ v, exec c s = .next v ∧ Kept { m with latch := m.latch.ended o } v)
      ∧ (s.latch.dropOut = true → ∀ r ∈ s.win.req, s.win.overrideMotion = false →
        let w := { m with win := { m.win with drop := none } }
        ∃ v, exec c s = .next v
          ∧ Kept { (if r.source = .drop then motionEnds r .stopped w else w) with latch := m.latch.ended o } v)
    (Head f e rest s → f.payload = .intent i → i.notice = none → s.intent.relock = none → s.intent.relockSpent = none →
      inSet s.addr i.targets = true → keyHigher K (lastKey i.kind.family s.intent) = true →
      (i.kind = .lock ∨ i.kind = .deadlock → s.latch.crashEnd = none → s.latch.seq = .dropping →
        s.latch.position = .closed →
        let l := if i.kind = .lock then LockState.locked else .deadlocked
        s.latch.lock ≠ l →
        let changed := queueRecord .latchState { t with
          latch := { s.latch with lock := l }, intent := { t.intent with keyLatch := K } }
        (l = .deadlocked ∨ s.latch.kind = some .entry → ends .latchIntent .lockChange changed)
        ∧ (l = .locked → s.latch.kind = some .egress → ∃ v, exec .latchIntent s = .next v ∧ Kept changed v))
      ∧ (i.kind = .childOn → isRear s = true → s.latch.child = .released → s.latch.kind = some .egress →
        s.latch.seq = .dropping ∨ s.latch.seq = .releasing ∨ s.latch.seq = .retryWait →
        (∀ r ∈ s.win.req, r.source ≠ .localSwitch) →
        ends .childIntent .childEngaged (queueRecord .latchState { t with
          latch := { s.latch with child := .engaged }, intent := { t.intent with keyChild := K } })))
      ∧ (s.latch.supplyWait.isSome = true → s.win.motion = .idle → s.store.writing = none → s.power.supply = .crank →
        ∀ m ∈ s.power.rise7800, s.power.rise9300 = none →
        let n := advanceTo (m + 50000) s
        ∃ v, exec .supplyRise s = .next v
          ∧ Kept { n with power := { n.power with supply := .low }, latch := s.latch.pulsed n.now } v)

/-- 3.2 and 6.2: in LINE FAULT the inside lock button changes the lock state of this station alone, without an intent:
LOCKED when UNLOCKED, unless crash hold is on, UNLOCKED when LOCKED, and nothing when DEADLOCKED. No key changes, and
the latch record is queued on a change. The sequence is IDLE and the outer handle is not held. A touch, also the
tailgate button at a station that is not UNLOCKED, is local input. On the lock area, and at a station without a
receiver or an outer antenna, it is ignored, and so it is while a search is open: the last is the model's reading (log
50). Else a station with the LF air free and the supply NORMAL or LOW challenges at once, without a claim, and
otherwise it holds the touch (R125). -/
def Obligations.StationActsAloneInLineFault : Prop :=
  ∀ (s : State) (a : Area), Calm s → s.line.state ≠ .ok →
    let input := { s with power := { s.power with localAt := s.now } }
    let changed := fun l : LockState => queueRecord .latchState { input with latch := { s.latch with lock := l } }
    (s.latch.seq = .idle → s.pins.outerHandle = false →
        (s.latch.lock = .unlocked → s.latch.crashEnd = none →
          ∃ v, exec .insideLockButton s = .next v ∧ Kept (changed .locked) v)
        ∧ (s.latch.lock = .locked → ∃ v, exec .insideLockButton s = .next v ∧ Kept (changed .unlocked) v)
        ∧ (s.latch.lock = .deadlocked ∨ (s.latch.lock = .unlocked ∧ s.latch.crashEnd.isSome = true) →
          ∃ v, exec .insideLockButton s = .next v ∧ Kept input v))
      ∧ (isTailgate s = (a == .tailgateButton) → (a = .tailgateButton → s.latch.lock ≠ .unlocked) →
        let c : Instr := match a with
          | .unlockArea => .unlockAreaTouch
          | .lockArea => .lockAreaTouch
          | .tailgateButton => .tailgateButton
        let acts := a ≠ .lockArea ∧ s.cfg.caps.outer = true ∧ s.cfg.caps.receiver = true ∧ s.search.record = none
        let free := (s.search.claims.all fun x => decide (x.expiry ≤ s.now)) = true ∧ GoodSupply s
        (¬ acts → ∃ v, exec c s = .next v ∧ Kept input v
          ∧ v.search.record = s.search.record ∧ v.search.held = s.search.held)
        ∧ (acts → free → ∃ v, exec c s = .next v ∧ Kept { input with
            freeCount := s.freeCount + 1
            search := { s.search with
              burst := some (.outer, s.now + 10000)
              record := some { touchRecord a s.now with
                stage := .collecting, challenge := some (Config.freeChallenge s.freeCount)
                windowEnd := some (s.now + 45000) } } } v)
        ∧ (acts → ¬ free → ∃ v, exec c s = .next v
          ∧ Kept { input with search := { s.search with held := some { area := a, touchAt := s.now } } } v))

/-! ## Intents and their order (chapter 4) -/

/-- 4.3, 4.7 and 4.8: an input that maps to an intent opens an entry, when the start hold is over and the table has
room, with the next epoch, the next tag and every other target that is not LOST pending; the intent frame is queued,
and the station applies its own intent. Said of the inside lock button (LOCK when UNLOCKED, UNLOCK when LOCKED), of the
driver lockout switch (CHILD ON when a rear station stands RELEASED, else CHILD OFF, to RL and RR), and of the expiry
of auto-relock (LOCK). With a full table the prepared intent is held. The own epoch lies above the last-applied keys,
the tag counter's value is free, some target is pending, the release sequence is IDLE and the outer handle not held. -/
def Obligations.MappedInputOpensAnIntent : Prop :=
  ∀ (s : State), Calm s → s.line.state = .ok → s.intent.startHold = none → s.latch.crashEnd = none →
    s.latch.seq = .idle → s.pins.outerHandle = false → s.addr.val < 5 →
    epochLater (s.intent.epoch + 1) s.intent.keyLatch.epoch = true → s.intent.nextTag ≠ 15 →
    (∀ e ∈ s.intent.table, e.tag ≠ s.intent.nextTag) →
    let entry := fun (k : IntentKind) (ts : Stations) (c : Cause) (own : Bool) =>
      let e : OpenEntry :=
        { tag := s.intent.nextTag, kind := k, epoch := s.intent.epoch + 1, targets := ts, cause := c, notice := none
          partialSearch := false, pending := without (without ts (only s.addr)) (lostSet s)
          results := Vector.replicate 5 none, unresponsive := 0#5, attempts := 1, timer := none }
      if own then setResult s.addr .applied e else e
    let frame := fun (k : IntentKind) (ts : Stations) (c : Cause) =>
      Payload.intent { kind := k, tag := s.intent.nextTag, epoch := s.intent.epoch + 1, targets := ts, cause := c
                       notice := none }
    let opened := fun (n : State) (e : OpenEntry) =>
      { n with intent := { n.intent with
          epoch := s.intent.epoch + 1, nextTag := s.intent.nextTag + 1, table := s.intent.table ++ [e] } }
    let locked := fun (n : State) (l : LockState) (e : OpenEntry) =>
      let t := opened n e
      queueRecord .latchState { t with
        latch := { n.latch with lock := l }
        intent := { t.intent with relock := none, relockSpent := none, keyLatch := { epoch := s.intent.epoch + 1, origin := s.addr } } }
    let input := { s with power := { s.power with localAt := s.now } }
    (s.intent.table.length < 4 → Roomy 4 s →
        (s.latch.lock = .unlocked → (entry .lock allStations .insideButton true).pending ≠ 0#5 →
          ∃ v, exec .insideLockButton s = .next v
            ∧ Kept (locked input .locked (entry .lock allStations .insideButton true)) v
            ∧ Queued (frame .lock allStations .insideButton) v)
        ∧ (s.latch.lock = .locked → (entry .unlock allStations .insideButton true).pending ≠ 0#5 →
          ∃ v, exec .insideLockButton s = .next v
            ∧ Kept (locked input .unlocked (entry .unlock allStations .insideButton true)) v
            ∧ Queued (frame .unlock allStations .insideButton) v)
        ∧ (isDriver s = true →
          let k := if rearReleased 2 s ∨ rearReleased 3 s then IntentKind.childOn else .childOff
          (entry k 12#5 .switchPack false).pending ≠ 0#5 →
          ∃ v, exec .driverLockoutSwitch s = .next v
            ∧ Kept (opened input (entry k 12#5 .switchPack false)) v ∧ Queued (frame k 12#5 .switchPack) v)
        ∧ ∀ r ∈ s.intent.relock, s.latch.lock = .unlocked →
          (entry .lock allStations .autoRelock true).pending ≠ 0#5 →
          ∃ v, exec .autoRelockExpiry s = .next v
            ∧ Kept (locked (advanceTo r.expiry s) .locked (entry .lock allStations .autoRelock true)) v
            ∧ Queued (frame .lock allStations .autoRelock) v)
      ∧ (s.intent.table.length = 4 → s.latch.lock = .unlocked →
        ∃ v, exec .insideLockButton s = .next v
          ∧ Kept { input with intent := { s.intent with held := some (Prepared.mk .lock allStations .insideButton none false) } } v)

/-- 4.4: the decision of a station on a received intent without a key notice, by the first row of the table that fits.
CRASH HOLD for LOCK and DEADLOCK while crash hold is on; APPLIED for a key higher than the last-applied key of its
family, which it becomes; ALREADY APPLIED for an equal key; SUPERSEDED for a lower or unordered one. One INTENT ACK is
queued with the result and the state after it. A station that is no target sends none. Auto-relock is off, and a
WINDOWS STOP marks the window entry of the press memory as followed. APPLIED is said of LOCK, UNLOCK and DEADLOCK at
an IDLE sequence with the latch CLOSED, of the child kinds at FL, FR and TG, where they change nothing, and of WINDOWS
STOP with no GLOBAL motion running. That an intent without a notice does nothing else to the press memory, whatever
its cause, is the model's reading (log 33). -/
def Obligations.TargetDecidesByOrderKeyAndAcks : Prop :=
  ∀ (s : State) (f : Frame) (e : Nat) (rest : List RxItem) (i : IntentFrame), Calm s → Head f e rest s →
    f.payload = .intent i → i.notice = none → s.intent.relock = none → s.intent.relockSpent = none →
    let c : Instr := match i.kind.family with
      | .latch => .latchIntent
      | .child => .childIntent
      | .window => .windowIntent
    let h := afterHearing f rest s
    let t := if i.kind = .windowsStop then
        { h with intent := { h.intent with
            pressWindow := s.intent.pressWindow.map fun p => { p with followed := true } } }
      else h
    let K : OrderKey := { epoch := i.epoch, origin := f.origin }
    let last := lastKey i.kind.family s.intent
    let higher := epochLater K.epoch last.epoch || (K.epoch == last.epoch && decide (last.origin.val < K.origin.val))
    let crash := s.latch.crashEnd.isSome && (i.kind == .lock || i.kind == .deadlock)
    let ack := fun (r : AckResult) (w : Option WindowOutcome) (l : Option OrderKey) (u : State) =>
      Payload.intentAck
        { toAddr := f.origin, kind := i.kind, tag := i.tag, epoch := i.epoch, result := r
          ownEpoch := t.intent.epoch
          current := match i.kind.family with
            | .latch => .latch (some u.latch.lock) (some u.latch.position)
            | .child => .child (some u.latch.child)
            | .window => .window (some (windowClass s.cfg s.win))
          wpos := if i.kind.family = .window then windowPosition s.cfg s.win else 0#8
          window := w, last := l }
    (inSet s.addr i.targets = false → ∃ v, exec c s = .next v ∧ Kept t v)
      ∧ (inSet s.addr i.targets = true → s.line.state = .ok → Roomy 4 s →
        (crash = true →
          ∃ v, exec c s = .next v ∧ Kept t v ∧ Queued (ack .crashHold none none t) v)
        ∧ (crash = false → K = last →
          ∃ v, exec c s = .next v ∧ Kept t v ∧ Queued (ack .alreadyApplied none none t) v)
        ∧ (crash = false → K ≠ last → higher = false →
          ∃ v, exec c s = .next v ∧ Kept t v ∧ Queued (ack .superseded none (some last) t) v)
        ∧ (crash = false → higher = true →
          let applied := { t with intent := match i.kind.family with
            | .latch => { t.intent with keyLatch := K }
            | .child => { t.intent with keyChild := K }
            | .window => { t.intent with keyWindow := K } }
          let lock := fun l : LockState => if s.latch.lock = l then applied
            else queueRecord .latchState { applied with latch := { s.latch with lock := l } }
          (s.latch.seq = .idle → s.latch.position = .closed → s.pins.outerHandle = false →
            i.kind = .lock ∨ i.kind = .unlock ∨ i.kind = .deadlock →
              let l := if i.kind = .lock then LockState.locked else if i.kind = .unlock then .unlocked else .deadlocked
              ∃ v, exec c s = .next v ∧ Kept (lock l) v ∧ Queued (ack .applied none none (lock l)) v)
          ∧ (i.kind.family = .child → isRear s = false →
            ∃ v, exec c s = .next v ∧ Kept applied v ∧ Queued (ack .applied none none applied) v)
          ∧ (i.kind = .windowsStop → (∀ r ∈ s.win.req, r.source ≠ .global) →
            ∃ v, exec c s = .next v ∧ Kept applied v ∧ Queued (ack .applied (some .stopped) none applied) v)))

/-- 3.3, 1.6 and 3.4: applied intents with an effect on the glass, the child safety or the latch. CHILD ON at RL or RR
engages child safety and ends a LOCAL SWITCH motion, CHILD OFF there releases it, each with the latch record queued;
WINDOWS CLOSE and WINDOWS OPEN start a GLOBAL motion where no check refuses it and none runs; UNLOCK AND OPEN unlocks,
with the latch record queued on a change, and releases the latch where no drop is needed: the window absent, the glass
NORMALISED at or beyond the drop position, or crash hold on. The outer handle is not held there. That no drop is
needed there at the hard thermal limit is the model's reading (log 17). That an intent without a notice leaves the
press memory (log 33), and the record queued at once where the motion that ends has no coast window (log 12), are its
readings too. -/
def Obligations.AppliedIntentActsOnTheClosure : Prop :=
  ∀ (s : State) (f : Frame) (e : Nat) (rest : List RxItem) (i : IntentFrame), Calm s → Head f e rest s →
    f.payload = .intent i → i.notice = none → s.intent.relock = none → s.intent.relockSpent = none →
    inSet s.addr i.targets = true →
    s.win.drop = none → keyHigher { epoch := i.epoch, origin := f.origin } (lastKey i.kind.family s.intent) = true →
    let t := afterHearing f rest s
    let K : OrderKey := { epoch := i.epoch, origin := f.origin }
    (i.kind = .childOn → isRear s = true → s.latch.child = .released → s.latch.seq = .idle →
        let on := queueRecord .latchState { t with
          latch := { s.latch with child := .engaged }, intent := { t.intent with keyChild := K } }
        ((∀ r ∈ s.win.req, r.source ≠ .localSwitch) → ∃ v, exec .childIntent s = .next v ∧ Kept on v)
          ∧ ∀ r ∈ s.win.req, r.source = .localSwitch →
            ∃ v, exec .childIntent s = .next v ∧ Kept (motionEnds r .stopped on) v)
      ∧ (i.kind = .childOff → isRear s = true → s.latch.child = .engaged →
        ∃ v, exec .childIntent s = .next v ∧ Kept (queueRecord .latchState { t with
          latch := { s.latch with child := .released }, intent := { t.intent with keyChild := K } }) v)
      ∧ (i.kind = .windowsClose ∨ i.kind = .windowsOpen → s.win.req = none → s.cfg.caps.window = true →
        GoodSupply s → s.win.norm = true → s.latch.crashEnd = none → s.win.heat < 60000 →
        s.latch.position = .closed → s.pinch.mode = .normal →
        let r : Request :=
          { source := .global, dir := if i.kind = .windowsClose then .up else .down, mode := .auto }
        ∃ v, exec .windowIntent s = .next v
          ∧ Kept (motionStarts r { t with intent := { t.intent with keyWindow := K } }) v)
      ∧ (i.kind = .unlockAndOpen → s.latch.seq = .idle → s.latch.position = .closed → GoodSupply s →
        s.pins.outerHandle = false →
        s.cfg.caps.window = false ∨ (s.win.norm = true ∧ (s.cfg.dropDist : Int) ≤ s.win.p)
          ∨ s.latch.crashEnd.isSome = true →
        let released := { t with
          intent := { t.intent with keyLatch := K }
          latch := { s.latch with
            lock := .unlocked, seq := .releasing, kind := some .entry, attempts := 1, retryUsed := false
            dropOut := false, retryDelay := none, pulseEnd := some (s.now + 250000), waitEnd := none
            supplyWait := none } }
        ∃ v, exec .latchIntent s = .next v
          ∧ Kept (if s.latch.lock = .unlocked then released else queueRecord .latchState released) v)

/-- 4.4, 4.7, 4.8 and 5.6: a received intent that carries a key notice, at a station that is no target, that has the
intent's key as its last-applied key, or that applies it: a LOCK, UNLOCK or DEADLOCK at an IDLE sequence with the
latch CLOSED, which sets the lock state with its record queued on a change, or a WINDOWS STOP with no GLOBAL motion
running. The slot PAIRED or SUSPENDED under the identity takes the counter of the notice where it lies 1 to 32768
ahead: resync pending is absent, the record queued and a write of it in progress stale; else, and for an identity no
slot holds, the slots stay (R109). With cause FOB or PASSIVE a latch or window intent becomes the entry of its family
in the press memory, seen now (R90, and that each frame received counts anew log 63, the model's choice). A latch
intent cancels auto-relock, but for an UNLOCK with the notice of the UNLOCK that armed it and a higher own key than
the intent's (R94); one whose timer has expired is spared in the same way, the model's reading (log 67), and an own
key unordered to the intent's does not spare it, the model's choice (log 106). A lookup that meets a slot which fails
its check goes on with the slot reloaded from its record, where it is store current and the record is good and the
store, by its latest answer (log 101), answers, or leaves it DAMAGED with KEY DAMAGED entered and its FAULT NOTICE
queued, and then does not apply the notice (R98; the order of the slots is log 24, and that a DAMAGED slot's id leaves
the write-back queue log 54). Elsewhere the slots are sound, and crash hold and the outer handle are off at a target.
-/
def Obligations.KeyNoticeIsTakenWithAnIntent : Prop :=
  ∀ (s : State) (f : Frame) (e : Nat) (rest : List RxItem) (i : IntentFrame) (nt : Notice), Calm s → Head f e rest s →
    f.payload = .intent i → i.notice = some nt →
    let K : OrderKey := { epoch := i.epoch, origin := f.origin }
    let higher := keyHigher K (lastKey i.kind.family s.intent)
    let l := match i.kind with
      | .lock => LockState.locked
      | .unlock => .unlocked
      | .deadlock => .deadlocked
      | _ => s.latch.lock
    inSet s.addr i.targets = false ∨ (s.latch.crashEnd = none ∧ Roomy 4 s ∧ (K = lastKey i.kind.family s.intent
      ∨ (higher = true ∧ (i.kind = .lock ∨ i.kind = .unlock ∨ i.kind = .deadlock ∨ i.kind = .windowsStop)
        ∧ s.latch.seq = .idle ∧ s.latch.position = .closed ∧ s.pins.outerHandle = false
        ∧ ∀ r ∈ s.win.req, r.source ≠ .global))) →
    let c : Instr := match i.kind.family with
      | .latch => .latchIntent
      | .child => .childIntent
      | .window => .windowIntent
    let t := afterHearing f rest s
    let press : Press := { kind := i.kind, targets := i.targets, identity := nt.identity, seenAt := s.now }
    let pressed := i.cause = .fob ∨ i.cause = .passive
    let followed := if i.kind = .windowsStop then s.intent.pressWindow.map fun q => { q with followed := true }
      else s.intent.pressWindow
    let armed := s.intent.relock.or s.intent.relockSpent
    let spared := i.kind = .unlock ∧ ∃ r ∈ armed, r.notice = some nt ∧ keyHigher r.key K = true
    let cancels := i.kind.family = .latch ∧ ¬ spared
    let heard := { t with intent := { t.intent with
      pressLatch := if pressed ∧ i.kind.family = .latch then some press else s.intent.pressLatch
      pressWindow := if pressed ∧ i.kind.family = .window then some press else followed
      relock := if cancels then none else s.intent.relock
      relockSpent := if cancels then none else s.intent.relockSpent } }
    let acted := fun u : State =>
      if inSet s.addr i.targets && higher then
        let k := { u with intent := if i.kind.family = .latch then { u.intent with keyLatch := K }
          else { u.intent with keyWindow := K } }
        if s.latch.lock = l then k else queueRecord .latchState { k with latch := { s.latch with lock := l } }
      else u
    let sound := ∀ m : Slot, slotGood m s.keys.slots[m] = true
    (sound → (∀ m : Slot, s.keys.slots[m].state ≠ .empty → s.keys.slots[m].identity ≠ nt.identity) →
        ∃ v, exec c s = .next v ∧ Kept (acted heard) v)
      ∧ (∀ m : Slot, MeetsSpoiltSlot nt.identity m s →
        (s.keys.slots[m].storeCurrent = true → ∀ x ∈ slotRecord m s, exec c s = exec c (slotReloaded m x s))
        ∧ (s.keys.slots[m].storeCurrent = false ∨ slotRecord m s = none →
          ∃ v, exec c s = .next v ∧ Kept (acted (slotDamaged m heard)) v
            ∧ (s.line.state = .ok → Roomy 4 s → Queued (.faultNotice .keyDamaged (byte m.val)) v)))
      ∧ ∀ m : Slot, sound → s.keys.slots[m].state ≠ .empty → s.keys.slots[m].identity = nt.identity →
        (∀ j : Slot, s.keys.slots[j].state ≠ .empty → s.keys.slots[j].identity = nt.identity → j = m) →
        let k := s.keys.slots[m]
        let d := (nt.counter - k.counter).toNat
        let takes := (k.state = .paired ∨ k.state = .suspended) ∧ 1 ≤ d ∧ d ≤ 32768
        let moved := { k with counter := nt.counter, resync := none, storeCurrent := false }
        (takes → ∃ v, exec c s = .next v ∧ Kept (acted (queueRecord (.key m) { heard with
          keys := { s.keys with slots := s.keys.slots.set m { moved with check := slotCover m moved } }
          store := { s.store with writing := s.store.writing.map (staleWrite m) } })) v)
        ∧ (¬ takes → ∃ v, exec c s = .next v ∧ Kept (acted heard) v)

/-- 4.5 and 4.3: an ack to this station is matched by tag and epoch. From a pending sender the result is recorded and
the sender leaves the pending set; when that empties it, the entry closes: it is freed, its unresponsive stations are
handed to the census unit, and INTENT OUTCOME is queued with the outcome of the recorded results, PARTIAL where a
station is unresponsive. A target that is not pending and has no result, left out or removed as LOST, has its result
recorded late and leaves the unresponsive set. From a sender with a result, from one that is no target, and to another
station, the ack changes nothing. At the expiry of an attempt timer below 4 attempts the same intent frame is queued
again with one more attempt; at the fourth the pending stations become unresponsive, each is handed to the census
unit, which makes a PRESENT peer SILENT, and the entry closes with its INTENT OUTCOME. The start hold ends one
interval after its start. Of the two epochs of an ack the answered intent's is taken first, the model's choice (log
102). -/
def Obligations.AcksAndAttemptTimersMoveTheEntry : Prop :=
  (∀ (s : State) (f : Frame) (e : Nat) (rest : List RxItem) (a : AckFrame), Calm s → Head f e rest s →
       f.payload = .intentAck a →
       let t := afterHearing f rest s
       (a.toAddr ≠ s.addr → ∃ v, exec .intentAck s = .next v ∧ Kept t v)
         ∧ (a.toAddr = s.addr → (∀ x ∈ s.intent.table, x.tag = a.tag → x.epoch ≠ a.epoch) →
           ∃ v, exec .intentAck s = .next v ∧ Kept t v)
         ∧ ∀ x ∈ entryOf a.tag s, a.toAddr = s.addr → x.epoch = a.epoch → TableBounds s →
           (inSet f.origin x.pending = false → inSet f.origin x.targets = false ∨ (resultOf f.origin x).isSome = true →
             x.pending ≠ 0#5 → ∃ v, exec .intentAck s = .next v ∧ Kept t v)
           ∧ (inSet f.origin x.pending = false → inSet f.origin x.targets = true → resultOf f.origin x = none →
             x.pending ≠ 0#5 →
             let y := setResult f.origin a.result { x with unresponsive := without x.unresponsive (only f.origin) }
             ∃ v, exec .intentAck s = .next v
               ∧ Kept { t with intent := { t.intent with
                   table := s.intent.table.map fun z => if z.tag = a.tag then y else z } } v)
           ∧ (inSet f.origin x.pending = true →
             let y := setResult f.origin a.result { x with pending := without x.pending (only f.origin) }
             (y.pending ≠ 0#5 →
               ∃ v, exec .intentAck s = .next v
                 ∧ Kept { t with intent := { t.intent with
                     table := s.intent.table.map fun z => if z.tag = a.tag then y else z } } v)
             ∧ (y.pending = 0#5 → f.origin ≠ s.addr → s.line.state = .ok → Roomy 4 s →
               let outcome := if y.results.toList.any (· == some .crashHold) then IntentResult.refused
                 else if y.results.toList.any (· == some .superseded) then .superseded
                 else if y.unresponsive ≠ 0#5 then .partialResult
                 else .complete
               let handed := fun b : Addr =>
                 if inSet b y.unresponsive && b != s.addr then unresponsivePeer s.census.peers[b] else s.census.peers[b]
               ∃ v, exec .intentAck s = .next v
                 ∧ Kept { t with
                     intent := { t.intent with table := s.intent.table.filter fun z => z.tag != a.tag }
                     census := { t.census with peers := Vector.ofFn fun b : Addr =>
                       if b = f.origin then { handed b with presence := .present, since := s.now } else handed b } } v
                 ∧ Queued (.intentOutcome
                     { tag := y.tag, kind := y.kind, epoch := y.epoch, outcome := outcome, reason := .none
                       partialSearch := y.partialSearch, applied := appliedSet y, unresponsive := y.unresponsive }) v)))
    ∧ ∀ (s : State) (tag : Tag), Calm s →
      (∀ x ∈ entryOf tag s, ∀ at_ ∈ x.timer, TableBounds s → x.pending ≠ 0#5 → s.line.state = .ok → Roomy 4 s →
        let n := advanceTo at_ s
        (x.attempts < 4 →
          ∃ v, exec (.attemptTimerExpiry tag) s = .next v
            ∧ Kept { n with intent := { s.intent with table := s.intent.table.map fun z =>
                if z.tag = tag then { x with attempts := x.attempts + 1, timer := none } else z } } v
            ∧ Queued (.intent { kind := x.kind, tag := x.tag, epoch := x.epoch, targets := x.targets, cause := x.cause
                                notice := x.notice }) v)
        ∧ (4 ≤ x.attempts →
          let y := { x with unresponsive := x.unresponsive ||| x.pending, pending := 0#5, timer := none }
          let outcome := if y.results.toList.any (· == some .crashHold) then IntentResult.refused
            else if y.results.toList.any (· == some .superseded) then .superseded
            else .partialResult
          ∃ v, exec (.attemptTimerExpiry tag) s = .next v
            ∧ Kept { n with
                intent := { s.intent with table := s.intent.table.filter fun z => z.tag != tag }
                census := { s.census with
                  peers := Vector.ofFn fun a : Addr =>
                    if inSet a y.unresponsive && a != s.addr then unresponsivePeer s.census.peers[a]
                    else s.census.peers[a] } } v
            ∧ Queued (.intentOutcome
                { tag := y.tag, kind := y.kind, epoch := y.epoch, outcome := outcome, reason := .none
                  partialSearch := y.partialSearch, applied := appliedSet y, unresponsive := y.unresponsive }) v))
        ∧ ∀ h ∈ s.intent.startHold,
          ∃ v, exec .startHoldTimeout s = .next v
            ∧ Kept { advanceTo h s with intent := { s.intent with startHold := none } } v ∧ v.intent.startHold = none

/-! ## Key records and fob frames (chapter 5) -/

/-- 5.4 and 5.5: a button frame at a station with a receiver and sound slots. An identity no slot holds, or one whose
slot is SUSPENDED or DAMAGED, is dropped without a count. A wrong code counts a bad code: the first of a window starts
its 60 s, and the 8th suspends the slot for 60 s. With the right code the counter decides by its distance: stale at 0
or above 32768; accepted in 1..256, or up to 32768 one or two counts after the pending resync; else it becomes the
pending resync. An accepted frame moves the counter, queues the key record, and is local input; a LOCK with a closure
open is then refused with the kind it would have made, and in LINE FAULT the intent engine takes no action. The
bad-code window of a slot ends 60 s after it began with its count 0, and the suspension timer of a slot makes a
SUSPENDED slot PAIRED. -/
def Obligations.ButtonFrameIsCheckedStepByStep : Prop :=
  (∀ (s : State) (bytes : List Byte) (f : ButtonFrame) (n : Slot), Calm s → s.cfg.caps.receiver = true →
       decodeButton bytes = some f → (∀ m : Slot, slotGood m s.keys.slots[m] = true) →
       (∀ m : Slot, s.keys.slots[m].state ≠ .empty → s.keys.slots[m].identity = f.identity → m = n) →
       let k := s.keys.slots[n]
       let held := k.state ≠ .empty ∧ k.identity = f.identity
       let d := (f.counter - k.counter).toNat
       let good := codeOf k.sHi k.sLo (BitVec.ofNat 32 (f.counter.toNat * 256 + f.button.code)) = f.code
       let resync := k.resync.any (fun q => (f.counter - q).toNat == 1 || (f.counter - q).toNat == 2) = true
       let slot := fun x : KeySlot => { s with keys := { s.keys with slots := s.keys.slots.set n x } }
       (¬ held ∨ (held ∧ (k.state = .suspended ∨ k.state = .damaged)) →
           ∃ v, exec (.buttonFrame bytes) s = .next v ∧ Kept s v)
         ∧ (held → k.state = .paired → ¬ good →
           let window := k.badCodes ≠ 0 ∧ k.windowStart.any (fun w => decide (s.now ≤ w + 60000000)) = true
           let x := if window ∧ 7 ≤ k.badCodes then
               { k with state := .suspended, badCodes := 0, windowStart := none, suspendedUntil := some (s.now + 60000000) }
             else if window then { k with badCodes := k.badCodes + 1 }
             else { k with badCodes := 1, windowStart := some s.now }
           ∃ v, exec (.buttonFrame bytes) s = .next v ∧ Kept
             { slot { x with check := slotCover n x } with keys :=
               { (slot { x with check := slotCover n x }).keys with bad := min 65535 (s.keys.bad + 1) } } v)
         ∧ (held → k.state = .paired → good → (d = 0 ∨ 32768 < d) →
           ∃ v, exec (.buttonFrame bytes) s = .next v
             ∧ Kept { s with keys := { s.keys with stale := min 65535 (s.keys.stale + 1) } } v)
         ∧ (held → k.state = .paired → good → 257 ≤ d → d ≤ 32768 → ¬ resync →
           ∃ v, exec (.buttonFrame bytes) s = .next v ∧ Kept (slot { k with resync := some f.counter }) v)
         ∧ (held → k.state = .paired → good → 1 ≤ d → (d ≤ 256 ∨ (d ≤ 32768 ∧ resync)) →
           let x := { k with counter := f.counter, resync := none, storeCurrent := false }
           let accepted := queueRecord (.key n) { slot { x with check := slotCover n x } with
             power := { s.power with localAt := s.now }
             store := { s.store with writing := s.store.writing.map (staleWrite n) } }
           (∃ v, exec (.buttonFrame bytes) s = .next v ∧ v.keys = accepted.keys ∧ v.now = s.now ∧ .key n ∈ v.store.queue
             ∧ v.power.localAt = s.now ∧ v.pinch.profile = s.pinch.profile)
           ∧ (s.line.state ≠ .ok → ∃ v, exec (.buttonFrame bytes) s = .next v ∧ Kept accepted v)
           ∧ (s.line.state = .ok → Roomy 4 s → f.button = .lock → anyClosureOpen s = true →
             ∃ v, exec (.buttonFrame bytes) s = .next v ∧ Kept accepted v
               ∧ Queued (.intentOutcome { tag := 15, epoch := s.intent.epoch, outcome := .refused
                                          kind := if s.cfg.deadlockEn ∧ pressedWithin .lock f.identity 3000000 s
                                            then .deadlock else .lock
                                          reason := .closureOpen, partialSearch := false, applied := 0#5
                                          unresponsive := 0#5 }) v)))
    ∧ (∀ (s : State) (n : Slot), Calm s →
          let k := s.keys.slots[n]
          let slot := fun (t : State) (x : KeySlot) => { t with keys := { s.keys with slots := s.keys.slots.set n x } }
          (∀ w ∈ k.windowStart,
              ∃ v, exec (.badCodeWindowEnd n) s = .next v
                ∧ Kept (slot (advanceTo (w + 60000000) s) { k with badCodes := 0, windowStart := none }) v)
            ∧ ∀ e ∈ k.suspendedUntil,
              let x := { k with suspendedUntil := none, state := .paired }
              ∃ v, exec (.suspensionTimerExpiry n) s = .next v
                ∧ Kept (slot (advanceTo e s) (if k.state = .suspended then { x with check := slotCover n x }
                    else { k with suspendedUntil := none })) v)

/-- 5.3: the code function and the codes it judges (R101). For every secret and message w begins as S_lo XOR m, goes
through four rounds of w := (w × 33 + S_hi) mod 2^32 and w := w XOR (w div 65536), and the code is w mod 2^24. The
message of a button frame is its counter × 256 + its button code, that of a passive reply the full 32-bit challenge of
the open search. The code of a frame matches when it equals the code computed under the secret of the slot that its
identity found: one that matches counts no bad code; one that does not is counted as a bad code, whatever its counter,
and the stale frame count and the slot's last counter stay. The slot is PAIRED, it alone holds the identity, and the
slots are sound. -/
def Obligations.CodeFunctionInNumbers : Prop :=
  let code := fun (sHi sLo : Word32) (m : Nat) =>
    let round := fun w : Nat =>
      let x := (w * 33 + sHi.toNat) % 2 ^ 32
      x ^^^ (x / 65536)
    round (round (round (round (sLo.toNat ^^^ m)))) % 2 ^ 24
  (∀ sHi sLo m : Word32, (codeOf sHi sLo m).toNat = code sHi sLo m.toNat)
    ∧ ∀ (s : State) (bytes : List Byte) (n : Slot), Calm s → s.cfg.caps.receiver = true →
      (∀ m : Slot, slotGood m s.keys.slots[m] = true) →
      let k := s.keys.slots[n]
      let found := fun id : Word32 => k.state = .paired ∧ k.identity = id
        ∧ ∀ m : Slot, s.keys.slots[m].state ≠ .empty → s.keys.slots[m].identity = id → m = n
      let judged := fun (c : Instr) (matching : Prop) =>
        (matching → ∃ v, exec c s = .next v ∧ v.keys.bad = s.keys.bad)
        ∧ (¬ matching → ∃ v, exec c s = .next v ∧ v.keys.bad = min 65535 (s.keys.bad + 1)
          ∧ v.keys.stale = s.keys.stale ∧ v.keys.slots[n].counter = k.counter)
      (∀ f, decodeButton bytes = some f → found f.identity →
          judged (.buttonFrame bytes) (f.code.toNat = code k.sHi k.sLo (f.counter.toNat * 256 + f.button.code)))
        ∧ ∀ r, decodePassive bytes = some r → found r.identity →
          ∀ q ∈ s.search.record, ∀ ch ∈ q.challenge, ch.setWidth 24 = r.echo → ∀ w ∈ q.windowEnd, s.now ≤ w →
          r ∉ q.taken → judged (.passiveReply bytes) (r.code.toNat = code k.sHi k.sLo ch.toNat)

/-- 5.1, 5.2, 5.6, 5.8 and 6.3: a passive reply of the receiver that echoes no challenge of an open search here, with
none open or one of another challenge, is relayed as FOB RELAY and changes no search (R100, R111); a FOB RELAY of
another echo is discarded. A reply that echoes the challenge of the open search, by either way, is never relayed, and
the station's own FOB RELAY reaches its own search unit too (R111): that it does so at its report "sent" is the
model's reading (log 97). The reply is discarded after the window's end and when it was taken before. Else it is taken
and validated: under a PAIRED slot and the right code for the whole challenge its key joins the candidates with the
strength of the reply; an unknown identity, a SUSPENDED or DAMAGED slot, or a wrong code, which is counted at the
slot, adds no candidate (R108, R122). A lookup that meets a slot which fails its check goes on with the slot reloaded
from its record, where it is store current and the record is good and the store, by its latest answer (log 101),
answers, or leaves it DAMAGED with KEY DAMAGED entered and its FAULT NOTICE queued, and then adds no candidate (R98;
the order of the slots is log 24, and that a DAMAGED slot's id leaves the write-back queue log 54). -/
def Obligations.PassiveReplyIsRelayedOrCollected : Prop :=
  ∀ (s : State) (bytes : List Byte) (r : Reply) (f : Frame) (e : Nat) (rest : List RxItem) (own : TxEntry), Calm s →
    Roomy 4 s → s.line.state = .ok → decodePassive bytes = some r →
    let other := ∀ q ∈ s.search.record, ∀ ch ∈ q.challenge, ch.setWidth 24 ≠ r.echo
    let relays := fun v : State => ∀ x ∈ v.line.tx, x.frame.payload = .fobRelay r → x ∈ s.line.tx
    let m := advanceTo (s.line.frameAt + 3600) s
    let sent := { m with line := { m.line with
      tx := [], cond := .busy, freeAt := m.now + 240, failures := 0, extEnd := none } }
    let byReceiver := s.cfg.caps.receiver = true
    let byRelay := Head f e rest s ∧ f.payload = .fobRelay r
    let bySending := s.line.rx = [] ∧ s.line.tx = [own] ∧ own.inTx = true ∧ own.jobless = false
      ∧ own.frame.payload = .fobRelay r
    let answers := fun (c : Instr) (t : State) => ∃ v, exec c s = .next v ∧ Kept t v ∧ relays v
    let weighs := fun (c : Instr) (t : State) =>
      ∀ q ∈ s.search.record, ∀ ch ∈ q.challenge, ch.setWidth 24 = r.echo →
        (¬ (∃ w ∈ q.windowEnd, t.now ≤ w) ∨ r ∈ q.taken → answers c t)
        ∧ ∀ w ∈ q.windowEnd, t.now ≤ w → r ∉ q.taken →
          let seen := { q with taken := q.taken ++ [r] }
          let sound := ∀ m : Slot, slotGood m s.keys.slots[m] = true
          (sound → (∀ m : Slot, s.keys.slots[m].state ≠ .empty → s.keys.slots[m].identity ≠ r.identity) →
            answers c (setRecord (some seen) t))
          ∧ (∀ m : Slot, MeetsSpoiltSlot r.identity m s →
            (s.keys.slots[m].storeCurrent = true → ∀ x ∈ slotRecord m s, exec c s = exec c (slotReloaded m x s))
            ∧ (s.keys.slots[m].storeCurrent = false ∨ slotRecord m s = none →
              ∃ v, exec c s = .next v ∧ Kept (setRecord (some seen) (slotDamaged m t)) v ∧ relays v
                ∧ Queued (.faultNotice .keyDamaged (byte m.val)) v))
          ∧ ∀ n : Slot, sound → s.keys.slots[n].state ≠ .empty → s.keys.slots[n].identity = r.identity →
            (∀ m : Slot, s.keys.slots[m].state ≠ .empty → s.keys.slots[m].identity = r.identity → m = n) →
            let k := s.keys.slots[n]
            let good := codeOf k.sHi k.sLo ch = r.code
            let bad := countBad t.now k
            (k.state ≠ .paired → answers c (setRecord (some seen) t))
            ∧ (k.state = .paired → ¬ good →
              answers c (setRecord (some seen) { t with keys := { s.keys with
                bad := min 65535 (s.keys.bad + 1)
                slots := s.keys.slots.set n { bad with check := slotCover n bad } } }))
            ∧ (k.state = .paired → good →
              let x : Candidate := { slot := n, identity := r.identity, strength := r.strength, counter := k.counter }
              answers c (setRecord (some { seen with candidates := addCandidate x q.candidates }) t))
    (other →
        (byReceiver → ∃ v, exec (.passiveReply bytes) s = .next v ∧ Kept s v ∧ Queued (.fobRelay r) v)
        ∧ (byRelay → answers .fobRelay (afterHearing f rest s))
        ∧ (bySending → answers .frameSent sent))
      ∧ (byReceiver → weighs (.passiveReply bytes) s)
      ∧ (byRelay → weighs .fobRelay (afterHearing f rest s))
      ∧ (bySending → weighs .frameSent sent)

/-! ## Passive entry and key search (chapter 6) -/

/-- 6.2 to 6.4 and 3.3: a touch on an area of the outer handle, or a press of the tailgate button at a station that is
LOCKED or DEADLOCKED, taken as a touch. With no search open, the LF air free and the supply good a search opens and
its SEARCH CLAIM is queued; while the claim list holds an unexpired claim, or in CRANK, the touch is held with its
time; in UNDER and while a search is open it is ignored, and at a station without an outer antenna always. A lock area
touch is first refused with CLOSURE OPEN when a closure stands open or the station is not UNLOCKED, also while a
search is open or in UNDER: that order is the model's choice (log 25, and for UNDER log 75). Each touch is local
input. A held touch is tried again with its own time when the air is free, and dropped 500 ms after it; that it may be
tried until the drop is given, also after them, is the model's choice (log 100). -/
def Obligations.TouchOpensHoldsOrDropsASearch : Prop :=
  ∀ (s : State) (a : Area), Calm s → Roomy 4 s → s.line.state = .ok →
    isTailgate s = (a == .tailgateButton) → (a = .tailgateButton → s.latch.lock ≠ .unlocked) →
    let c : Instr := match a with
      | .unlockArea => .unlockAreaTouch
      | .lockArea => .lockAreaTouch
      | .tailgateButton => .tailgateButton
    let input := { s with power := { s.power with localAt := s.now } }
    let mayLock := s.latch.lock = .unlocked ∧ anyClosureOpen s = false
    let passes := s.cfg.caps.outer = true ∧ (a = .lockArea → mayLock)
    let free := s.search.claims.all fun x => decide (x.expiry ≤ s.now)
    (passes → s.search.record = none → free = true → GoodSupply s →
        ∃ v, exec c s = .next v ∧ Queued .searchClaim v
          ∧ Kept { input with search := { s.search with record := some (touchRecord a s.now) } } v)
      ∧ (passes → s.search.record = none → s.power.supply ≠ .under → free = false ∨ s.power.supply = .crank →
        ∃ v, exec c s = .next v
          ∧ Kept { input with search := { s.search with held := some { area := a, touchAt := s.now } } } v)
      ∧ (s.cfg.caps.outer = false ∨ (passes ∧ (s.search.record.isSome = true ∨ s.power.supply = .under)) →
        ∃ v, exec c s = .next v ∧ Kept input v)
      ∧ (s.cfg.caps.outer = true → ¬ passes →
        ∃ v, exec c s = .next v ∧ Kept input v
          ∧ Queued (.intentOutcome { tag := 15, kind := .lock, epoch := s.intent.epoch, outcome := .refused
                                     reason := .closureOpen, partialSearch := false, applied := 0#5
                                     unresponsive := 0#5 }) v)
      ∧ ∀ h ∈ s.search.held,
        (s.cfg.caps.outer = true → (h.area = .lockArea → mayLock) → (h.area = .tailgateButton → s.latch.lock ≠ .unlocked) →
          s.search.record = none → free = true → GoodSupply s →
          ∃ v, exec .heldTouchRetry s = .next v ∧ Queued .searchClaim v
            ∧ Kept { s with search := { s.search with record := some (touchRecord h.area h.touchAt), held := none } } v)
        ∧ ∃ v, exec .heldTouchDrop s = .next v ∧ Kept { advanceTo (h.touchAt + 500000) s with
            search := { s.search with held := none } } v

/-- 6.1 and 6.4: a claim delivered from another station joins the claim list, in the place of an older one of its
origin: a SEARCH CLAIM for 50 ms from its end, an INTERIOR SEARCH until 45 ms and 50 ms for each participant after its
end. An own claim still waiting is withdrawn, its record freed and its touch held. An INTERIOR SEARCH that names the
station makes a slot duty, when no search is open here and no other claim holds the air. A claim leaves the list at
its expiry. That the touch is held also where its 500 ms have passed is the model's choice (log 100). -/
def Obligations.ClaimsJoinAndLeaveTheClaimList : Prop :=
  ∀ (s : State) (f : Frame) (e : Nat) (rest : List RxItem) (n : Byte) (ps : Stations) (o : Addr), Calm s → Roomy 4 s →
    s.line.state = .ok → Head f e rest s →
    let t := afterHearing f rest s
    let listed := fun (k : ClaimKind) (x : Nat) => { t with search := { t.search with
      claims := s.search.claims.filter (fun c => c.origin != f.origin)
        ++ [{ origin := f.origin, kind := k, expiry := x }] } }
    let slots := (List.finRange 8).countP fun a => ps.getLsbD a.val
    let place := (List.finRange 8).countP fun a => decide (a.val < s.addr.val) && ps.getLsbD a.val
    let air := s.search.claims.all fun c => c.origin == f.origin || decide (c.expiry ≤ s.now)
    let recorded := fun (m : State) (r : Option SearchRec) => { m with search := { m.search with record := r } }
    (f.payload = .searchClaim →
        let t := listed .searchClaim (e + 50000)
        (ownClaimWaits s = false → ∃ v, exec .searchClaim s = .next v ∧ Kept t v)
        ∧ (ownClaimWaits s = true → ∀ r ∈ s.search.record, r.stage = .claiming →
          ∃ v, exec .searchClaim s = .next v ∧ ownClaimWaits v = false ∧ Kept { t with
            search := { t.search with record := none, held := some { area := r.area, touchAt := r.touchAt } }
            line := { t.line with
              tx := s.line.tx.filter fun x => x.inTx || x.jobless || !isClaimPayload x.frame.payload } } v))
      ∧ (f.payload = .interiorSearch n ps → ownClaimWaits s = false →
        let t := listed .interiorSearch (e + 45000 + slots * 50000)
        (ps.getLsbD s.addr.val = true → s.search.record = none → air = true →
          ∃ v, exec .interiorSearch s = .next v ∧ Kept (recorded t (some { touchRecord .unlockArea s.now with
            kind := .slotDuty, stage := .waiting, number := n, requester := f.origin, slotIndex := place
            slotAt := some (e + 5000 + place * 50000) })) v)
        ∧ (ps.getLsbD s.addr.val = false ∨ s.search.record.isSome = true ∨ air = false →
          ∃ v, exec .interiorSearch s = .next v ∧ Kept t v))
      ∧ ∀ c ∈ s.search.claims.find? (fun c => c.origin == o),
        let m := advanceTo c.expiry s
        ∃ v, exec (.claimExpiry o) s = .next v
          ∧ Kept { m with search := { s.search with claims := s.search.claims.filter fun c => c.origin != o } } v

/-- 6.3 and 6.4: the decisions on the outer challenge at the end of its window, by the strongest candidate, between
equals the one in the lower slot. At or above the outer threshold an entry search unlocks: in LINE FAULT the own lock
alone, and from the tailgate button the latch is released too (said where the window is absent and no drop
outstanding), else by an UNLOCK intent with the key's notice: to this station alone on the first press under selective
unlock, else to all, and from the tailgate button an UNLOCK AND OPEN to TG. A passive lock goes on to its interior
search, whose INTERIOR SEARCH is queued with the next number and the participants: the station itself and each peer
that is not LOST, where its capabilities hold INNER ANTENNA. That a participant with an address above 4 has no place
in the set of the frame is the model's choice (log 66). Below the threshold an entry search ends without a frame and a
passive lock with NO KEY; in LINE FAULT a passive lock whose key was found ends without a frame. That the outer stage
of a passive lock goes on to claim also where the 500 ms from its touch have passed is the model's choice (log 82).
The burst of a challenge ends after its 10 ms. -/
def Obligations.OuterChallengeIsDecidedByItsStrongestKey : Prop :=
  ∀ (s : State) (r : SearchRec), Calm s → Roomy 4 s → s.search.record = some r →
    let strongest := fun c : Candidate => c ∈ r.candidates ∧ s.cfg.outerThr ≤ c.strength.toNat
      ∧ ∀ y ∈ r.candidates, y = c ∨ y.strength.toNat < c.strength.toNat ∨ (y.strength = c.strength ∧ c.slot.val < y.slot.val)
    let noKey := ∀ y ∈ r.candidates, y.strength.toNat < s.cfg.outerThr
    let participants := (List.finRange 8).filter fun a =>
      if a = s.addr then s.cfg.caps.inner
      else s.census.peers[a].presence != .lost && s.census.peers[a].caps.any (·.inner)
    let named : Stations :=
      BitVec.ofNat 5 (((List.finRange 5).map fun a => if a.castLE (by decide) ∈ participants then 2 ^ a.val else 0).sum)
    let recorded := fun (m : State) (q : Option SearchRec) => { m with search := { m.search with record := q } }
    (∀ w ∈ r.windowEnd, r.kind = .entry → r.stage = .collecting →
        let n := advanceTo w s
        (noKey → ∃ v, exec .entrySearchDecision s = .next v ∧ Kept (recorded n none) v)
          ∧ ∀ c ∈ r.candidates, strongest c →
            (s.line.state ≠ .ok → s.pins.outerHandle = false →
              let open_ := if s.latch.lock = .unlocked then recorded n none
                else queueRecord .latchState { recorded n none with latch := { s.latch with lock := .unlocked } }
              (r.area = .unlockArea → s.latch.seq = .idle →
                ∃ v, exec .entrySearchDecision s = .next v ∧ Kept open_ v)
              ∧ (r.area = .tailgateButton → s.latch.seq = .idle → s.latch.position = .closed → GoodSupply s →
                s.cfg.caps.window = false → s.win.drop = none →
                ∃ v, exec .entrySearchDecision s = .next v ∧ Kept { open_ with
                  latch := { open_.latch.pulsed n.now with kind := some .entry, attempts := 1, retryUsed := false } } v))
            ∧ (s.line.state = .ok → s.intent.startHold = none → s.intent.table.length < 4 → s.intent.nextTag ≠ 15 →
              (∀ x ∈ s.intent.table, x.tag ≠ s.intent.nextTag) → s.addr.val < 5 →
              let second := s.intent.pressLatch.any fun q => q.kind == .unlock && q.identity == c.identity
                && decide (n.now < q.seenAt + 5000000) && q.targets != allStations
              ∃ v, exec .entrySearchDecision s = .next v ∧ v.search.record = none
                ∧ v.intent.epoch = s.intent.epoch + 1
                ∧ Queued (.intent
                    { kind := if r.area = .tailgateButton then .unlockAndOpen else .unlock
                      tag := s.intent.nextTag, epoch := s.intent.epoch + 1, cause := .passive
                      targets := if r.area = .tailgateButton then 16#5
                        else if s.cfg.selective && !second then only s.addr else allStations
                      notice := some { identity := c.identity, counter := c.counter } }) v))
      ∧ (∀ w ∈ r.windowEnd, r.kind = .passiveLock → r.stage = .collecting →
        let n := advanceTo w s
        (noKey → s.line.state = .ok →
          ∃ v, exec .outerStageDecision s = .next v ∧ Kept (recorded n none) v
            ∧ Queued (.intentOutcome { tag := 15, kind := .lock, epoch := s.intent.epoch, outcome := .refused
                                       reason := .noKey, partialSearch := false, applied := 0#5
                                       unresponsive := 0#5 }) v)
          ∧ (s.line.state ≠ .ok → ∃ v, exec .outerStageDecision s = .next v ∧ Kept (recorded n none) v)
          ∧ ∀ c ∈ r.candidates, strongest c → s.line.state = .ok → participants ≠ [] →
            (s.search.claims.all fun x => decide (x.expiry ≤ n.now)) = true → s.census.censusOwed = false →
            ∃ v, exec .outerStageDecision s = .next v
              ∧ Kept { n with search := { s.search with
                  nextNumber := s.search.nextNumber + 1
                  record := some { r with
                    stage := .interiorClaiming, deciding := some c, windowEnd := none, number := s.search.nextNumber
                    participants := participants.map fun a => (a, SlotResult.noneYet), claimQueued := true } } } v
              ∧ Queued (.interiorSearch s.search.nextNumber named) v)
      ∧ (r.stage ≠ .interiorClaiming → ∀ b ∈ s.search.burst,
        ∃ v, exec .challengeBurstEnd s = .next v
          ∧ Kept { advanceTo b.2 s with search := { s.search with burst := none } } v)

/-- 6.4: the own slot of an interior search. At its start the inner challenge is driven: 10 ms of burst, 45 ms of
collection; in CRANK or UNDER a slot duty reports SKIPPED. At the end of its window a slot duty reports FOUND or NOT
FOUND by the inner threshold with the best strength, the highest of its candidates or 0, and its record is freed; the
requester records its own result. A delivered SEARCH REPORT of the open interior search records the result of its
origin, once. -/
def Obligations.InteriorSlotsAreSearchedAndReported : Prop :=
  ∀ (s : State) (r : SearchRec) (f : Frame) (e : Nat) (rest : List RxItem) (res : SearchResult) (m b : Byte), Calm s →
    Roomy 4 s → s.line.state = .ok → s.search.record = some r →
    let best := r.candidates.foldl (fun b c => if b.toNat < c.strength.toNat then c.strength else b) 0#8
    let recorded := fun (m : State) (q : Option SearchRec) => { m with search := { m.search with record := q } }
    let found := decide (s.cfg.innerThr ≤ best.toNat)
    let noted := fun (a : Addr) (x : SlotResult) =>
      r.participants.map fun q => if q.1 = a ∧ q.2 = .noneYet then (q.1, x) else q
    (∀ at_ ∈ r.slotAt,
        let n := advanceTo at_ s
        (GoodSupply s →
          ∃ v, exec .slotStart s = .next v
            ∧ Kept { n with
                freeCount := s.freeCount + 1
                search := { s.search with
                  burst := some (.inner, n.now + 10000)
                  record := some { r with
                    slotAt := none, stage := if r.stage = .interior then .interior else .collecting
                    challenge := some (Config.freeChallenge s.freeCount), windowEnd := some (n.now + 45000)
                    taken := [], candidates := [] } } } v)
        ∧ (s.power.supply.poor = true → r.kind = .slotDuty →
          ∃ v, exec .slotStart s = .next v ∧ Kept (recorded n none) v
            ∧ Queued (.searchReport r.requester .skipped r.number 0#8) v)
        ∧ (s.power.supply.poor = true → r.kind ≠ .slotDuty →
          ∃ v, exec .slotStart s = .next v
            ∧ Kept (recorded n (some { r with slotAt := none, participants := noted s.addr .skipped })) v))
      ∧ (∀ w ∈ r.windowEnd,
        let n := advanceTo w s
        (r.kind = .slotDuty →
          ∃ v, exec .slotWindowEnd s = .next v ∧ Kept (recorded n none) v
            ∧ Queued (.searchReport r.requester (if found then .found else .notFound) r.number best) v)
        ∧ (r.kind ≠ .slotDuty → r.stage = .interior →
          ∃ v, exec .slotWindowEnd s = .next v ∧ Kept (recorded n (some { r with
            windowEnd := none, participants := noted s.addr (if found then .found else .notFound) })) v))
      ∧ (Head f e rest s → f.payload = .searchReport s.addr res m b →
        let x := match res with
          | .found => SlotResult.found
          | .notFound => .notFound
          | .skipped => .skipped
        let t := afterHearing f rest s
        (r.kind = .passiveLock → r.stage = .interior → r.number = m →
          ∃ v, exec .searchReport s = .next v
            ∧ Kept (recorded t (some { r with participants := noted f.origin x })) v)
        ∧ (r.kind ≠ .passiveLock ∨ r.stage ≠ .interior ∨ r.number ≠ m →
          ∃ v, exec .searchReport s = .next v ∧ Kept t v))

/-- 6.4: the decision of a passive lock. In LINE FAULT it ends without a frame (R125). A closure now open refuses it
with CLOSURE OPEN, a key found inside with KEY INSIDE. Else LOCK to all is issued with cause PASSIVE and the deciding
key's notice, marked PARTIAL SEARCH when a participant answered SKIPPED or not at all. -/
def Obligations.PassiveLockIsDecidedByTheInteriorSearch : Prop :=
  ∀ (s : State) (r : SearchRec), Calm s → Roomy 4 s → s.search.record = some r →
    ∀ at_ ∈ r.decisionAt,
    let n := advanceTo at_ s
    let refusal := fun x : RefusalReason => Payload.intentOutcome
      { tag := 15, kind := .lock, epoch := s.intent.epoch, outcome := .refused, reason := x, partialSearch := false
        applied := 0#5, unresponsive := 0#5 }
    let inside := r.participants.any fun q => q.2 == .found
    (s.line.state ≠ .ok → ∃ v, exec .passiveLockDecision s = .next v
          ∧ Kept { n with search := { s.search with record := none } } v)
      ∧ (s.line.state = .ok → anyClosureOpen s = true →
        ∃ v, exec .passiveLockDecision s = .next v ∧ Kept { n with search := { s.search with record := none } } v
          ∧ Queued (refusal .closureOpen) v)
      ∧ (s.line.state = .ok → anyClosureOpen s = false → inside = true →
        ∃ v, exec .passiveLockDecision s = .next v ∧ Kept { n with search := { s.search with record := none } } v
          ∧ Queued (refusal .keyInside) v)
      ∧ (s.line.state = .ok → anyClosureOpen s = false → inside = false → s.intent.startHold = none → s.intent.table.length < 4 →
        s.intent.nextTag ≠ 15 → (∀ x ∈ s.intent.table, x.tag ≠ s.intent.nextTag) → s.addr.val < 5 →
        without (without allStations (only s.addr)) (lostSet s) ≠ 0#5 →
        ∃ v, exec .passiveLockDecision s = .next v ∧ v.search.record = none ∧ v.intent.epoch = s.intent.epoch + 1
          ∧ Queued (.intent { kind := .lock, tag := s.intent.nextTag, epoch := s.intent.epoch + 1
                              targets := allStations, cause := .passive
                              notice := r.deciding.map fun c => { identity := c.identity, counter := c.counter } }) v
          ∧ ∃ x ∈ v.intent.table, x.tag = s.intent.nextTag
              ∧ x.partialSearch = (r.participants.isEmpty || !r.participants.all fun q => q.2 == .notFound))

/-! ## The zone line (chapter 7) -/

/-- 7.3 and 7.5: the frames this station sends. At a FREE line, or a BUSY one as soon as it is FREE, the head of the
transmit queue goes into transmission; before the census gate opens the CENSUS and WAKE frames alone pass. A lost
arbitration leaves it waiting with its errors; a bit error counts one and leaves the line BUSY for the abandon mark
and a gap; the 8th drops it, counts it, and at 32 consecutive failures puts the station in LINE FAULT. A frame sent
whole leaves the queue, clears the failures and is reported: to an open entry, whose attempt timer starts, and to the
census unit, whose balance rises; a report waits behind frames that wait. The report of a CENSUS, sent or "not sent",
opens the census gate, and a CENSUS dropped is owed again. The dropped frame is no own claim that a search waits for
and no reply of a flush; what a FOB RELAY sent brings to an open search of its challenge is said elsewhere
(PassiveReplyIsRelayedOrCollected). No wake mark or extension is driven, and no newer ANNOUNCEMENT waits behind the
frame. That no overload test follows a bit error is the model's choice (log 108). -/
def Obligations.OwnFrameIsSentLostOrDropped : Prop :=
  ∀ (s : State) (x : TxEntry) (before after : List TxEntry), Calm s → Roomy 3 s → s.line.state = .ok →
    s.line.tx = before ++ x :: after → (∀ y ∈ before ++ after, y.inTx = false ∧ isAnnouncement y = false) →
    let n := advanceTo (if s.line.cond = .busy then max s.now s.line.freeAt else s.now) s
    let passes := fun y : TxEntry => s.line.gateOpen || y.frame.payload.kind == 13 || y.frame.payload.kind == 15
    (before.all (fun y => !passes y) = true → passes x = true → s.line.cond = .free ∨ s.line.cond = .busy →
        s.line.markWanted = false → s.line.markEnd = none → s.line.extEnd = none →
        ∃ v, exec .frameStart s = .next v
          ∧ Kept { n with line := { n.line with
              tx := before ++ { x with inTx := true } :: after, cond := .frame, frameAt := n.now, ext := 0 } } v
          ∧ { x with inTx := true } ∈ v.line.tx)
      ∧ (x.inTx = true →
        (∃ v, exec .arbitrationLoss s = .next v ∧ inTxEntry v = none
          ∧ Kept { s with line := { s.line with tx := before ++ { x with inTx := false } :: after } } v)
        ∧ (let busy := fun l : List TxEntry =>
            { s with line := { s.line with tx := l, cond := .busy, freeAt := s.now + 560 } }
          (x.errors < 7 →
            ∃ v, exec .bitError s = .next v ∧ inTxEntry v = none
              ∧ Kept (busy (before ++ { x with inTx := false, errors := x.errors + 1 } :: after)) v)
          ∧ (7 ≤ x.errors → s.line.failures < 31 → (∀ r ∈ s.search.record, x.jobless = false →
              isClaimOf x.frame.payload r = false) → (x.frame.payload.kind ≠ 17 ∨ x.jobless = true) →
            let dropped := busy (before ++ after)
            ∃ v, exec .bitError s = .next v ∧ inTxEntry v = none ∧ Kept { dropped with line := { dropped.line with
              txFails := min 65535 (s.line.txFails + 1), failures := s.line.failures + 1 } } v
              ∧ (x.frame.payload.kind = 13 → x.jobless = false →
                v.line.gateOpen = true ∧ v.line.tx.any isCensus = true))
          ∧ (7 ≤ x.errors → 31 ≤ s.line.failures →
            ∃ v, exec .bitError s = .next v ∧ v.line.state = .lineFault .failures ∧ v.line.tx = []
              ∧ v.line.recoverAt = some (s.now + 1000000) ∧ v.line.failures = 0 ∧ v.intent.table = []))
        ∧ (let m := advanceTo (s.line.frameAt + (70 + 10 * x.frame.payload.data.length) * 20) s
          let sent := { m with line := { m.line with
            tx := before ++ after, cond := .busy, freeAt := m.now + 240, failures := 0, extEnd := none } }
          (s.line.rx = [] → x.frame.payload.kind ≠ 6 → x.frame.payload.kind ≠ 7 → x.frame.payload.kind ≠ 12 →
            x.frame.payload.kind ≠ 17 →
            (∀ p, x.frame.payload = .fobRelay p → ∀ q ∈ s.search.record, ∀ ch ∈ q.challenge, ch.setWidth 24 ≠ p.echo) →
            ∃ v, exec .frameSent s = .next v ∧ Kept sent v ∧ inTxEntry v = none
              ∧ (x.frame.payload.kind = 13 → x.jobless = false → v.line.gateOpen = true)
              ∧ ∀ i : IntentFrame, x.frame.payload = .intent i → x.jobless = false →
                ∀ y ∈ entryOf i.tag s, y.epoch = i.epoch → ∃ z ∈ entryOf i.tag v, z.timer = some (m.now + 40000))
          ∧ (∀ a : Announced, x.frame.payload = .announcement a → x.jobless = false → s.line.rx = [] →
            a.going ≠ some true → s.power.agree = 0 →
            ∃ v, exec .frameSent s = .next v ∧ Kept { sent with census := { s.census with
              balance := min 4 (s.census.balance + 1), urgent := false, announced := true } } v)
          ∧ (∀ g t rest, s.line.rx = .frame g t :: rest → framesHeld s.line.rx < 7 →
            ∃ v, exec .frameSent s = .next v ∧ inTxEntry v = none
              ∧ Kept { sent with line := { sent.line with
                  rx := s.line.rx ++ if x.jobless then [] else [.sent x.frame.payload m.now] } } v)))

/-- 6.1, 6.3 and 6.4: an own SEARCH CLAIM reported sent takes the LF air when the claim list holds no other unexpired
claim: the challenge, whose value is free, is driven on the outer antenna for 10 ms and its collection window is open
for 45 ms; in CRANK the search ends and its touch is held, in UNDER it is dropped. A claim sent while another holds
the air is void: the record is freed and its touch held with its time, as it is for a claim dropped after its 8th bit
error; that it is held also where its 500 ms have passed is the model's choice (log 100). An own INTERIOR SEARCH sent
puts the search into INTERIOR: slot k begins 5 ms and k times 50 ms after the end of the frame, and the decision falls
40 ms after the last slot; void, the record waits to claim again. An INTERIOR SEARCH that has not been reported within
500 ms of its touch ends the passive lock without a frame, also where its report waits behind received frames (log 76)
and where the outer stage ended after them (log 82), the model's choices: a frame of it that waits is withdrawn, and
one in transmission goes on without a job. That no overload test follows a bit error is the model's choice (log 108).
-/
def Obligations.OwnClaimIsSentVoidOrTimesOut : Prop :=
  (∀ (s : State) (x : TxEntry) (r : SearchRec), s.power.heldSince = none → s.power.state = .run → s.intent.held = none →
      s.win.dropAnswer = none → s.line.tx = [x] → x.inTx = true → x.jobless = false → s.line.state = .ok →
      s.search.record = some r →
      let m := advanceTo (s.line.frameAt + (70 + 10 * x.frame.payload.data.length) * 20) s
      let sent := { m with line := { m.line with
        tx := [], cond := .busy, freeAt := m.now + 240, failures := 0, extEnd := none } }
      let free := s.search.claims.all fun c => decide (c.expiry ≤ m.now)
      let after := fun (q : Option SearchRec) => { sent with search := { s.search with record := q } }
      let held := some { area := r.area, touchAt := r.touchAt }
      (s.line.rx = [] → x.frame.payload = .searchClaim → r.stage = .claiming →
        (free = true → GoodSupply s → ∃ v, exec .frameSent s = .next v ∧ Kept { sent with
          freeCount := s.freeCount + 1
          search := { s.search with
            burst := some (.outer, m.now + 10000)
            record := some { r with
              stage := .collecting, challenge := some (Config.freeChallenge s.freeCount)
              windowEnd := some (m.now + 45000), taken := [], candidates := [] } } } v)
        ∧ (free = true → s.power.supply = .crank ∨ s.power.supply = .under → ∃ v, exec .frameSent s = .next v
          ∧ Kept { sent with search := { s.search with
              record := none, held := if s.power.supply = .crank then held else s.search.held } } v)
        ∧ (free = false → ∃ v, exec .frameSent s = .next v
          ∧ Kept { sent with search := { s.search with record := none, held := held } } v))
      ∧ (∀ ps, s.line.rx = [] → x.frame.payload = .interiorSearch r.number ps → r.stage = .interiorClaiming →
        r.claimQueued = true →
        let l := r.participants.map fun q => q.1
        (free = true → ∃ v, exec .frameSent s = .next v ∧ Kept (after (some { r with
            stage := .interior, claimQueued := false, slotIndex := l.idxOf s.addr
            slotAt := if s.addr ∈ l then some (m.now + 5000 + l.idxOf s.addr * 50000) else none
            decisionAt := some (m.now + 5000 + l.length * 50000 + 40000) })) v)
        ∧ (free = false →
          ∃ v, exec .frameSent s = .next v ∧ Kept (after (some { r with claimQueued := false })) v))
      ∧ (x.frame.payload = .searchClaim → r.stage = .claiming → x.errors = 7 → s.line.failures < 31 →
        ∃ v, exec .bitError s = .next v ∧ Kept { s with
          search := { s.search with record := none, held := held }
          line := { s.line with
            tx := [], cond := .busy, freeAt := s.now + 560, txFails := min 65535 (s.line.txFails + 1)
            failures := s.line.failures + 1 } } v))
    ∧ ∀ (s : State) (r : SearchRec), s.power.heldSince = none → s.power.state = .run → s.intent.held = none →
      s.win.dropAnswer = none → Roomy 3 s → s.search.record = some r → r.stage = .interiorClaiming →
      let n := advanceTo (r.touchAt + 500000) s
      ∃ v, exec .interiorClaimTimeout s = .next v
        ∧ Kept { n with
            search := { s.search with record := none }
            line := { n.line with
              tx := (s.line.tx.filter fun e => e.inTx || e.jobless || !isClaimPayload e.frame.payload).map fun e =>
                if isClaimPayload e.frame.payload then { e with jobless := true } else e
              rx := s.line.rx.filter fun x => match x with
                | .sent p _ => !isClaimPayload p
                | .frame _ _ => true } } v
        ∧ ∀ y ∈ v.line.tx, isClaimPayload y.frame.payload = true → y.jobless = true ∧ (y.inTx = true ∨ y ∈ s.line.tx)

/-- 6.3 and 6.4: the supply becomes UNDER (R119, R121, R129, R131). The held touch is dropped and a burst stops. An
entry search whose burst is stopped ends without a frame, and a slot duty's is reported SKIPPED; without a burst both
go on. A passive lock ends without a frame in CLAIMING, its claim withdrawn or without a job, and in COLLECTING; in
INTERIOR the own slot becomes SKIPPED and the decision falls at its time. That what drives no burst goes on is the
model's reading (log 30), and that the SKIPPED report of a stopped burst carries the strength 0 its choice (log 79).
No motion, release or write runs. -/
def Obligations.UnderEndsWhatTheSearchUnitDrives : Prop :=
  ∀ (s : State) (r : SearchRec) (u : Nat), Calm s → 4500 ≤ u → u < 6000 → s.power.supply ≠ .under →
    s.win.motion = .idle → s.latch.seq ≠ .releasing → s.store.writing = none → s.search.record = some r →
    let n := advanceTo (s.power.sampleAt + 1000) s
    let fallen := { n with
      pins := { s.pins with supplySense := u }
      power := { s.power with
        supply := .under, sampleAt := n.now, samples := (u :: s.power.samples).take 20
        rise6300 := none, rise7800 := none, rise9300 := none } }
    let leaves := fun q : Option SearchRec =>
      { fallen with search := { s.search with record := q, held := none, burst := none } }
    let bursting := ∃ b ∈ s.search.burst, n.now < b.2
    let answers := fun m : State => ∃ v, exec (.supplySample u) s = .next v ∧ Kept m v
    (r.kind = .entry → (bursting → answers (leaves none)) ∧ (¬ bursting → answers (leaves (some r))))
      ∧ (r.kind = .slotDuty →
        (bursting → ∃ v, exec (.supplySample u) s = .next v ∧ Kept (leaves none) v
          ∧ (s.line.state = .ok → Roomy 4 s → Queued (.searchReport r.requester .skipped r.number 0#8) v))
        ∧ (¬ bursting → answers (leaves (some r))))
      ∧ (r.kind = .passiveLock →
        (r.stage = .collecting → answers (leaves none))
        ∧ (r.stage = .claiming → answers { leaves none with line := { n.line with
            tx := (s.line.tx.filter fun e => e.inTx || e.jobless || !isClaimPayload e.frame.payload).map fun e =>
              if isClaimPayload e.frame.payload then { e with jobless := true } else e
            rx := s.line.rx.filter fun x => match x with
              | .sent p _ => !isClaimPayload p
              | .frame _ _ => true } })
        ∧ (r.stage = .interior → answers (leaves (some { r with
            slotAt := none, windowEnd := none
            participants := r.participants.map fun q => if q.1 = s.addr then (q.1, .skipped) else q }))))

/-- 7.2, 7.4 and 7.5: the frames this station receives. A frame is judged at the bit that settles it: a damaged one is
dropped there, and the line is FREE 12 recessive bit times after that or after a later dominant bit. A good frame of
another station joins the receive queue with the time of its end; with 8 there it is discarded and the overruns rise;
with 7 or more there after it the station, unless in LINE FAULT, drives an overload extension of 8 bit times; that the
line is FREE 13 bit times after the end of the extension is the model's reading (log 46). Bits that fail a check of a
frame, a frame of a kind from 18 up, and one whose origin is not accepted for its kind are discarded and counted, and
in mid-frame the extension starts at the bit that discards (log 78). Bits that begin dominant at a line that is in no
frame follow a run that is no sync: it is ignored, and FREE is measured again from the last dominant bit (7.2); that
one of more than 20 bit times is then a hold that has ended, and one of 100 ms brings LINE FAULT with cause HELD, is
the model's choice (log 80). A good frame with this station's own address is counted and puts it, when it is OK, in
LINE FAULT with cause CLASH and the fault CLASH. The station sends none, drives no mark and no extension, and is in no
LINE FAULT with cause HELD, whose recovery each frame would begin again. Which frames have defined contents is in part
the model's choice (log 26). -/
def Obligations.ReceivedFrameIsJudged : Prop :=
  ∀ (s : State) (f : Frame) (bits : List Bool) (raw : RawFrame), Calm s → s.line.state ≠ .lineFault .held → inTxEntry s = none →
    s.line.markEnd = none → s.line.extEnd = none → s.line.cond ≠ .held → drainReports s = s →
    let begin_ := match s.line.cond with
      | .frame => s.line.frameAt
      | .busy => max s.now s.line.freeAt
      | .free => s.now
      | .held => s.now
    let n := advanceTo (begin_ + (12 + bits.length) * 20) s
    let ended := { n with line := { n.line with cond := .busy, freeAt := n.now + 240, ext := 0 } }
    let joined := { ended with line := { ended.line with rx := s.line.rx ++ [.frame f n.now] } }
    let damaged := fun t : State => { t with line := { t.line with damaged := min 65535 (s.line.damaged + 1) } }
    let dropped :=
      let d := advanceTo (begin_ + (12 + bitsRead bits) * 20) s
      { d with line := { d.line with
          cond := .busy, freeAt := max d.now (begin_ + (12 + lastDominant bits) * 20) + 240, ext := 0 } }
    let extended := fun t : State =>
      if s.line.state = .ok then
        { t with line := { t.line with
          ext := 1, extEnd := some (t.now + 160), freeAt := max t.line.freeAt (t.now + 420) } }
      else t
    let accepted := (f.payload.kind = 0 → f.origin = 6)
      ∧ (f.payload.kind = 1 ∨ f.payload.kind = 2 ∨ f.payload.kind = 3 → f.origin ≠ 6 ∧ f.origin ≠ 7)
      ∧ (f.payload.kind = 16 → f.origin = 7)
    (bits = frameBits f → f.payload.defined = true → f.origin ≠ s.addr → accepted →
        (framesHeld s.line.rx < 6 → ∃ v, exec (.frameReception bits) s = .next v ∧ Kept joined v)
        ∧ (6 ≤ framesHeld s.line.rx → framesHeld s.line.rx < 8 →
          ∃ v, exec (.frameReception bits) s = .next v ∧ Kept (extended joined) v)
        ∧ (8 ≤ framesHeld s.line.rx → ∃ v, exec (.frameReception bits) s = .next v ∧ Kept (extended { ended with
            line := { ended.line with overruns := min 65535 (s.line.overruns + 1) } }) v))
      ∧ (s.line.cond ≠ .frame → bits.head? = some false → bits.length ≤ 178 →
        let d := advanceTo (begin_ + (12 + leadingDominant bits) * 20) s
        ∃ v, exec (.frameReception bits) s = .next v ∧ Kept { d with line := { d.line with
          cond := .busy, freeAt := max d.now (begin_ + (12 + lastDominant bits) * 20) + 240 } } v)
      ∧ (s.line.cond ≠ .frame → bits.head? = some false → s.line.state = .ok → 100000 ≤ (12 + leadingDominant bits) * 20 →
        let d := advanceTo (begin_ + (12 + leadingDominant bits) * 20) s
        ∃ v, exec (.frameReception bits) s = .next v ∧ v.now = d.now ∧ v.line.state = .lineFault .held ∧ v.line.tx = []
          ∧ v.line.recoverAt = some (max d.now (begin_ + (12 + lastDominant bits) * 20) + 50000)
          ∧ v.intent.table = [])
      ∧ (s.line.cond = .frame ∨ bits.head? ≠ some false →
        readFrame bits = none ∨ (readFrame bits = some raw ∧ raw.origin ≠ s.addr ∧ 18 ≤ raw.kind) →
        ∃ v, exec (.frameReception bits) s = .next v
          ∧ Kept (if 7 ≤ framesHeld s.line.rx then extended (damaged dropped) else damaged dropped) v)
      ∧ (bits = frameBits f → f.payload.defined = true → f.origin ≠ s.addr → ¬ accepted →
        ∃ v, exec (.frameReception bits) s = .next v
          ∧ Kept (if 7 ≤ framesHeld s.line.rx then extended (damaged ended) else damaged ended) v)
      ∧ (bits = frameBits f → f.payload.defined = true → f.origin = s.addr → s.line.state = .ok →
        ∃ v, exec (.frameReception bits) s = .next v ∧ v.line.state = .lineFault .clash ∧ v.line.tx = []
          ∧ v.line.damaged = min 65535 (s.line.damaged + 1) ∧ v.line.rx = s.line.rx
          ∧ v.census.faults = s.census.faults.set 1 (some (byte f.payload.kind)) ∧ v.intent.table = [])

/-- 7.2, 7.4 and 7.5: the line itself. An extension ends after its time and the test is made again: with 7 or more
frames still held a second one follows, and no third; a line that is HELD stays so. A dominant run of more than 20 bit
times that belongs to no frame makes the line HELD, a recessive bit BUSY again, FREE after a gap and not before one
after an own extension or mark; after 100 ms of a hold the station is in LINE FAULT with cause HELD, with nothing to
send and no open entry: the held touch is dropped (R119), and then the job of an own SEARCH CLAIM that waits is told
"not sent" (R147), so that the search that waits for it ends and its touch becomes the held touch (R116). Recovery
from LINE FAULT closes the census gate, sets the balance to 0 and queues CENSUS and an ANNOUNCEMENT. The first bit of
a hold follows log 32, and the gap after an extension log 46. That a hold in the middle of a frame in reception, after
a lost arbitration, drops that frame uncounted is the model's choice (log 93). -/
def Obligations.LineHoldsAndRecovers : Prop :=
  ∀ (s : State), Calm s →
    (∀ e ∈ s.line.extEnd,
        let n := advance 20 (advanceTo e s)
        (framesHeld s.line.rx < 7 ∨ 2 ≤ s.line.ext ∨ s.line.state ≠ .ok →
          ∃ v, exec .overloadExtensionEnd s = .next v ∧ Kept { n with line := { n.line with extEnd := none } } v)
        ∧ (7 ≤ framesHeld s.line.rx → s.line.ext < 2 → s.line.state = .ok →
          ∃ v, exec .overloadExtensionEnd s = .next v ∧ Kept { n with line := { n.line with
            ext := s.line.ext + 1, extEnd := some (n.now + 160), freeAt := max s.line.freeAt (n.now + 420)
            cond := if s.line.cond = .held then .held else .busy } } v))
      ∧ (inTxEntry s = none → s.line.cond ≠ .held →
        let n := advance 420 s
        ∃ v, exec .lineHoldStart s = .next v ∧ Kept { n with line := { n.line with
          cond := .held, holdFrom := some s.now
          recoverAt := if s.line.state = .lineFault .held then none else s.line.recoverAt } } v)
      ∧ (s.line.cond = .held →
        ∃ v, exec .lineHoldEnd s = .next v ∧ Kept { s with line := { s.line with
          cond := .busy, holdFrom := none
          freeAt := max (s.now + 240) (max ((s.line.extEnd.map (· + 260)).getD 0) ((s.line.markEnd.map (· + 240)).getD 0))
          recoverAt := if s.line.state = .lineFault .held then some (s.now + 50000) else s.line.recoverAt } } v)
      ∧ (∀ h ∈ s.line.holdFrom, s.line.cond = .held → s.line.state = .ok →
        let n := advanceTo (h + 100000) s
        let claims := ∃ x ∈ s.line.tx, x.jobless = false ∧ x.frame.payload = .searchClaim
        ∃ v, exec .lineHoldTimeout s = .next v ∧ v.now = n.now ∧ v.win = n.win ∧ v.line.state = .lineFault .held
          ∧ v.line.tx = [] ∧ v.line.recoverAt = none ∧ v.intent.table = [] ∧ v.latch = s.latch ∧ v.keys = s.keys
          ∧ ((∀ r ∈ s.search.record, r.stage = .claiming → ¬ claims) → v.search.held = none)
          ∧ (∀ r ∈ s.search.record, r.stage = .claiming → claims →
            v.search.record = none ∧ v.search.held = some { area := r.area, touchAt := r.touchAt }))
      ∧ ∀ e ∈ s.line.recoverAt, s.line.state = .lineFault .held ∨ s.line.state = .lineFault .failures → s.line.tx = [] →
        let n := advanceTo e s
        ∃ v, exec .lineFaultRecovery s = .next v
          ∧ Kept { n with
              line := { n.line with state := .ok, recoverAt := none, gateOpen := false, failures := 0 }
              census := { s.census with balance := 0, urgent := false }
              intent := { s.intent with startHold := some (n.now + intervalInEffect s * 1000) } } v
          ∧ v.line.gateOpen = false ∧ (v.line.tx.any isCensus = true) ∧ announcementWaits v = true

/-! ## Census and announcements (chapter 8) -/

/-- 8.1 to 8.5: every delivered frame makes its origin PRESENT and restarts its silence timer. A CENSUS enters the
origin's capabilities where it speaks of itself, its interval and its epoch, and asks for an announcement: one is
queued below a balance of +4, else the waiting change is set, unless a status change at once puts new contents into
one that waits; from a LOST peer it is answered with a CENSUS. An ANNOUNCEMENT enters the status, and a latch OPEN in
it cancels auto-relock. WINDOW REPORT, FAULT NOTICE, INTENT OUTCOME, SERVICE REPLY and WAKE do nothing more. -/
def Obligations.DeliveredFrameIsEnteredInThePeerTable : Prop :=
  ∀ (s : State) (f : Frame) (e : Nat) (rest : List RxItem), Calm s → Head f e rest s → f.origin ≠ s.addr →
    let t := afterHearing f rest s
    let entered := fun p : Peer => { t with census := { t.census with peers := s.census.peers.set f.origin p } }
    let old := s.census.peers[f.origin]
    (t.census.peers[f.origin].presence = .present ∧ t.census.peers[f.origin].since = s.now)
      ∧ (∀ pos caps iv ep, f.payload = .census pos caps iv ep →
        let p : Peer :=
          { old with
            presence := .present, since := s.now, caps := if pos = f.origin then some caps else old.caps
            interval := max 100 (min 4000 iv.toNat), epoch := some ep, announced := true }
        (s.census.balance < 4 → s.line.state = .ok →
          ∃ v, exec .census s = .next v ∧ Kept (entered p) v
            ∧ (Roomy 4 s → announcementWaits v = true ∧ (old.presence = .lost → v.line.tx.any isCensus = true)))
        ∧ (4 ≤ s.census.balance → ∃ v, exec .census s = .next v ∧ Kept (entered p) v
            ∧ (announcementWaits s = false
                ∨ (watchedFields (announcedNow v) = s.census.lastWatched ∧ s.census.statusOwed = false) →
              v.census.waitingChange = true)))
      ∧ (∀ a : Announced, f.payload = .announcement a → a.going ≠ some true ∨ s.power.agree = 0 →
        let p : Peer :=
          { old with
            presence := .present, since := s.now, status := some a, epoch := some a.epoch, announced := true
            interval := max 100 (min 4000 a.interval.toNat) }
        ∃ v, exec .announcement s = .next v ∧ Kept { entered p with intent :=
          { (entered p).intent with
            relock := if a.latch = some .opened then none else s.intent.relock
            relockSpent := if a.latch = some .opened then none else s.intent.relockSpent } } v)
      ∧ (f.payload.kind = 10 → ∃ v, exec .windowReport s = .next v ∧ Kept t v)
      ∧ (f.payload.kind = 11 → ∃ v, exec .faultNotice s = .next v ∧ Kept t v)
      ∧ (f.payload.kind = 14 → ∃ v, exec .intentOutcome s = .next v ∧ Kept t v)
      ∧ (f.payload.kind = 17 → ∃ v, exec .serviceReply s = .next v ∧ Kept t v)
      ∧ (f.payload.kind = 15 → ∃ v, exec .wake s = .next v ∧ Kept t v)

/-- 8.3 and 8.5: at the expiry of the interval timer it restarts and the balance falls by 1, not below -4: there the
late count rises and the urgent flag is set; an announcement is due while the balance is negative. A peer silent for 3
of its intervals is SILENT, and one SILENT or UNKNOWN for 8 is LOST. No open entry waits for it. -/
def Obligations.IntervalAndSilenceTimersExpire : Prop :=
  ∀ (s : State) (a : Addr), Calm s →
    (let n := advanceTo s.census.intervalEnd s
     let restarted := { s.census with intervalEnd := n.now + intervalInEffect s * 1000 }
     (s.line.state = .ok → -4 < s.census.balance →
        ∃ v, exec .intervalTimerExpiry s = .next v
          ∧ Kept { n with census := { restarted with balance := s.census.balance - 1 } } v
          ∧ (s.census.balance ≤ 0 → Roomy 3 s → announcementWaits v = true ∨ announcementInTx v = true))
      ∧ (s.line.state = .ok → s.census.balance = -4 →
        ∃ v, exec .intervalTimerExpiry s = .next v
          ∧ Kept { n with census := { restarted with late := min 65535 (s.census.late + 1), urgent := true } } v)
      ∧ (s.line.state ≠ .ok → agreement n = false →
        ∃ v, exec .intervalTimerExpiry s = .next v ∧ Kept { n with census := restarted } v))
      ∧ (a ≠ s.addr → (∀ x ∈ s.intent.table, inSet a x.pending = false ∧ x.pending ≠ 0#5) →
        let old := s.census.peers[a]
        let entered := fun (n : State) (p : Presence) =>
          { n with census := { s.census with peers := s.census.peers.set a { old with presence := p } } }
        (old.presence = .present →
          ∃ v, exec (.silenceTimeout a) s = .next v
            ∧ Kept (entered (advanceTo (old.since + 3 * old.interval * 1000) s) .silent) v)
        ∧ (old.presence = .silent ∨ old.presence = .unknown →
          ∃ v, exec (.silenceTimeout a) s = .next v
            ∧ Kept (entered (advanceTo (old.since + 8 * old.interval * 1000) s) .lost) v)
        ∧ (old.presence = .lost → ∃ v, exec (.silenceTimeout a) s = .next v ∧ Kept s v))

/-! ## Supply, sleep and wake (chapter 9) -/

/-- 9.1: the supply state. A sample moves the rise measures; the state falls at once to the level state, or to CRANK
at a fast fall of more than 1500 mV in 20 ms, which restarts the measures of LOW and NORMAL; it rises when a measure
has lasted 50 ms. A fall to UNDER ends a running motion STOPPED and a RELEASING sequence with SUPPLY; one to CRANK
pauses a driven motion. The sense reads no reset (9.5). Elsewhere no motion or release runs, no search is open, no
write waits. The record queued at once where the motion that ends has no coast window is the model's reading (log 12).
-/
def Obligations.SupplyFallsAtOnceAndRisesAfterFiftyMs : Prop :=
  ∀ (s : State) (u : Nat), Calm s → 4500 ≤ u → s.win.drop = none → s.search.record = none → s.search.held = none →
    s.search.burst = none → s.store.writing = none → s.latch.supplyWait = none →
    let n := advanceTo (s.power.sampleAt + 1000) s
    let fast := s.power.samples[19]?.any (fun x => decide (u + 1500 < x))
    let level := if fast ∧ 7500 ≤ u then Supply.crank else levelState u
    let since := fun (m : Option Nat) (restart : Bool) => if fast && restart then some n.now else some (m.getD n.now)
    let sampled := { n with
      pins := { s.pins with supplySense := u }
      power := { s.power with
        sampleAt := n.now, samples := (u :: s.power.samples).take 20
        rise6300 := if 6300 ≤ u then since s.power.rise6300 false else none
        rise7800 := if 7800 ≤ u then since s.power.rise7800 true else none
        rise9300 := if 9300 ≤ u then since s.power.rise9300 true else none } }
    let fallen := { sampled with power := { sampled.power with supply := level } }
    (s.power.supply.rank ≤ level.rank → ∃ v, exec (.supplySample u) s = .next v ∧ Kept sampled v)
      ∧ (level.rank < s.power.supply.rank →
        (s.win.req = none → s.win.motion = .idle → s.latch.seq ≠ .releasing →
          ∃ v, exec (.supplySample u) s = .next v ∧ Kept fallen v)
        ∧ (level = .under → s.win.req = none → s.win.motion = .idle → s.latch.seq = .releasing →
          ∃ v, exec (.supplySample u) s = .next v ∧ Kept { fallen with latch := { s.latch with
            seq := .idle, kind := none, dropOut := false, retryDelay := none, pulseEnd := none, waitEnd := none
            supplyWait := none, lastRelease := .supply } } v)
        ∧ ∀ r ∈ s.win.req, s.win.motion = .moving → r.source ≠ .drop → s.latch.seq ≠ .releasing →
          (level = .under → ∃ v, exec (.supplySample u) s = .next v ∧ Kept (motionEnds r .stopped fallen) v)
          ∧ (level = .crank → ∃ v, exec (.supplySample u) s = .next v ∧ Kept (pauses fallen) v))
      ∧ (s.win.motion = .idle → s.latch.seq ≠ .releasing →
        let risen := fun (m : Nat) (x : Supply) =>
          let t := advanceTo (m + 50000) s
          { t with power := { t.power with supply := x } }
        (∀ m ∈ s.power.rise9300, s.power.supply = .low →
          ∃ v, exec .supplyRise s = .next v ∧ Kept (risen m .normal) v)
        ∧ (∀ m ∈ s.power.rise7800, s.power.supply = .crank → s.power.rise9300 = none →
          ∃ v, exec .supplyRise s = .next v ∧ Kept (risen m .low) v)
        ∧ (∀ m ∈ s.power.rise6300, s.power.supply = .under → s.power.rise7800 = none → s.power.rise9300 = none →
          ∃ v, exec .supplyRise s = .next v ∧ Kept (risen m .crank) v))

/-- 9.2 and 9.3: the way to sleep. The local-activity timer runs out 5 s after the latest local input. A sleep-ready
station whose peers are all LOST for 30 s enters SLEEP PENDING and announces it. 100 ms after that announcement was
sent it enters SLEEP when it is sleep-ready still, once an announcement then in transmission has been reported, and
else is in RUN again with its CENSUS queued. An announcement that waits then is withdrawn, each having its job
(EveryStepKeepsLineBounds); where one queued later takes the place of the one in transmission, SLEEP waits for the
newer one, the model's choice (log 88). A dominant run of 0.5 to 2 ms is a wake mark and aborts the sleep, also where
it has been read as a hold; in RUN a run below 100 ms only makes the line BUSY, and a longer one brings LINE FAULT:
where such a run begins follows log 32, and that it drops a frame in reception uncounted log 93. That an abort keeps
the lone timer is the model's choice (log 85). That the latch switch filter ends at the entry to SLEEP is the model's
reading (log 34). -/
def Obligations.StationGoesToSleep : Prop :=
  ∀ (s : State) (us : Nat), s.power.heldSince = none → s.intent.held = none → s.win.dropAnswer = none →
    s.search.record = none → s.power.selfAbort = false → s.census.censusOwed = false →
    (s.power.state = .run →
        (∃ v, exec .localActivityTimeout s = .next v ∧ Kept (advanceTo (s.power.localAt + 5000000) s) v)
        ∧ (∀ l ∈ s.power.loneFrom, sleepReady s = true → s.line.state = .ok → Roomy 2 s →
          let n := advanceTo (l + 30000000) s
          ∃ v, exec .loneTimerExpiry s = .next v
            ∧ Kept { n with power := { n.power with
                state := .sleepPending, going := true, sleepDue := none, quietEnd := none } } v
            ∧ announcementWaits v = true)
        ∧ (inTxEntry s = none → s.line.cond ≠ .held → s.line.state = .ok →
          let n := advance us s
          (us < 100000 → ∃ v, exec (.wakeMarkDetected us) s = .next v
            ∧ Kept { n with line := { n.line with cond := .busy, freeAt := freeAfterRun n, holdFrom := none } } v)
          ∧ (100000 ≤ us → ∃ v, exec (.wakeMarkDetected us) s = .next v ∧ v.now = n.now
            ∧ v.line.state = .lineFault .held ∧ v.line.tx = [] ∧ v.line.recoverAt = some (n.now + 50000)
            ∧ v.intent.table = [] ∧ v.latch = s.latch ∧ v.keys = s.keys)))
      ∧ (s.power.state = .sleepPending →
        let aborted := fun n : State =>
          { n with power := { n.power with state := .run, quietEnd := none, going := false, sleepDue := none } }
        (∀ q ∈ s.power.quietEnd, sleepReady s = true → s.power.sleepDue = none → announcementInTx s = false →
          let n := advanceTo q s
          exec .sleepQuietTimerExpiry s = .next { n with
            power := { n.power with
              state := .sleep, quietEnd := none, sleepDue := none, selfAbort := false, agree := 0, loneFrom := none
              filter := .watching }
            latch := { n.latch with filterEnd := none }
            line := { n.line with
              tx := n.line.tx.filter fun x => x.inTx || x.jobless || !(x.frame.payload.kind == 12)
              rx := [], markWanted := false, markEnd := none, extEnd := none }
            store := { n.store with pairing := none } })
        ∧ (∀ q ∈ s.power.quietEnd, sleepReady s = true → s.power.sleepDue = none → AnnouncementsHaveJobs s →
          ∀ x ∈ s.line.tx.find? (fun x => isAnnouncement x && x.inTx),
          let n := advanceTo q s
          ∃ v, exec .sleepQuietTimerExpiry s = .next v
            ∧ Kept { n with power := { n.power with sleepDue := some x.age } } v
            ∧ (watchedFields (announcedNow n) = s.census.lastWatched → s.census.statusOwed = false →
              announcementWaits v = false))
        ∧ (∀ d ∈ s.power.sleepDue, sleepReady s = true → ∀ x : TxEntry, s.line.tx = [x] → x.age = d → x.inTx = true →
          s.line.rx = [] → s.line.extEnd = none →
          (∃ v, exec .frameSent s = .next v ∧ v.power.state = .sleep ∧ v.line.tx = [])
          ∧ ∃ v, exec .arbitrationLoss s = .next v ∧ v.power.state = .sleepPending)
        ∧ (∀ d ∈ s.power.sleepDue, sleepReady s = true → ∀ x y : TxEntry, s.line.tx = [x, y] ∨ s.line.tx = [y, x] →
          isAnnouncement x = true → x.age = d → x.inTx = true → isAnnouncement y = true → y.inTx = false → y.age ≠ d →
          ∀ c ∈ [Instr.arbitrationLoss, .bitError], ∃ v, exec c s = .next v ∧ v.power.state = .sleepPending
            ∧ v.power.sleepDue = some y.age ∧ ∀ z ∈ v.line.tx, z.age = y.age)
        ∧ (∀ q ∈ s.power.quietEnd, sleepReady (advanceTo q s) = false → s.line.state = .ok → Roomy 4 s →
          ∃ v, exec .sleepQuietTimerExpiry s = .next v ∧ Kept (aborted (advanceTo q s)) v
            ∧ v.line.tx.any isCensus = true)
        ∧ (500 ≤ us → us ≤ 2000 → inTxEntry s = none → s.line.cond ≠ .held → s.line.state = .ok → Roomy 4 s →
          let n := advance us s
          ∃ v, exec (.wakeMarkDetected us) s = .next v ∧ v.line.tx.any isCensus = true
            ∧ Kept (aborted { n with line := { n.line with cond := .busy, freeAt := freeAfterRun n, holdFrom := none } }) v)
        ∧ (∀ h ∈ s.line.holdFrom, s.line.cond = .held → h + 500 ≤ s.now → s.now ≤ h + 2000 → s.line.state = .ok →
          Roomy 4 s →
          ∃ v, exec .lineHoldEnd s = .next v ∧ v.line.tx.any isCensus = true
            ∧ Kept (aborted { s with line := { s.line with cond := .busy, freeAt := freeAfterRun s, holdFrom := none } }) v))

/-- 9.3: the agreement on sleep. The agreement condition holds when the station is sleep-ready and each peer is LOST
or has announced, and not sleep-ready no; that it does not hold with every peer LOST, where the lone timer alone
brings the sleep, is the model's reading (log 98). At each own plain ANNOUNCEMENT reported sent the agreement count
rises by one where it holds, to 2, which is SLEEP PENDING with a going-to-sleep ANNOUNCEMENT queued, and is 0 where it
does not. With the count above 0 an ANNOUNCEMENT of a peer that is going to sleep is followed at once. In LINE FAULT
the lone timer starts the quiet timer and queues nothing. The going-to-sleep ANNOUNCEMENT sent starts the quiet timer
of 100 ms; one not sent aborts. A local input aborts with its WAKE, the wake mark and the CENSUS (in LINE FAULT with
no frame; that it keeps the lone timer is the model's choice, log 85), and a frame delivered aborts with the CENSUS,
but for an ANNOUNCEMENT of a station that is going to sleep. -/
def Obligations.SleepIsAgreedFollowedAndAborted : Prop :=
  ∀ (s : State) (x : TxEntry) (a : Announced) (f : Frame) (e : Nat) (rest : List RxItem), s.power.heldSince = none →
    s.intent.held = none → s.win.dropAnswer = none → (∀ r ∈ s.search.record, r.stage ≠ .interiorClaiming) →
    s.census.censusOwed = false → s.power.selfAbort = false → s.power.sleepDue = none →
    let agreed := fun t : State => sleepReady t = true
      ∧ (∃ p : Addr, p ≠ s.addr ∧ t.census.peers[p].presence ≠ .lost)
      ∧ ∀ p : Addr, p ≠ s.addr →
        t.census.peers[p].presence = .lost ∨ ∃ st ∈ t.census.peers[p].status, st.ready ≠ some false
    let pending := fun t : State => { t with power := { t.power with
      state := .sleepPending, going := true, sleepDue := none, quietEnd := none } }
    let running := fun t : State => { t with power := { t.power with
      state := .run, going := false, sleepDue := none, quietEnd := none } }
    let m := advanceTo (s.line.frameAt + 3000) s
    let sent := { m with
      line := { m.line with tx := [], cond := .busy, freeAt := m.now + 240, failures := 0, extEnd := none }
      census := { s.census with balance := min 4 (s.census.balance + 1), urgent := false, announced := true } }
    let own := s.line.state = .ok ∧ s.line.tx = [x] ∧ x.inTx = true ∧ x.jobless = false
      ∧ x.frame.payload = .announcement a
    let t := afterHearing f rest s
    let old := s.census.peers[f.origin]
    let entered := { t with
      census := { t.census with peers := s.census.peers.set f.origin { old with
        presence := .present, since := s.now, status := some a, epoch := some a.epoch, announced := true
        interval := max 100 (min 4000 a.interval.toNat) } }
      intent := { t.intent with
        relock := if a.latch = some .opened then none else s.intent.relock
        relockSpent := if a.latch = some .opened then none else s.intent.relockSpent } }
    let leaving := Head f e rest s ∧ f.payload = .announcement a ∧ a.going = some true ∧ f.origin ≠ s.addr
    (s.power.state = .run →
        (own → a.going ≠ some true → s.line.rx = [] →
          (agreed sent → s.power.agree = 0 → ∃ v, exec .frameSent s = .next v ∧ Kept sent v ∧ v.power.agree = 1)
          ∧ (agreed sent → 1 ≤ s.power.agree →
            ∃ v, exec .frameSent s = .next v ∧ Kept (pending sent) v ∧ announcementWaits v = true)
          ∧ (¬ agreed sent → ∃ v, exec .frameSent s = .next v ∧ Kept sent v ∧ v.power.agree = 0))
        ∧ (leaving → s.line.state = .ok → Roomy 4 s →
          (1 ≤ s.power.agree → agreed entered →
            ∃ v, exec .announcement s = .next v ∧ Kept (pending entered) v ∧ announcementWaits v = true)
          ∧ (s.power.agree = 0 ∨ ¬ agreed entered → ∃ v, exec .announcement s = .next v ∧ Kept entered v))
        ∧ (∀ l ∈ s.power.loneFrom, sleepReady s = true → s.line.state ≠ .ok →
          let n := advanceTo (l + 30000000) s
          ∃ v, exec .loneTimerExpiry s = .next v ∧ v.line.tx = s.line.tx
            ∧ Kept { pending n with power := { (pending n).power with quietEnd := some (n.now + 100000) } } v))
      ∧ (s.power.state = .sleepPending →
        (own → a.going = some true → s.power.quietEnd = none →
          (s.line.rx = [] → sleepReady sent = true → ∃ v, exec .frameSent s = .next v
            ∧ Kept { sent with power := { s.power with quietEnd := some (m.now + 100000) } } v)
          ∧ (x.errors = 7 → s.line.failures < 31 →
            ∃ v, exec .bitError s = .next v ∧ v.power.state = .run ∧ v.power.going = false ∧ v.power.agree = 0
              ∧ v.line.tx.any isCensus = true))
        ∧ (s.latch.lock = .deadlocked →
          let aborted := { running s with power := { (running s).power with localAt := s.now } }
          (s.line.state = .ok → Roomy 4 s → ∃ v, exec .innerHandlePull s = .next v
            ∧ Kept { aborted with line := { s.line with markWanted := true } } v ∧ v.power.agree = 0
            ∧ v.line.tx.any isCensus = true ∧ Queued (.wake allStations allStations allStations allStations .handle) v)
          ∧ (s.line.state ≠ .ok → ∃ v, exec .innerHandlePull s = .next v ∧ Kept aborted v ∧ v.line.tx = s.line.tx))
        ∧ (Head f e rest s → f.payload.kind = 10 ∨ f.payload.kind = 11 ∨ f.payload.kind = 14 ∨ f.payload.kind = 15
            ∨ f.payload.kind = 17 →
          let c : Instr := match f.payload.kind with
            | 10 => .windowReport
            | 11 => .faultNotice
            | 14 => .intentOutcome
            | 15 => .wake
            | _ => .serviceReply
          ∃ v, exec c s = .next v ∧ Kept (running t) v ∧ v.power.agree = 0
            ∧ (s.line.state = .ok → Roomy 4 s → v.line.tx.any isCensus = true))
        ∧ (leaving → sleepReady s = true → ∃ v, exec .announcement s = .next v ∧ Kept entered v))

/-- 9.4: the wake filter of a sleeping station and its wakes. A run of 0.5 to 2 ms opens the filter for 20 ms; other
runs do nothing; its timeout, and a good frame that is no WAKE for this station, count a spurious wake; a damaged
frame is passed over, and bits that begin dominant are a run, the model's choice (log 80). A WAKE with four equal wake
sets that name the station wakes it, as a local input does: RUN, every peer UNKNOWN, the balance 0, the claim list
empty, the line BUSY for a gap, and CENSUS and ANNOUNCEMENT queued. A local input asks for a wake mark and queues a
WAKE for all. An awake station drives the mark at a FREE line for 1 ms. No LINE FAULT. That a WAKE is judged by its
four sets alone, whatever its cause, is the model's reading (log 35). That the first supply sample of a wake is the
latest reading of the supply sense is the model's choice (log 103). That these frames are queued before the mark is
driven is its reading (log 109); that the line is BUSY to the driver of the mark (log 107), and that a run which ends
after the 20 ms of an OPEN filter restarts them (log 111), are its choices. -/
def Obligations.SleepingStationWakes : Prop :=
  ∀ (s : State) (us : Nat) (f : Frame) (bits : List Bool), s.power.heldSince = none → s.line.state = .ok → s.intent.held = none →
    s.win.dropAnswer = none →
    (s.power.state = .sleep →
        let spurious := fun n : State => { n with power := { n.power with
          filter := .watching, spurious := min 65535 (s.power.spurious + 1) } }
        let n := advance ((70 + 10 * f.payload.data.length) * 20) s
        let woken := fun (m v : State) => Kept (wakeBlocks m) v ∧ v.power.state = .run ∧ v.census.balance = 0
          ∧ v.search.claims = [] ∧ v.search.record = none ∧ v.line.cond = .busy ∧ v.line.freeAt = m.now + 240
          ∧ (∀ a : Addr, v.census.peers[a].presence = .unknown ∧ v.census.peers[a].since = m.now)
          ∧ v.line.tx.any isCensus = true ∧ announcementWaits v = true
        (500 ≤ us → us ≤ 2000 → exec (.wakeFilterRun us) s = .next
            { advance us s with power := { s.power with filter := .opened (s.now + us + 20000) } })
        ∧ (us < 500 ∨ 2000 < us → exec (.wakeFilterRun us) s = .next (advance us s))
        ∧ (∀ e, s.power.filter = .opened e →
          exec .wakeFilterTimeout s = .next (spurious (advanceTo e s))
          ∧ (bits.head? = some false →
            exec (.wakeFilterFrame bits) s = exec (.wakeFilterRun ((12 + leadingDominant bits) * 20)) s)
          ∧ (bits.head? ≠ some false → readFrame bits = none →
            exec (.wakeFilterFrame bits) s = .next (advance ((12 + bitsRead bits) * 20) s))
          ∧ (n.now ≤ e → f.payload.defined = true → f.payload.kind ≠ 15 →
            exec (.wakeFilterFrame (frameBits f)) s = .next (spurious n))
          ∧ ∀ w c, n.now ≤ e → f.payload = .wake w w w w c →
            (inSet s.addr w = false → exec (.wakeFilterFrame (frameBits f)) s = .next (spurious n))
            ∧ (inSet s.addr w = true → ∃ v, exec (.wakeFilterFrame (frameBits f)) s = .next v ∧ woken n v))
        ∧ (isTailgate s = false → s.latch.lock = .deadlocked →
          ∃ v, exec .innerHandlePull s = .next v ∧ woken s { v with line := { v.line with markWanted := false } }
            ∧ v.line.markWanted = true ∧ Queued (.wake allStations allStations allStations allStations .handle) v))
      ∧ (Calm s →
        (∃ v, exec (.wakeFilterRun us) s = .next v ∧ Kept s v)
        ∧ (s.line.markWanted = true → s.line.extEnd = none → s.line.cond = .free ∨ s.line.cond = .busy →
          let n := advanceTo (if s.line.cond = .busy then max s.now s.line.freeAt else s.now) s
          ∃ v, exec .wakeMarkDrive s = .next v ∧ Kept { n with line := { n.line with
            markWanted := false, markEnd := some (n.now + 1000), cond := .busy, freeAt := n.now + 1240 } } v)
        ∧ ∀ m ∈ s.line.markEnd, ∃ v, exec .wakeMarkEnd s = .next v
          ∧ Kept { advanceTo m s with line := { (advanceTo m s).line with markEnd := none } } v)

/-- 9.5, 10.1 and 10.4: the resets. Below 4500 mV, at a sample or a pulse as well, the station is held in reset with
every block at its reset values, until the supply has read at least 4500 mV for 20 ms. That it takes no other command
until then, and of an input line only the level, is the model's choice (log 5), and that a write which is cut leaves
no record is its form of a record that fails its check (log 28), as it is its choice that the entries of the switch
pack are kept through a reset and the time of the last SWITCH PACK is cleared (log 57). Then, and at the end of a
flush or its time limit, the reset ends: `boot` leaves it in RUN with the supply of the sample, the strap's address,
every motion, release and search gone, no key applied, every peer UNKNOWN, and CENSUS and an ANNOUNCEMENT queued; the
records of the store are loaded, and bad ones where it does not answer: at a service reset by its latest answer, the
model's choice (log 101); and where the store holds none, every field has its default, and CONFIG DEFAULTED is
entered. That the first supply sample of a service reset is the latest reading of the supply sense is the model's
choice (log 103). That no coast window follows a motor which a reset turns off is the model's choice (log 113). -/
def Obligations.ResetHoldsBootsAndLoads : Prop :=
  (∀ s : State, exec .powerOnReset s = .next { State.reset with
      now := s.now, pending := s.pending, freeCount := s.freeCount, pins := s.pins, addr := s.pins.strap
      win := { State.reset.win with pack := s.win.pack }
      latch := { State.reset.latch with position := s.pins.latchSwitch }
      intent := { State.reset.intent with startHold := none }
      line := { State.reset.line with tx := [], nextAge := 0, freeAt := s.now + 240 }
      census := { State.reset.census with faults := Vector.replicate 5 none }
      power := { State.reset.power with heldSince := some s.now }
      store := { State.reset.store with
        patrolAt := s.now
        records := match s.store.writing with
          | some w => if w.underWay then s.store.records.set w.id.index none else s.store.records
          | none => s.store.records } })
    ∧ (∀ (s : State) (u t : Nat), s.power.heldSince = none → u < 4500 →
        let sensed := fun n : State => { n with pins := { s.pins with supplySense := u } }
        exec (.supplySample u) s = exec .powerOnReset
            (sensed (if s.power.state = .sleep then s else advanceTo (s.power.sampleAt + 1000) s))
          ∧ exec (.hallPulse u t) s = exec .powerOnReset (sensed (advanceTo (s.win.lastPulseAt + t) s)))
    ∧ (∀ (c : Instr) (s : State), s.power.heldSince.isSome = true →
        let pins := fun p : Pins => { s with pins := p }
        let sensed := fun u : Nat =>
          { s with
            pins := { s.pins with supplySense := u }
            power := { s.power with heldSince := if u < 4500 then some s.now else s.power.heldSince } }
        match c with
        | .powerOnReset | .powerOnResetEnd _ _ => True
        | .latchSwitchChange r => exec c s = .next (pins { s.pins with latchSwitch := r })
        | .outerHandlePull b =>
            exec c s = .next (if s.addr = 4 then s else pins { s.pins with outerHandle := b })
        | .localSwitchFirstDetent d | .localSwitchSecondDetent d =>
            exec c s = .next (pins { s.pins with localHold := some d, localSpent := false })
        | .localSwitchRelease => exec c s = .next (pins { s.pins with localHold := none, localSpent := false })
        | .switchPackChange a b x y => exec c s = .next { s with win := { s.win with pack := #v[a, b, x, y] } }
        | .supplySample u | .hallPulse u _ => exec c s = .next (sensed u)
        | _ => exec c s = .next s)
    ∧ (∀ (s : State) (u : Nat) (a : Bool), ∀ h ∈ s.power.heldSince,
        let n := advanceTo (h + 20000) s
        let t := { n with pins := { s.pins with supplySense := u, storeAnswers := a } }
        (u < 4500 → exec (.powerOnResetEnd u a) s = .next { t with power := { n.power with heldSince := some n.now } })
        ∧ (4500 ≤ u → ∃ v, exec (.powerOnResetEnd u a) s = .next v ∧ Kept (boot t) v))
    ∧ (∀ s : State, s.power.heldSince = none → ∀ f ∈ s.store.flush,
        (f.replyDue = false → s.store.queue = [] → s.store.writing = none →
          ∃ v, exec .serviceResetPerform s = .next v ∧ Kept (boot s) v)
        ∧ (f.replyDue = true ∨ s.store.queue ≠ [] ∨ s.store.writing.isSome = true → Calm s →
          ∃ v, exec .serviceResetPerform s = .next v ∧ Kept s v)
        ∧ ∃ v, exec .flushTimeout s = .next v ∧ Kept (boot (advanceTo f.limitAt s)) v)
    ∧ ∀ (s : State) (c : Settings) (w : Window) (l : Latch) (k : KeySlot),
        let b := boot s
        (b.now = s.now ∧ b.pending = s.pending ∧ b.freeCount = s.freeCount ∧ b.pins = s.pins ∧ b.addr = s.pins.strap
          ∧ b.power.state = .run ∧ b.power.supply = levelState s.pins.supplySense ∧ b.power.heldSince = none
          ∧ b.win.motion = .idle ∧ b.win.motor = .off ∧ b.latch.seq = .idle ∧ b.latch.crashEnd = none
          ∧ b.latch.position = s.pins.latchSwitch ∧ b.search.record = none ∧ b.search.claims = []
          ∧ b.intent.keyLatch = ⟨0#16, 0⟩ ∧ b.intent.table = [] ∧ b.intent.epoch = 0#16
          ∧ b.intent.startHold = some (s.now + intervalInEffect b * 1000)
          ∧ (∀ a : Addr, b.census.peers[a].presence = .unknown) ∧ b.line.tx.any isCensus = true
          ∧ announcementWaits b = true ∧ b.store.flush = none)
        ∧ (s.pins.storeAnswers = false →
          b.cfg = defaultSettings s.pins.strap ∧ b.census.faults[4] = some 255#8 ∧ b.win.norm = false ∧ b.win.p = 0
            ∧ (∀ m : Slot, b.keys.slots[m].state = .empty) ∧ (∀ z : Zone, b.pinch.profile[z].learned = false)
            ∧ b.latch.lock = .unlocked
            ∧ b.latch.child = if s.pins.strap = 2 ∨ s.pins.strap = 3 then .engaged else .notFitted)
        ∧ (s.pins.storeAnswers = true → s.store.writing = none →
          (goodContent .config s.store.records[0] = some (configContent c) → (settingsRanges c).all id = true →
            b.cfg = { c with caps := adjustCaps s.pins.strap c.caps } ∧ b.census.faults[4] = none)
          ∧ (goodContent (.key 0) s.store.records[1] = some (keyContent 0 k) → k.state = .paired →
            b.keys.slots[(0 : Slot)].state = .paired ∧ b.keys.slots[(0 : Slot)].identity = k.identity
              ∧ b.keys.slots[(0 : Slot)].counter = k.counter ∧ b.keys.slots[(0 : Slot)].sHi = k.sHi
              ∧ b.keys.slots[(0 : Slot)].sLo = k.sLo)
          ∧ (goodContent .windowState s.store.records[8] = some (windowContent w) → w.recMoving = false →
            w.dropOwed = none → w.norm = true → -32 ≤ w.p → w.p ≤ (b.cfg.travel : Int) + 32 →
            b.win.p = w.p ∧ b.win.norm = true)
          ∧ (goodContent .latchState s.store.records[9] = some (latchContent l) →
            b.latch.lock = if l.lock = .deadlocked ∧ s.pins.latchSwitch = .opened then .locked else l.lock))

/-! ## Stored records and service requests (chapter 10) -/

/-- 10.2 to 10.4 and 5.1: a write takes the head id of the write-back queue with a snapshot of its record, unless the
supply is CRANK or UNDER. A read-back equal to the snapshot ends it, and a key record that was not queued again since
the write took its content becomes store current; a failed attempt is repeated, when the supply allows, and the third
enters the fault STORE with the record id and queues a FAULT NOTICE. The patrol checks its item and steps on: a bad
key slot is reloaded from a good record where its store current flag says yes and the store answers, by the latest
answer it gave, the model's choice (log 101), else DAMAGED with the fault KEY DAMAGED. That its id then leaves the
write-back queue is the model's reading of 'DAMAGED is not written' (log 54). The lookup of a button frame that meets
such a slot does the same with it, and drops the frame where it leaves the slot DAMAGED (R98): that it reads the slots
in their order is the model's choice (log 24). A bad zone becomes unlearned with the profile record queued; that its
value is then 0 is the model's choice (log 99). What a record holds after an attempt is what the command says (log
28). That a third attempt whose read-back has no answer drops the write too (log 104), and that the spare bits of a
snapshot are 0 (log 105), are the model's choices. The pairing buffer is emptied when its timer expires. -/
def Obligations.RecordsAreWrittenVerifiedAndPatrolled : Prop :=
  ∀ (s : State) (content : List Byte) (answers : Bool) (m : Slot) (z : Zone) (bytes : List Byte) (b : ButtonFrame),
    Calm s →
    (s.cfg.caps.receiver = true → decodeButton bytes = some b → MeetsSpoiltSlot b.identity m s →
        (s.keys.slots[m].storeCurrent = true → ∀ x ∈ slotRecord m s,
          exec (.buttonFrame bytes) s = exec (.buttonFrame bytes) (slotReloaded m x s))
        ∧ (s.keys.slots[m].storeCurrent = false ∨ slotRecord m s = none → s.line.state = .ok → Roomy 4 s →
          ∃ v, exec (.buttonFrame bytes) s = .next v ∧ Kept (slotDamaged m s) v
            ∧ Queued (.faultNotice .keyDamaged (byte m.val)) v))
      ∧ (s.store.writing = none → ∀ r ∈ s.store.queue.head?,
        (GoodSupply s → ∃ v, exec .writeBegin s = .next v ∧ Kept { s with store := { s.store with
          queue := s.store.queue.tail
          writing := some { id := r, snapshot := recordBytes r (recordContent r s), attempt := 1, underWay := true } } } v)
        ∧ (s.power.supply.poor = true → ∃ v, exec .writeBegin s = .next v ∧ Kept s v))
      ∧ (∀ w ∈ s.store.writing, w.underWay = true →
        let ended := fun x : Option Writing => { s with
          pins := { s.pins with storeAnswers := answers }
          store := { s.store with records := s.store.records.set w.id.index (some content), writing := x } }
        let verified := answers = true ∧ content = w.snapshot
        (verified → ∃ v, exec (.writeAttemptEnd content answers) s = .next v ∧ Kept { ended none with
            keys := match w.id with
              | .key j =>
                  if w.stale then s.keys
                  else { s.keys with slots := s.keys.slots.set j { s.keys.slots[j] with storeCurrent := true } }
              | _ => s.keys } v)
        ∧ (¬ verified → w.attempt < 3 → ∃ v, exec (.writeAttemptEnd content answers) s = .next v
          ∧ Kept (ended (some { w with attempt := w.attempt + 1, underWay := !s.power.supply.poor })) v)
        ∧ (¬ verified → 3 ≤ w.attempt → s.line.state = .ok → Roomy 4 s →
          ∃ v, exec (.writeAttemptEnd content answers) s = .next v
            ∧ Kept { ended none with
                census := { s.census with faults := s.census.faults.set 3 (some (byte w.id.code)) } } v
            ∧ Queued (.faultNotice .store (byte w.id.code)) v))
      ∧ (let n := advanceTo (s.store.patrolAt + 100000) s
         let stepped := { n with store := { s.store with patrol := s.store.patrol + 1, patrolAt := n.now } }
         let k := s.keys.slots[m]
         let slot := fun x : KeySlot =>
           { stepped with keys := { s.keys with slots := s.keys.slots.set m { x with check := slotCover m x } } }
         (s.store.patrol.val = m.val →
          (k.check = slotCover m k → ∃ v, exec .patrolStep s = .next v ∧ Kept stepped v)
          ∧ (k.check ≠ slotCover m k → s.line.state = .ok → Roomy 4 s →
            k.storeCurrent = false ∨ s.pins.storeAnswers = false ∨ s.store.records[m.val + 1]'(by omega) = none →
            ∃ v, exec .patrolStep s = .next v
              ∧ Kept { slot { k with state := .damaged } with
                  census := { s.census with faults := s.census.faults.set 2 (some (byte m.val)) }
                  store := { stepped.store with queue := s.store.queue.filter fun x => x != .key m } } v
              ∧ Queued (.faultNotice .keyDamaged (byte m.val)) v)
          ∧ (k.check ≠ slotCover m k → k.storeCurrent = true → s.pins.storeAnswers = true →
            ∀ c ∈ (goodContent (.key m) (s.store.records[m.val + 1]'(by omega))).bind (decodeKey m),
            ∃ v, exec .patrolStep s = .next v
              ∧ Kept (slot { k with
                  state := if k.suspendedUntil.isSome && c.state == .paired then .suspended else c.state
                  identity := c.identity, sHi := c.sHi, sLo := c.sLo, counter := c.counter }) v))
         ∧ (s.store.patrol.val = 6 + z.val →
          let g := s.pinch.profile[z]
          (g.check = { zone := z, learned := g.learned, value := g.value } →
            ∃ v, exec .patrolStep s = .next v ∧ Kept stepped v)
          ∧ (g.check ≠ { zone := z, learned := g.learned, value := g.value } →
            ∃ v, exec .patrolStep s = .next v ∧ Kept (queueRecord .profile { stepped with pinch := { s.pinch with
              profile := s.pinch.profile.set z
                { learned := false, value := 0, check := { zone := z, learned := false, value := 0 } } } }) v)))
      ∧ ∀ b ∈ s.store.pairing, ∃ v, exec .pairingBufferExpiry s = .next v
          ∧ Kept { advanceTo b.expiry s with store := { s.store with pairing := none } } v

/-- 10.4: the pairing requests at a targeted station with no flush on. PAIR SECRET and PAIR KEY are refused with NOT
UNLOCKED and CRASH HOLD; PAIR SECRET fills the pairing buffer for 5 s. PAIR KEY is refused with NO SECRET and
DUPLICATE, and else sets the slot PAIRED with the identity, the buffered secret and the counter; REMOVE KEY sets it
EMPTY, with zeros for the identity, the secret and the counter, the model's choice (log 94). Both queue the key
record, mark a write of it in progress as stale (5.1), and clear KEY DAMAGED with the last DAMAGED slot. Each request
is answered by a SERVICE REPLY. The slots are sound. -/
def Obligations.PairingRequestsSetKeySlots : Prop :=
  ∀ (s : State) (f : Frame) (e : Nat) (rest : List RxItem) (n ts : Byte) (m : Slot) (id hi lo : Word32) (c : Counter),
    Calm s → Roomy 4 s → s.line.state = .ok → Head f e rest s → s.store.flush = none → ts.getLsbD s.addr.val = true →
    (∀ j : Slot, slotGood j s.keys.slots[j] = true) →
    let t := afterHearing f rest s
    let written := fun x : KeySlot => queueRecord (.key m) { t with
      store := { t.store with writing := t.store.writing.map (staleWrite m) }
      keys := { s.keys with slots := s.keys.slots.set m { x with check := slotCover m x } }
      census := { t.census with faults :=
        if s.keys.slots[m].state = .damaged ∧ (∀ j : Slot, j ≠ m → s.keys.slots[j].state ≠ .damaged)
        then s.census.faults.set 2 none else s.census.faults } }
    let fresh : KeySlot :=
      { s.keys.slots[m] with
        resync := none, badCodes := 0, windowStart := none, suspendedUntil := none, storeCurrent := false }
    (f.payload = .serviceRequest { bytes := [n, ts, 0#8, byte m.val] ++ bytes32 hi ++ bytes32 lo } →
        (s.latch.lock ≠ .unlocked →
          ∃ v, exec .pairSecret s = .next v ∧ Kept t v ∧ Queued (.serviceReply n 0#8 (.refused .notUnlocked)) v)
        ∧ (s.latch.lock = .unlocked → s.latch.crashEnd.isSome = true →
          ∃ v, exec .pairSecret s = .next v ∧ Kept t v ∧ Queued (.serviceReply n 0#8 (.refused .crashHold)) v)
        ∧ (s.latch.lock = .unlocked → s.latch.crashEnd = none →
          ∃ v, exec .pairSecret s = .next v ∧ Queued (.serviceReply n 0#8 .done) v
            ∧ Kept { t with store := { s.store with
                pairing := some { slot := m, sHi := hi, sLo := lo, expiry := s.now + 5000000 } } } v))
      ∧ (f.payload = .serviceRequest { bytes := [n, ts, 1#8, byte m.val] ++ bytes32 id ++ bytes24 c } →
        (s.latch.lock ≠ .unlocked →
          ∃ v, exec .pairKey s = .next v ∧ Kept t v ∧ Queued (.serviceReply n 1#8 (.refused .notUnlocked)) v)
        ∧ (s.latch.lock = .unlocked → s.latch.crashEnd.isSome = true →
          ∃ v, exec .pairKey s = .next v ∧ Kept t v ∧ Queued (.serviceReply n 1#8 (.refused .crashHold)) v)
        ∧ (s.latch.lock = .unlocked → s.latch.crashEnd = none → (∀ b ∈ s.store.pairing, b.slot ≠ m) →
          ∃ v, exec .pairKey s = .next v ∧ Kept t v ∧ Queued (.serviceReply n 1#8 (.refused .noSecret)) v)
        ∧ ∀ b ∈ s.store.pairing, s.latch.lock = .unlocked → s.latch.crashEnd = none → b.slot = m →
          let taken := ∃ j : Slot, j ≠ m ∧ s.keys.slots[j].state ≠ .empty ∧ s.keys.slots[j].identity = id
          (taken →
            ∃ v, exec .pairKey s = .next v ∧ Kept t v ∧ Queued (.serviceReply n 1#8 (.refused .duplicate)) v)
          ∧ (¬ taken →
            let w := written { fresh with state := .paired, identity := id, sHi := b.sHi, sLo := b.sLo, counter := c }
            ∃ v, exec .pairKey s = .next v ∧ Kept { w with store := { w.store with pairing := none } } v
              ∧ Queued (.serviceReply n 1#8 .done) v))
      ∧ (f.payload = .serviceRequest { bytes := [n, ts, 2#8, byte m.val] } →
        ∃ v, exec .removeKey s = .next v ∧ Queued (.serviceReply n 2#8 .done) v
          ∧ Kept (written { fresh with state := .empty, identity := 0#32, sHi := 0#32, sLo := 0#32, counter := 0#24 }) v)

/-- 10.4: service requests. A station that is no target takes no action, whatever the kind and its parameters. While a
flush is on, a targeted station refuses every kind but READ STATUS and SERVICE RESET with BUSY, whatever its
parameters: BUSY before RANGE is the model's reading (log 45). It serves READ STATUS and answers SERVICE RESET with
DONE (log 39). With no flush on it serves CLEAR HALT, RELEARN WINDOW, WRITE CONFIG, SERVICE RESET, MOVE WINDOW and an
undefined kind, each with its SERVICE REPLY. RELEARN WINDOW leaves each unlearned zone with the value 0, the model's
choice (log 99). CLEAR HALT leaves the last release outcome as it is: the model's choice (log 62). WRITE CONFIG is
said of the travel, in its range and outside it, and of the outer threshold. -/
def Obligations.ServiceRequestsActAndReply : Prop :=
  ∀ (s : State) (f : Frame) (e : Nat) (rest : List RxItem) (n ts k p x y : Byte) (ps : List Byte), Calm s → Roomy 4 s →
    s.line.state = .ok → Head f e rest s → s.win.drop = none →
    let t := afterHearing f rest s
    let asked := fun bs : List Byte => f.payload = .serviceRequest { bytes := n :: ts :: bs }
    let answer := fun (c : Instr) (kind : Byte) (r : ServiceResult) (u : State) =>
      ∃ v, exec c s = .next v ∧ Kept u v ∧ Queued (.serviceReply n kind r) v
    let pending := fun c : Settings => queueRecord .config { t with store := { s.store with pendingCfg := c } }
    let travel := x.toNat * 256 + y.toNat
    let request : Instr := match k.toNat with
      | 0 => .pairSecret
      | 1 => .pairKey
      | 2 => .removeKey
      | 3 => .clearHalt
      | 4 => .relearnWindow
      | 5 => .writeConfig
      | 6 => .readStatus
      | 7 => .serviceReset
      | 8 => .moveWindow
      | _ => .serviceRequestUndefinedKind
    (ts.getLsbD s.addr.val = false → asked (k :: ps) →
        ∃ v, exec request s = .next v ∧ Kept t v ∧ v.store.flush = s.store.flush)
      ∧ (ts.getLsbD s.addr.val = true → asked [6#8, p] →
        (∀ bs ∈ statusPart p.toNat s, p.toNat ≤ 5 ∨ (6 ≤ p.toNat ∧ p.toNat - 6 ≠ f.origin.val) →
          answer .readStatus 6#8 (.status p bs) t)
        ∧ (13 < p.toNat ∨ p.toNat = 6 + s.addr.val → answer .readStatus 6#8 (.refused .range) t))
      ∧ (ts.getLsbD s.addr.val = true → s.store.flush.isSome = true →
        (asked (k :: ps) → k ≠ 6#8 → k ≠ 7#8 →
          ∃ v, exec request s = .next v ∧ Kept t v ∧ v.store.flush = s.store.flush
            ∧ Queued (.serviceReply n k (.refused .busy)) v)
        ∧ (asked [7#8] → ∃ v, exec .serviceReset s = .next v ∧ Kept t v
          ∧ v.store.flush = s.store.flush ∧ Queued (.serviceReply n 7#8 .done) v))
      ∧ (ts.getLsbD s.addr.val = true → s.store.flush = none →
        (asked [3#8] →
          (s.latch.seq = .halted → answer .clearHalt 3#8 .done { t with
            latch := { s.latch with seq := .idle, attempts := 0 }
            census := { t.census with faults := s.census.faults.set 0 none } })
          ∧ (s.latch.seq ≠ .halted → answer .clearHalt 3#8 .done t))
        ∧ (asked [4#8] →
          (s.win.motion ≠ .idle → answer .relearnWindow 4#8 (.refused .busy) t)
          ∧ (s.win.motion = .idle → s.win.req = none →
            let unlearned := queueRecord .profile { t with pinch := { s.pinch with profile := Vector.ofFn fun z : Zone =>
              { learned := false, value := 0, check := { zone := z, learned := false, value := 0 } } } }
            answer .relearnWindow 4#8 .done
              (queueRecord .windowState { unlearned with win := { s.win with norm := false } })))
        ∧ (asked [5#8, 2#8, x, y] →
          (64 ≤ travel → travel ≤ 2048 →
            answer .writeConfig 5#8 .done (pending { s.store.pendingCfg with travel := travel }))
          ∧ (travel < 64 ∨ 2048 < travel → answer .writeConfig 5#8 (.refused .range) t))
        ∧ (asked [5#8, 10#8, x] →
          answer .writeConfig 5#8 .done (pending { s.store.pendingCfg with outerThr := x.toNat }))
        ∧ (asked [7#8] → ∃ v, exec .serviceReset s = .next v ∧ Queued (.serviceReply n 7#8 .done) v
          ∧ Kept { t with store := { s.store with flush := some { limitAt := s.now + 2000000, replyDue := true } } } v)
        ∧ (asked [8#8, 1#8, 1#8, x, y] → s.win.req = none → s.cfg.caps.window = true → GoodSupply s →
          s.win.norm = true → s.latch.crashEnd = none → s.latch.position = .closed →
          (travel ≤ s.cfg.travel → s.win.p < travel → s.win.heat < 60000 → s.pinch.mode = .normal →
            answer .moveWindow 8#8 .done
              (motionStarts { source := .service, dir := .down, mode := .toPosition travel } t))
          ∧ (travel ≤ s.cfg.travel → 60000 ≤ s.win.heat → answer .moveWindow 8#8 (.refused .busy) t)
          ∧ (s.cfg.travel < travel → answer .moveWindow 8#8 (.refused .range) t))
        ∧ (8 < k.toNat → asked (k :: ps) → answer .serviceRequestUndefinedKind k (.refused .range) t))

/-- 10.4 and 11.2: READ STATUS of each part answers with its octets, whatever else goes on. Part 0: the eight octets
of the ANNOUNCEMENT; 1: the fault set and the cause detail of each member; 2: p, H, normalisation with the protection
mode, drift events; 3: release state, attempt count, last outcome, the six slot states; 4: line state and cause,
damaged, overrun and transmit failure counts; 5: late announcements, stale frames, bad codes, spurious wakes; 6 and
on: presence, unresponsive count and last epoch of a peer other than the sender. Numbers are sent most significant
octet first. The places of the slot states, and a last epoch sent as 0 where it is absent, are the model's reading
(log 27). Unassigned bits of a part are 0, the model's choice (log 96). -/
def Obligations.StatusPartsInOctets : Prop :=
  ∀ (s : State) (f : Frame) (e : Nat) (rest : List RxItem) (n ts p : Byte) (a : Addr), Calm s → Roomy 4 s →
    s.line.state = .ok → Head f e rest s → f.payload = .serviceRequest { bytes := [n, ts, 6#8, p] } →
    ts.getLsbD s.addr.val = true →
    let octet := fun x : Nat => BitVec.ofNat 8 x
    let two := fun x : Nat => [octet (x / 256), octet x]
    let answered := fun l : List Byte => ∃ v, exec .readStatus s = .next v ∧ Kept (afterHearing f rest s) v
      ∧ Queued (.serviceReply n 6#8 (.status p l)) v
    let lock := match s.latch.lock with
      | .unlocked => 0
      | .locked => 1
      | .deadlocked => 2
    let child := match s.latch.child with
      | .engaged => 0
      | .released => 1
      | .notFitted => 2
    let class_ := if s.cfg.caps.window = false then 5 else if s.win.dropOwed.isSome then 1
      else if s.win.norm = false then 4 else if s.win.p ≤ s.cfg.sealZone then 0
      else if (s.cfg.travel : Int) - 24 ≤ s.win.p then 3 else 2
    let place := if s.cfg.caps.window then (min (max s.win.p 0) s.cfg.travel).toNat * 255 / s.cfg.travel else 0
    let interval := if s.power.supply = .crank ∨ s.power.supply = .under then 4 * s.cfg.intervalMs else s.cfg.intervalMs
    let faults := s.census.faults[0].isSome.toNat + 2 * s.census.faults[1].isSome.toNat
      + 4 * s.census.faults[2].isSome.toNat + 8 * s.census.faults[3].isSome.toNat + 16 * s.census.faults[4].isSome.toNat
    let slot := fun m : Slot => match s.keys.slots[m].state with
      | .empty => 0
      | .paired => 1
      | .suspended => 2
      | .damaged => 3
    let peer := s.census.peers[a]
    (p = 0#8 → answered ([octet (lock * 64 + child * 16 + (if s.latch.position = .opened then 4 else 0)
          + s.latch.crashEnd.isSome.toNat), octet (class_ * 32 + (sleepReady s).toNat * 8 + s.power.going.toNat * 2),
        octet place, octet faults] ++ two s.intent.epoch.toNat ++ two interval))
      ∧ (p = 1#8 → answered (octet faults :: (s.census.faults[0].toList ++ s.census.faults[1].toList
        ++ s.census.faults[2].toList ++ s.census.faults[3].toList ++ s.census.faults[4].toList)))
      ∧ (p = 2#8 →
        let mode := match s.pinch.mode with
          | .normal => 0
          | .pinchHold => 1
          | .override => 2
        answered (two (s.win.p % 65536).toNat ++ [octet (s.win.heat / 65536), octet (s.win.heat / 256), octet s.win.heat,
          octet ((if s.win.norm then 0 else 128) + mode)] ++ two s.win.drift))
      ∧ (p = 3#8 →
        let release := match s.latch.seq with
          | .idle => 0
          | .dropping => 1
          | .releasing => 2
          | .retryWait => 3
          | .halted => 4
        let outcome := match s.latch.lastRelease with
          | .none => 0
          | .opened => 1
          | .openedOtherwise => 2
          | .glassBlocked => 3
          | .lockChange => 4
          | .childEngaged => 5
          | .supply => 6
          | .halted => 7
        answered [octet release, octet s.latch.attempts, octet outcome, octet (slot 4 + 4 * slot 5),
          octet (slot 0 + 4 * slot 1 + 16 * slot 2 + 64 * slot 3)])
      ∧ (p = 4#8 → answered (octet 0 :: two s.line.damaged ++ two s.line.overruns ++ two s.line.txFails))
      ∧ (p = 5#8 → answered (two s.census.late ++ two s.keys.stale ++ two s.keys.bad ++ two s.power.spurious))
      ∧ (p.toNat = 6 + a.val → a ≠ s.addr → a ≠ f.origin →
        let presence := match peer.presence with
          | .unknown => 0
          | .present => 1
          | .silent => 2
          | .lost => 3
        answered ([octet (presence + if peer.epoch.isNone then 128 else 0), octet peer.unresponsive]
          ++ two ((peer.epoch.map (·.toNat)).getD 0)))

/-- 4.7 and 4.8: the intent an accepted fob button issues, with cause FOB and its key notice, at a station with the
line OK, the start hold over and room in the table. UNLOCK: UNLOCK to all, or under selective unlock to the driver
station alone unless it follows an UNLOCK of the same identity to fewer than all within 5 s. LOCK with no closure
open: LOCK to all, or with deadlock enabled DEADLOCK within 3 s of a LOCK of the same identity. TAILGATE: UNLOCK AND
OPEN to TG; LOCK HELD and UNLOCK HELD: WINDOWS CLOSE and WINDOWS OPEN to all; RELEASE: WINDOWS STOP to all after a
WINDOWS CLOSE or OPEN of the same identity that no WINDOWS STOP has followed, and else nothing. An UNLOCK starts the
auto-relock timer with the configured time, unless that is 0; every other latch intent cancels it. -/
def Obligations.FobButtonIssuesItsIntent : Prop :=
  ∀ (s : State) (bytes : List Byte) (f : ButtonFrame) (n : Slot), Calm s → Roomy 4 s → s.line.state = .ok →
    s.cfg.caps.receiver = true → decodeButton bytes = some f → (∀ m : Slot, slotGood m s.keys.slots[m] = true) →
    (∀ m : Slot, s.keys.slots[m].state ≠ .empty → s.keys.slots[m].identity = f.identity → m = n) →
    s.keys.slots[n].state = .paired → s.keys.slots[n].identity = f.identity →
    codeOf s.keys.slots[n].sHi s.keys.slots[n].sLo (BitVec.ofNat 32 (f.counter.toNat * 256 + f.button.code)) = f.code →
    1 ≤ (f.counter - s.keys.slots[n].counter).toNat → (f.counter - s.keys.slots[n].counter).toNat ≤ 256 →
    s.intent.startHold = none → s.intent.table.length < 4 → s.intent.nextTag ≠ 15 →
    (∀ x ∈ s.intent.table, x.tag ≠ s.intent.nextTag) →
    let notice : Notice := { identity := f.identity, counter := f.counter }
    let issued := fun (k : IntentKind) (ts : Stations) =>
      ∃ v, exec (.buttonFrame bytes) s = .next v ∧ v.intent.epoch = s.intent.epoch + 1
        ∧ Queued (.intent { kind := k, tag := s.intent.nextTag, epoch := s.intent.epoch + 1, targets := ts, cause := .fob
                            notice := some notice }) v
        ∧ v.intent.relock =
            if k.family ≠ .latch then s.intent.relock
            else if k = .unlock ∧ s.cfg.relockS ≠ 0 then
              some { expiry := s.now + s.cfg.relockS * 1000000
                     key := { epoch := s.intent.epoch + 1, origin := s.addr }, notice := some notice }
            else none
    let within := fun (k : IntentKind) (us : Nat) (part : Bool) => s.intent.pressLatch.any fun q =>
      q.kind == k && q.identity == f.identity && decide (s.now < q.seenAt + us) && (!part || q.targets != allStations)
    (f.button = .unlock →
        issued .unlock (if s.cfg.selective && !within .unlock 5000000 true
          then (if s.cfg.driveSide = .left then 1#5 else 2#5) else allStations))
      ∧ (f.button = .lock → anyClosureOpen s = false →
        issued (if s.cfg.deadlockEn && within .lock 3000000 false then .deadlock else .lock) allStations)
      ∧ (f.button = .tailgate → issued .unlockAndOpen 16#5)
      ∧ (f.button = .lockHeld → issued .windowsClose allStations)
      ∧ (f.button = .unlockHeld → issued .windowsOpen allStations)
      ∧ (f.button = .release →
        let running := s.intent.pressWindow.any fun q =>
          q.kind != .windowsStop && q.identity == f.identity && !q.followed
        (running = true → issued .windowsStop allStations)
        ∧ (running = false → ∃ v, exec (.buttonFrame bytes) s = .next v ∧ v.intent.epoch = s.intent.epoch
          ∧ v.intent.table.map (·.tag) = s.intent.table.map (·.tag) ∧ v.intent.relock = s.intent.relock))
end

