-- ==== Sys2Proof/Laws/Kept.lean ====
section
/-! SUPPORT. What queuing a frame and the hand-overs at the end of a command leave alone: `Quiet` of each shared
operation. -/

namespace Sys2Proof.Machine

/-- What queuing the station's own CENSUS and ANNOUNCEMENT and judging the waiting conditions leave alone, whatever the
transmit queue holds. -/
structure Quiet (a b : State) : Prop where
  now : b.now = a.now
  pending : b.pending = a.pending
  freeCount : b.freeCount = a.freeCount
  pins : b.pins = a.pins
  addr : b.addr = a.addr
  cfg : b.cfg = a.cfg
  win : b.win = a.win
  pinch : b.pinch = a.pinch
  latch : b.latch = a.latch
  keys : b.keys = a.keys
  intent : b.intent.fixed = a.intent.fixed
  table : b.intent.table.map OpenEntry.untimed = a.intent.table.map OpenEntry.untimed
  startHold : b.intent.startHold = a.intent.startHold ∨ (b.intent.startHold = none ∧ allAnnounced b = true)
  claims : b.search.claims = a.search.claims
  nextNumber : b.search.nextNumber = a.search.nextNumber
  burst : b.search.burst = a.search.burst
  line : b.line.fixed = a.line.fixed
  census : b.census.fixed = a.census.fixed
  power : b.power.fixed = a.power.fixed
  store : b.store.fixed = a.store.fixed
  flush : b.store.flush.map (·.limitAt) = a.store.flush.map (·.limitAt)

/-- Whether every peer has announced depends on the peer table and the own address alone. -/
theorem allAnnounced_congr {a b : State} (ha : b.addr = a.addr) (hc : b.census.fixed = a.census.fixed) :
    allAnnounced b = allAnnounced a := by
  have hp : b.census.fixed.peers = a.census.fixed.peers := congrArg Census.peers hc
  have hp : b.census.peers = a.census.peers := hp
  simp [allAnnounced, peerAddrs, ha, hp]

theorem Quiet.refl (s : State) : Quiet s s := by constructor <;> first | rfl | exact .inl rfl

theorem Quiet.trans {a b c : State} (h : Quiet a b) (k : Quiet b c) : Quiet a c := by
  constructor
  · exact k.now.trans h.now
  · exact k.pending.trans h.pending
  · exact k.freeCount.trans h.freeCount
  · exact k.pins.trans h.pins
  · exact k.addr.trans h.addr
  · exact k.cfg.trans h.cfg
  · exact k.win.trans h.win
  · exact k.pinch.trans h.pinch
  · exact k.latch.trans h.latch
  · exact k.keys.trans h.keys
  · exact k.intent.trans h.intent
  · exact k.table.trans h.table
  · rcases k.startHold with e | ⟨e, ha⟩
    · rcases h.startHold with f | ⟨f, hb⟩
      · exact .inl (e.trans f)
      · exact .inr ⟨e.trans f, (allAnnounced_congr k.addr k.census).trans hb⟩
    · exact .inr ⟨e, ha⟩
  · exact k.claims.trans h.claims
  · exact k.nextNumber.trans h.nextNumber
  · exact k.burst.trans h.burst
  · exact k.line.trans h.line
  · exact k.census.trans h.census
  · exact k.power.trans h.power
  · exact k.store.trans h.store
  · exact k.flush.trans h.flush

/-- Starting an attempt timer changes no entry but for its timer (R84). -/
theorem startAttemptTimer_quiet (i : IntentFrame) (s : State) : Quiet s (startAttemptTimer i s) := by
  constructor <;> try first | rfl | exact .inl rfl
  simp only [startAttemptTimer, List.map_map]
  refine List.map_congr_left fun e _ => ?_
  simp only [Function.comp]
  split <;> rfl

/-- A lost claim changes the search record and the held touch alone (R116). -/
theorem claimLost_quiet (s : State) : Quiet s (claimLost s) := by
  unfold claimLost
  split
  · exact Quiet.refl s
  · split
    · constructor <;> first | rfl | exact .inl rfl
    · split <;> constructor <;> first | rfl | exact .inl rfl
    · exact Quiet.refl s

/-- The report "not sent" of a frame (R84, R116, R137, R154, R160, R198). -/
theorem notSent_quiet (p : Payload) (s : State) : Quiet s (notSent p s) := by
  unfold notSent
  split
  · exact startAttemptTimer_quiet _ s
  · split
    · exact claimLost_quiet s
    · exact Quiet.refl s
  · split
    · exact claimLost_quiet s
    · exact Quiet.refl s
  · constructor <;> first | rfl | exact .inl rfl
  · constructor <;> first | rfl | exact .inl rfl
  · split
    · constructor <;> first | rfl | exact .inl rfl | simp [replyReported, Function.comp_def]
    · exact Quiet.refl s
  · exact Quiet.refl s

/-- The report "not sent" to an entry's job, if it has one (R141, R198). -/
theorem tell_quiet (e : TxEntry) (s : State) : Quiet s (tell e s) := by
  unfold tell
  split
  · exact Quiet.refl s
  · exact notSent_quiet _ s

/-- Another transmit queue is quiet. -/
theorem quiet_tx (s : State) (l : List TxEntry) (n : Nat) :
    Quiet s { s with line := { s.line with tx := l, nextAge := n } } := by constructor <;> first | rfl | exact .inl rfl

/-- Queuing an entry (R141, R142). -/
theorem queueEntry_quiet (e : TxEntry) (s : State) : Quiet s (queueEntry e s) := by
  unfold queueEntry
  split
  · exact tell_quiet e s
  · split
    · exact quiet_tx s _ _
    · split
      · exact (quiet_tx s _ _).trans (tell_quiet _ _)
      · exact Quiet.refl s

/-- Queuing a frame at a class (R141, R142). -/
theorem queueAs_quiet (cls : Fin 8) (p : Payload) (s : State) : Quiet s (queueAs cls p s) := queueEntry_quiet _ s

/-- Queuing a frame whose report no block waits for (R198). -/
theorem queueJobless_quiet (p : Payload) (s : State) : Quiet s (queueJobless p s) := queueEntry_quiet _ s

/-- Queuing a frame at the class of its kind (R134). -/
theorem queueFrame_quiet (p : Payload) (s : State) : Quiet s (queueFrame p s) := queueAs_quiet _ p s

/-- Withdrawing a frame (R141). -/
theorem withdraw_quiet (f : Payload → Bool) (s : State) : Quiet s (withdraw f s) := by constructor <;> first | rfl | exact .inl rfl

/-- Queuing the own CENSUS (R154). -/
theorem queueCensus_quiet (s : State) : Quiet s (queueCensus s) := by
  unfold queueCensus
  split
  · exact Quiet.refl s
  · exact queueFrame_quiet _ s

/-- Queuing an ANNOUNCEMENT (R157, R142). -/
theorem queueAnnouncement_quiet (s : State) : Quiet s (queueAnnouncement s) := by
  unfold queueAnnouncement
  simp only
  split
  · constructor <;> first | rfl | exact .inl rfl
  · split
    · constructor <;> first | rfl | exact .inl rfl
    · refine Quiet.trans ?_ (queueAs_quiet _ _ _)
      constructor <;> first | rfl | exact .inl rfl

theorem settleCensus_quiet (s : State) : Quiet s (settleCensus s) := by
  unfold settleCensus
  split
  · refine Quiet.trans ?_ (queueCensus_quiet _)
    constructor <;> first | rfl | exact .inl rfl
  · exact Quiet.refl s

theorem settleStartHold_quiet (s : State) : Quiet s (settleStartHold s) := by
  unfold settleStartHold
  split
  · rename_i h
    have ha : allAnnounced s = true := by simp at h; exact h.2
    constructor <;> first | rfl | exact .inr ⟨rfl, ha⟩
  · exact Quiet.refl s

theorem settleAgreement_quiet (s : State) : Quiet s (settleAgreement s) := by constructor <;> first | rfl | exact .inl rfl

theorem settleStatus_quiet (s : State) : Quiet s (settleStatus s) := by
  unfold settleStatus
  split
  · exact Quiet.refl s
  · split
    · exact queueAnnouncement_quiet s
    · constructor <;> first | rfl | exact .inl rfl

theorem settleDue_quiet (s : State) : Quiet s (settleDue s) := by
  unfold settleDue
  split
  · exact queueAnnouncement_quiet s
  · exact Quiet.refl s

/-- The power state stays. -/
theorem Quiet.powerState {a b : State} (h : Quiet a b) : b.power.state = a.power.state := by
  have e := congrArg Power.state h.power
  exact e

theorem Quiet.heldSince {a b : State} (h : Quiet a b) : b.power.heldSince = a.power.heldSince := by
  have e := congrArg Power.heldSince h.power
  exact e

theorem Quiet.held {a b : State} (h : Quiet a b) : b.intent.held = a.intent.held := by
  have e := congrArg Intents.held h.intent
  exact e

theorem Quiet.lineState {a b : State} (h : Quiet a b) : b.line.state = a.line.state := by
  have e := congrArg Line.state h.line
  exact e

/-- A lost claim of a record that does not wait for its INTERIOR SEARCH leaves none that does (R116). -/
theorem claimLost_stage (s : State) (h : ∀ r ∈ s.search.record, r.stage ≠ .interiorClaiming) :
    ∀ r ∈ (claimLost s).search.record, r.stage ≠ .interiorClaiming := by
  unfold claimLost
  split
  · exact h
  · rename_i r hr
    split
    · intro r' hr'; simp at hr'
    · rename_i hst
      exact absurd hst (h r (by rw [hr]; rfl))
    · exact h

theorem notSent_stage (p : Payload) (s : State) (h : ∀ r ∈ s.search.record, r.stage ≠ .interiorClaiming) :
    ∀ r ∈ (notSent p s).search.record, r.stage ≠ .interiorClaiming := by
  unfold notSent
  split
  · exact h
  · split
    · exact claimLost_stage s h
    · exact h
  · split
    · exact claimLost_stage s h
    · exact h
  · exact h
  · exact h
  · split
    · exact h
    · exact h
  · exact h

theorem tell_stage (e : TxEntry) (s : State) (h : ∀ r ∈ s.search.record, r.stage ≠ .interiorClaiming) :
    ∀ r ∈ (tell e s).search.record, r.stage ≠ .interiorClaiming := by
  unfold tell
  split
  · exact h
  · exact notSent_stage _ s h

theorem queueEntry_stage (e : TxEntry) (s : State) (h : ∀ r ∈ s.search.record, r.stage ≠ .interiorClaiming) :
    ∀ r ∈ (queueEntry e s).search.record, r.stage ≠ .interiorClaiming := by
  unfold queueEntry
  split
  · exact tell_stage e s h
  · split
    · exact h
    · split
      · exact tell_stage _ _ h
      · exact h

theorem queueAs_stage (cls : Fin 8) (p : Payload) (s : State)
    (h : ∀ r ∈ s.search.record, r.stage ≠ .interiorClaiming) :
    ∀ r ∈ (queueAs cls p s).search.record, r.stage ≠ .interiorClaiming := queueEntry_stage _ s h

theorem settleCensus_stage (s : State) (h : ∀ r ∈ s.search.record, r.stage ≠ .interiorClaiming) :
    ∀ r ∈ (settleCensus s).search.record, r.stage ≠ .interiorClaiming := by
  unfold settleCensus queueCensus queueFrame
  split
  · split
    · exact h
    · exact queueAs_stage _ _ _ h
  · exact h

end Sys2Proof.Machine
end

