-- ==== Sys2Proof/Laws/Room.lean ====
section
/-! SUPPORT. The transmit queue at the end of a command: with room a frame that is queued joins it and evicts none, and
where no own claim waits none is lost (R116, R141, R142). With them `Kept` of the end of a command. -/

namespace Sys2Proof.Machine

theorem mem_insertTx (x e : TxEntry) (l : List TxEntry) : e ∈ insertTx x l ↔ e = x ∨ e ∈ l := by
  induction l with
  | nil => simp [insertTx]
  | cons y ys ih =>
      unfold insertTx
      split
      · simp
      · simp [ih]; tauto

theorem length_insertTx (x : TxEntry) (l : List TxEntry) : (insertTx x l).length = l.length + 1 := by
  induction l with
  | nil => rfl
  | cons y ys ih =>
      unfold insertTx
      split
      · simp
      · simp [ih]

/-- With room, a frame queued while the line is not in LINE FAULT joins the queue and nothing else changes (R141). -/
theorem queueAs_room (cls : Fin 8) (p : Payload) (s : State) (h : s.line.tx.length < 6) (hl : s.line.state = .ok) :
    queueAs cls p s = { s with line := { s.line with
      tx := insertTx (newEntry cls p s) s.line.tx, nextAge := s.line.nextAge + 1 } } := by
  have ha : admitted cls p s = true := by simp [admitted, inLineFault, hl, h]
  simp [queueAs, queueEntry, newEntry, ha, h]

/-- Every other entry stays, at most `n` join, and no report is made. -/
structure Gentle (n : Nat) (a b : State) : Prop where
  search : b.search = a.search
  table : b.intent.table = a.intent.table
  store : b.store = a.store
  gateOpen : b.line.gateOpen = a.line.gateOpen
  stays : ∀ e ∈ a.line.tx, isAnnouncement e = false → e ∈ b.line.tx
  length : b.line.tx.length ≤ a.line.tx.length + n
  state : b.line.state = a.line.state

theorem Gentle.refl (s : State) : Gentle 0 s s :=
  ⟨rfl, rfl, rfl, rfl, fun _ h _ => h, Nat.le_refl _, rfl⟩

theorem Gentle.mono {m n : Nat} {a b : State} (h : Gentle m a b) (k : m ≤ n) : Gentle n a b :=
  ⟨h.search, h.table, h.store, h.gateOpen, h.stays, le_trans h.length (by omega), h.state⟩

theorem Gentle.trans {m n : Nat} {a b c : State} (h : Gentle m a b) (k : Gentle n b c) : Gentle (m + n) a c :=
  ⟨k.search.trans h.search, k.table.trans h.table, k.store.trans h.store, k.gateOpen.trans h.gateOpen,
    fun e he hn => k.stays e (h.stays e he hn) hn, by have := h.length; have := k.length; omega,
    k.state.trans h.state⟩

theorem queueAs_gentle (cls : Fin 8) (p : Payload) (s : State) (h : s.line.tx.length < 6) (hl : s.line.state = .ok) :
    Gentle 1 s (queueAs cls p s) := by
  rw [queueAs_room cls p s h hl]
  exact ⟨rfl, rfl, rfl, rfl, fun e he _ => (mem_insertTx _ _ _).2 (.inr he), by simp [length_insertTx], rfl⟩

theorem queueCensus_gentle (s : State) (h : s.line.tx.length < 6) : Gentle 1 s (queueCensus s) := by
  unfold queueCensus
  split
  · exact (Gentle.refl s).mono (by omega)
  · rename_i hc
    have hl : s.line.state = .ok := by
      by_contra hne
      simp [inLineFault, hne] at hc
    exact queueAs_gentle _ _ s h hl

theorem replaceAnnouncement_stays (cls : Fin 8) (p : Payload) (s : State) (e : TxEntry) (he : e ∈ s.line.tx)
    (hn : isAnnouncement e = false) : e ∈ replaceAnnouncement cls p s := by
  unfold replaceAnnouncement
  split
  · exact (mem_insertTx _ _ _).2 (.inr (List.mem_filter.2 ⟨he, by simp [hn]⟩))
  · exact he

theorem replaceAnnouncement_length (cls : Fin 8) (p : Payload) (s : State) :
    (replaceAnnouncement cls p s).length ≤ s.line.tx.length := by
  unfold replaceAnnouncement
  split
  · rename_i old hold
    have hp := List.find?_some hold
    have hm := List.mem_of_find?_eq_some hold
    rw [length_insertTx]
    have : (s.line.tx.filter fun e => !(isAnnouncement e && !e.inTx)).length < s.line.tx.length := by
      refine List.length_filter_lt_length_iff_exists.2 ⟨old, hm, ?_⟩
      simp only [hp, Bool.not_true, Bool.false_eq_true, not_false_iff]
    omega
  · exact Nat.le_refl _

theorem queueAnnouncement_gentle (s : State) (h : s.line.tx.length < 6) : Gentle 1 s (queueAnnouncement s) := by
  unfold queueAnnouncement
  simp only
  split
  · exact ⟨rfl, rfl, rfl, rfl, fun _ he _ => he, by simp, rfl⟩
  · rename_i hf
    have hl : s.line.state = .ok := by
      by_contra hne
      simp [inLineFault, hne] at hf
    split
    · refine ⟨rfl, rfl, rfl, rfl, fun e he hn => ?_, ?_, rfl⟩
      · exact replaceAnnouncement_stays _ _
          { s with census := { s.census with waitingChange := false, lastWatched := watchedFields (announcedNow s), statusOwed := false } }
          e he hn
      · exact le_trans (replaceAnnouncement_length _ _ _) (by simp)
    · exact Gentle.trans (n := 1) (m := 0) (b :=
        { s with census := { s.census with waitingChange := false, lastWatched := watchedFields (announcedNow s), statusOwed := false } })
        ⟨rfl, rfl, rfl, rfl, fun _ he _ => he, by simp, rfl⟩ (queueAs_gentle _ _ _ h hl)

/-! ## Where no own claim waits -/

/-- Where no own claim waits, none waits afterwards and the search unit is as it was. -/
def Unclaimed (a b : State) : Prop := NoClaimWaits a → NoClaimWaits b ∧ b.search = a.search

theorem Unclaimed.refl (s : State) : Unclaimed s s := fun h => ⟨h, rfl⟩

theorem Unclaimed.trans {a b c : State} (h : Unclaimed a b) (k : Unclaimed b c) : Unclaimed a c := fun ha =>
  ⟨(k (h ha).1).1, (k (h ha).1).2.trans (h ha).2⟩

/-- A state with the same transmit queue and search unit. -/
theorem Unclaimed.same {a b : State} (ht : b.line.tx = a.line.tx) (hs : b.search = a.search) : Unclaimed a b := fun h =>
  ⟨by unfold NoClaimWaits; rw [ht]; exact h, hs⟩

/-- The report "not sent" of a frame that is no own claim (R116). -/
theorem notSent_unclaimed (p : Payload) (s : State) (hp : isClaimPayload p = false) :
    (notSent p s).line.tx = s.line.tx ∧ (notSent p s).search = s.search := by
  unfold notSent
  split
  · exact ⟨rfl, rfl⟩
  · simp [isClaimPayload] at hp
  · simp [isClaimPayload] at hp
  · exact ⟨rfl, rfl⟩
  · exact ⟨rfl, rfl⟩
  · split <;> exact ⟨rfl, rfl⟩
  · exact ⟨rfl, rfl⟩

/-- The entry passed over for eviction and the rest are entries of the queue, and it waits (R142). -/
theorem splitVictim_mem {l rest : List TxEntry} {v : TxEntry} (h : splitVictim l = some (v, rest)) :
    v ∈ l ∧ v.inTx = false ∧ ∀ e ∈ rest, e ∈ l := by
  induction l generalizing rest with
  | nil => simp [splitVictim] at h
  | cons x xs ih =>
      unfold splitVictim at h
      split at h
      · rename_i w r hw
        simp only [Option.some.injEq, Prod.mk.injEq] at h
        obtain ⟨rfl, rfl⟩ := h
        obtain ⟨h1, h2, h3⟩ := ih hw
        exact ⟨List.mem_cons_of_mem _ h1, h2, by
          intro e he
          rcases List.mem_cons.1 he with rfl | he
          · exact List.mem_cons_self ..
          · exact List.mem_cons_of_mem _ (h3 e he)⟩
      · split at h
        · simp at h
        · rename_i hx
          simp only [Option.some.injEq, Prod.mk.injEq] at h
          obtain ⟨rfl, rfl⟩ := h
          exact ⟨List.mem_cons_self .., by simpa using hx, fun e he => List.mem_cons_of_mem _ he⟩

/-- The report of an entry that is no waiting claim with a job (R141). -/
theorem tell_unclaimed (e : TxEntry) (s : State) (he : isClaimPayload e.frame.payload = true → e.jobless = true) :
    (tell e s).line.tx = s.line.tx ∧ (tell e s).search = s.search := by
  unfold tell
  split
  · exact ⟨rfl, rfl⟩
  · rename_i hj
    refine notSent_unclaimed _ s ?_
    by_contra hc
    exact hj (he (by simpa using hc))

/-- Queuing an entry that is no own claim (R142). -/
theorem queueEntry_unclaimed (e : TxEntry) (s : State) (he : isClaimPayload e.frame.payload = false) :
    Unclaimed s (queueEntry e s) := by
  intro h
  have hn : isClaimPayload e.frame.payload = true → e.jobless = true := fun k => by simp [he] at k
  unfold queueEntry
  split
  · have ht := tell_unclaimed e s hn
    exact ⟨by unfold NoClaimWaits; rw [ht.1]; exact h, ht.2⟩
  · split
    · refine ⟨fun x hx hc => ?_, rfl⟩
      rcases (mem_insertTx _ _ _).1 hx with rfl | hx
      · simp [he] at hc
      · exact h x hx hc
    · split
      · rename_i v rest hv
        obtain ⟨hm, hi, hr⟩ := splitVictim_mem hv
        have ht := tell_unclaimed v
          { s with line := { s.line with tx := insertTx e rest, nextAge := s.line.nextAge + 1 } }
          (fun hc => (h v hm hc).resolve_left (by simp [hi]))
        refine ⟨?_, ht.2⟩
        unfold NoClaimWaits
        rw [ht.1]
        intro x hx hc
        rcases (mem_insertTx _ _ _).1 hx with rfl | hx
        · simp [he] at hc
        · exact h x (hr x hx) hc
      · exact ⟨h, rfl⟩

theorem queueAs_unclaimed (cls : Fin 8) (p : Payload) (s : State) (hp : isClaimPayload p = false) :
    Unclaimed s (queueAs cls p s) := queueEntry_unclaimed _ s hp

theorem queueFrame_unclaimed (p : Payload) (s : State) (hp : isClaimPayload p = false) : Unclaimed s (queueFrame p s) :=
  queueAs_unclaimed _ p s hp

theorem queueCensus_unclaimed (s : State) : Unclaimed s (queueCensus s) := by
  unfold queueCensus
  split
  · exact Unclaimed.refl s
  · exact queueFrame_unclaimed _ s rfl

theorem queueAnnouncement_unclaimed (s : State) : Unclaimed s (queueAnnouncement s) := by
  unfold queueAnnouncement
  simp only
  split
  · exact Unclaimed.same rfl rfl
  · split
    · intro h
      refine ⟨fun x hx hc => ?_, rfl⟩
      have hx' : x ∈ replaceAnnouncement (announcementClass s) (.announcement (announcedNow s))
          { s with census := { s.census with
            waitingChange := false, lastWatched := watchedFields (announcedNow s), statusOwed := false } } := hx
      unfold replaceAnnouncement at hx'
      split at hx'
      · rcases (mem_insertTx _ _ _).1 hx' with rfl | hx'
        · simp [newEntry, isClaimPayload] at hc
        · exact h x (List.mem_filter.1 hx').1 hc
      · exact h x hx' hc
    · exact Unclaimed.trans (b := { s with census := { s.census with
          waitingChange := false, lastWatched := watchedFields (announcedNow s), statusOwed := false } })
        (Unclaimed.same rfl rfl) (queueAs_unclaimed _ _ _ rfl)

theorem settleCensus_unclaimed (s : State) : Unclaimed s (settleCensus s) := by
  unfold settleCensus
  split
  · exact Unclaimed.trans (b := { s with census := { s.census with censusOwed := false } }) (Unclaimed.same rfl rfl)
      (queueCensus_unclaimed _)
  · exact Unclaimed.refl s

theorem settleStatus_unclaimed (s : State) : Unclaimed s (settleStatus s) := by
  unfold settleStatus
  split
  · exact Unclaimed.refl s
  · split
    · exact queueAnnouncement_unclaimed s
    · exact Unclaimed.same rfl rfl

theorem settleDue_unclaimed (s : State) : Unclaimed s (settleDue s) := by
  unfold settleDue
  split
  · exact queueAnnouncement_unclaimed s
  · exact Unclaimed.refl s

theorem settleAgreement_unclaimed (s : State) : Unclaimed s (settleAgreement s) := Unclaimed.same rfl rfl

theorem settleStartHold_unclaimed (s : State) : Unclaimed s (settleStartHold s) := by
  unfold settleStartHold
  split
  · exact Unclaimed.same rfl rfl
  · exact Unclaimed.refl s

/-! ## The end of a command -/

/-- The hand-overs that the end of a command makes in a calm state. -/
theorem settle_calm (s : State) (h : Calm s) :
    settle s = settleDue (settleStatus (settleAgreement (settleStartHold (settleCensus s)))) := by
  obtain ⟨hreset, hrun, hheld, hdrop, hrec⟩ := h
  have hd : takeDropAnswer s = s := by simp [takeDropAnswer, hdrop]
  have hc := settleCensus_quiet s
  have hi : settleInterior (settleCensus s) = settleCensus s := by
    unfold settleInterior
    split
    · rename_i r hr
      have := settleCensus_stage s hrec r (by rw [hr]; rfl)
      simp [interiorDue, this]
    · rfl
  have hs : settleSleep (settleCensus s) = settleCensus s := by
    unfold settleSleep
    rw [if_neg]
    rw [hc.powerState, hrun]; simp
  have ha : (awake s && s.power.heldSince.isNone) = true := by simp [awake, hrun, hreset]
  have ha' : awake (settleCensus s) = true := by simp [awake, hc.powerState, hrun]
  have hh := settleStartHold_quiet (settleCensus s)
  have hn : issueHeld (settleStartHold (settleCensus s)) = settleStartHold (settleCensus s) := by
    simp [issueHeld, hh.held, hc.held, hheld]
  simp only [settle, ha, hd, hi, hs, ha', if_true, hn]

/-- The end of a command in a calm state leaves alone what is not its own frames and the waiting conditions. -/
theorem settle_quiet (s : State) (h : Calm s) : Quiet s (settle s) := by
  rw [settle_calm s h]
  exact (settleCensus_quiet s).trans ((settleStartHold_quiet _).trans ((settleAgreement_quiet _).trans
    ((settleStatus_quiet _).trans (settleDue_quiet _))))

/-- Where no own claim waits, the end of a command in a calm state leaves the search unit alone. -/
theorem settle_unclaimed (s : State) (h : Calm s) : Unclaimed s (settle s) := by
  rw [settle_calm s h]
  exact (settleCensus_unclaimed s).trans ((settleStartHold_unclaimed _).trans ((settleAgreement_unclaimed _).trans
    ((settleStatus_unclaimed _).trans (settleDue_unclaimed _))))

/-- With room for three frames, the end of a command in a calm state evicts none. -/
theorem settle_gentle (s : State) (h : Calm s) (hr : Roomy 3 s) : Gentle 3 s (settle s) := by
  have hr' : s.line.tx.length + 3 ≤ 6 := hr
  have gc : Gentle 1 s (settleCensus s) := by
    unfold settleCensus
    split
    · exact Gentle.trans (n := 1) (m := 0) (b := { s with census := { s.census with censusOwed := false } })
        ⟨rfl, rfl, rfl, rfl, fun _ he _ => he, by simp, rfl⟩
        (queueCensus_gentle { s with census := { s.census with censusOwed := false } } (by simp only; omega))
    · exact (Gentle.refl s).mono (by omega)
  have gh : Gentle 0 (settleCensus s) (settleStartHold (settleCensus s)) := by
    unfold settleStartHold
    split
    · exact ⟨rfl, rfl, rfl, rfl, fun _ he _ => he, by simp, rfl⟩
    · exact Gentle.refl _
  have ga : Gentle 0 (settleStartHold (settleCensus s)) (settleAgreement (settleStartHold (settleCensus s))) :=
    ⟨rfl, rfl, rfl, rfl, fun _ he _ => he, by simp [settleAgreement], rfl⟩
  have g3 := (gc.trans gh).trans ga
  have gs : Gentle 1 (settleAgreement (settleStartHold (settleCensus s)))
      (settleStatus (settleAgreement (settleStartHold (settleCensus s)))) := by
    unfold settleStatus
    split
    · exact (Gentle.refl _).mono (by omega)
    · split
      · exact queueAnnouncement_gentle _ (by have := g3.length; omega)
      · exact ⟨rfl, rfl, rfl, rfl, fun _ he _ => he, by simp, rfl⟩
  have g4 := g3.trans gs
  have gd : Gentle 1 (settleStatus (settleAgreement (settleStartHold (settleCensus s))))
      (settleDue (settleStatus (settleAgreement (settleStartHold (settleCensus s))))) := by
    unfold settleDue
    split
    · exact queueAnnouncement_gentle _ (by have := g4.length; omega)
    · exact (Gentle.refl _).mono (by omega)
  rw [settle_calm s h]
  exact g4.trans gd

/-- The end of a command in a calm state changes nothing but its own frames and the waiting conditions. -/
theorem settle_kept (s : State) (h : Calm s) : Kept s (settle s) := by
  have q := settle_quiet s h
  have g := fun hr : Roomy 4 s => settle_gentle s h (le_trans (Nat.add_le_add_left (by decide) _) hr)
  have u := settle_unclaimed s h
  refine ⟨q.now, q.pending, q.freeCount, q.pins, q.addr, q.cfg, q.win, q.pinch, q.latch, q.keys, q.intent, q.table,
    q.startHold, q.claims, q.nextNumber, q.burst, fun hr => ?_, q.line, fun hr => (g hr).stays, q.census, q.power, q.store,
    q.flush, fun hr => by rw [(g hr).store]⟩
  have e : (settle s).search = s.search := hr.elim (fun hr => (g hr).search) (fun hn => (u hn).2)
  rw [e]; exact ⟨rfl, rfl⟩

/-- A command with the effect `f` at a calm state that `f` keeps calm answers a next state that keeps what `f` made. -/
theorem live_kept {f : State → State} {s : State} (h : s.power.heldSince = none) (hf : Calm (f s)) :
    ∃ u, live f s = .next u ∧ Kept (f s) u := ⟨settle (f s), by simp [live, liveInput, h], settle_kept _ hf⟩

/-- The same of a command that moves an input line. -/
theorem liveInput_kept {pin f : State → State} {s : State} (h : s.power.heldSince = none) (hf : Calm (f s)) :
    ∃ u, liveInput pin f s = .next u ∧ Kept (f s) u := ⟨settle (f s), by simp [liveInput, h], settle_kept _ hf⟩

/-- The same of a command that has no effect in SLEEP. -/
theorem whileAwake_kept {f : State → State} {s : State} (h : s.power.heldSince = none) (ha : awake s = true)
    (hf : Calm (f s)) : ∃ u, whileAwake f s = .next u ∧ Kept (f s) u := by
  have : live (fun t => if awake t then f t else t) s = .next (settle (f s)) := by simp [live, liveInput, h, ha]
  exact ⟨settle (f s), this, settle_kept _ hf⟩

end Sys2Proof.Machine
end

