-- ==== Sys2Proof/Laws/State.lean ====
section
/-! SUPPORT. One lemma per field per update: what the shared operations leave alone, and what a plain update writes. -/

namespace Sys2Proof.Machine

/-! Another window. -/

@[simp] theorem withWin_now (s : State) (w : Window) : (s.withWin w).now = s.now := rfl
@[simp] theorem withWin_pending (s : State) (w : Window) : (s.withWin w).pending = s.pending := rfl
@[simp] theorem withWin_freeCount (s : State) (w : Window) : (s.withWin w).freeCount = s.freeCount := rfl
@[simp] theorem withWin_pins (s : State) (w : Window) : (s.withWin w).pins = s.pins := rfl
@[simp] theorem withWin_addr (s : State) (w : Window) : (s.withWin w).addr = s.addr := rfl
@[simp] theorem withWin_cfg (s : State) (w : Window) : (s.withWin w).cfg = s.cfg := rfl
@[simp] theorem withWin_win (s : State) (w : Window) : (s.withWin w).win = w := rfl
@[simp] theorem withWin_pinch (s : State) (w : Window) : (s.withWin w).pinch = s.pinch := rfl
@[simp] theorem withWin_latch (s : State) (w : Window) : (s.withWin w).latch = s.latch := rfl
@[simp] theorem withWin_intent (s : State) (w : Window) : (s.withWin w).intent = s.intent := rfl
@[simp] theorem withWin_keys (s : State) (w : Window) : (s.withWin w).keys = s.keys := rfl
@[simp] theorem withWin_search (s : State) (w : Window) : (s.withWin w).search = s.search := rfl
@[simp] theorem withWin_line (s : State) (w : Window) : (s.withWin w).line = s.line := rfl
@[simp] theorem withWin_census (s : State) (w : Window) : (s.withWin w).census = s.census := rfl
@[simp] theorem withWin_power (s : State) (w : Window) : (s.withWin w).power = s.power := rfl
@[simp] theorem withWin_store (s : State) (w : Window) : (s.withWin w).store = s.store := rfl

/-! A spent press (R14). -/

@[simp] theorem heldInput_now (b : Bool) (s : State) : (markSpent b s).now = s.now := rfl
@[simp] theorem heldInput_pending (b : Bool) (s : State) : (markSpent b s).pending = s.pending := rfl
@[simp] theorem heldInput_freeCount (b : Bool) (s : State) : (markSpent b s).freeCount = s.freeCount := rfl
@[simp] theorem heldInput_addr (b : Bool) (s : State) : (markSpent b s).addr = s.addr := rfl
@[simp] theorem heldInput_cfg (b : Bool) (s : State) : (markSpent b s).cfg = s.cfg := rfl
@[simp] theorem heldInput_win (b : Bool) (s : State) : (markSpent b s).win = s.win := rfl
@[simp] theorem heldInput_pinch (b : Bool) (s : State) : (markSpent b s).pinch = s.pinch := rfl
@[simp] theorem heldInput_latch (b : Bool) (s : State) : (markSpent b s).latch = s.latch := rfl
@[simp] theorem heldInput_intent (b : Bool) (s : State) : (markSpent b s).intent = s.intent := rfl
@[simp] theorem heldInput_keys (b : Bool) (s : State) : (markSpent b s).keys = s.keys := rfl
@[simp] theorem heldInput_search (b : Bool) (s : State) : (markSpent b s).search = s.search := rfl
@[simp] theorem heldInput_line (b : Bool) (s : State) : (markSpent b s).line = s.line := rfl
@[simp] theorem heldInput_census (b : Bool) (s : State) : (markSpent b s).census = s.census := rfl
@[simp] theorem heldInput_power (b : Bool) (s : State) : (markSpent b s).power = s.power := rfl
@[simp] theorem heldInput_store (b : Bool) (s : State) : (markSpent b s).store = s.store := rfl

/-! The local switch at a detent (R14). -/

@[simp] theorem setHold_now (d : Option Direction) (b : Bool) (s : State) : (setHold d b s).now = s.now := rfl
@[simp] theorem setHold_pending (d : Option Direction) (b : Bool) (s : State) : (setHold d b s).pending = s.pending := rfl
@[simp] theorem setHold_freeCount (d : Option Direction) (b : Bool) (s : State) : (setHold d b s).freeCount = s.freeCount := rfl
@[simp] theorem setHold_pins (d : Option Direction) (b : Bool) (s : State) : (setHold d b s).pins = { s.pins with localHold := d, localSpent := b } := rfl
@[simp] theorem setHold_addr (d : Option Direction) (b : Bool) (s : State) : (setHold d b s).addr = s.addr := rfl
@[simp] theorem setHold_cfg (d : Option Direction) (b : Bool) (s : State) : (setHold d b s).cfg = s.cfg := rfl
@[simp] theorem setHold_win (d : Option Direction) (b : Bool) (s : State) : (setHold d b s).win = s.win := rfl
@[simp] theorem setHold_pinch (d : Option Direction) (b : Bool) (s : State) : (setHold d b s).pinch = s.pinch := rfl
@[simp] theorem setHold_latch (d : Option Direction) (b : Bool) (s : State) : (setHold d b s).latch = s.latch := rfl
@[simp] theorem setHold_intent (d : Option Direction) (b : Bool) (s : State) : (setHold d b s).intent = s.intent := rfl
@[simp] theorem setHold_keys (d : Option Direction) (b : Bool) (s : State) : (setHold d b s).keys = s.keys := rfl
@[simp] theorem setHold_search (d : Option Direction) (b : Bool) (s : State) : (setHold d b s).search = s.search := rfl
@[simp] theorem setHold_line (d : Option Direction) (b : Bool) (s : State) : (setHold d b s).line = s.line := rfl
@[simp] theorem setHold_census (d : Option Direction) (b : Bool) (s : State) : (setHold d b s).census = s.census := rfl
@[simp] theorem setHold_power (d : Option Direction) (b : Bool) (s : State) : (setHold d b s).power = s.power := rfl
@[simp] theorem setHold_store (d : Option Direction) (b : Bool) (s : State) : (setHold d b s).store = s.store := rfl

/-! Another search record (R117). -/

@[simp] theorem setRecord_now (r : Option SearchRec) (s : State) : (setRecord r s).now = s.now := rfl
@[simp] theorem setRecord_pending (r : Option SearchRec) (s : State) : (setRecord r s).pending = s.pending := rfl
@[simp] theorem setRecord_freeCount (r : Option SearchRec) (s : State) : (setRecord r s).freeCount = s.freeCount := rfl
@[simp] theorem setRecord_pins (r : Option SearchRec) (s : State) : (setRecord r s).pins = s.pins := rfl
@[simp] theorem setRecord_addr (r : Option SearchRec) (s : State) : (setRecord r s).addr = s.addr := rfl
@[simp] theorem setRecord_cfg (r : Option SearchRec) (s : State) : (setRecord r s).cfg = s.cfg := rfl
@[simp] theorem setRecord_win (r : Option SearchRec) (s : State) : (setRecord r s).win = s.win := rfl
@[simp] theorem setRecord_pinch (r : Option SearchRec) (s : State) : (setRecord r s).pinch = s.pinch := rfl
@[simp] theorem setRecord_latch (r : Option SearchRec) (s : State) : (setRecord r s).latch = s.latch := rfl
@[simp] theorem setRecord_intent (r : Option SearchRec) (s : State) : (setRecord r s).intent = s.intent := rfl
@[simp] theorem setRecord_keys (r : Option SearchRec) (s : State) : (setRecord r s).keys = s.keys := rfl
@[simp] theorem setRecord_search (r : Option SearchRec) (s : State) : (setRecord r s).search = { s.search with record := r } := rfl
@[simp] theorem setRecord_line (r : Option SearchRec) (s : State) : (setRecord r s).line = s.line := rfl
@[simp] theorem setRecord_census (r : Option SearchRec) (s : State) : (setRecord r s).census = s.census := rfl
@[simp] theorem setRecord_power (r : Option SearchRec) (s : State) : (setRecord r s).power = s.power := rfl
@[simp] theorem setRecord_store (r : Option SearchRec) (s : State) : (setRecord r s).store = s.store := rfl

/-! A held touch (R119). -/

@[simp] theorem holdTouch_now (h : HeldTouch) (s : State) : (holdTouch h s).now = s.now := rfl
@[simp] theorem holdTouch_pending (h : HeldTouch) (s : State) : (holdTouch h s).pending = s.pending := rfl
@[simp] theorem holdTouch_freeCount (h : HeldTouch) (s : State) : (holdTouch h s).freeCount = s.freeCount := rfl
@[simp] theorem holdTouch_pins (h : HeldTouch) (s : State) : (holdTouch h s).pins = s.pins := rfl
@[simp] theorem holdTouch_addr (h : HeldTouch) (s : State) : (holdTouch h s).addr = s.addr := rfl
@[simp] theorem holdTouch_cfg (h : HeldTouch) (s : State) : (holdTouch h s).cfg = s.cfg := rfl
@[simp] theorem holdTouch_win (h : HeldTouch) (s : State) : (holdTouch h s).win = s.win := rfl
@[simp] theorem holdTouch_pinch (h : HeldTouch) (s : State) : (holdTouch h s).pinch = s.pinch := rfl
@[simp] theorem holdTouch_latch (h : HeldTouch) (s : State) : (holdTouch h s).latch = s.latch := rfl
@[simp] theorem holdTouch_intent (h : HeldTouch) (s : State) : (holdTouch h s).intent = s.intent := rfl
@[simp] theorem holdTouch_keys (h : HeldTouch) (s : State) : (holdTouch h s).keys = s.keys := rfl
@[simp] theorem holdTouch_search (h : HeldTouch) (s : State) : (holdTouch h s).search = { s.search with held := some h } := rfl
@[simp] theorem holdTouch_line (h : HeldTouch) (s : State) : (holdTouch h s).line = s.line := rfl
@[simp] theorem holdTouch_census (h : HeldTouch) (s : State) : (holdTouch h s).census = s.census := rfl
@[simp] theorem holdTouch_power (h : HeldTouch) (s : State) : (holdTouch h s).power = s.power := rfl
@[simp] theorem holdTouch_store (h : HeldTouch) (s : State) : (holdTouch h s).store = s.store := rfl

/-! A stopped burst (R121). -/

@[simp] theorem stopBurst_now (s : State) : (stopBurst s).now = s.now := rfl
@[simp] theorem stopBurst_pending (s : State) : (stopBurst s).pending = s.pending := rfl
@[simp] theorem stopBurst_freeCount (s : State) : (stopBurst s).freeCount = s.freeCount := rfl
@[simp] theorem stopBurst_pins (s : State) : (stopBurst s).pins = s.pins := rfl
@[simp] theorem stopBurst_addr (s : State) : (stopBurst s).addr = s.addr := rfl
@[simp] theorem stopBurst_cfg (s : State) : (stopBurst s).cfg = s.cfg := rfl
@[simp] theorem stopBurst_win (s : State) : (stopBurst s).win = s.win := rfl
@[simp] theorem stopBurst_pinch (s : State) : (stopBurst s).pinch = s.pinch := rfl
@[simp] theorem stopBurst_latch (s : State) : (stopBurst s).latch = s.latch := rfl
@[simp] theorem stopBurst_intent (s : State) : (stopBurst s).intent = s.intent := rfl
@[simp] theorem stopBurst_keys (s : State) : (stopBurst s).keys = s.keys := rfl
@[simp] theorem stopBurst_search (s : State) : (stopBurst s).search = { s.search with burst := none } := rfl
@[simp] theorem stopBurst_line (s : State) : (stopBurst s).line = s.line := rfl
@[simp] theorem stopBurst_census (s : State) : (stopBurst s).census = s.census := rfl
@[simp] theorem stopBurst_power (s : State) : (stopBurst s).power = s.power := rfl
@[simp] theorem stopBurst_store (s : State) : (stopBurst s).store = s.store := rfl

/-! A claim joins (R115). -/

@[simp] theorem addClaim_now (a : Addr) (k : ClaimKind) (e : Nat) (s : State) : (addClaim a k e s).now = s.now := rfl
@[simp] theorem addClaim_pending (a : Addr) (k : ClaimKind) (e : Nat) (s : State) : (addClaim a k e s).pending = s.pending := rfl
@[simp] theorem addClaim_freeCount (a : Addr) (k : ClaimKind) (e : Nat) (s : State) : (addClaim a k e s).freeCount = s.freeCount := rfl
@[simp] theorem addClaim_pins (a : Addr) (k : ClaimKind) (e : Nat) (s : State) : (addClaim a k e s).pins = s.pins := rfl
@[simp] theorem addClaim_addr (a : Addr) (k : ClaimKind) (e : Nat) (s : State) : (addClaim a k e s).addr = s.addr := rfl
@[simp] theorem addClaim_cfg (a : Addr) (k : ClaimKind) (e : Nat) (s : State) : (addClaim a k e s).cfg = s.cfg := rfl
@[simp] theorem addClaim_win (a : Addr) (k : ClaimKind) (e : Nat) (s : State) : (addClaim a k e s).win = s.win := rfl
@[simp] theorem addClaim_pinch (a : Addr) (k : ClaimKind) (e : Nat) (s : State) : (addClaim a k e s).pinch = s.pinch := rfl
@[simp] theorem addClaim_latch (a : Addr) (k : ClaimKind) (e : Nat) (s : State) : (addClaim a k e s).latch = s.latch := rfl
@[simp] theorem addClaim_intent (a : Addr) (k : ClaimKind) (e : Nat) (s : State) : (addClaim a k e s).intent = s.intent := rfl
@[simp] theorem addClaim_keys (a : Addr) (k : ClaimKind) (e : Nat) (s : State) : (addClaim a k e s).keys = s.keys := rfl
@[simp] theorem addClaim_line (a : Addr) (k : ClaimKind) (e : Nat) (s : State) : (addClaim a k e s).line = s.line := rfl
@[simp] theorem addClaim_census (a : Addr) (k : ClaimKind) (e : Nat) (s : State) : (addClaim a k e s).census = s.census := rfl
@[simp] theorem addClaim_power (a : Addr) (k : ClaimKind) (e : Nat) (s : State) : (addClaim a k e s).power = s.power := rfl
@[simp] theorem addClaim_store (a : Addr) (k : ClaimKind) (e : Nat) (s : State) : (addClaim a k e s).store = s.store := rfl

/-! A claim expires (R115). -/

@[simp] theorem removeClaim_now (a : Addr) (s : State) : (removeClaim a s).now = s.now := rfl
@[simp] theorem removeClaim_pending (a : Addr) (s : State) : (removeClaim a s).pending = s.pending := rfl
@[simp] theorem removeClaim_freeCount (a : Addr) (s : State) : (removeClaim a s).freeCount = s.freeCount := rfl
@[simp] theorem removeClaim_pins (a : Addr) (s : State) : (removeClaim a s).pins = s.pins := rfl
@[simp] theorem removeClaim_addr (a : Addr) (s : State) : (removeClaim a s).addr = s.addr := rfl
@[simp] theorem removeClaim_cfg (a : Addr) (s : State) : (removeClaim a s).cfg = s.cfg := rfl
@[simp] theorem removeClaim_win (a : Addr) (s : State) : (removeClaim a s).win = s.win := rfl
@[simp] theorem removeClaim_pinch (a : Addr) (s : State) : (removeClaim a s).pinch = s.pinch := rfl
@[simp] theorem removeClaim_latch (a : Addr) (s : State) : (removeClaim a s).latch = s.latch := rfl
@[simp] theorem removeClaim_intent (a : Addr) (s : State) : (removeClaim a s).intent = s.intent := rfl
@[simp] theorem removeClaim_keys (a : Addr) (s : State) : (removeClaim a s).keys = s.keys := rfl
@[simp] theorem removeClaim_line (a : Addr) (s : State) : (removeClaim a s).line = s.line := rfl
@[simp] theorem removeClaim_census (a : Addr) (s : State) : (removeClaim a s).census = s.census := rfl
@[simp] theorem removeClaim_power (a : Addr) (s : State) : (removeClaim a s).power = s.power := rfl
@[simp] theorem removeClaim_store (a : Addr) (s : State) : (removeClaim a s).store = s.store := rfl

/-! Local input (R173). -/

@[simp] theorem localInput_now (s : State) : (localInput s).now = s.now := rfl
@[simp] theorem localInput_pending (s : State) : (localInput s).pending = s.pending := rfl
@[simp] theorem localInput_freeCount (s : State) : (localInput s).freeCount = s.freeCount := rfl
@[simp] theorem localInput_pins (s : State) : (localInput s).pins = s.pins := rfl
@[simp] theorem localInput_addr (s : State) : (localInput s).addr = s.addr := rfl
@[simp] theorem localInput_cfg (s : State) : (localInput s).cfg = s.cfg := rfl
@[simp] theorem localInput_win (s : State) : (localInput s).win = s.win := rfl
@[simp] theorem localInput_pinch (s : State) : (localInput s).pinch = s.pinch := rfl
@[simp] theorem localInput_latch (s : State) : (localInput s).latch = s.latch := rfl
@[simp] theorem localInput_intent (s : State) : (localInput s).intent = s.intent := rfl
@[simp] theorem localInput_keys (s : State) : (localInput s).keys = s.keys := rfl
@[simp] theorem localInput_search (s : State) : (localInput s).search = s.search := rfl
@[simp] theorem localInput_line (s : State) : (localInput s).line = s.line := rfl
@[simp] theorem localInput_census (s : State) : (localInput s).census = s.census := rfl
@[simp] theorem localInput_power (s : State) : (localInput s).power = { s.power with localAt := s.now } := rfl
@[simp] theorem localInput_store (s : State) : (localInput s).store = s.store := rfl

/-! A fault leaves (R167). -/

@[simp] theorem leaveFault_now (f : StationFault) (s : State) : (leaveFault f s).now = s.now := rfl
@[simp] theorem leaveFault_pending (f : StationFault) (s : State) : (leaveFault f s).pending = s.pending := rfl
@[simp] theorem leaveFault_freeCount (f : StationFault) (s : State) : (leaveFault f s).freeCount = s.freeCount := rfl
@[simp] theorem leaveFault_pins (f : StationFault) (s : State) : (leaveFault f s).pins = s.pins := rfl
@[simp] theorem leaveFault_addr (f : StationFault) (s : State) : (leaveFault f s).addr = s.addr := rfl
@[simp] theorem leaveFault_cfg (f : StationFault) (s : State) : (leaveFault f s).cfg = s.cfg := rfl
@[simp] theorem leaveFault_win (f : StationFault) (s : State) : (leaveFault f s).win = s.win := rfl
@[simp] theorem leaveFault_pinch (f : StationFault) (s : State) : (leaveFault f s).pinch = s.pinch := rfl
@[simp] theorem leaveFault_latch (f : StationFault) (s : State) : (leaveFault f s).latch = s.latch := rfl
@[simp] theorem leaveFault_intent (f : StationFault) (s : State) : (leaveFault f s).intent = s.intent := rfl
@[simp] theorem leaveFault_keys (f : StationFault) (s : State) : (leaveFault f s).keys = s.keys := rfl
@[simp] theorem leaveFault_search (f : StationFault) (s : State) : (leaveFault f s).search = s.search := rfl
@[simp] theorem leaveFault_line (f : StationFault) (s : State) : (leaveFault f s).line = s.line := rfl
@[simp] theorem leaveFault_power (f : StationFault) (s : State) : (leaveFault f s).power = s.power := rfl
@[simp] theorem leaveFault_store (f : StationFault) (s : State) : (leaveFault f s).store = s.store := rfl

/-! A withdrawal (R141). -/

@[simp] theorem withdraw_now (f : Payload → Bool) (s : State) : (withdraw f s).now = s.now := rfl
@[simp] theorem withdraw_pending (f : Payload → Bool) (s : State) : (withdraw f s).pending = s.pending := rfl
@[simp] theorem withdraw_freeCount (f : Payload → Bool) (s : State) : (withdraw f s).freeCount = s.freeCount := rfl
@[simp] theorem withdraw_pins (f : Payload → Bool) (s : State) : (withdraw f s).pins = s.pins := rfl
@[simp] theorem withdraw_addr (f : Payload → Bool) (s : State) : (withdraw f s).addr = s.addr := rfl
@[simp] theorem withdraw_cfg (f : Payload → Bool) (s : State) : (withdraw f s).cfg = s.cfg := rfl
@[simp] theorem withdraw_win (f : Payload → Bool) (s : State) : (withdraw f s).win = s.win := rfl
@[simp] theorem withdraw_pinch (f : Payload → Bool) (s : State) : (withdraw f s).pinch = s.pinch := rfl
@[simp] theorem withdraw_latch (f : Payload → Bool) (s : State) : (withdraw f s).latch = s.latch := rfl
@[simp] theorem withdraw_intent (f : Payload → Bool) (s : State) : (withdraw f s).intent = s.intent := rfl
@[simp] theorem withdraw_keys (f : Payload → Bool) (s : State) : (withdraw f s).keys = s.keys := rfl
@[simp] theorem withdraw_search (f : Payload → Bool) (s : State) : (withdraw f s).search = s.search := rfl
@[simp] theorem withdraw_census (f : Payload → Bool) (s : State) : (withdraw f s).census = s.census := rfl
@[simp] theorem withdraw_power (f : Payload → Bool) (s : State) : (withdraw f s).power = s.power := rfl
@[simp] theorem withdraw_store (f : Payload → Bool) (s : State) : (withdraw f s).store = s.store := rfl

/-! A slot written (R96). -/

@[simp] theorem writeSlot_now (n : Slot) (k : KeySlot) (s : State) : (writeSlot n k s).now = s.now := rfl
@[simp] theorem writeSlot_pending (n : Slot) (k : KeySlot) (s : State) : (writeSlot n k s).pending = s.pending := rfl
@[simp] theorem writeSlot_freeCount (n : Slot) (k : KeySlot) (s : State) : (writeSlot n k s).freeCount = s.freeCount := rfl
@[simp] theorem writeSlot_pins (n : Slot) (k : KeySlot) (s : State) : (writeSlot n k s).pins = s.pins := rfl
@[simp] theorem writeSlot_addr (n : Slot) (k : KeySlot) (s : State) : (writeSlot n k s).addr = s.addr := rfl
@[simp] theorem writeSlot_cfg (n : Slot) (k : KeySlot) (s : State) : (writeSlot n k s).cfg = s.cfg := rfl
@[simp] theorem writeSlot_win (n : Slot) (k : KeySlot) (s : State) : (writeSlot n k s).win = s.win := rfl
@[simp] theorem writeSlot_pinch (n : Slot) (k : KeySlot) (s : State) : (writeSlot n k s).pinch = s.pinch := rfl
@[simp] theorem writeSlot_latch (n : Slot) (k : KeySlot) (s : State) : (writeSlot n k s).latch = s.latch := rfl
@[simp] theorem writeSlot_intent (n : Slot) (k : KeySlot) (s : State) : (writeSlot n k s).intent = s.intent := rfl
@[simp] theorem writeSlot_search (n : Slot) (k : KeySlot) (s : State) : (writeSlot n k s).search = s.search := rfl
@[simp] theorem writeSlot_line (n : Slot) (k : KeySlot) (s : State) : (writeSlot n k s).line = s.line := rfl
@[simp] theorem writeSlot_census (n : Slot) (k : KeySlot) (s : State) : (writeSlot n k s).census = s.census := rfl
@[simp] theorem writeSlot_power (n : Slot) (k : KeySlot) (s : State) : (writeSlot n k s).power = s.power := rfl
@[simp] theorem writeSlot_store (n : Slot) (k : KeySlot) (s : State) : (writeSlot n k s).store = s.store := rfl

/-! An entry replaced (R83). -/

@[simp] theorem putEntry_now (e : OpenEntry) (s : State) : (putEntry e s).now = s.now := rfl
@[simp] theorem putEntry_pending (e : OpenEntry) (s : State) : (putEntry e s).pending = s.pending := rfl
@[simp] theorem putEntry_freeCount (e : OpenEntry) (s : State) : (putEntry e s).freeCount = s.freeCount := rfl
@[simp] theorem putEntry_pins (e : OpenEntry) (s : State) : (putEntry e s).pins = s.pins := rfl
@[simp] theorem putEntry_addr (e : OpenEntry) (s : State) : (putEntry e s).addr = s.addr := rfl
@[simp] theorem putEntry_cfg (e : OpenEntry) (s : State) : (putEntry e s).cfg = s.cfg := rfl
@[simp] theorem putEntry_win (e : OpenEntry) (s : State) : (putEntry e s).win = s.win := rfl
@[simp] theorem putEntry_pinch (e : OpenEntry) (s : State) : (putEntry e s).pinch = s.pinch := rfl
@[simp] theorem putEntry_latch (e : OpenEntry) (s : State) : (putEntry e s).latch = s.latch := rfl
@[simp] theorem putEntry_keys (e : OpenEntry) (s : State) : (putEntry e s).keys = s.keys := rfl
@[simp] theorem putEntry_search (e : OpenEntry) (s : State) : (putEntry e s).search = s.search := rfl
@[simp] theorem putEntry_line (e : OpenEntry) (s : State) : (putEntry e s).line = s.line := rfl
@[simp] theorem putEntry_census (e : OpenEntry) (s : State) : (putEntry e s).census = s.census := rfl
@[simp] theorem putEntry_power (e : OpenEntry) (s : State) : (putEntry e s).power = s.power := rfl
@[simp] theorem putEntry_store (e : OpenEntry) (s : State) : (putEntry e s).store = s.store := rfl

/-! An entry freed (R85). -/

@[simp] theorem removeEntry_now (t : Tag) (s : State) : (removeEntry t s).now = s.now := rfl
@[simp] theorem removeEntry_pending (t : Tag) (s : State) : (removeEntry t s).pending = s.pending := rfl
@[simp] theorem removeEntry_freeCount (t : Tag) (s : State) : (removeEntry t s).freeCount = s.freeCount := rfl
@[simp] theorem removeEntry_pins (t : Tag) (s : State) : (removeEntry t s).pins = s.pins := rfl
@[simp] theorem removeEntry_addr (t : Tag) (s : State) : (removeEntry t s).addr = s.addr := rfl
@[simp] theorem removeEntry_cfg (t : Tag) (s : State) : (removeEntry t s).cfg = s.cfg := rfl
@[simp] theorem removeEntry_win (t : Tag) (s : State) : (removeEntry t s).win = s.win := rfl
@[simp] theorem removeEntry_pinch (t : Tag) (s : State) : (removeEntry t s).pinch = s.pinch := rfl
@[simp] theorem removeEntry_latch (t : Tag) (s : State) : (removeEntry t s).latch = s.latch := rfl
@[simp] theorem removeEntry_keys (t : Tag) (s : State) : (removeEntry t s).keys = s.keys := rfl
@[simp] theorem removeEntry_search (t : Tag) (s : State) : (removeEntry t s).search = s.search := rfl
@[simp] theorem removeEntry_line (t : Tag) (s : State) : (removeEntry t s).line = s.line := rfl
@[simp] theorem removeEntry_census (t : Tag) (s : State) : (removeEntry t s).census = s.census := rfl
@[simp] theorem removeEntry_power (t : Tag) (s : State) : (removeEntry t s).power = s.power := rfl
@[simp] theorem removeEntry_store (t : Tag) (s : State) : (removeEntry t s).store = s.store := rfl

/-! Unresponsive peers (R164). -/

@[simp] theorem handOver_now (set : Stations) (s : State) : (handOver set s).now = s.now := rfl
@[simp] theorem handOver_pending (set : Stations) (s : State) : (handOver set s).pending = s.pending := rfl
@[simp] theorem handOver_freeCount (set : Stations) (s : State) : (handOver set s).freeCount = s.freeCount := rfl
@[simp] theorem handOver_pins (set : Stations) (s : State) : (handOver set s).pins = s.pins := rfl
@[simp] theorem handOver_addr (set : Stations) (s : State) : (handOver set s).addr = s.addr := rfl
@[simp] theorem handOver_cfg (set : Stations) (s : State) : (handOver set s).cfg = s.cfg := rfl
@[simp] theorem handOver_win (set : Stations) (s : State) : (handOver set s).win = s.win := rfl
@[simp] theorem handOver_pinch (set : Stations) (s : State) : (handOver set s).pinch = s.pinch := rfl
@[simp] theorem handOver_latch (set : Stations) (s : State) : (handOver set s).latch = s.latch := rfl
@[simp] theorem handOver_intent (set : Stations) (s : State) : (handOver set s).intent = s.intent := rfl
@[simp] theorem handOver_keys (set : Stations) (s : State) : (handOver set s).keys = s.keys := rfl
@[simp] theorem handOver_search (set : Stations) (s : State) : (handOver set s).search = s.search := rfl
@[simp] theorem handOver_line (set : Stations) (s : State) : (handOver set s).line = s.line := rfl
@[simp] theorem handOver_power (set : Stations) (s : State) : (handOver set s).power = s.power := rfl
@[simp] theorem handOver_store (set : Stations) (s : State) : (handOver set s).store = s.store := rfl

/-! A peer entry changed (R162). -/

@[simp] theorem setPeer_now (a : Addr) (f : Peer → Peer) (s : State) : (setPeer a f s).now = s.now := rfl
@[simp] theorem setPeer_pending (a : Addr) (f : Peer → Peer) (s : State) : (setPeer a f s).pending = s.pending := rfl
@[simp] theorem setPeer_freeCount (a : Addr) (f : Peer → Peer) (s : State) : (setPeer a f s).freeCount = s.freeCount := rfl
@[simp] theorem setPeer_pins (a : Addr) (f : Peer → Peer) (s : State) : (setPeer a f s).pins = s.pins := rfl
@[simp] theorem setPeer_addr (a : Addr) (f : Peer → Peer) (s : State) : (setPeer a f s).addr = s.addr := rfl
@[simp] theorem setPeer_cfg (a : Addr) (f : Peer → Peer) (s : State) : (setPeer a f s).cfg = s.cfg := rfl
@[simp] theorem setPeer_win (a : Addr) (f : Peer → Peer) (s : State) : (setPeer a f s).win = s.win := rfl
@[simp] theorem setPeer_pinch (a : Addr) (f : Peer → Peer) (s : State) : (setPeer a f s).pinch = s.pinch := rfl
@[simp] theorem setPeer_latch (a : Addr) (f : Peer → Peer) (s : State) : (setPeer a f s).latch = s.latch := rfl
@[simp] theorem setPeer_intent (a : Addr) (f : Peer → Peer) (s : State) : (setPeer a f s).intent = s.intent := rfl
@[simp] theorem setPeer_keys (a : Addr) (f : Peer → Peer) (s : State) : (setPeer a f s).keys = s.keys := rfl
@[simp] theorem setPeer_search (a : Addr) (f : Peer → Peer) (s : State) : (setPeer a f s).search = s.search := rfl
@[simp] theorem setPeer_line (a : Addr) (f : Peer → Peer) (s : State) : (setPeer a f s).line = s.line := rfl
@[simp] theorem setPeer_power (a : Addr) (f : Peer → Peer) (s : State) : (setPeer a f s).power = s.power := rfl
@[simp] theorem setPeer_store (a : Addr) (f : Peer → Peer) (s : State) : (setPeer a f s).store = s.store := rfl

/-! An attempt timer starts (R84). -/

@[simp] theorem startAttemptTimer_now (i : IntentFrame) (s : State) : (startAttemptTimer i s).now = s.now := rfl
@[simp] theorem startAttemptTimer_pending (i : IntentFrame) (s : State) : (startAttemptTimer i s).pending = s.pending := rfl
@[simp] theorem startAttemptTimer_freeCount (i : IntentFrame) (s : State) : (startAttemptTimer i s).freeCount = s.freeCount := rfl
@[simp] theorem startAttemptTimer_pins (i : IntentFrame) (s : State) : (startAttemptTimer i s).pins = s.pins := rfl
@[simp] theorem startAttemptTimer_addr (i : IntentFrame) (s : State) : (startAttemptTimer i s).addr = s.addr := rfl
@[simp] theorem startAttemptTimer_cfg (i : IntentFrame) (s : State) : (startAttemptTimer i s).cfg = s.cfg := rfl
@[simp] theorem startAttemptTimer_win (i : IntentFrame) (s : State) : (startAttemptTimer i s).win = s.win := rfl
@[simp] theorem startAttemptTimer_pinch (i : IntentFrame) (s : State) : (startAttemptTimer i s).pinch = s.pinch := rfl
@[simp] theorem startAttemptTimer_latch (i : IntentFrame) (s : State) : (startAttemptTimer i s).latch = s.latch := rfl
@[simp] theorem startAttemptTimer_keys (i : IntentFrame) (s : State) : (startAttemptTimer i s).keys = s.keys := rfl
@[simp] theorem startAttemptTimer_search (i : IntentFrame) (s : State) : (startAttemptTimer i s).search = s.search := rfl
@[simp] theorem startAttemptTimer_line (i : IntentFrame) (s : State) : (startAttemptTimer i s).line = s.line := rfl
@[simp] theorem startAttemptTimer_census (i : IntentFrame) (s : State) : (startAttemptTimer i s).census = s.census := rfl
@[simp] theorem startAttemptTimer_power (i : IntentFrame) (s : State) : (startAttemptTimer i s).power = s.power := rfl
@[simp] theorem startAttemptTimer_store (i : IntentFrame) (s : State) : (startAttemptTimer i s).store = s.store := rfl

/-! The line after a frame (R135). -/

@[simp] theorem endFrame_now (us : Nat) (s : State) : (endFrame us s).now = s.now := rfl
@[simp] theorem endFrame_pending (us : Nat) (s : State) : (endFrame us s).pending = s.pending := rfl
@[simp] theorem endFrame_freeCount (us : Nat) (s : State) : (endFrame us s).freeCount = s.freeCount := rfl
@[simp] theorem endFrame_pins (us : Nat) (s : State) : (endFrame us s).pins = s.pins := rfl
@[simp] theorem endFrame_addr (us : Nat) (s : State) : (endFrame us s).addr = s.addr := rfl
@[simp] theorem endFrame_cfg (us : Nat) (s : State) : (endFrame us s).cfg = s.cfg := rfl
@[simp] theorem endFrame_win (us : Nat) (s : State) : (endFrame us s).win = s.win := rfl
@[simp] theorem endFrame_pinch (us : Nat) (s : State) : (endFrame us s).pinch = s.pinch := rfl
@[simp] theorem endFrame_latch (us : Nat) (s : State) : (endFrame us s).latch = s.latch := rfl
@[simp] theorem endFrame_intent (us : Nat) (s : State) : (endFrame us s).intent = s.intent := rfl
@[simp] theorem endFrame_keys (us : Nat) (s : State) : (endFrame us s).keys = s.keys := rfl
@[simp] theorem endFrame_search (us : Nat) (s : State) : (endFrame us s).search = s.search := rfl
@[simp] theorem endFrame_line (us : Nat) (s : State) : (endFrame us s).line = { s.line with cond := .busy, freeAt := s.now + us } := rfl
@[simp] theorem endFrame_census (us : Nat) (s : State) : (endFrame us s).census = s.census := rfl
@[simp] theorem endFrame_power (us : Nat) (s : State) : (endFrame us s).power = s.power := rfl
@[simp] theorem endFrame_store (us : Nat) (s : State) : (endFrame us s).store = s.store := rfl

/-! The rise measures (R171). -/

@[simp] theorem takeMeasures_now (u : Nat) (s : State) : (takeMeasures u s).now = s.now := rfl
@[simp] theorem takeMeasures_pending (u : Nat) (s : State) : (takeMeasures u s).pending = s.pending := rfl
@[simp] theorem takeMeasures_freeCount (u : Nat) (s : State) : (takeMeasures u s).freeCount = s.freeCount := rfl
@[simp] theorem takeMeasures_pins (u : Nat) (s : State) : (takeMeasures u s).pins = s.pins := rfl
@[simp] theorem takeMeasures_addr (u : Nat) (s : State) : (takeMeasures u s).addr = s.addr := rfl
@[simp] theorem takeMeasures_cfg (u : Nat) (s : State) : (takeMeasures u s).cfg = s.cfg := rfl
@[simp] theorem takeMeasures_win (u : Nat) (s : State) : (takeMeasures u s).win = s.win := rfl
@[simp] theorem takeMeasures_pinch (u : Nat) (s : State) : (takeMeasures u s).pinch = s.pinch := rfl
@[simp] theorem takeMeasures_latch (u : Nat) (s : State) : (takeMeasures u s).latch = s.latch := rfl
@[simp] theorem takeMeasures_intent (u : Nat) (s : State) : (takeMeasures u s).intent = s.intent := rfl
@[simp] theorem takeMeasures_keys (u : Nat) (s : State) : (takeMeasures u s).keys = s.keys := rfl
@[simp] theorem takeMeasures_search (u : Nat) (s : State) : (takeMeasures u s).search = s.search := rfl
@[simp] theorem takeMeasures_line (u : Nat) (s : State) : (takeMeasures u s).line = s.line := rfl
@[simp] theorem takeMeasures_census (u : Nat) (s : State) : (takeMeasures u s).census = s.census := rfl
@[simp] theorem takeMeasures_store (u : Nat) (s : State) : (takeMeasures u s).store = s.store := rfl

/-! Auto-relock cancelled (R94). -/

@[simp] theorem cancelRelock_now (s : State) : (cancelRelock s).now = s.now := rfl
@[simp] theorem cancelRelock_pending (s : State) : (cancelRelock s).pending = s.pending := rfl
@[simp] theorem cancelRelock_freeCount (s : State) : (cancelRelock s).freeCount = s.freeCount := rfl
@[simp] theorem cancelRelock_pins (s : State) : (cancelRelock s).pins = s.pins := rfl
@[simp] theorem cancelRelock_addr (s : State) : (cancelRelock s).addr = s.addr := rfl
@[simp] theorem cancelRelock_cfg (s : State) : (cancelRelock s).cfg = s.cfg := rfl
@[simp] theorem cancelRelock_win (s : State) : (cancelRelock s).win = s.win := rfl
@[simp] theorem cancelRelock_pinch (s : State) : (cancelRelock s).pinch = s.pinch := rfl
@[simp] theorem cancelRelock_latch (s : State) : (cancelRelock s).latch = s.latch := rfl
@[simp] theorem cancelRelock_keys (s : State) : (cancelRelock s).keys = s.keys := rfl
@[simp] theorem cancelRelock_search (s : State) : (cancelRelock s).search = s.search := rfl
@[simp] theorem cancelRelock_line (s : State) : (cancelRelock s).line = s.line := rfl
@[simp] theorem cancelRelock_census (s : State) : (cancelRelock s).census = s.census := rfl
@[simp] theorem cancelRelock_power (s : State) : (cancelRelock s).power = s.power := rfl
@[simp] theorem cancelRelock_store (s : State) : (cancelRelock s).store = s.store := rfl

/-! The interval timer restarts (R158). -/

@[simp] theorem restartInterval_now (s : State) : (restartInterval s).now = s.now := rfl
@[simp] theorem restartInterval_pending (s : State) : (restartInterval s).pending = s.pending := rfl
@[simp] theorem restartInterval_freeCount (s : State) : (restartInterval s).freeCount = s.freeCount := rfl
@[simp] theorem restartInterval_pins (s : State) : (restartInterval s).pins = s.pins := rfl
@[simp] theorem restartInterval_addr (s : State) : (restartInterval s).addr = s.addr := rfl
@[simp] theorem restartInterval_cfg (s : State) : (restartInterval s).cfg = s.cfg := rfl
@[simp] theorem restartInterval_win (s : State) : (restartInterval s).win = s.win := rfl
@[simp] theorem restartInterval_pinch (s : State) : (restartInterval s).pinch = s.pinch := rfl
@[simp] theorem restartInterval_latch (s : State) : (restartInterval s).latch = s.latch := rfl
@[simp] theorem restartInterval_intent (s : State) : (restartInterval s).intent = s.intent := rfl
@[simp] theorem restartInterval_keys (s : State) : (restartInterval s).keys = s.keys := rfl
@[simp] theorem restartInterval_search (s : State) : (restartInterval s).search = s.search := rfl
@[simp] theorem restartInterval_line (s : State) : (restartInterval s).line = s.line := rfl
@[simp] theorem restartInterval_power (s : State) : (restartInterval s).power = s.power := rfl
@[simp] theorem restartInterval_store (s : State) : (restartInterval s).store = s.store := rfl

/-! The sequence returns to IDLE (R59). -/

@[simp] theorem endSequence_now (o : ReleaseOutcome) (s : State) : (endSequence o s).now = s.now := rfl
@[simp] theorem endSequence_pending (o : ReleaseOutcome) (s : State) : (endSequence o s).pending = s.pending := rfl
@[simp] theorem endSequence_freeCount (o : ReleaseOutcome) (s : State) : (endSequence o s).freeCount = s.freeCount := rfl
@[simp] theorem endSequence_pins (o : ReleaseOutcome) (s : State) : (endSequence o s).pins = s.pins := rfl
@[simp] theorem endSequence_addr (o : ReleaseOutcome) (s : State) : (endSequence o s).addr = s.addr := rfl
@[simp] theorem endSequence_cfg (o : ReleaseOutcome) (s : State) : (endSequence o s).cfg = s.cfg := rfl
@[simp] theorem endSequence_win (o : ReleaseOutcome) (s : State) : (endSequence o s).win = s.win := rfl
@[simp] theorem endSequence_pinch (o : ReleaseOutcome) (s : State) : (endSequence o s).pinch = s.pinch := rfl
@[simp] theorem endSequence_intent (o : ReleaseOutcome) (s : State) : (endSequence o s).intent = s.intent := rfl
@[simp] theorem endSequence_keys (o : ReleaseOutcome) (s : State) : (endSequence o s).keys = s.keys := rfl
@[simp] theorem endSequence_search (o : ReleaseOutcome) (s : State) : (endSequence o s).search = s.search := rfl
@[simp] theorem endSequence_line (o : ReleaseOutcome) (s : State) : (endSequence o s).line = s.line := rfl
@[simp] theorem endSequence_census (o : ReleaseOutcome) (s : State) : (endSequence o s).census = s.census := rfl
@[simp] theorem endSequence_power (o : ReleaseOutcome) (s : State) : (endSequence o s).power = s.power := rfl
@[simp] theorem endSequence_store (o : ReleaseOutcome) (s : State) : (endSequence o s).store = s.store := rfl

/-! A damaged frame (R151). -/

@[simp] theorem countDamaged_now (s : State) : (countDamaged s).now = s.now := rfl
@[simp] theorem countDamaged_pending (s : State) : (countDamaged s).pending = s.pending := rfl
@[simp] theorem countDamaged_freeCount (s : State) : (countDamaged s).freeCount = s.freeCount := rfl
@[simp] theorem countDamaged_pins (s : State) : (countDamaged s).pins = s.pins := rfl
@[simp] theorem countDamaged_addr (s : State) : (countDamaged s).addr = s.addr := rfl
@[simp] theorem countDamaged_cfg (s : State) : (countDamaged s).cfg = s.cfg := rfl
@[simp] theorem countDamaged_win (s : State) : (countDamaged s).win = s.win := rfl
@[simp] theorem countDamaged_pinch (s : State) : (countDamaged s).pinch = s.pinch := rfl
@[simp] theorem countDamaged_latch (s : State) : (countDamaged s).latch = s.latch := rfl
@[simp] theorem countDamaged_intent (s : State) : (countDamaged s).intent = s.intent := rfl
@[simp] theorem countDamaged_keys (s : State) : (countDamaged s).keys = s.keys := rfl
@[simp] theorem countDamaged_search (s : State) : (countDamaged s).search = s.search := rfl
@[simp] theorem countDamaged_line (s : State) : (countDamaged s).line = { s.line with damaged := satInc s.line.damaged } := rfl
@[simp] theorem countDamaged_census (s : State) : (countDamaged s).census = s.census := rfl
@[simp] theorem countDamaged_power (s : State) : (countDamaged s).power = s.power := rfl
@[simp] theorem countDamaged_store (s : State) : (countDamaged s).store = s.store := rfl

/-! A motion start (R26). -/

@[simp] theorem motionStart_now (r : Request) (s : State) : (motionStart r s).now = s.now := rfl
@[simp] theorem motionStart_pending (r : Request) (s : State) : (motionStart r s).pending = s.pending := rfl
@[simp] theorem motionStart_freeCount (r : Request) (s : State) : (motionStart r s).freeCount = s.freeCount := rfl
@[simp] theorem motionStart_pins (r : Request) (s : State) : (motionStart r s).pins = s.pins := rfl
@[simp] theorem motionStart_addr (r : Request) (s : State) : (motionStart r s).addr = s.addr := rfl
@[simp] theorem motionStart_cfg (r : Request) (s : State) : (motionStart r s).cfg = s.cfg := rfl
@[simp] theorem motionStart_latch (r : Request) (s : State) : (motionStart r s).latch = s.latch := rfl
@[simp] theorem motionStart_intent (r : Request) (s : State) : (motionStart r s).intent = s.intent := rfl
@[simp] theorem motionStart_keys (r : Request) (s : State) : (motionStart r s).keys = s.keys := rfl
@[simp] theorem motionStart_search (r : Request) (s : State) : (motionStart r s).search = s.search := rfl
@[simp] theorem motionStart_line (r : Request) (s : State) : (motionStart r s).line = s.line := rfl
@[simp] theorem motionStart_census (r : Request) (s : State) : (motionStart r s).census = s.census := rfl
@[simp] theorem motionStart_power (r : Request) (s : State) : (motionStart r s).power = s.power := rfl
@[simp] theorem motionStart_store (r : Request) (s : State) : (motionStart r s).store = s.store := rfl

/-! A place of the fault set (R165). -/

@[simp] theorem setFault_now (f : StationFault) (d : Option Byte) (s : State) : (setFault f d s).now = s.now := rfl
@[simp] theorem setFault_pending (f : StationFault) (d : Option Byte) (s : State) : (setFault f d s).pending = s.pending := rfl
@[simp] theorem setFault_freeCount (f : StationFault) (d : Option Byte) (s : State) : (setFault f d s).freeCount = s.freeCount := rfl
@[simp] theorem setFault_pins (f : StationFault) (d : Option Byte) (s : State) : (setFault f d s).pins = s.pins := rfl
@[simp] theorem setFault_addr (f : StationFault) (d : Option Byte) (s : State) : (setFault f d s).addr = s.addr := rfl
@[simp] theorem setFault_cfg (f : StationFault) (d : Option Byte) (s : State) : (setFault f d s).cfg = s.cfg := rfl
@[simp] theorem setFault_win (f : StationFault) (d : Option Byte) (s : State) : (setFault f d s).win = s.win := rfl
@[simp] theorem setFault_pinch (f : StationFault) (d : Option Byte) (s : State) : (setFault f d s).pinch = s.pinch := rfl
@[simp] theorem setFault_latch (f : StationFault) (d : Option Byte) (s : State) : (setFault f d s).latch = s.latch := rfl
@[simp] theorem setFault_intent (f : StationFault) (d : Option Byte) (s : State) : (setFault f d s).intent = s.intent := rfl
@[simp] theorem setFault_keys (f : StationFault) (d : Option Byte) (s : State) : (setFault f d s).keys = s.keys := rfl
@[simp] theorem setFault_search (f : StationFault) (d : Option Byte) (s : State) : (setFault f d s).search = s.search := rfl
@[simp] theorem setFault_line (f : StationFault) (d : Option Byte) (s : State) : (setFault f d s).line = s.line := rfl
@[simp] theorem setFault_power (f : StationFault) (d : Option Byte) (s : State) : (setFault f d s).power = s.power := rfl
@[simp] theorem setFault_store (f : StationFault) (d : Option Byte) (s : State) : (setFault f d s).store = s.store := rfl

/-! An id leaves the queue (R113). -/

@[simp] theorem unqueueRecord_now (r : RecordId) (s : State) : (unqueueRecord r s).now = s.now := rfl
@[simp] theorem unqueueRecord_pending (r : RecordId) (s : State) : (unqueueRecord r s).pending = s.pending := rfl
@[simp] theorem unqueueRecord_freeCount (r : RecordId) (s : State) : (unqueueRecord r s).freeCount = s.freeCount := rfl
@[simp] theorem unqueueRecord_pins (r : RecordId) (s : State) : (unqueueRecord r s).pins = s.pins := rfl
@[simp] theorem unqueueRecord_addr (r : RecordId) (s : State) : (unqueueRecord r s).addr = s.addr := rfl
@[simp] theorem unqueueRecord_cfg (r : RecordId) (s : State) : (unqueueRecord r s).cfg = s.cfg := rfl
@[simp] theorem unqueueRecord_win (r : RecordId) (s : State) : (unqueueRecord r s).win = s.win := rfl
@[simp] theorem unqueueRecord_pinch (r : RecordId) (s : State) : (unqueueRecord r s).pinch = s.pinch := rfl
@[simp] theorem unqueueRecord_latch (r : RecordId) (s : State) : (unqueueRecord r s).latch = s.latch := rfl
@[simp] theorem unqueueRecord_intent (r : RecordId) (s : State) : (unqueueRecord r s).intent = s.intent := rfl
@[simp] theorem unqueueRecord_keys (r : RecordId) (s : State) : (unqueueRecord r s).keys = s.keys := rfl
@[simp] theorem unqueueRecord_search (r : RecordId) (s : State) : (unqueueRecord r s).search = s.search := rfl
@[simp] theorem unqueueRecord_line (r : RecordId) (s : State) : (unqueueRecord r s).line = s.line := rfl
@[simp] theorem unqueueRecord_census (r : RecordId) (s : State) : (unqueueRecord r s).census = s.census := rfl
@[simp] theorem unqueueRecord_power (r : RecordId) (s : State) : (unqueueRecord r s).power = s.power := rfl

/-! The flush reply reported (R198). -/

@[simp] theorem replyReported_now (s : State) : (replyReported s).now = s.now := rfl
@[simp] theorem replyReported_pending (s : State) : (replyReported s).pending = s.pending := rfl
@[simp] theorem replyReported_freeCount (s : State) : (replyReported s).freeCount = s.freeCount := rfl
@[simp] theorem replyReported_pins (s : State) : (replyReported s).pins = s.pins := rfl
@[simp] theorem replyReported_addr (s : State) : (replyReported s).addr = s.addr := rfl
@[simp] theorem replyReported_cfg (s : State) : (replyReported s).cfg = s.cfg := rfl
@[simp] theorem replyReported_win (s : State) : (replyReported s).win = s.win := rfl
@[simp] theorem replyReported_pinch (s : State) : (replyReported s).pinch = s.pinch := rfl
@[simp] theorem replyReported_latch (s : State) : (replyReported s).latch = s.latch := rfl
@[simp] theorem replyReported_intent (s : State) : (replyReported s).intent = s.intent := rfl
@[simp] theorem replyReported_keys (s : State) : (replyReported s).keys = s.keys := rfl
@[simp] theorem replyReported_search (s : State) : (replyReported s).search = s.search := rfl
@[simp] theorem replyReported_line (s : State) : (replyReported s).line = s.line := rfl
@[simp] theorem replyReported_census (s : State) : (replyReported s).census = s.census := rfl
@[simp] theorem replyReported_power (s : State) : (replyReported s).power = s.power := rfl

/-! A claim abandoned (R126). -/

@[simp] theorem abandonClaim_now (s : State) : (abandonClaim s).now = s.now := rfl
@[simp] theorem abandonClaim_pending (s : State) : (abandonClaim s).pending = s.pending := rfl
@[simp] theorem abandonClaim_freeCount (s : State) : (abandonClaim s).freeCount = s.freeCount := rfl
@[simp] theorem abandonClaim_pins (s : State) : (abandonClaim s).pins = s.pins := rfl
@[simp] theorem abandonClaim_addr (s : State) : (abandonClaim s).addr = s.addr := rfl
@[simp] theorem abandonClaim_cfg (s : State) : (abandonClaim s).cfg = s.cfg := rfl
@[simp] theorem abandonClaim_win (s : State) : (abandonClaim s).win = s.win := rfl
@[simp] theorem abandonClaim_pinch (s : State) : (abandonClaim s).pinch = s.pinch := rfl
@[simp] theorem abandonClaim_latch (s : State) : (abandonClaim s).latch = s.latch := rfl
@[simp] theorem abandonClaim_intent (s : State) : (abandonClaim s).intent = s.intent := rfl
@[simp] theorem abandonClaim_keys (s : State) : (abandonClaim s).keys = s.keys := rfl
@[simp] theorem abandonClaim_search (s : State) : (abandonClaim s).search = s.search := rfl
@[simp] theorem abandonClaim_census (s : State) : (abandonClaim s).census = s.census := rfl
@[simp] theorem abandonClaim_power (s : State) : (abandonClaim s).power = s.power := rfl
@[simp] theorem abandonClaim_store (s : State) : (abandonClaim s).store = s.store := rfl

/-! The sense in reset (R183). -/

@[simp] theorem senseInReset_now (u : Nat) (s : State) : (senseInReset u s).now = s.now := rfl
@[simp] theorem senseInReset_pending (u : Nat) (s : State) : (senseInReset u s).pending = s.pending := rfl
@[simp] theorem senseInReset_freeCount (u : Nat) (s : State) : (senseInReset u s).freeCount = s.freeCount := rfl
@[simp] theorem senseInReset_pins (u : Nat) (s : State) : (senseInReset u s).pins = { s.pins with supplySense := u } := rfl
@[simp] theorem senseInReset_addr (u : Nat) (s : State) : (senseInReset u s).addr = s.addr := rfl
@[simp] theorem senseInReset_cfg (u : Nat) (s : State) : (senseInReset u s).cfg = s.cfg := rfl
@[simp] theorem senseInReset_win (u : Nat) (s : State) : (senseInReset u s).win = s.win := rfl
@[simp] theorem senseInReset_pinch (u : Nat) (s : State) : (senseInReset u s).pinch = s.pinch := rfl
@[simp] theorem senseInReset_latch (u : Nat) (s : State) : (senseInReset u s).latch = s.latch := rfl
@[simp] theorem senseInReset_intent (u : Nat) (s : State) : (senseInReset u s).intent = s.intent := rfl
@[simp] theorem senseInReset_keys (u : Nat) (s : State) : (senseInReset u s).keys = s.keys := rfl
@[simp] theorem senseInReset_search (u : Nat) (s : State) : (senseInReset u s).search = s.search := rfl
@[simp] theorem senseInReset_line (u : Nat) (s : State) : (senseInReset u s).line = s.line := rfl
@[simp] theorem senseInReset_census (u : Nat) (s : State) : (senseInReset u s).census = s.census := rfl
@[simp] theorem senseInReset_store (u : Nat) (s : State) : (senseInReset u s).store = s.store := rfl

/-! A press followed (R92). -/

@[simp] theorem followPress_now (k : IntentKind) (s : State) : (followPress k s).now = s.now := by unfold followPress; split <;> rfl
@[simp] theorem followPress_pending (k : IntentKind) (s : State) : (followPress k s).pending = s.pending := by unfold followPress; split <;> rfl
@[simp] theorem followPress_freeCount (k : IntentKind) (s : State) : (followPress k s).freeCount = s.freeCount := by unfold followPress; split <;> rfl
@[simp] theorem followPress_pins (k : IntentKind) (s : State) : (followPress k s).pins = s.pins := by unfold followPress; split <;> rfl
@[simp] theorem followPress_addr (k : IntentKind) (s : State) : (followPress k s).addr = s.addr := by unfold followPress; split <;> rfl
@[simp] theorem followPress_cfg (k : IntentKind) (s : State) : (followPress k s).cfg = s.cfg := by unfold followPress; split <;> rfl
@[simp] theorem followPress_win (k : IntentKind) (s : State) : (followPress k s).win = s.win := by unfold followPress; split <;> rfl
@[simp] theorem followPress_pinch (k : IntentKind) (s : State) : (followPress k s).pinch = s.pinch := by unfold followPress; split <;> rfl
@[simp] theorem followPress_latch (k : IntentKind) (s : State) : (followPress k s).latch = s.latch := by unfold followPress; split <;> rfl
@[simp] theorem followPress_keys (k : IntentKind) (s : State) : (followPress k s).keys = s.keys := by unfold followPress; split <;> rfl
@[simp] theorem followPress_search (k : IntentKind) (s : State) : (followPress k s).search = s.search := by unfold followPress; split <;> rfl
@[simp] theorem followPress_line (k : IntentKind) (s : State) : (followPress k s).line = s.line := by unfold followPress; split <;> rfl
@[simp] theorem followPress_census (k : IntentKind) (s : State) : (followPress k s).census = s.census := by unfold followPress; split <;> rfl
@[simp] theorem followPress_power (k : IntentKind) (s : State) : (followPress k s).power = s.power := by unfold followPress; split <;> rfl
@[simp] theorem followPress_store (k : IntentKind) (s : State) : (followPress k s).store = s.store := by unfold followPress; split <;> rfl

/-! The recovery measure (R149). -/

@[simp] theorem restartRecovery_now (t : Nat) (s : State) : (restartRecovery t s).now = s.now := by unfold restartRecovery; split <;> rfl
@[simp] theorem restartRecovery_pending (t : Nat) (s : State) : (restartRecovery t s).pending = s.pending := by unfold restartRecovery; split <;> rfl
@[simp] theorem restartRecovery_freeCount (t : Nat) (s : State) : (restartRecovery t s).freeCount = s.freeCount := by unfold restartRecovery; split <;> rfl
@[simp] theorem restartRecovery_pins (t : Nat) (s : State) : (restartRecovery t s).pins = s.pins := by unfold restartRecovery; split <;> rfl
@[simp] theorem restartRecovery_addr (t : Nat) (s : State) : (restartRecovery t s).addr = s.addr := by unfold restartRecovery; split <;> rfl
@[simp] theorem restartRecovery_cfg (t : Nat) (s : State) : (restartRecovery t s).cfg = s.cfg := by unfold restartRecovery; split <;> rfl
@[simp] theorem restartRecovery_win (t : Nat) (s : State) : (restartRecovery t s).win = s.win := by unfold restartRecovery; split <;> rfl
@[simp] theorem restartRecovery_pinch (t : Nat) (s : State) : (restartRecovery t s).pinch = s.pinch := by unfold restartRecovery; split <;> rfl
@[simp] theorem restartRecovery_latch (t : Nat) (s : State) : (restartRecovery t s).latch = s.latch := by unfold restartRecovery; split <;> rfl
@[simp] theorem restartRecovery_intent (t : Nat) (s : State) : (restartRecovery t s).intent = s.intent := by unfold restartRecovery; split <;> rfl
@[simp] theorem restartRecovery_keys (t : Nat) (s : State) : (restartRecovery t s).keys = s.keys := by unfold restartRecovery; split <;> rfl
@[simp] theorem restartRecovery_search (t : Nat) (s : State) : (restartRecovery t s).search = s.search := by unfold restartRecovery; split <;> rfl
@[simp] theorem restartRecovery_census (t : Nat) (s : State) : (restartRecovery t s).census = s.census := by unfold restartRecovery; split <;> rfl
@[simp] theorem restartRecovery_power (t : Nat) (s : State) : (restartRecovery t s).power = s.power := by unfold restartRecovery; split <;> rfl
@[simp] theorem restartRecovery_store (t : Nat) (s : State) : (restartRecovery t s).store = s.store := by unfold restartRecovery; split <;> rfl

/-! An id queued (R188). -/

@[simp] theorem queueRecord_now (r : RecordId) (s : State) : (queueRecord r s).now = s.now := by unfold queueRecord; split <;> rfl
@[simp] theorem queueRecord_pending (r : RecordId) (s : State) : (queueRecord r s).pending = s.pending := by unfold queueRecord; split <;> rfl
@[simp] theorem queueRecord_freeCount (r : RecordId) (s : State) : (queueRecord r s).freeCount = s.freeCount := by unfold queueRecord; split <;> rfl
@[simp] theorem queueRecord_pins (r : RecordId) (s : State) : (queueRecord r s).pins = s.pins := by unfold queueRecord; split <;> rfl
@[simp] theorem queueRecord_addr (r : RecordId) (s : State) : (queueRecord r s).addr = s.addr := by unfold queueRecord; split <;> rfl
@[simp] theorem queueRecord_cfg (r : RecordId) (s : State) : (queueRecord r s).cfg = s.cfg := by unfold queueRecord; split <;> rfl
@[simp] theorem queueRecord_win (r : RecordId) (s : State) : (queueRecord r s).win = s.win := by unfold queueRecord; split <;> rfl
@[simp] theorem queueRecord_pinch (r : RecordId) (s : State) : (queueRecord r s).pinch = s.pinch := by unfold queueRecord; split <;> rfl
@[simp] theorem queueRecord_latch (r : RecordId) (s : State) : (queueRecord r s).latch = s.latch := by unfold queueRecord; split <;> rfl
@[simp] theorem queueRecord_intent (r : RecordId) (s : State) : (queueRecord r s).intent = s.intent := by unfold queueRecord; split <;> rfl
@[simp] theorem queueRecord_keys (r : RecordId) (s : State) : (queueRecord r s).keys = s.keys := by unfold queueRecord; split <;> rfl
@[simp] theorem queueRecord_search (r : RecordId) (s : State) : (queueRecord r s).search = s.search := by unfold queueRecord; split <;> rfl
@[simp] theorem queueRecord_line (r : RecordId) (s : State) : (queueRecord r s).line = s.line := by unfold queueRecord; split <;> rfl
@[simp] theorem queueRecord_census (r : RecordId) (s : State) : (queueRecord r s).census = s.census := by unfold queueRecord; split <;> rfl
@[simp] theorem queueRecord_power (r : RecordId) (s : State) : (queueRecord r s).power = s.power := by unfold queueRecord; split <;> rfl

/-! A slot's record queued (R113). -/

@[simp] theorem queueKey_now (n : Slot) (s : State) : (queueKey n s).now = s.now := by simp [queueKey]
@[simp] theorem queueKey_pending (n : Slot) (s : State) : (queueKey n s).pending = s.pending := by simp [queueKey]
@[simp] theorem queueKey_freeCount (n : Slot) (s : State) : (queueKey n s).freeCount = s.freeCount := by simp [queueKey]
@[simp] theorem queueKey_pins (n : Slot) (s : State) : (queueKey n s).pins = s.pins := by simp [queueKey]
@[simp] theorem queueKey_addr (n : Slot) (s : State) : (queueKey n s).addr = s.addr := by simp [queueKey]
@[simp] theorem queueKey_cfg (n : Slot) (s : State) : (queueKey n s).cfg = s.cfg := by simp [queueKey]
@[simp] theorem queueKey_win (n : Slot) (s : State) : (queueKey n s).win = s.win := by simp [queueKey]
@[simp] theorem queueKey_pinch (n : Slot) (s : State) : (queueKey n s).pinch = s.pinch := by simp [queueKey]
@[simp] theorem queueKey_latch (n : Slot) (s : State) : (queueKey n s).latch = s.latch := by simp [queueKey]
@[simp] theorem queueKey_intent (n : Slot) (s : State) : (queueKey n s).intent = s.intent := by simp [queueKey]
@[simp] theorem queueKey_search (n : Slot) (s : State) : (queueKey n s).search = s.search := by simp [queueKey]
@[simp] theorem queueKey_line (n : Slot) (s : State) : (queueKey n s).line = s.line := by simp [queueKey]
@[simp] theorem queueKey_census (n : Slot) (s : State) : (queueKey n s).census = s.census := by simp [queueKey]
@[simp] theorem queueKey_power (n : Slot) (s : State) : (queueKey n s).power = s.power := by simp [queueKey]

/-! The clock (log 1). -/

@[simp] theorem advanceTo_pending (t : Nat) (s : State) : (advanceTo t s).pending = s.pending := by unfold advanceTo; split <;> rfl
@[simp] theorem advanceTo_freeCount (t : Nat) (s : State) : (advanceTo t s).freeCount = s.freeCount := by unfold advanceTo; split <;> rfl
@[simp] theorem advanceTo_pins (t : Nat) (s : State) : (advanceTo t s).pins = s.pins := by unfold advanceTo; split <;> rfl
@[simp] theorem advanceTo_addr (t : Nat) (s : State) : (advanceTo t s).addr = s.addr := by unfold advanceTo; split <;> rfl
@[simp] theorem advanceTo_cfg (t : Nat) (s : State) : (advanceTo t s).cfg = s.cfg := by unfold advanceTo; split <;> rfl
@[simp] theorem advanceTo_pinch (t : Nat) (s : State) : (advanceTo t s).pinch = s.pinch := by unfold advanceTo; split <;> rfl
@[simp] theorem advanceTo_latch (t : Nat) (s : State) : (advanceTo t s).latch = s.latch := by unfold advanceTo; split <;> rfl
@[simp] theorem advanceTo_intent (t : Nat) (s : State) : (advanceTo t s).intent = s.intent := by unfold advanceTo; split <;> rfl
@[simp] theorem advanceTo_keys (t : Nat) (s : State) : (advanceTo t s).keys = s.keys := by unfold advanceTo; split <;> rfl
@[simp] theorem advanceTo_search (t : Nat) (s : State) : (advanceTo t s).search = s.search := by unfold advanceTo; split <;> rfl
@[simp] theorem advanceTo_census (t : Nat) (s : State) : (advanceTo t s).census = s.census := by unfold advanceTo; split <;> rfl
@[simp] theorem advanceTo_power (t : Nat) (s : State) : (advanceTo t s).power = s.power := by unfold advanceTo; split <;> rfl
@[simp] theorem advanceTo_store (t : Nat) (s : State) : (advanceTo t s).store = s.store := by unfold advanceTo; split <;> rfl

/-! The clock (log 1). -/

@[simp] theorem advance_pending (t : Nat) (s : State) : (advance t s).pending = s.pending := advanceTo_pending _ s
@[simp] theorem advance_freeCount (t : Nat) (s : State) : (advance t s).freeCount = s.freeCount := advanceTo_freeCount _ s
@[simp] theorem advance_pins (t : Nat) (s : State) : (advance t s).pins = s.pins := advanceTo_pins _ s
@[simp] theorem advance_addr (t : Nat) (s : State) : (advance t s).addr = s.addr := advanceTo_addr _ s
@[simp] theorem advance_cfg (t : Nat) (s : State) : (advance t s).cfg = s.cfg := advanceTo_cfg _ s
@[simp] theorem advance_pinch (t : Nat) (s : State) : (advance t s).pinch = s.pinch := advanceTo_pinch _ s
@[simp] theorem advance_latch (t : Nat) (s : State) : (advance t s).latch = s.latch := advanceTo_latch _ s
@[simp] theorem advance_intent (t : Nat) (s : State) : (advance t s).intent = s.intent := advanceTo_intent _ s
@[simp] theorem advance_keys (t : Nat) (s : State) : (advance t s).keys = s.keys := advanceTo_keys _ s
@[simp] theorem advance_search (t : Nat) (s : State) : (advance t s).search = s.search := advanceTo_search _ s
@[simp] theorem advance_census (t : Nat) (s : State) : (advance t s).census = s.census := advanceTo_census _ s
@[simp] theorem advance_power (t : Nat) (s : State) : (advance t s).power = s.power := advanceTo_power _ s
@[simp] theorem advance_store (t : Nat) (s : State) : (advance t s).store = s.store := advanceTo_store _ s

/-! The own epoch raised (R73). -/

@[simp] theorem raiseEpoch_now (e : Epoch) (s : State) : (raiseEpoch e s).now = s.now := by unfold raiseEpoch; split <;> rfl
@[simp] theorem raiseEpoch_pending (e : Epoch) (s : State) : (raiseEpoch e s).pending = s.pending := by unfold raiseEpoch; split <;> rfl
@[simp] theorem raiseEpoch_freeCount (e : Epoch) (s : State) : (raiseEpoch e s).freeCount = s.freeCount := by unfold raiseEpoch; split <;> rfl
@[simp] theorem raiseEpoch_pins (e : Epoch) (s : State) : (raiseEpoch e s).pins = s.pins := by unfold raiseEpoch; split <;> rfl
@[simp] theorem raiseEpoch_addr (e : Epoch) (s : State) : (raiseEpoch e s).addr = s.addr := by unfold raiseEpoch; split <;> rfl
@[simp] theorem raiseEpoch_cfg (e : Epoch) (s : State) : (raiseEpoch e s).cfg = s.cfg := by unfold raiseEpoch; split <;> rfl
@[simp] theorem raiseEpoch_win (e : Epoch) (s : State) : (raiseEpoch e s).win = s.win := by unfold raiseEpoch; split <;> rfl
@[simp] theorem raiseEpoch_pinch (e : Epoch) (s : State) : (raiseEpoch e s).pinch = s.pinch := by unfold raiseEpoch; split <;> rfl
@[simp] theorem raiseEpoch_latch (e : Epoch) (s : State) : (raiseEpoch e s).latch = s.latch := by unfold raiseEpoch; split <;> rfl
@[simp] theorem raiseEpoch_keys (e : Epoch) (s : State) : (raiseEpoch e s).keys = s.keys := by unfold raiseEpoch; split <;> rfl
@[simp] theorem raiseEpoch_search (e : Epoch) (s : State) : (raiseEpoch e s).search = s.search := by unfold raiseEpoch; split <;> rfl
@[simp] theorem raiseEpoch_line (e : Epoch) (s : State) : (raiseEpoch e s).line = s.line := by unfold raiseEpoch; split <;> rfl
@[simp] theorem raiseEpoch_census (e : Epoch) (s : State) : (raiseEpoch e s).census = s.census := by unfold raiseEpoch; split <;> rfl
@[simp] theorem raiseEpoch_power (e : Epoch) (s : State) : (raiseEpoch e s).power = s.power := by unfold raiseEpoch; split <;> rfl
@[simp] theorem raiseEpoch_store (e : Epoch) (s : State) : (raiseEpoch e s).store = s.store := by unfold raiseEpoch; split <;> rfl

/-! A frame heard (R163). -/

@[simp] theorem heard_now (a : Addr) (s : State) : (heard a s).now = s.now := by unfold heard; split <;> rfl
@[simp] theorem heard_pending (a : Addr) (s : State) : (heard a s).pending = s.pending := by unfold heard; split <;> rfl
@[simp] theorem heard_freeCount (a : Addr) (s : State) : (heard a s).freeCount = s.freeCount := by unfold heard; split <;> rfl
@[simp] theorem heard_pins (a : Addr) (s : State) : (heard a s).pins = s.pins := by unfold heard; split <;> rfl
@[simp] theorem heard_addr (a : Addr) (s : State) : (heard a s).addr = s.addr := by unfold heard; split <;> rfl
@[simp] theorem heard_cfg (a : Addr) (s : State) : (heard a s).cfg = s.cfg := by unfold heard; split <;> rfl
@[simp] theorem heard_win (a : Addr) (s : State) : (heard a s).win = s.win := by unfold heard; split <;> rfl
@[simp] theorem heard_pinch (a : Addr) (s : State) : (heard a s).pinch = s.pinch := by unfold heard; split <;> rfl
@[simp] theorem heard_latch (a : Addr) (s : State) : (heard a s).latch = s.latch := by unfold heard; split <;> rfl
@[simp] theorem heard_intent (a : Addr) (s : State) : (heard a s).intent = s.intent := by unfold heard; split <;> rfl
@[simp] theorem heard_keys (a : Addr) (s : State) : (heard a s).keys = s.keys := by unfold heard; split <;> rfl
@[simp] theorem heard_search (a : Addr) (s : State) : (heard a s).search = s.search := by unfold heard; split <;> rfl
@[simp] theorem heard_line (a : Addr) (s : State) : (heard a s).line = s.line := by unfold heard; split <;> rfl
@[simp] theorem heard_power (a : Addr) (s : State) : (heard a s).power = s.power := by unfold heard; split <;> rfl
@[simp] theorem heard_store (a : Addr) (s : State) : (heard a s).store = s.store := by unfold heard; split <;> rfl

/-! The clock leaves the window and the line interface alone but for the thermal figure and the line condition. -/

@[simp] theorem heatAfter_p (w : Window) (t : Nat) : (heatAfter w t).p = w.p := by
  unfold heatAfter; split <;> rfl
@[simp] theorem heatAfter_norm (w : Window) (t : Nat) : (heatAfter w t).norm = w.norm := by
  unfold heatAfter; split <;> rfl
@[simp] theorem heatAfter_drift (w : Window) (t : Nat) : (heatAfter w t).drift = w.drift := by
  unfold heatAfter; split <;> rfl
@[simp] theorem heatAfter_motion (w : Window) (t : Nat) : (heatAfter w t).motion = w.motion := by
  unfold heatAfter; split <;> rfl
@[simp] theorem heatAfter_motor (w : Window) (t : Nat) : (heatAfter w t).motor = w.motor := by
  unfold heatAfter; split <;> rfl
@[simp] theorem heatAfter_req (w : Window) (t : Nat) : (heatAfter w t).req = w.req := by
  unfold heatAfter; split <;> rfl
@[simp] theorem heatAfter_pulses (w : Window) (t : Nat) : (heatAfter w t).pulses = w.pulses := by
  unfold heatAfter; split <;> rfl
@[simp] theorem heatAfter_startStalls (w : Window) (t : Nat) : (heatAfter w t).startStalls = w.startStalls := by
  unfold heatAfter; split <;> rfl
@[simp] theorem heatAfter_motorStartAt (w : Window) (t : Nat) : (heatAfter w t).motorStartAt = w.motorStartAt := by
  unfold heatAfter; split <;> rfl
@[simp] theorem heatAfter_lastPulseAt (w : Window) (t : Nat) : (heatAfter w t).lastPulseAt = w.lastPulseAt := by
  unfold heatAfter; split <;> rfl
@[simp] theorem heatAfter_pauseEnd (w : Window) (t : Nat) : (heatAfter w t).pauseEnd = w.pauseEnd := by
  unfold heatAfter; split <;> rfl
@[simp] theorem heatAfter_brakeEnd (w : Window) (t : Nat) : (heatAfter w t).brakeEnd = w.brakeEnd := by
  unfold heatAfter; split <;> rfl
@[simp] theorem heatAfter_pauseLimit (w : Window) (t : Nat) : (heatAfter w t).pauseLimit = w.pauseLimit := by
  unfold heatAfter; split <;> rfl
@[simp] theorem heatAfter_coast (w : Window) (t : Nat) : (heatAfter w t).coast = w.coast := by
  unfold heatAfter; split <;> rfl
@[simp] theorem heatAfter_clamped (w : Window) (t : Nat) : (heatAfter w t).clamped = w.clamped := by
  unfold heatAfter; split <;> rfl
@[simp] theorem heatAfter_dropOwed (w : Window) (t : Nat) : (heatAfter w t).dropOwed = w.dropOwed := by
  unfold heatAfter; split <;> rfl
@[simp] theorem heatAfter_drop (w : Window) (t : Nat) : (heatAfter w t).drop = w.drop := by
  unfold heatAfter; split <;> rfl
@[simp] theorem heatAfter_dropAnswer (w : Window) (t : Nat) : (heatAfter w t).dropAnswer = w.dropAnswer := by
  unfold heatAfter; split <;> rfl
@[simp] theorem heatAfter_recMoving (w : Window) (t : Nat) : (heatAfter w t).recMoving = w.recMoving := by
  unfold heatAfter; split <;> rfl
@[simp] theorem heatAfter_pinchAt (w : Window) (t : Nat) : (heatAfter w t).pinchAt = w.pinchAt := by
  unfold heatAfter; split <;> rfl
@[simp] theorem heatAfter_packEntry (w : Window) (t : Nat) : (heatAfter w t).packEntry = w.packEntry := by
  unfold heatAfter; split <;> rfl
@[simp] theorem heatAfter_packAt (w : Window) (t : Nat) : (heatAfter w t).packAt = w.packAt := by
  unfold heatAfter; split <;> rfl
@[simp] theorem heatAfter_pack (w : Window) (t : Nat) : (heatAfter w t).pack = w.pack := by
  unfold heatAfter; split <;> rfl
@[simp] theorem heatAfter_packQueuedAt (w : Window) (t : Nat) : (heatAfter w t).packQueuedAt = w.packQueuedAt := by
  unfold heatAfter; split <;> rfl
@[simp] theorem heatAfter_overrideMotion (w : Window) (t : Nat) : (heatAfter w t).overrideMotion = w.overrideMotion := by
  unfold heatAfter; split <;> rfl
@[simp] theorem heatAfter_lastEnd (w : Window) (t : Nat) : (heatAfter w t).lastEnd = w.lastEnd := by
  unfold heatAfter; split <;> rfl
@[simp] theorem advanceTo_win_p (t : Nat) (s : State) : (advanceTo t s).win.p = s.win.p := by
  unfold advanceTo; split <;> simp
@[simp] theorem advanceTo_win_norm (t : Nat) (s : State) : (advanceTo t s).win.norm = s.win.norm := by
  unfold advanceTo; split <;> simp
@[simp] theorem advanceTo_win_drift (t : Nat) (s : State) : (advanceTo t s).win.drift = s.win.drift := by
  unfold advanceTo; split <;> simp
@[simp] theorem advanceTo_win_motion (t : Nat) (s : State) : (advanceTo t s).win.motion = s.win.motion := by
  unfold advanceTo; split <;> simp
@[simp] theorem advanceTo_win_motor (t : Nat) (s : State) : (advanceTo t s).win.motor = s.win.motor := by
  unfold advanceTo; split <;> simp
@[simp] theorem advanceTo_win_req (t : Nat) (s : State) : (advanceTo t s).win.req = s.win.req := by
  unfold advanceTo; split <;> simp
@[simp] theorem advanceTo_win_pulses (t : Nat) (s : State) : (advanceTo t s).win.pulses = s.win.pulses := by
  unfold advanceTo; split <;> simp
@[simp] theorem advanceTo_win_startStalls (t : Nat) (s : State) : (advanceTo t s).win.startStalls = s.win.startStalls := by
  unfold advanceTo; split <;> simp
@[simp] theorem advanceTo_win_motorStartAt (t : Nat) (s : State) : (advanceTo t s).win.motorStartAt = s.win.motorStartAt := by
  unfold advanceTo; split <;> simp
@[simp] theorem advanceTo_win_lastPulseAt (t : Nat) (s : State) : (advanceTo t s).win.lastPulseAt = s.win.lastPulseAt := by
  unfold advanceTo; split <;> simp
@[simp] theorem advanceTo_win_pauseEnd (t : Nat) (s : State) : (advanceTo t s).win.pauseEnd = s.win.pauseEnd := by
  unfold advanceTo; split <;> simp
@[simp] theorem advanceTo_win_brakeEnd (t : Nat) (s : State) : (advanceTo t s).win.brakeEnd = s.win.brakeEnd := by
  unfold advanceTo; split <;> simp
@[simp] theorem advanceTo_win_pauseLimit (t : Nat) (s : State) : (advanceTo t s).win.pauseLimit = s.win.pauseLimit := by
  unfold advanceTo; split <;> simp
@[simp] theorem advanceTo_win_coast (t : Nat) (s : State) : (advanceTo t s).win.coast = s.win.coast := by
  unfold advanceTo; split <;> simp
@[simp] theorem advanceTo_win_clamped (t : Nat) (s : State) : (advanceTo t s).win.clamped = s.win.clamped := by
  unfold advanceTo; split <;> simp
@[simp] theorem advanceTo_win_dropOwed (t : Nat) (s : State) : (advanceTo t s).win.dropOwed = s.win.dropOwed := by
  unfold advanceTo; split <;> simp
@[simp] theorem advanceTo_win_drop (t : Nat) (s : State) : (advanceTo t s).win.drop = s.win.drop := by
  unfold advanceTo; split <;> simp
@[simp] theorem advanceTo_win_dropAnswer (t : Nat) (s : State) : (advanceTo t s).win.dropAnswer = s.win.dropAnswer := by
  unfold advanceTo; split <;> simp
@[simp] theorem advanceTo_win_recMoving (t : Nat) (s : State) : (advanceTo t s).win.recMoving = s.win.recMoving := by
  unfold advanceTo; split <;> simp
@[simp] theorem advanceTo_win_pinchAt (t : Nat) (s : State) : (advanceTo t s).win.pinchAt = s.win.pinchAt := by
  unfold advanceTo; split <;> simp
@[simp] theorem advanceTo_win_packEntry (t : Nat) (s : State) : (advanceTo t s).win.packEntry = s.win.packEntry := by
  unfold advanceTo; split <;> simp
@[simp] theorem advanceTo_win_packAt (t : Nat) (s : State) : (advanceTo t s).win.packAt = s.win.packAt := by
  unfold advanceTo; split <;> simp
@[simp] theorem advanceTo_win_pack (t : Nat) (s : State) : (advanceTo t s).win.pack = s.win.pack := by
  unfold advanceTo; split <;> simp
@[simp] theorem advanceTo_win_packQueuedAt (t : Nat) (s : State) : (advanceTo t s).win.packQueuedAt = s.win.packQueuedAt := by
  unfold advanceTo; split <;> simp
@[simp] theorem advanceTo_win_overrideMotion (t : Nat) (s : State) : (advanceTo t s).win.overrideMotion = s.win.overrideMotion := by
  unfold advanceTo; split <;> simp
@[simp] theorem advanceTo_win_lastEnd (t : Nat) (s : State) : (advanceTo t s).win.lastEnd = s.win.lastEnd := by
  unfold advanceTo; split <;> simp
@[simp] theorem lineAt_frameAt (l : Line) (t : Nat) : (lineAt l t).frameAt = l.frameAt := by
  unfold lineAt; split <;> rfl
@[simp] theorem lineAt_holdFrom (l : Line) (t : Nat) : (lineAt l t).holdFrom = l.holdFrom := by
  unfold lineAt; split <;> rfl
@[simp] theorem lineAt_state (l : Line) (t : Nat) : (lineAt l t).state = l.state := by
  unfold lineAt; split <;> rfl
@[simp] theorem lineAt_recoverAt (l : Line) (t : Nat) : (lineAt l t).recoverAt = l.recoverAt := by
  unfold lineAt; split <;> rfl
@[simp] theorem lineAt_tx (l : Line) (t : Nat) : (lineAt l t).tx = l.tx := by
  unfold lineAt; split <;> rfl
@[simp] theorem lineAt_nextAge (l : Line) (t : Nat) : (lineAt l t).nextAge = l.nextAge := by
  unfold lineAt; split <;> rfl
@[simp] theorem lineAt_rx (l : Line) (t : Nat) : (lineAt l t).rx = l.rx := by
  unfold lineAt; split <;> rfl
@[simp] theorem lineAt_gateOpen (l : Line) (t : Nat) : (lineAt l t).gateOpen = l.gateOpen := by
  unfold lineAt; split <;> rfl
@[simp] theorem lineAt_ext (l : Line) (t : Nat) : (lineAt l t).ext = l.ext := by
  unfold lineAt; split <;> rfl
@[simp] theorem lineAt_extEnd (l : Line) (t : Nat) : (lineAt l t).extEnd = l.extEnd := by
  unfold lineAt; split <;> rfl
@[simp] theorem lineAt_failures (l : Line) (t : Nat) : (lineAt l t).failures = l.failures := by
  unfold lineAt; split <;> rfl
@[simp] theorem lineAt_damaged (l : Line) (t : Nat) : (lineAt l t).damaged = l.damaged := by
  unfold lineAt; split <;> rfl
@[simp] theorem lineAt_overruns (l : Line) (t : Nat) : (lineAt l t).overruns = l.overruns := by
  unfold lineAt; split <;> rfl
@[simp] theorem lineAt_txFails (l : Line) (t : Nat) : (lineAt l t).txFails = l.txFails := by
  unfold lineAt; split <;> rfl
@[simp] theorem lineAt_markWanted (l : Line) (t : Nat) : (lineAt l t).markWanted = l.markWanted := by
  unfold lineAt; split <;> rfl
@[simp] theorem lineAt_markEnd (l : Line) (t : Nat) : (lineAt l t).markEnd = l.markEnd := by
  unfold lineAt; split <;> rfl
@[simp] theorem lineAt_freeAt (l : Line) (t : Nat) : (lineAt l t).freeAt = l.freeAt := by
  unfold lineAt; split <;> rfl
@[simp] theorem advanceTo_line_frameAt (t : Nat) (s : State) : (advanceTo t s).line.frameAt = s.line.frameAt := by
  unfold advanceTo; split <;> simp
@[simp] theorem advanceTo_line_holdFrom (t : Nat) (s : State) : (advanceTo t s).line.holdFrom = s.line.holdFrom := by
  unfold advanceTo; split <;> simp
@[simp] theorem advanceTo_line_state (t : Nat) (s : State) : (advanceTo t s).line.state = s.line.state := by
  unfold advanceTo; split <;> simp
@[simp] theorem advanceTo_line_recoverAt (t : Nat) (s : State) : (advanceTo t s).line.recoverAt = s.line.recoverAt := by
  unfold advanceTo; split <;> simp
@[simp] theorem advanceTo_line_tx (t : Nat) (s : State) : (advanceTo t s).line.tx = s.line.tx := by
  unfold advanceTo; split <;> simp
@[simp] theorem advanceTo_line_nextAge (t : Nat) (s : State) : (advanceTo t s).line.nextAge = s.line.nextAge := by
  unfold advanceTo; split <;> simp
@[simp] theorem advanceTo_line_rx (t : Nat) (s : State) : (advanceTo t s).line.rx = s.line.rx := by
  unfold advanceTo; split <;> simp
@[simp] theorem advanceTo_line_gateOpen (t : Nat) (s : State) : (advanceTo t s).line.gateOpen = s.line.gateOpen := by
  unfold advanceTo; split <;> simp
@[simp] theorem advanceTo_line_ext (t : Nat) (s : State) : (advanceTo t s).line.ext = s.line.ext := by
  unfold advanceTo; split <;> simp
@[simp] theorem advanceTo_line_extEnd (t : Nat) (s : State) : (advanceTo t s).line.extEnd = s.line.extEnd := by
  unfold advanceTo; split <;> simp
@[simp] theorem advanceTo_line_failures (t : Nat) (s : State) : (advanceTo t s).line.failures = s.line.failures := by
  unfold advanceTo; split <;> simp
@[simp] theorem advanceTo_line_damaged (t : Nat) (s : State) : (advanceTo t s).line.damaged = s.line.damaged := by
  unfold advanceTo; split <;> simp
@[simp] theorem advanceTo_line_overruns (t : Nat) (s : State) : (advanceTo t s).line.overruns = s.line.overruns := by
  unfold advanceTo; split <;> simp
@[simp] theorem advanceTo_line_txFails (t : Nat) (s : State) : (advanceTo t s).line.txFails = s.line.txFails := by
  unfold advanceTo; split <;> simp
@[simp] theorem advanceTo_line_markWanted (t : Nat) (s : State) : (advanceTo t s).line.markWanted = s.line.markWanted := by
  unfold advanceTo; split <;> simp
@[simp] theorem advanceTo_line_markEnd (t : Nat) (s : State) : (advanceTo t s).line.markEnd = s.line.markEnd := by
  unfold advanceTo; split <;> simp
@[simp] theorem advanceTo_line_freeAt (t : Nat) (s : State) : (advanceTo t s).line.freeAt = s.line.freeAt := by
  unfold advanceTo; split <;> simp

/-- The clock never goes back. -/
@[simp] theorem advanceTo_now (t : Nat) (s : State) : (advanceTo t s).now = max t s.now := by
  unfold advanceTo; split <;> simp <;> omega

end Sys2Proof.Machine
end

