-- ==== Sys2Proof/Tests/Slice0.lean ====
section
/-! SUPPORT. Tests: the well-formedness smoke, figures worked out in the spec, and for every statement with hypotheses
a witness that meets them, clause by clause. Each test names its source in the spec. -/

namespace Sys2Proof.Tests

-- One test after another: tests that wait for the kernel side by side hold a thread each.
set_option Elab.async false

open Sys2Proof.Machine

/-! ## Well-formedness: an ill-formed term for each check -/

/-- Tag 15 is not given to an issued intent (R76). -/
theorem test_wellFormed_tag : (Instr.attemptTimerExpiry 15).wellFormed = false := by decide

/-- A frame has at most 17 octets of 10 bits and 8 end bits after its sync (R133). -/
theorem test_wellFormed_reception : (Instr.frameReception (List.replicate 179 true)).wellFormed = false := by decide +kernel

theorem test_wellFormed_filterFrame : (Instr.wakeFilterFrame (List.replicate 179 true)).wellFormed = false := by decide +kernel

theorem test_wellFormed_buttonFrame : (Instr.buttonFrame (List.replicate 256 0#8)).wellFormed = false := by decide +kernel

theorem test_wellFormed_passiveReply : (Instr.passiveReply (List.replicate 256 0#8)).wellFormed = false := by decide +kernel

/-- The longest record has 70 octets of content, its id and two check octets (R203). -/
theorem test_wellFormed_writeAttempt : (Instr.writeAttemptEnd (List.replicate 74 0#8) true).wellFormed = false := by
  decide +kernel

/-- The longest forms pass. -/
theorem test_wellFormed_longest : (Instr.attemptTimerExpiry 14).wellFormed = true
    ∧ (Instr.frameReception (List.replicate 178 true)).wellFormed = true
    ∧ (Instr.writeAttemptEnd (List.replicate 73 0#8) true).wellFormed = true ∧ Instr.stall.wellFormed = true := by
  decide +kernel

/-! ## Stations -/

/-- An awake front-left station at 1 s with NORMALISED glass at 400, nothing queued and the start hold over. -/
def station : State :=
  { State.reset with
    now := 1000000
    win := { State.reset.win with norm := true, p := 400 }
    intent := { State.reset.intent with startHold := none }
    line := { State.reset.line with tx := [], cond := .free, gateOpen := true } }

/-- A station with a motion under way. -/
def moving (d : Direction) (src : Source) (m : Mode) (s : State) : State :=
  { s with
    win := { s.win with
      motion := .moving, motor := .driven d, req := some { source := src, dir := d, mode := m }, pulses := 40
      recMoving := true, lastPulseAt := 990000, motorStartAt := 500000 }
    pinch := { s.pinch with history := List.replicate 8 12800 } }

/-- The glass at another position. -/
def at_ (p : Int) (s : State) : State := { s with win := { s.win with p := p } }

/-- The frame `f` at the head of the receive queue, ended 1 ms ago. -/
def hearing (f : Frame) (s : State) : State := { s with line := { s.line with rx := [.frame f 999000] } }

/-- A frame from an origin at the class of its kind. -/
def frameOf (o : Addr) (p : Payload) : Frame := { cls := p.cls, origin := o, payload := p }

def supplied (v : Supply) (s : State) : State := { s with power := { s.power with supply := v } }

def latched (l : LockState) (s : State) : State := { s with latch := { s.latch with lock := l } }

def addressed (a : Addr) (s : State) : State := { s with addr := a }

def faulted (c : LineCause) (s : State) : State := { s with line := { s.line with state := .lineFault c } }

/-- Every peer in one presence, having announced. -/
def peersIn (x : Presence) (s : State) : State :=
  { s with census := { s.census with peers := Vector.replicate 8 { s.census.peers[0] with presence := x, announced := true } } }

/-- A station with a receiver. -/
def receiving (s : State) : State := { s with cfg := { s.cfg with caps := { s.cfg.caps with receiver := true } } }

/-- A block changed. -/
def winOf (f : Window → Window) (s : State) : State := { s with win := f s.win }
def pinchOf (f : Pinch → Pinch) (s : State) : State := { s with pinch := f s.pinch }
def latchOf (f : Latch → Latch) (s : State) : State := { s with latch := f s.latch }
def intentOf (f : Intents → Intents) (s : State) : State := { s with intent := f s.intent }
def searchOf (f : Search → Search) (s : State) : State := { s with search := f s.search }
def lineOf (f : Line → Line) (s : State) : State := { s with line := f s.line }
def powerOf (f : Power → Power) (s : State) : State := { s with power := f s.power }
def storeOf (f : Store → Store) (s : State) : State := { s with store := f s.store }
def censusOf (f : Census → Census) (s : State) : State := { s with census := f s.census }
def pinsOf (f : Pins → Pins) (s : State) : State := { s with pins := f s.pins }

/-- The state after a command. -/
def after (c : Instr) (s : State) : State :=
  match exec c s with
  | .next t => t
  | _ => s

/-! ## Figures worked out in the spec -/

/-- 5.3, worked computation: the code of the frame, and counter distance 1. -/
theorem test_code : codeOf 0x5A3C0F21#32 0x1B2D4E6F#32 (buttonMessage 0x001F4A#24 .unlock) = 0xD690AD#24
    ∧ counterDistance 0x001F49#24 0x001F4A#24 = 1 := by decide

/-- Slot 2 of the worked computation of 5.3. -/
def key2 : KeySlot :=
  let k : KeySlot :=
    { resetSlot 2 with
      state := .paired, identity := 0x4C6B13E9#32, sHi := 0x5A3C0F21#32, sLo := 0x1B2D4E6F#32, counter := 0x001F49#24 }
  { k with check := slotCover 2 k }

def keyed (s : State) : State :=
  receiving { s with keys := { s.keys with slots := s.keys.slots.set 2 key2 } }

/-- 11.3: the button frame of 5.3, byte by byte. -/
def unlockBytes : List Byte :=
  [0x12#8, 0x4C#8, 0x6B#8, 0x13#8, 0xE9#8, 0x00#8, 0x1F#8, 0x4A#8, 0xD6#8, 0x90#8, 0xAD#8]

/-- 5.3: the frame is accepted, the last counter becomes 8010 and the key record is queued. -/
theorem test_buttonFrame : (after (.buttonFrame unlockBytes) (keyed station)).keys.slots[(2 : Slot)].counter = 8010#24
    ∧ RecordId.key 2 ∈ (after (.buttonFrame unlockBytes) (keyed station)).store.queue := by decide +kernel

/-- 5.3: with code 0xD690AC it counts one bad code, and its counter is not looked at. -/
theorem test_buttonFrame_badCode :
    let t := after (.buttonFrame (unlockBytes.set 10 0xAC#8)) (keyed station)
    t.keys.slots[(2 : Slot)].badCodes = 1 ∧ t.keys.slots[(2 : Slot)].counter = 8009#24 ∧ t.keys.bad = 1 := by
  decide +kernel

/-- R106: a bad code at the very end of the 60 s is the 8th of its window; 1 µs later one begins a new window. -/
theorem test_badCode_atTheEnd :
    (countBad 61000000 { key2 with windowStart := some 1000000, badCodes := 7 }).state = .suspended
      ∧ (countBad 61000001 { key2 with windowStart := some 1000000, badCodes := 7 }).badCodes = 1 := by decide

/-- 5.4, falling out of step: the counter check row by row, from last counter 8010. -/
theorem test_counterRows :
    let k := { key2 with counter := 8010#24 }
    accepts k 8540#24 = false ∧ accepts { k with resync := some 8540#24 } 8541#24 = true
      ∧ accepts { k with resync := some 8540#24 } 8542#24 = true
      ∧ accepts { k with resync := some 8540#24 } 8546#24 = false ∧ counterDistance 8010#24 48010#24 = 40000
      ∧ accepts { k with counter := 8541#24 } 8541#24 = false ∧ accepts { k with counter := 8541#24 } 8543#24 = true := by
  decide

/-- 11.1: the header of an urgent ANNOUNCEMENT from RR. -/
theorem test_header : headerOctets 2 3 12 8 = [0x4C#8, 0x60#8, 0x88#8] := by decide

/-- 2.2, worked case: B truncated, L and the effective threshold of each row. -/
theorem test_pinch_figures :
    backEmf resetSettings 12800 820 = 10975 ∧ loadFigure resetSettings 12800 820 = 1825
      ∧ backEmf resetSettings 12800 980 = 9183 ∧ loadFigure resetSettings 12800 980 = 3617
      ∧ loadFigure resetSettings 12800 1010 = 3890 ∧ loadFigure resetSettings 12800 1060 = 4310
      ∧ threshold (moving .up .global .auto station) = 450
      ∧ threshold (supplied .low (moving .up .localSwitch .manual station)) = 750 := by decide

/-- 2.2, cases at the limits: a short period and a high supply; zones 10, 16 and 17 of R30 and of the cases. -/
theorem test_pinch_limits : loadFigure resetSettings 12800 600 = 0 ∧ loadFigure resetSettings (pulseSupply 21500) 3000 = 16383
    ∧ zoneOf resetSettings 450 = 16 ∧ zoneOf resetSettings 478 = 16 ∧ zoneOf resetSettings 479 = 17
    ∧ zoneOf resetSettings 506 = 17 ∧ zoneOf resetSettings 282 = 10 ∧ zoneOf resetSettings 28 = 0
    ∧ zoneOf resetSettings 932 = 31 := by decide

/-- The close of 2.2 at a position with a count, zone 16 learned with 1760. -/
def closing (p : Int) (c : Nat) : State :=
  let s := at_ p (moving .up .global .auto station)
  { s with pinch := { s.pinch with count := c, profile := s.pinch.profile.set 16 (zoneEntry 16 true 1760) } }

/-- 2.2: the pulse to p 467 is the third, a pinch: the REVERSAL to 667 waits and a WINDOW REPORT is queued. -/
theorem test_hallPulse_pinch :
    let t := after (.hallPulse 12800 1060) (closing 468 2)
    t.win.p = 467 ∧ t.win.motion = .braking ∧ t.pinch.count = 0 ∧ t.pinch.reversals.length = 1
      ∧ t.win.req = some { source := .reversal, dir := .down, mode := .toPosition 667 }
      ∧ Queued (.windowReport false false .pinched 467#16) t := by decide +kernel

/-- 2.2: the pulses to p 470 and 469 leave the count 0 and 1. -/
theorem test_hallPulse_count : (after (.hallPulse 12800 820) (closing 471 0)).pinch.count = 0
    ∧ (after (.hallPulse 12800 980) (closing 470 0)).pinch.count = 1 := by decide +kernel

/-- 2.7, learning one zone: rising and falling load, and the damaged zone. -/
theorem test_learning :
    learnedValue 16 (zoneEntry 16 true 1760) { sum := 53071, count := 29, mark := false } = 1768
      ∧ learnedValue 16 (zoneEntry 16 true 1760) { sum := 49310, count := 29, mark := false } = 1753
      ∧ learnedValue 17 (zoneEntry 17 false 0) { sum := 52920, count := 28, mark := false } = 1890 := by decide

/-- The station of the engine start of 9.1 at a supply state, with the sample of 20 ms before. -/
def starting (v : Supply) (old : Nat) : State :=
  let s := supplied v station
  { s with power := { s.power with sampleAt := 999000, samples := List.replicate 20 old } }

/-- 9.1, engine start: 1800 mV in 20 ms is a fast fall to CRANK, at 5800 mV the state is UNDER. -/
theorem test_supplySample : (after (.supplySample 10600) (starting .normal 12400)).power.supply = .crank
    ∧ (after (.supplySample 10600) (starting .normal 12400)).power.rise9300 = some 1000000
    ∧ (after (.supplySample 5800) (starting .crank 7400)).power.supply = .under := by decide +kernel

/-- 9.1, engine start: at 110 ms the state goes from UNDER to LOW in one step. -/
theorem test_supplyRise :
    let s := starting .under 8200
    (after .supplyRise { s with power := { s.power with rise6300 := some 950000, rise7800 := some 950000
                                                        rise9300 := none } }).power.supply = .low := by decide +kernel

/-- 1.7, entry with a drop and the rise: the pull at p 12 starts DROP DOWN TO 40; its first pulse sets drop owed. -/
theorem test_outerHandle_drop :
    let t := after (.outerHandlePull true) (at_ 12 station)
    t.win.req = some { source := .drop, dir := .down, mode := .toPosition 40 } ∧ t.win.motion = .starting
      ∧ t.latch.seq = .dropping ∧ (after (.hallPulse 12800 3000) t).win.dropOwed = some 12
      ∧ (after (.hallPulse 12800 3000) t).win.p = 13 := by decide +kernel

/-- 1.7: the drop's pulse at p 40 ends the motion, and the release follows. -/
theorem test_hallPulse_dropDone :
    let s := at_ 39 (moving .down .drop (.toPosition 40) station)
    let t := after (.hallPulse 12800 3000)
      { s with
        win := { s.win with dropOwed := some 12, drop := some { limitAt := 1700000, grantP := 12, waiting := false
                                                                timed := false, timedLeft := 150000, timedFrom := none } }
        latch := { s.latch with seq := .dropping, kind := some .entry, dropOut := true } }
    t.win.p = 40 ∧ t.win.motion = .idle ∧ t.latch.seq = .releasing ∧ t.latch.attempts = 1 ∧ t.win.dropOwed = some 12 := by
  decide +kernel

/-- R73: an epoch is later by 1..32767, and not by 32768. -/
theorem test_epochLater : epochLater 1#16 0#16 = true ∧ epochLater 32767#16 0#16 = true
    ∧ epochLater 32768#16 0#16 = false ∧ epochLater 0#16 65535#16 = true ∧ epochLater 5#16 5#16 = false := by decide

/-- R187: the defaults of the configuration, and the values after reset that the chapters give. -/
theorem test_reset : State.reset.cfg.travel = 900 ∧ State.reset.cfg.intervalMs = 200
    ∧ State.reset.census.faults[4] = some 255#8 ∧ State.reset.win.norm = false ∧ State.reset.latch.lock = .unlocked
    ∧ State.reset.intent.epoch = 0#16 ∧ State.reset.pending = [] := by decide

/-- The state after reset is what the end of a power-on reset with a blank store leaves, at time 0. -/
theorem test_reset_boot :
    let b := boot (holdReset State.reset)
    b.cfg = State.reset.cfg ∧ b.win = State.reset.win ∧ b.pinch = State.reset.pinch ∧ b.latch = State.reset.latch
      ∧ b.intent = State.reset.intent ∧ b.keys = State.reset.keys ∧ b.search = State.reset.search
      ∧ b.line = State.reset.line ∧ b.power = State.reset.power ∧ b.store = State.reset.store
      ∧ b.census.peers = State.reset.census.peers := by decide +kernel

/-- 10.3: after item 37 the patrol index returns to 0. -/
theorem test_patrol_wraps :
    (after .patrolStep { station with store := { station.store with patrol := 37 } }).store.patrol = 0 := by
  decide +kernel

/-- 7.1: a SEARCH CLAIM has 70 bit times, a frame of 12 data octets 190 (R133). -/
theorem test_bitTimes : frameBitTimes 0 = 70 ∧ frameBitTimes 12 = 190 := by decide

/-- R1: the count does not pass -32. -/
theorem test_hallPulse_low : (after (.hallPulse 12800 3000) (at_ (-32) (moving .up .localSwitch .manual
    { station with win := { station.win with norm := false } }))).win.p = -32 := by decide +kernel

/-! ## Witnesses: states and operands that meet the hypotheses of each statement, clause by clause -/

theorem witness_StepRunsTheFrontCommandOrIdles :
    (∃ (c : Instr) (rest : List Instr) (s : State), s.pending = c :: rest ∧ step s = exec c { s with pending := rest })
      ∧ station.pending = [] :=
  ⟨⟨.stall, [.brakeEnd], { station with pending := [.stall, .brakeEnd] }, rfl, rfl⟩, by decide⟩

/-- The bounds the figures' invariants rest on, at the reset state. -/
theorem witness_EveryStepKeeps : ∃ s t : State, LineBounds s ∧ TableBounds s ∧ MotionFits s ∧ ReleaseFits s
    ∧ QueueDistinct s ∧ FiguresInRange s ∧ step s = .next t :=
  ⟨State.reset, advance 1000 State.reset, by decide, by decide,
    ⟨by decide, fun _ h => (nomatch h : False).elim, by decide, fun h => (nomatch h : False).elim,
      fun h => (nomatch h : False).elim, by decide, by decide⟩,
    by decide, by decide, by decide, rfl⟩

/-- A station in SLEEP PENDING whose 100 ms end 50 ms from now, long after its last local input. -/
def dozing : State :=
  let s := peersIn .lost station
  { s with
    now := 9000000
    census := { s.census with announced := true }
    power := { s.power with state := .sleepPending, going := true, quietEnd := some 9050000 } }

/-- A station in SLEEP. -/
def asleep : State := { dozing with power := { dozing.power with state := .sleep, going := false, quietEnd := none } }

/-- An own ANNOUNCEMENT waits as the 100 ms end. -/
def waitingToSleep : State :=
  { dozing with line := { dozing.line with tx := [
      { frame := { cls := 5, origin := 0, payload := .announcement resetAnnounced }, age := 3, errors := 0, inTx := false }] } }

theorem witness_SleepIsEnteredWhenReadyAndEndedByWakesAndResets :
    (∃ (c : Instr) (s t : State), AnnouncementsHaveJobs s ∧ exec c s = .next t ∧ s.power.state ≠ .sleep
        ∧ t.power.state = .sleep)
      ∧ (∃ (c : Instr) (s t : State), AnnouncementsHaveJobs s ∧ exec c s = .next t ∧ s.power.state = .sleep
        ∧ isReset c = false ∧ mayWake c = false)
      ∧ ∃ s t : State, AnnouncementsHaveJobs s ∧ MotionFits s ∧ s.power.state = .sleep ∧ SleepFits s ∧ step s = .next t
        ∧ t.power.state = .sleep :=
  ⟨⟨.sleepQuietTimerExpiry, waitingToSleep, after .sleepQuietTimerExpiry waitingToSleep, by decide, rfl, by decide,
      by decide +kernel⟩,
    ⟨.wakeFilterRun 700, asleep, after (.wakeFilterRun 700) asleep, by decide, rfl, by decide, by decide, by decide⟩,
    ⟨{ asleep with pending := [.coastWindowEnd] }, after .coastWindowEnd asleep,
      by decide, ⟨by decide, fun _ h => (nomatch h : False).elim, by decide, fun h => (nomatch h : False).elim,
        fun h => (nomatch h : False).elim, by decide, by decide⟩, rfl, by decide, rfl, by decide +kernel⟩⟩

/-- R178: a coast window is no timer that runs on through SLEEP, so that its end queues no record there. -/
theorem test_coastEnd_asleep :
    (after .coastWindowEnd (winOf (fun x => { x with coast := some (9000000, .up) }) asleep)).store.queue = [] := by
  decide +kernel

/-- A key higher than the last-applied one, and a command with no intent held. -/
theorem witness_LastAppliedKeysRiseByHigherKeys :
    keyHigher ⟨1#16, 1⟩ (lastKey .latch station.intent) = true
      ∧ ∃ (c : Instr) (s t : State), s.intent.held = none ∧ (∀ r ∈ s.search.record, r.stage ≠ .interiorClaiming)
        ∧ exec c s = .next t ∧ isReset c = false :=
  ⟨by decide, .stall, station, after .stall station, by decide, by decide, rfl, by decide⟩

theorem witness_EveryStepKeepsTheReleaseSequenceAndHalted :
    ∃ (c : Instr) (s t : State), ReleaseFits s ∧ exec c s = .next t ∧ s.latch.seq = .halted ∧ c ≠ .clearHalt
      ∧ isReset c = false :=
  ⟨.innerHandlePull, { station with latch := { station.latch with seq := .halted } },
    after .innerHandlePull { station with latch := { station.latch with seq := .halted } }, by decide, rfl, by decide,
    by decide, by decide⟩

/-- The longest data, and a refusal with tag 15. -/
theorem witness_FrameBitsReadBack :
    (Payload.serviceRequest { bytes := List.replicate 12 0#8 }).defined = true
      ∧ (Payload.intent { kind := .windowsStop, tag := 14, epoch := 65535#16, targets := 31#5, cause := .service
                          notice := some { identity := 1#32, counter := 2#24 } }).defined = true
      ∧ (frameOf 7 (.serviceReply 1#8 8#8 (.status 13#8 (List.replicate 8 3#8)))).payload.defined = true := by decide

theorem witness_StoredRecordsReadBack : (settingsRanges resetSettings).all id = true ∧ key2.state = .paired
    ∧ (List.replicate RecordId.profile.size 0#8).length = RecordId.profile.size
    ∧ -32768 ≤ (at_ (-32) station).win.p ∧ (at_ 2080 station).win.p ≤ 32767
    ∧ ({ key2 with state := .suspended } : KeySlot).state = .suspended ∧ (resetSlot 0).state = .empty
    ∧ (∀ z : Zone, (Vector.replicate 32 { resetZone 0 with learned := true, value := 16383 })[z].value ≤ 65535)
    ∧ ∀ q ∈ ({ station.win with dropOwed := some (-32) }).dropOwed, -32768 ≤ q ∧ q ≤ 32767 := by
  refine ⟨by decide, by decide, by decide, by decide, by decide, by decide, by decide, by decide, ?_⟩
  intro q h
  cases h
  decide

/-! ### Glass travel and pinch protection -/

theorem witness_HallPulseMovesTheCount :
    (∃ (s : State) (d : Direction) (u : Nat), s.power.heldSince = none ∧ u = 4500 ∧ s.win.motor = .driven d ∧ s.win.p = 932)
      ∧ (∃ s : State, Calm s ∧ isDriven s.win.motor = false ∧ s.win.coast = none)
      ∧ (∃ s : State, Calm s ∧ isDriven s.win.motor = false ∧ s.win.coast = some (999999, .up)
          ∧ 999999 < (advanceTo (s.win.lastPulseAt + 1000) s).now)
      ∧ ∃ s : State, Calm s ∧ isDriven s.win.motor = false ∧ s.win.coast = some (1000000, .up)
          ∧ (advanceTo (s.win.lastPulseAt + 1000) s).now ≤ 1000000 ∧ -32 ≤ s.win.p - 1
          ∧ s.win.p - 1 ≤ (s.cfg.travel : Int) + 32 :=
  ⟨⟨at_ 932 (moving .down .service .auto station), .down, 4500, by decide⟩, ⟨station, by decide⟩,
    ⟨{ station with win := { station.win with coast := some (999999, .up) } }, by decide⟩,
    ⟨at_ (-31) { station with win := { station.win with coast := some (1000000, .up) } }, by decide⟩⟩

/-- At the lowest evaluated position, and with a count of 1. -/
theorem witness_EvaluatedPulseMovesThePinchCount : ∃ (s : State) (r : Request) (u : Nat), Calm s ∧
    s.cfg.caps.window = true ∧ s.win.norm = true ∧ s.win.motor = .driven .up ∧ s.win.motion = .moving ∧
    s.win.req = some r ∧ r.source ≠ .drop ∧ satisfied r (s.win.p - 1) = false ∧ 16 ≤ s.win.pulses ∧
    (s.cfg.sealZone : Int) < s.win.p - 1 ∧ s.win.p - 1 ≤ (s.cfg.travel : Int) + 32 ∧ s.latch.position = .closed ∧
    ¬ (levelState u).rank < s.power.supply.rank ∧ transientAt s.pinch.history (pulseU u) = false ∧
    s.pinch.count + 1 ≠ 3 :=
  ⟨closing 26 1, ⟨.global, .up, .auto⟩, 12800, by decide⟩

/-- Closing at p 468 with the entry of zone 16 altered under its check word. -/
def spoiltZone : State :=
  let e : ZoneEntry := { learned := true, value := 4000, check := { zone := 16, learned := true, value := 1760 } }
  pinchOf (fun x => { x with profile := x.profile.set 16 e }) (closing 468 2)

/-- R31, R42: the altered zone is unlearned with its record queued, and the pulse is weighed against R_fb, 2000. -/
theorem witness_EvaluatedPulse_spoilt : Calm spoiltZone ∧ spoiltZone.pinch.profile[(16 : Zone)].learned = true
    ∧ zoneGood 16 spoiltZone.pinch.profile[(16 : Zone)] = false
    ∧ (after (.hallPulse 12800 1060) spoiltZone).pinch.profile[(16 : Zone)] = resetZone 16
    ∧ RecordId.profile ∈ (after (.hallPulse 12800 1060) spoiltZone).store.queue
    ∧ (after (.hallPulse 12800 1060) spoiltZone).win.motion = .braking := by decide +kernel

/-- 2.2: at p 468 the period of 1060 gives L 4310 and an excess above 450 in zone 16, so a count of 2 goes to 3. -/
theorem witness_EvaluatedPulse_third : Calm (closing 468 2) ∧ (closing 468 2).win.req = some ⟨.global, .up, .auto⟩ ∧
    satisfied ⟨.global, .up, .auto⟩ 467 = false ∧ zoneOf (closing 468 2).cfg 467 = 16 ∧
    zoneGood 16 (closing 468 2).pinch.profile[(16 : Zone)] = true ∧
    transientAt (closing 468 2).pinch.history (pulseU 12800) = false ∧ (levelState 12800) = .normal ∧
    (450 : Int) < (min 16383 (12800 - (closing 468 2).cfg.kspeed / pulseT 1060) : Nat) - 1760 ∧
    (closing 468 2).win.overrideMotion = false ∧ (closing 468 2).win.drop = none ∧ (closing 468 2).line.state = .ok ∧
    Roomy 4 (closing 468 2) := by and_intros <;> decide

/-- What every clause on a pulse that is not weighed assumes. -/
abbrev Pulsing (u : Nat) (r : Request) (s : State) : Prop :=
  Calm s ∧ 4500 ≤ u ∧ s.power.supply.rank ≤ (levelState u).rank ∧ s.win.req = some r ∧ s.win.motor = .driven r.dir
    ∧ s.win.drop = none ∧ s.pinch.count ≤ 2

/-- DOWN at its target and one pulse short of it, and at the bound; UP at a target, at the frameless stop (the 16th
pulse) and UNNORMALISED; a sample 601 mV below the oldest; past each bound, and past one again. -/
theorem witness_PulseEndsGuardsOrClampsAMotion :
    (Pulsing 12800 ⟨.service, .down, .toPosition 600⟩ (at_ 599 (moving .down .service (.toPosition 600) station))
      ∧ Pulsing 12800 ⟨.service, .down, .toPosition 600⟩ (at_ 598 (moving .down .service (.toPosition 600) station))
      ∧ Pulsing 12800 ⟨.global, .down, .auto⟩ (at_ 931 (moving .down .global .auto station)))
      ∧ (Pulsing 12800 ⟨.rise, .up, .toPosition 12⟩ (at_ 13 (moving .up .rise (.toPosition 12) station))
        ∧ Pulsing 12800 ⟨.global, .up, .auto⟩ (latchOf (fun x => { x with position := .opened })
            (winOf (fun x => { x with pulses := 15, motion := .starting, p := 41 }) (moving .up .global .auto station)))
        ∧ Pulsing 12800 ⟨.localSwitch, .up, .manual⟩
            (winOf (fun x => { x with norm := false }) (moving .up .localSwitch .manual station)))
      ∧ (let s := moving .up .global .auto station
        Pulsing 12199 ⟨.global, .up, .auto⟩ s ∧ s.cfg.caps.window = true ∧ s.win.norm = true ∧ s.win.motion = .moving
          ∧ 16 ≤ s.win.pulses ∧ (s.cfg.sealZone : Int) < s.win.p - 1 ∧ s.latch.position = .closed
          ∧ s.pinch.history.length = 8 ∧ s.pinch.history.head? = some 12800 ∧ pulseU 12199 + 600 < 12800)
      ∧ (Pulsing 12800 ⟨.localSwitch, .up, .manual⟩ (at_ (-32) (moving .up .localSwitch .manual station))
        ∧ Pulsing 12800 ⟨.global, .down, .auto⟩ (at_ 932 (moving .down .global .auto station))
        ∧ (moving .down .global .auto station).win.clamped = false ∧ station.cfg.travel = 900)
      ∧ Pulsing 12800 ⟨.localSwitch, .up, .manual⟩
          (winOf (fun x => { x with clamped := true, norm := false }) (at_ (-32) (moving .up .localSwitch .manual station))) := by
  and_intros <;> decide

/-- BRAKING toward UP with the glass coasting down past its lower bound, which is 932. -/
def coasting (src : Source) (m : Mode) (clamped norm : Bool) : State :=
  winOf (fun x => { x with
    motion := .braking, motor := .braked, req := some ⟨src, .up, m⟩, brakeEnd := some 1010000, p := 932, clamped := clamped
    norm := norm, coast := some (1020000, .down), lastPulseAt := 990000 }) station

/-- R1, R2 and log 68: a waiting AUTO motion ends STOPPED, a waiting LOCAL SWITCH MANUAL one stays; UNNORMALISED and
after a first such pulse. -/
theorem witness_PulseEnds_coast : (∀ s ∈ [coasting .global .auto false true, coasting .localSwitch .manual false true,
      coasting .global .auto false false, coasting .global .auto true false],
      Calm s ∧ isDriven s.win.motor = false ∧ s.win.coast = some (1020000, .down) ∧ s.win.drop = none
        ∧ (advanceTo (s.win.lastPulseAt + 20000) s).now ≤ 1020000 ∧ (s.cfg.travel : Int) + 32 < s.win.p + 1)
    ∧ (after (.hallPulse 12800 20000) (coasting .global .auto false true)).win.lastEnd = some (.global, .stopped)
    ∧ (after (.hallPulse 12800 20000) (coasting .localSwitch .manual false true)).win.motion = .braking := by
  decide +kernel

/-- Just above the seal zone, with two pinches in the last 10 s and with none. -/
theorem witness_StallAboveTheSealZoneIsAPinch :
    (∃ (s : State) (r : Request), Calm s ∧ s.win.norm = true ∧ s.win.motor = .driven .up ∧ s.win.req = some r ∧
        s.win.drop = none ∧ (s.cfg.sealZone : Int) < s.win.p ∧ s.win.overrideMotion = false ∧ s.pinch.mode = .normal ∧
        s.pinch.reversals = [20000, 500000] ∧ (advanceTo (stallFrom s.win + s.cfg.stallMs * 1000) s).now - 20000 < 10000000)
      ∧ ∃ (s : State) (r : Request), Calm s ∧ s.win.norm = true ∧ s.win.motor = .driven .up ∧ s.win.req = some r ∧
        s.win.drop = none ∧ (s.cfg.sealZone : Int) < s.win.p ∧ s.win.overrideMotion = false ∧ s.pinch.mode = .normal ∧
        s.pinch.reversals.length ≤ 1 :=
  ⟨⟨pinchOf (fun x => { x with reversals := [20000, 500000] }) (closing 25 0), ⟨.global, .up, .auto⟩,
      by decide⟩, ⟨closing 25 0, ⟨.global, .up, .auto⟩, by decide⟩⟩

/-- At the edges of the seal zone and of the open stop, and one pulse short of it. -/
theorem witness_StallIsJudgedByPlaceAndCloseHold :
    (∃ (s : State) (r : Request), Calm s ∧ s.win.req = some r ∧ s.win.drop = none ∧ r.source ≠ .drop ∧
        s.win.motor = .driven .up ∧ s.win.norm = true ∧ s.win.p = s.cfg.sealZone ∧
        s.pinch.sums.toList.any teaches = false)
      ∧ (∃ (s : State) (r : Request), Calm s ∧ s.win.req = some r ∧ s.win.drop = none ∧ r.source ≠ .drop ∧
        s.win.motor = .driven .up ∧ s.win.norm = true ∧ s.win.p ≤ s.cfg.sealZone ∧ s.win.overrideMotion = false ∧
        s.pinch.transient = false ∧ s.pinch.offNormal = false ∧ teaches s.pinch.sums[(16 : Zone)] = true)
      ∧ (∃ (s : State) (r : Request), Calm s ∧ s.win.req = some r ∧ s.win.drop = none ∧ r.source ≠ .drop ∧
        s.win.motor = .driven .down ∧ s.win.p = (s.cfg.travel : Int) - 24)
      ∧ (∃ (s : State) (r : Request), Calm s ∧ s.win.req = some r ∧ s.win.drop = none ∧ r.source ≠ .drop ∧
        s.win.motor = .driven .down ∧ s.win.p < (s.cfg.travel : Int) - 24 ∧ s.win.motion = .starting ∧ s.win.startStalls = 1)
      ∧ (∃ (s : State) (r : Request), Calm s ∧ s.win.req = some r ∧ s.win.drop = none ∧ r.source ≠ .drop ∧
        s.win.motor = .driven .down ∧ s.win.p < (s.cfg.travel : Int) - 24 ∧ s.win.motion = .starting ∧ s.win.startStalls = 2)
      ∧ ∃ (s : State) (r : Request), Calm s ∧ s.win.req = some r ∧ s.win.drop = none ∧ r.source ≠ .drop ∧
        s.win.motor = .driven .down ∧ s.win.p = (s.cfg.travel : Int) - 25 ∧ s.win.motion = .moving :=
  ⟨⟨closing 24 0, ⟨.global, .up, .auto⟩, by decide⟩,
    ⟨pinchOf (fun x => { x with sums := x.sums.set 16 { sum := 53071, count := 29, mark := false } }) (closing 3 0),
      ⟨.global, .up, .auto⟩, by decide⟩,
    ⟨at_ 876 (moving .down .global .auto station), ⟨.global, .down, .auto⟩, by decide⟩,
    ⟨winOf (fun x => { x with motion := .starting, startStalls := 1 }) (moving .down .global .auto station), ⟨.global, .down, .auto⟩, by decide⟩,
    ⟨winOf (fun x => { x with motion := .starting, startStalls := 2 }) (moving .down .global .auto station), ⟨.global, .down, .auto⟩, by decide⟩,
    ⟨at_ 875 (moving .down .global .auto station), ⟨.global, .down, .auto⟩, by decide⟩⟩

/-- A motion of source GLOBAL whose end a WINDOW REPORT tells. -/
theorem witness_WindowReport : ∀ s ∈ [closing 25 0, closing 24 0, at_ 876 (moving .down .global .auto station)],
    s.win.req.map (·.source) = some .global ∧ s.line.state = .ok ∧ Roomy 4 s := by decide

theorem witness_StallIsJudged_closeHold : ∃ s : State, Calm s ∧ s.win.norm = false ∧ s.win.motor = .driven .up ∧
    s.win.drop = none ∧ s.win.req = some { source := .localSwitch, dir := .up, mode := .manual } :=
  ⟨winOf (fun x => { x with norm := false }) (moving .up .localSwitch .manual station), by decide⟩

/-- A motion braked with a request waiting. -/
def braking (d : Direction) (src : Source) (m : Mode) : State :=
  winOf (fun x => { x with motion := .braking, motor := .braked, brakeEnd := some 1020000 }) (moving d src m station)

/-- A pinch declared at P_travel, with two coast pulses of the brake counted since. -/
def overtravelled : State :=
  winOf (fun x => { x with pinchAt := 900, p := 898 }) (braking .down .reversal (.toPosition 900))

/-- R37: the reversal ends OPENED at once when the brake ends, and the motor is not driven. -/
theorem test_reversal_overtravel : (after .brakeEnd overtravelled).win.motor = .off
    ∧ (after .brakeEnd overtravelled).win.lastEnd = some (.reversal, .opened) := by decide +kernel

theorem witness_WaitingRequestTakesTheMotor :
    (∃ (s : State) (r : Request), Calm s ∧ s.win.req = some r ∧ s.win.drop = none ∧ s.latch.position = .closed ∧
        s.win.brakeEnd = some 1020000 ∧ s.win.motion = .braking ∧ s.win.motor = .braked ∧ s.power.supply ≠ .crank ∧
        r.source ≠ .reversal ∧ holds r s = true)
      ∧ (∃ (s : State) (r : Request), Calm s ∧ s.win.req = some r ∧ s.win.drop = none ∧ s.latch.position = .closed ∧
        s.win.brakeEnd = some 1020000 ∧ s.win.motion = .braking ∧ s.win.motor = .braked ∧ s.power.supply ≠ .crank ∧
        r.source = .reversal ∧ holds r s = true ∧ satisfied r s.win.pinchAt = false ∧ satisfied r s.win.p = false)
      ∧ (∃ (s : State) (q : Int), Calm s ∧ s.win.drop = none ∧ s.latch.position = .closed ∧
        s.win.brakeEnd = some 1020000 ∧ s.win.motion = .braking ∧ s.win.motor = .braked ∧ s.power.supply ≠ .crank ∧
        s.win.req = some { source := .reversal, dir := .down, mode := .toPosition q } ∧ q = s.win.pinchAt ∧ s.win.p < q)
      ∧ (∃ (s : State) (r : Request), Calm s ∧ s.win.req = some r ∧ s.win.drop = none ∧ s.latch.position = .closed ∧
        s.win.brakeEnd = some 1020000 ∧ s.win.motion = .braking ∧ s.win.motor = .braked ∧ s.power.supply ≠ .crank ∧
        r.source ≠ .drop ∧ holds r s = false)
      ∧ ∃ (s : State) (r : Request), Calm s ∧ s.win.req = some r ∧ s.win.drop = none ∧ s.latch.position = .closed ∧
        s.win.pauseEnd = some 1300000 ∧ r.source ≠ .reversal :=
  ⟨⟨braking .down .global .auto, ⟨.global, .down, .auto⟩, by decide⟩,
    ⟨braking .down .reversal (.toPosition 401), ⟨.reversal, .down, .toPosition 401⟩, by decide⟩,
    ⟨overtravelled, 900, by decide⟩,
    ⟨braking .down .localSwitch .manual, ⟨.localSwitch, .down, .manual⟩, by decide⟩,
    ⟨winOf (fun x => { x with motion := .starting, motor := .off, pauseEnd := some 1300000 })
      (moving .down .global .auto station),
      ⟨.global, .down, .auto⟩, by decide⟩⟩

theorem witness_TimersOfMotionCoastAndPinchHoldExpire :
    (∃ (s : State) (r : Request), Calm s ∧ s.win.drop = none ∧ s.win.req = some r ∧ r.source ≠ .drop ∧
        s.win.pauseLimit = some 3000000)
      ∧ (∃ (s : State) (r : Request), Calm s ∧ s.win.drop = none ∧ s.win.req = some r ∧ r.source ≠ .drop ∧
        isDriven s.win.motor = true ∧ s.win.motion ≠ .reversing ∧ s.win.heat = 79999)
      ∧ (∃ s : State, Calm s ∧ s.win.drop = none ∧ s.win.coast = some (1030000, .up) ∧ s.win.recMoving = false)
      ∧ (∃ s : State, Calm s ∧ s.win.drop = none ∧ s.win.coast = some (1030000, .up) ∧ s.win.recMoving = true)
      ∧ (∃ s : State, Calm s ∧ s.pinch.holdEnd = some 9000000 ∧ s.pinch.mode = .pinchHold)
      ∧ ∃ s : State, Calm s ∧ s.pinch.holdEnd = some 9000000 ∧ s.pinch.mode = .override :=
  ⟨⟨winOf (fun x => { x with motion := .paused, motor := .off, pauseLimit := some 3000000 }) (moving .up .global .auto station),
      ⟨.global, .up, .auto⟩, by decide⟩,
    ⟨winOf (fun x => { x with heat := 79999 }) (moving .up .global .auto station), ⟨.global, .up, .auto⟩, by decide⟩,
    ⟨{ station with win := { station.win with coast := some (1030000, .up) } }, by decide⟩,
    ⟨winOf (fun x => { x with coast := some (1030000, .up) }) (braking .down .global .auto), by decide⟩,
    ⟨{ station with pinch := { station.pinch with holdEnd := some 9000000, mode := .pinchHold } }, by decide⟩,
    ⟨{ station with pinch := { station.pinch with holdEnd := some 9000000, mode := .override } }, by decide⟩⟩

/-- R25: the record AT REST is queued at the coast end also when a request granted in CRANK waits in PAUSED by then. -/
theorem test_coastEnd_paused :
    let s := winOf (fun x => { x with coast := some (1030000, .up) }) (supplied .crank station)
    (after .coastWindowEnd (after (.localSwitchSecondDetent .down) s)).store.queue = [.windowState]
      ∧ (after (.localSwitchSecondDetent .down) s).win.motion = .paused := by decide +kernel

/-- H at one below the soft limit. -/
theorem witness_LocalSwitchPressStartsOrStopsAMotion :
    (∃ s : State, Calm s ∧ s.win.drop = none ∧ s.win.req = none ∧ s.cfg.caps.window = true ∧ s.power.supply.poor = false ∧
        s.win.norm = true ∧ s.latch.crashEnd = none ∧ s.win.heat = 59999 ∧ s.latch.position = .closed ∧
        s.pinch.mode = .normal ∧ s.latch.child ≠ .engaged ∧ s.pins.localHold = none)
      ∧ (∃ s : State, Calm s ∧ s.win.drop = none ∧ s.pins.localHold = none ∧ isRear s = true ∧ s.latch.child = .engaged)
      ∧ ∃ (s : State) (x : Request) (d : Direction), Calm s ∧ s.win.drop = none ∧ s.pins.localHold = none ∧
        s.win.req = some x ∧ x.source = .localSwitch ∧ x.mode = .auto ∧ x.dir ≠ d ∧ s.latch.child ≠ .engaged ∧
        s.cfg.caps.window = true ∧ s.power.supply.poor = false ∧ s.win.norm = true ∧ s.latch.crashEnd = none ∧
        s.win.heat < 60000 ∧ s.latch.position = .closed ∧ s.pinch.mode = .normal :=
  ⟨⟨{ station with win := { station.win with heat := 59999 } }, by decide⟩,
    ⟨addressed 2 { station with latch := { station.latch with child := .engaged } }, by decide⟩,
    ⟨moving .up .localSwitch .auto station, ⟨.localSwitch, .up, .auto⟩, .down, by decide⟩⟩

/-- A station in PINCH HOLD, the override used or not. -/
def pinchHeld (used : Bool) (s : State) : State :=
  pinchOf (fun x => { x with mode := .pinchHold, holdEnd := some 5000000, overrideUsed := used }) s

/-- No motion running: in CRANK, UNNORMALISED, and in PINCH HOLD with the override free and used. -/
theorem witness_LocalSwitchPress_forms : ∀ s ∈ [supplied .crank station, winOf (fun x => { x with norm := false }) station,
      pinchHeld false station, pinchHeld true station],
    Calm s ∧ s.win.drop = none ∧ s.win.req = none ∧ s.cfg.caps.window = true ∧ s.power.supply ≠ .under
      ∧ s.latch.crashEnd = none ∧ s.win.heat < 60000 ∧ s.latch.position = .closed ∧ s.latch.child ≠ .engaged
      ∧ s.pins.localHold = none := by decide

/-- R40: the first MANUAL UP press takes the override, also where it replaces the own AUTO motion; AUTO UP is refused. -/
theorem witness_LocalSwitchPress_override :
    (after (.localSwitchFirstDetent .up) (pinchHeld false station)).win.overrideMotion = true
      ∧ (after (.localSwitchFirstDetent .up) (pinchHeld true station)).win.overrideMotion = false
      ∧ (after (.localSwitchSecondDetent .up) (pinchHeld false station)).win.req = none
      ∧ let s := winOf (fun x => { x with heat := 79999 }) (pinchHeld false (moving .up .localSwitch .auto station))
        Calm s ∧ s.win.req = some ⟨.localSwitch, .up, .auto⟩ ∧ s.pins.localHold ≠ some .up ∧ s.win.norm = true
          ∧ (after (.localSwitchFirstDetent .up) s).pinch.mode = .override := by decide +kernel

/-- A SWITCH PACK from the driver with FR's entry. -/
def packFrame (x : SwitchEntry) : Frame := frameOf 0 (.switchPack .rest x .rest .rest)

/-- FR with the entry UP MANUAL taken 150 ms ago, hearing a SWITCH PACK whose entry of it is NONE. -/
def letGo (m : Mode) : State :=
  hearing (packFrame .rest) (addressed 1 (winOf (fun x => { x with packAt := some 850000, packEntry := .upManual })
    (moving .up .remoteSwitch m station)))

theorem witness_LostHoldEndsAManualMotion :
    (∃ (s : State) (r : Request), Calm s ∧ s.win.drop = none ∧ s.win.req = some r ∧ s.win.motion ≠ .braking ∧
        r.source = .localSwitch ∧ r.mode = .manual)
      ∧ (∃ (s : State) (r : Request), Calm s ∧ s.win.drop = none ∧ s.win.req = some r ∧ s.win.motion ≠ .braking ∧
        r.mode ≠ .manual ∧ s.win.packAt = some 800000)
      ∧ ∃ (s : State) (r : Request), Calm s ∧ s.win.drop = none ∧ s.win.req = some r ∧ s.win.motion ≠ .braking ∧
        s.win.packAt = some 800000 ∧ r.source = .remoteSwitch ∧ r.mode = .manual :=
  ⟨⟨moving .up .localSwitch .manual station, ⟨.localSwitch, .up, .manual⟩, by decide⟩,
    ⟨winOf (fun x => { x with packAt := some 800000 }) (moving .up .remoteSwitch .auto station), ⟨.remoteSwitch, .up, .auto⟩, by decide⟩,
    ⟨winOf (fun x => { x with packAt := some 800000 }) (moving .up .remoteSwitch .manual station), ⟨.remoteSwitch, .up, .manual⟩, by decide⟩⟩

theorem witness_LostHold_none : ∀ m ∈ [Mode.manual, .auto],
    Calm (letGo m) ∧ (letGo m).win.drop = none ∧ (letGo m).win.req = some ⟨.remoteSwitch, .up, m⟩
      ∧ (letGo m).win.motion ≠ .braking ∧ Head (packFrame .rest) 999000 [] (letGo m)
      ∧ (packFrame .rest).payload = .switchPack .rest .rest .rest .rest ∧ (packFrame .rest).origin = driverAddr (letGo m).cfg
      ∧ (letGo m).addr ≠ driverAddr (letGo m).cfg ∧ (letGo m).addr.val < 4
      ∧ (∀ q ∈ (letGo m).win.packAt, (letGo m).now < q + 250000) ∧ (letGo m).win.packEntry ≠ .rest := by decide

/-- The last entry is valid for 1 us more. -/
theorem witness_SwitchPackIsReportedAndActedOn :
    (∃ s : State, Calm s ∧ Roomy 4 s ∧ s.line.state = .ok ∧ isDriver s = true ∧
        s.win.pack ≠ #v[.rest, .upManual, .rest, .rest])
      ∧ (∃ s : State, Calm s ∧ Roomy 4 s ∧ s.line.state = .ok ∧ isDriver s = true ∧
        s.win.pack = #v[.rest, .upManual, .rest, .rest] ∧ s.win.packQueuedAt = some 950000)
      ∧ (∃ (s : State) (f : Frame), Calm s ∧ Head f 999000 [] s ∧ f.payload = .switchPack .rest .upAuto .rest .rest ∧
        f.origin = driverAddr s.cfg ∧ s.addr ≠ driverAddr s.cfg ∧ s.addr = 1 ∧ s.win.drop = none ∧ s.win.req = none ∧
        s.cfg.caps.window = true ∧ s.power.supply.poor = false ∧ s.win.norm = true ∧ s.latch.crashEnd = none ∧
        s.win.heat < 60000 ∧ s.latch.position = .closed ∧ s.pinch.mode = .normal ∧ s.win.packAt = some 750001 ∧
        s.now < 750001 + 250000 ∧ s.win.packEntry = .upAuto)
      ∧ ∃ (s : State) (f : Frame), Calm s ∧ Head f 999000 [] s ∧ f.payload = .switchPack .rest .upAuto .rest .rest ∧
        f.origin = driverAddr s.cfg ∧ s.addr ≠ driverAddr s.cfg ∧ s.addr = 1 ∧ s.win.drop = none ∧ s.win.req = none ∧
        s.cfg.caps.window = true ∧ s.power.supply.poor = false ∧ s.win.norm = true ∧ s.latch.crashEnd = none ∧
        s.win.heat < 60000 ∧ s.latch.position = .closed ∧ s.pinch.mode = .normal ∧ s.win.packAt = none ∧
        s.win.packEntry = .rest :=
  ⟨⟨station, by decide⟩,
    ⟨{ station with win := { station.win with pack := #v[.rest, .upManual, .rest, .rest], packQueuedAt := some 950000 } },
      by decide⟩,
    ⟨hearing (packFrame .upAuto)
      (addressed 1 { station with win := { station.win with packAt := some 750001, packEntry := .upAuto } }),
      packFrame .upAuto, by decide⟩,
    ⟨hearing (packFrame .upAuto) (addressed 1 station), packFrame .upAuto, by decide⟩⟩

/-- R40, R3: in PINCH HOLD MANUAL UP takes the override and AUTO UP is refused; UNNORMALISED refuses. -/
theorem witness_SwitchPack_override :
    (∀ x ∈ [SwitchEntry.upManual, .upAuto], ∀ s ∈ [pinchHeld false station, winOf (fun x => { x with norm := false }) station],
      let h := hearing (packFrame x) (addressed 1 s)
      Calm h ∧ Head (packFrame x) 999000 [] h ∧ h.win.packAt = none ∧ x ≠ h.win.packEntry ∧ h.win.drop = none
        ∧ h.win.req = none ∧ h.power.supply.poor = false)
      ∧ (after .switchPack (hearing (packFrame .upManual) (addressed 1 (pinchHeld false station)))).pinch.mode = .override := by
  decide +kernel

/-- A drop in DROPPING: a run to the drop position, MOVING or at its third start stall. -/
def dropping (m : MotionState) (n : Nat) : State :=
  latchOf (fun x => { x with seq := .dropping, dropOut := true, kind := some .entry })
    (winOf (fun x => { x with motion := m, startStalls := n, p := 12
                              drop := some ⟨1780000, 12, false, false, 150000, none⟩ })
      (moving .down .drop (.toPosition 40) station))

theorem witness_DropIsRun_stalled : ∀ s ∈ [dropping .moving 0, dropping .starting 2],
    (Calm s ∧ s.win.req = some ⟨.drop, .down, .toPosition 40⟩ ∧ s.win.drop = some ⟨1780000, 12, false, false, 150000, none⟩ ∧
      s.win.overrideMotion = false ∧ s.latch.seq = .dropping ∧ s.latch.dropOut = true ∧ s.latch.kind = some .entry ∧
      s.latch.retryUsed = false ∧ GoodSupply s ∧ s.win.motor = .driven .down ∧ s.win.p < (s.cfg.travel : Int) - 24) ∧
    (s.win.motion = .moving ∨ (s.win.motion = .starting ∧ 2 ≤ s.win.startStalls)) := by decide

theorem witness_DropIsRunEndedAndAnswered : ∃ (s : State) (r : Request) (j : DropJob), Calm s ∧ s.win.req = some r ∧
    r.source = .drop ∧ s.win.drop = some j ∧ j.waiting = false ∧ s.win.overrideMotion = false ∧ s.latch.seq = .dropping ∧
    s.latch.dropOut = true ∧ s.latch.kind = some .entry ∧ s.latch.retryUsed = false ∧ GoodSupply s ∧ j.timed = true ∧
    j.timedFrom = some 990000 :=
  ⟨latchOf (fun x => { x with seq := .dropping, dropOut := true, kind := some .entry })
      (winOf (fun x => { x with norm := false, drop := some ⟨1780000, 400, false, true, 150000, some 990000⟩ })
        (moving .down .drop .manual station)),
    ⟨.drop, .down, .manual⟩, ⟨1780000, 400, false, true, 150000, some 990000⟩, by decide⟩

/-- One pulse short of the drop position and two, with drop owed clear and set; for an EGRESS and at a second drop. -/
theorem witness_DropIsRun_pulse :
    (∀ s ∈ [at_ 39 (dropping .moving 0), at_ 38 (dropping .moving 0),
        winOf (fun x => { x with dropOwed := some 7 }) (at_ 39 (dropping .moving 0)),
        latchOf (fun x => { x with kind := some .egress }) (at_ 39 (dropping .moving 0)),
        latchOf (fun x => { x with retryUsed := true }) (at_ 39 (dropping .moving 0))],
      Calm s ∧ s.win.req = some ⟨.drop, .down, .toPosition 40⟩ ∧ s.win.drop = some ⟨1780000, 12, false, false, 150000, none⟩
        ∧ s.win.overrideMotion = false ∧ s.latch.seq = .dropping ∧ s.latch.dropOut = true ∧ s.latch.kind.isSome = true
        ∧ GoodSupply s ∧ s.win.motor = .driven .down ∧ s.power.supply.rank ≤ (levelState 12800).rank ∧ s.pinch.count ≤ 2
        ∧ -32 ≤ s.win.p + 1 ∧ s.win.p + 1 ≤ (s.cfg.travel : Int) + 32) := by decide

/-! ### Latch, lock and child safety -/

/-- The latch switch reads OPEN and its filter ends in 4 ms, in a state of the sequence. -/
def opening (q : SeqState) : State :=
  pinsOf (fun x => { x with latchSwitch := .opened })
    (latchOf (fun x => { x with filterEnd := some 1004000, seq := q }) station)

/-- The latch switch reads CLOSED at an OPEN latch and its filter ends in 4 ms. -/
def shutting (p : Int) (norm : Bool) (owed : Option Int) : State :=
  winOf (fun x => { x with p := p, norm := norm, dropOwed := owed })
    (latchOf (fun x => { x with filterEnd := some 1004000, position := .opened }) station)

theorem witness_LatchEdgesActOnSequenceAndGlass :
    (Calm station ∧ LatchPosition.closed = station.pins.latchSwitch ∧ LatchPosition.opened ≠ station.pins.latchSwitch)
      ∧ (∀ q ∈ [SeqState.idle, .dropping, .releasing, .retryWait, .halted], Calm (opening q) ∧
        (opening q).win.req = none ∧ (opening q).pins.latchSwitch = .opened ∧
        (opening q).latch.filterEnd = some 1004000 ∧ (opening q).latch.seq = q) := by decide

/-- An OPEN edge with the glass running UP at the drop position. -/
theorem witness_LatchEdges_up :
    let s := pinsOf (fun x => { x with latchSwitch := .opened })
      (latchOf (fun x => { x with filterEnd := some 1004000 }) (at_ 40 (moving .up .global .auto station)))
    Calm s ∧ s.pins.latchSwitch = .opened ∧ s.latch.filterEnd = some 1004000 ∧ s.win.req = some ⟨.global, .up, .auto⟩
      ∧ s.win.norm = true ∧ s.win.p ≤ s.cfg.dropDist ∧ s.win.drop = none ∧ s.line.state = .ok ∧ Roomy 4 s := by decide

/-- At the drop position and one pulse below it. -/
theorem witness_LatchEdges_closed : ∀ s ∈ [shutting 40 true (some 12), shutting 41 true (some 12),
      shutting 40 true none, shutting 40 false (some 12)],
    (Calm s ∧ s.win.req = none ∧ s.win.drop = none ∧ s.pins.latchSwitch = .closed ∧ s.cfg.caps.window = true ∧
      GoodSupply s ∧ s.win.heat < 80000 ∧ s.latch.crashEnd = none ∧ s.pinch.mode = .normal ∧
      s.latch.filterEnd = some 1004000) ∧
    (s.win.dropOwed = none ∨ s.win.norm = false ∨ (s.win.dropOwed = some 12 ∧ s.win.norm = true ∧
      ((s.win.p = s.cfg.dropDist ∧ 12 < s.win.p) ∨ s.win.p = s.cfg.dropDist + 1))) := by decide

theorem witness_PullReleasesTheLatchOrIsLocalInputAlone :
    (∃ s : State, Calm s ∧ s.latch.seq = .idle ∧ s.latch.position = .closed ∧ GoodSupply s ∧
        (s.win.norm = true ∧ s.win.p = s.cfg.dropDist) ∧ s.win.drop = none ∧ s.latch.lock = .unlocked ∧
        isTailgate s = false ∧ s.pins.outerHandle = false ∧ s.latch.child ≠ .engaged)
      ∧ (∃ s : State, Calm s ∧ s.latch.seq = .idle ∧ s.latch.position = .closed ∧ GoodSupply s ∧
        s.cfg.caps.window = false ∧ s.win.drop = none ∧ s.latch.lock = .unlocked ∧ isTailgate s = true)
      ∧ (∃ s : State, Calm s ∧ s.latch.seq = .idle ∧ s.latch.position = .closed ∧ GoodSupply s ∧
        s.latch.crashEnd.isSome = true ∧ s.win.drop = none ∧ s.latch.lock = .locked ∧ s.latch.child ≠ .engaged ∧
        s.pins.outerHandle = false)
      ∧ (∃ s : State, Calm s ∧ s.latch.lock ≠ .unlocked ∧ isTailgate s = false ∧ s.pins.outerHandle = false)
      ∧ (∃ s : State, Calm s ∧ isTailgate s = false ∧ s.pins.outerHandle = true)
      ∧ (∃ s : State, Calm s ∧ s.latch.lock = .deadlocked) ∧ ∃ s : State, Calm s ∧ s.latch.child = .engaged :=
  ⟨⟨at_ 40 station, by decide⟩,
    ⟨addressed 4 { station with cfg := { station.cfg with caps := { station.cfg.caps with window := false } } }, by decide⟩,
    ⟨latched .locked (at_ 12 (latchOf (fun x => { x with crashEnd := some 1000001 }) station)), by decide⟩,
    ⟨latched .locked station, by decide⟩, ⟨pinsOf (fun x => { x with outerHandle := true }) station, by decide⟩,
    ⟨latched .deadlocked station, by decide⟩,
    ⟨addressed 3 (latchOf (fun x => { x with child := .engaged }) station), by decide⟩⟩

/-- One pulse above the drop position, at one below the hard limit. -/
theorem witness_PullDropsTheGlassFirst : ∃ s : State, Calm s ∧ s.latch.seq = .idle ∧ s.latch.position = .closed ∧
    GoodSupply s ∧ s.cfg.caps.window = true ∧ s.win.norm = true ∧ s.win.p = s.cfg.dropDist - 1 ∧ s.latch.crashEnd = none ∧
    s.win.req = none ∧ s.win.motor = .off ∧ s.win.heat = 79999 ∧ s.latch.lock = .unlocked ∧ isTailgate s = false ∧
    s.pins.outerHandle = false :=
  ⟨winOf (fun x => { x with heat := 79999 }) (at_ 39 station), by decide⟩

/-- UNNORMALISED below the hard limit, and NORMALISED at it. -/
theorem witness_PullDrops_timedOrBlocked : ∀ s ∈ [winOf (fun x => { x with norm := false, heat := 79999 }) station,
      winOf (fun x => { x with heat := 80000 }) (at_ 39 station)],
    (Calm s ∧ s.latch.seq = .idle ∧ s.latch.position = .closed ∧ GoodSupply s ∧ s.cfg.caps.window = true ∧
      s.latch.crashEnd = none ∧ s.win.req = none ∧ s.win.motor = .off ∧ s.latch.lock = .unlocked ∧
      isTailgate s = false ∧ s.pins.outerHandle = false) ∧
    ((s.win.norm = false ∧ s.win.heat < 80000) ∨ (s.win.p < s.cfg.dropDist ∧ 80000 ≤ s.win.heat)) := by decide

/-- The actuator energised for an attempt. -/
def pulsing (k : ReleaseKind) (n : Nat) : State :=
  latchOf (fun x => { x with seq := .releasing, kind := some k, attempts := n, pulseEnd := some 1100000 }) station

theorem witness_FailedPulseAndWaitsOfTheSequenceEnd :
    (Calm (pulsing .entry 2) ∧ (pulsing .entry 2).latch.pulseEnd = some 1100000 ∧ (pulsing .entry 2).latch.attempts < 3)
      ∧ ∀ k ∈ [ReleaseKind.entry, .egress], Calm (pulsing k 3) ∧ (pulsing k 3).latch.pulseEnd = some 1100000 ∧
        (pulsing k 3).latch.attempts = 3 ∧ Roomy 4 (pulsing k 3) ∧ (pulsing k 3).line.state = .ok := by decide

theorem witness_FailedPulse_waits :
    (∃ s : State, Calm s ∧ s.win.drop = none ∧ s.latch.waitEnd = some 1300000 ∧ GoodSupply s)
      ∧ (∃ s : State, Calm s ∧ s.win.drop = none ∧ s.latch.waitEnd = some 1300000 ∧ s.power.supply.poor = true ∧
        s.latch.seq = .retryWait ∧ s.latch.supplyWait = none)
      ∧ (∃ s : State, Calm s ∧ s.win.drop = none ∧ s.latch.retryDelay = some 1300000 ∧ GoodSupply s ∧
        (s.win.norm = true ∧ s.win.p = s.cfg.dropDist))
      ∧ ∃ s : State, Calm s ∧ s.win.drop = none ∧ s.latch.supplyWait = some 3000000 :=
  ⟨⟨latchOf (fun x => { x with seq := .retryWait, kind := some .entry, waitEnd := some 1300000 }) station, by decide⟩,
    ⟨supplied .crank (latchOf (fun x => { x with seq := .retryWait, kind := some .entry, waitEnd := some 1300000 })
      station), by decide⟩,
    ⟨at_ 40 (latchOf (fun x => { x with seq := .dropping, kind := some .entry, retryDelay := some 1300000 }) station),
      by decide⟩,
    ⟨latchOf (fun x => { x with seq := .retryWait, kind := some .entry, supplyWait := some 3000000 }) station, by decide⟩⟩

/-- A CRASH NOTICE from the crash unit. -/
def crashFrame : Frame := frameOf 6 .crashNotice

theorem witness_CrashNoticeStartsCrashHold :
    (∀ s ∈ [hearing crashFrame station, hearing crashFrame (latchOf (fun x => { x with crashEnd := some 1000001 }) station),
        hearing crashFrame (moving .down .global .auto station), hearing crashFrame (moving .up .global .auto station)],
      Calm s ∧ Head crashFrame 999000 [] s ∧ crashFrame.payload = .crashNotice ∧ s.latch.seq = .idle ∧
        s.pins.outerHandle = false ∧ s.intent.table = [] ∧ s.win.drop = none ∧
        (s.latch.crashEnd.isSome = true ∨ s.win.req = none ∨ s.win.req = some ⟨.global, .down, .auto⟩ ∨
          s.win.req = some ⟨.global, .up, .auto⟩))
      ∧ (latchOf (fun x => { x with crashEnd := some 1000001 }) station).latch.crashEnd = some 1000001 := by decide

/-- The button in each lock state, in crash hold and not. -/
theorem witness_StationActsAloneInLineFault :
    ∀ l ∈ [LockState.unlocked, .locked, .deadlocked], ∀ c ∈ [none, some 1000001],
      let s := faulted .clash (latchOf (fun x => { x with lock := l, crashEnd := c }) station)
      Calm s ∧ s.line.state ≠ .ok ∧ s.latch.seq = .idle ∧ s.pins.outerHandle = false ∧ s.latch.lock = l ∧
        s.latch.crashEnd = c := by decide

/-! ### Intents and their order -/

/-- An open entry with a tag, pending stations and an attempt count. -/
def entry (t : Tag) (pending : Stations) (n : Nat) : OpenEntry :=
  { tag := t, kind := .lock, epoch := 2#16, targets := 31#5, cause := .fob, notice := none, partialSearch := true
    pending := pending, results := #v[some .applied, none, some .alreadyApplied, none, none], unresponsive := 0#5
    attempts := n, timer := some 1005000 }

/-- A station with these entries open. -/
def tabled (l : List OpenEntry) (s : State) : State := intentOf (fun x => { x with table := l }) s

/-- With 3 entries open, with 4, and with no tag but 14 left before the wrap. -/
theorem witness_MappedInputOpensAnIntent :
    (∀ s ∈ [tabled [entry 3 2#5 1, entry 4 2#5 1, entry 5 2#5 1] (intentOf (fun x => { x with nextTag := 14 }) station),
        latched .locked station, addressed 4 station,
        intentOf (fun x => { x with relock := some ⟨5000000, ⟨1#16, 0⟩, none⟩ }) station],
      Calm s ∧ s.line.state = .ok ∧ s.intent.startHold = none ∧ s.latch.crashEnd = none ∧ s.latch.seq = .idle ∧
        s.pins.outerHandle = false ∧ s.addr.val < 5 ∧ epochLater (s.intent.epoch + 1) s.intent.keyLatch.epoch = true ∧
        s.intent.nextTag ≠ 15 ∧ (∀ e ∈ s.intent.table, e.tag ≠ s.intent.nextTag) ∧ s.intent.table.length < 4 ∧
        Roomy 4 s ∧ (s.latch.lock = .unlocked ∨ s.latch.lock = .locked) ∧
        without (without allStations (only s.addr)) (lostSet s) ≠ 0#5 ∧ without (without 12#5 (only s.addr)) (lostSet s) ≠ 0#5)
      ∧ isDriver station = true
      ∧ (let s := tabled [entry 3 2#5 1, entry 4 2#5 1, entry 5 2#5 1, entry 6 2#5 1] station
        Calm s ∧ s.line.state = .ok ∧ s.intent.startHold = none ∧ s.latch.crashEnd = none ∧ s.latch.seq = .idle ∧
          s.pins.outerHandle = false ∧ epochLater (s.intent.epoch + 1) s.intent.keyLatch.epoch = true ∧
          s.intent.nextTag ≠ 15 ∧ (∀ e ∈ s.intent.table, e.tag ≠ s.intent.nextTag) ∧ s.intent.table.length = 4 ∧
          s.latch.lock = .unlocked) := by decide

/-- An intent from FR, and its frame. -/
def intentOfKind (k : IntentKind) (ep : Epoch) (ts : Stations) : IntentFrame :=
  { kind := k, tag := 3, epoch := ep, targets := ts, cause := .fob, notice := none }

def heardIntent (i : IntentFrame) (s : State) : State := hearing (frameOf 1 (.intent i)) s

/-- The tailgate button, the inner handle of a LOCKED station, and an UNLOCK AND OPEN for it. -/
theorem witness_PullDrops_forms :
    let low := at_ 39 station
    let i := { intentOfKind .unlockAndOpen 2#16 31#5 with notice := none }
    let asked := heardIntent i (latched .locked low)
    (∀ s ∈ [addressed 4 low, latched .locked low, asked], Calm s ∧ s.latch.seq = .idle ∧ s.latch.position = .closed ∧
      GoodSupply s ∧ s.cfg.caps.window = true ∧ s.latch.crashEnd = none ∧ s.win.req = none ∧ s.win.motor = .off ∧
      s.pins.outerHandle = false ∧ s.win.norm = true ∧ s.win.p < s.cfg.dropDist ∧ s.win.heat < 80000)
      ∧ isTailgate (addressed 4 low) = true ∧ low.latch.lock = .unlocked ∧ low.latch.child ≠ .engaged
      ∧ Head (frameOf 1 (.intent i)) 999000 [] asked ∧ inSet asked.addr i.targets = true
      ∧ keyHigher ⟨i.epoch, 1⟩ asked.intent.keyLatch = true ∧ asked.intent.relock = none ∧ asked.intent.relockSpent = none
      ∧ (∀ q ∈ [(Instr.tailgateButton, addressed 4 low), (.innerHandlePull, latched .locked low), (.latchIntent, asked)],
        (after q.1 q.2).latch.seq = .dropping ∧ (after q.1 q.2).win.req = some ⟨.drop, .down, .toPosition 40⟩)
      ∧ (after .innerHandlePull (winOf (fun x => { x with heat := 80000 }) low)).latch.seq = .releasing := by
  decide +kernel

/-- Every last-applied key at (1, FR). -/
def keysAtOne (s : State) : State :=
  intentOf (fun x => { x with keyLatch := ⟨1#16, 1⟩, keyChild := ⟨1#16, 1⟩, keyWindow := ⟨1#16, 1⟩ }) s

/-- The hypotheses common to every clause of `TargetDecidesByOrderKeyAndAcks`. -/
abbrev Deciding (i : IntentFrame) (s : State) : Prop :=
  Calm s ∧ Head (frameOf 1 (.intent i)) 999000 [] s ∧ i.notice = none ∧ s.intent.relock = none ∧ s.intent.relockSpent = none ∧
    s.line.state = .ok ∧ Roomy 4 s ∧ s.latch.seq = .idle ∧ s.latch.position = .closed ∧ s.pins.outerHandle = false ∧ isRear s = false ∧
    s.win.req = none

def lock0 : IntentFrame := intentOfKind .lock 0#16 31#5
def lock1 : IntentFrame := intentOfKind .lock 1#16 31#5
def lock2 : IntentFrame := intentOfKind .lock 2#16 31#5
def child2 : IntentFrame := intentOfKind .childOff 2#16 31#5
def stop2 : IntentFrame := intentOfKind .windowsStop 2#16 30#5

theorem witness_TargetDecides_lower : Deciding lock0 (heardIntent lock0 (keysAtOne station)) := by
  and_intros <;> decide
theorem witness_TargetDecides_equal : Deciding lock1 (heardIntent lock1 (keysAtOne station)) := by
  and_intros <;> decide
theorem witness_TargetDecides_higher : Deciding lock2 (heardIntent lock2 (keysAtOne station)) := by
  and_intros <;> decide
theorem witness_TargetDecides_child : Deciding child2 (heardIntent child2 (keysAtOne station)) := by
  and_intros <;> decide
theorem witness_TargetDecides_noTarget : Deciding stop2 (heardIntent stop2 (keysAtOne station))
    ∧ inSet (heardIntent stop2 (keysAtOne station)).addr 30#5 = false := by
  and_intros <;> decide

/-- A WINDOWS STOP with a WINDOWS CLOSE of a key in the press memory. -/
theorem witness_TargetDecides_stop :
    let i := intentOfKind .windowsStop 2#16 31#5
    let s := heardIntent i (intentOf (fun x => { x with pressWindow := some ⟨.windowsClose, 31#5, 7#32, 500000, false⟩ })
      (keysAtOne station))
    Deciding i s ∧ inSet s.addr i.targets = true ∧ (∀ r ∈ s.win.req, r.source ≠ .global) := by
  refine ⟨?_, by decide, by decide⟩
  and_intros <;> decide

/-- Epochs 1, 0 and 2 from FR give an equal key, a lower one and a higher one, and crash hold stops a LOCK. -/
theorem witness_TargetDecidesByOrderKeyAndAcks :
    (⟨1#16, 1⟩ : OrderKey) = lastKey .latch (keysAtOne station).intent ∧ keyHigher ⟨0#16, 1⟩ ⟨1#16, 1⟩ = false
      ∧ keyHigher ⟨2#16, 1⟩ ⟨1#16, 1⟩ = true
      ∧ (let s := heardIntent (intentOfKind .lock 2#16 31#5) (latchOf (fun x => { x with crashEnd := some 1000001 }) station)
        Calm s ∧ inSet s.addr 31#5 = true ∧ s.line.state = .ok ∧ Roomy 4 s ∧ s.latch.crashEnd.isSome = true) := by
  and_intros <;> decide

/-- The hypotheses common to every clause of `AppliedIntentActsOnTheClosure`. -/
abbrev Applying (i : IntentFrame) (s : State) : Prop :=
  Calm s ∧ Head (frameOf 1 (.intent i)) 999000 [] s ∧ i.notice = none ∧ s.intent.relock = none ∧ s.intent.relockSpent = none ∧
    inSet s.addr i.targets = true ∧ s.win.drop = none ∧
    keyHigher { epoch := i.epoch, origin := 1 } (lastKey i.kind.family s.intent) = true

/-- RL with child safety RELEASED, and TG without a window. -/
def rearStation : State := addressed 2 (latchOf (fun x => { x with child := .released }) station)
def tailgate : State :=
  addressed 4 { station with cfg := { station.cfg with caps := { station.cfg.caps with window := false } } }

/-- H at one below the soft limit. -/
def warm : State := winOf (fun x => { x with heat := 59999 }) station

theorem witness_AppliedIntentActsOnTheClosure :
    Applying (intentOfKind .childOn 2#16 31#5) (heardIntent (intentOfKind .childOn 2#16 31#5) rearStation)
      ∧ (isRear rearStation = true ∧ rearStation.latch.child = .released ∧ rearStation.latch.seq = .idle
        ∧ rearStation.win.req = none)
      ∧ Applying (intentOfKind .childOn 2#16 31#5)
          (heardIntent (intentOfKind .childOn 2#16 31#5) (moving .down .localSwitch .auto rearStation))
      ∧ Applying (intentOfKind .windowsClose 2#16 31#5) (heardIntent (intentOfKind .windowsClose 2#16 31#5) warm)
      ∧ Applying (intentOfKind .windowsOpen 2#16 31#5) (heardIntent (intentOfKind .windowsOpen 2#16 31#5) warm)
      ∧ (warm.win.req = none ∧ warm.cfg.caps.window = true ∧ GoodSupply warm ∧ warm.win.norm = true ∧
        warm.latch.crashEnd = none ∧ warm.win.heat < 60000 ∧ warm.latch.position = .closed ∧ warm.pinch.mode = .normal)
      ∧ Applying (intentOfKind .unlockAndOpen 2#16 16#5) (heardIntent (intentOfKind .unlockAndOpen 2#16 16#5) tailgate)
      ∧ (tailgate.latch.seq = .idle ∧ tailgate.latch.position = .closed ∧ GoodSupply tailgate ∧
        tailgate.latch.lock = .unlocked ∧ tailgate.cfg.caps.window = false) := by
  and_intros <;> decide

/-- CHILD OFF at an ENGAGED station; UNLOCK AND OPEN at LOCKED and DEADLOCKED ones, with the glass at the drop position
and in crash hold. -/
theorem witness_AppliedIntent_unlocks :
    Applying (intentOfKind .childOff 2#16 31#5)
        (heardIntent (intentOfKind .childOff 2#16 31#5) (latchOf (fun x => { x with child := .engaged }) rearStation))
      ∧ isRear rearStation = true
      ∧ (∀ s ∈ [latched .locked (at_ 40 station), latched .deadlocked (at_ 40 station),
          latched .locked (at_ 12 (latchOf (fun x => { x with crashEnd := some 1000001 }) station))],
        Applying (intentOfKind .unlockAndOpen 2#16 31#5) (heardIntent (intentOfKind .unlockAndOpen 2#16 31#5) s)
          ∧ s.latch.seq = .idle ∧ s.latch.position = .closed ∧ GoodSupply s ∧ s.pins.outerHandle = false
          ∧ s.latch.lock ≠ .unlocked
          ∧ ((s.win.norm = true ∧ s.win.p = s.cfg.dropDist) ∨ s.latch.crashEnd.isSome = true)) := by
  and_intros <;> decide

/-- An ack from a station to FL for tag 3 and an epoch. -/
def ackFrame (o : Addr) (r : AckResult) (ep : Epoch) : Frame :=
  frameOf o (.intentAck { toAddr := 0, kind := .lock, tag := 3, epoch := ep, result := r, ownEpoch := 9#16
                          current := .latch none none, wpos := 0#8, window := none, last := none })

/-- The station with entry 3 waiting for some stations, hearing an ack. -/
def acked (ps : Stations) (f : Frame) : State := hearing f (tabled [entry 3 ps 1, entry 4 2#5 1] station)

abbrev Acking (ps : Stations) (f : Frame) : Prop :=
  Calm (acked ps f) ∧ Head f 999000 [] (acked ps f) ∧ entryOf 3 (acked ps f) = some (entry 3 ps 1)
    ∧ TableBounds (acked ps f) ∧ (acked ps f).line.state = .ok ∧ Roomy 4 (acked ps f)

/-- A repeat, one of two pending stations, the last one, another epoch, and another station. -/
theorem witness_AcksAndAttemptTimersMoveTheEntry :
    Acking 2#5 (ackFrame 2 .applied 2#16) ∧ Acking 10#5 (ackFrame 1 .applied 2#16) ∧ Acking 2#5 (ackFrame 1 .crashHold 2#16)
      ∧ Acking 2#5 (ackFrame 1 .applied 7#16) ∧ (7#16 : Epoch) ≠ (entry 3 2#5 1).epoch
      ∧ (0 : Addr) ≠ (addressed 1 station).addr ∧ Calm (hearing (ackFrame 2 .applied 2#16) (addressed 1 station))
      ∧ inSet 2 (entry 3 2#5 1).pending = false ∧ (resultOf 2 (entry 3 2#5 1)).isSome = true
      ∧ (entry 3 2#5 1).pending ≠ 0#5 ∧ inSet 1 (entry 3 10#5 1).pending = true
      ∧ without (entry 3 10#5 1).pending (only 1) ≠ 0#5 ∧ without (entry 3 2#5 1).pending (only 1) = 0#5
      ∧ (entry 3 2#5 1).unresponsive = 0#5 := by
  and_intros <;> decide

/-- Entry 3 with RR unresponsive, waiting for FR alone and for FR and RL. -/
def entryPartial (ps : Stations) : OpenEntry := { entry 3 ps 2 with unresponsive := 8#5 }

def ackedPartial (ps : Stations) (f : Frame) : State := hearing f (tabled [entryPartial ps, entry 4 2#5 1] station)

/-- The last pending ack with a station unresponsive, and the late ack of that station. -/
theorem witness_Acks_partialAndLate :
    (∀ f ∈ [ackFrame 1 .applied 2#16, ackFrame 3 .applied 2#16],
      Calm (ackedPartial 2#5 f) ∧ Head f 999000 [] (ackedPartial 2#5 f)
        ∧ entryOf 3 (ackedPartial 2#5 f) = some (entryPartial 2#5) ∧ TableBounds (ackedPartial 2#5 f)
        ∧ (ackedPartial 2#5 f).line.state = .ok ∧ Roomy 4 (ackedPartial 2#5 f) ∧ f.origin ≠ (ackedPartial 2#5 f).addr)
      ∧ inSet 1 (entryPartial 2#5).pending = true ∧ without (entryPartial 2#5).pending (only 1) = 0#5
      ∧ (entryPartial 2#5).unresponsive ≠ 0#5 ∧ inSet 3 (entryPartial 2#5).pending = false
      ∧ inSet 3 (entryPartial 2#5).targets = true ∧ resultOf 3 (entryPartial 2#5) = none
      ∧ (entryPartial 2#5).pending ≠ 0#5 := by
  and_intros <;> decide

/-- At 3 and at 4 attempts, with a start hold running. -/
theorem witness_Acks_attemptTimers : ∀ n ∈ [3, 4],
    let s := tabled [entry 3 10#5 n, entry 4 2#5 1] (intentOf (fun x => { x with startHold := some 1100000 }) station)
    Calm s ∧ entryOf 3 s = some (entry 3 10#5 n) ∧ (entry 3 10#5 n).timer = some 1005000 ∧ TableBounds s ∧
      (entry 3 10#5 n).pending ≠ 0#5 ∧ s.line.state = .ok ∧ Roomy 4 s ∧ s.intent.startHold = some 1100000 ∧
      (n < 4 ∨ 4 ≤ (entry 3 10#5 n).attempts) := by decide

/-- Open entries of LOCK and UNLOCK, with the latch in DROPPING and a drop out, at the start of crash hold; and an UP
motion. -/
theorem witness_CrashNotice_started :
    let s := hearing crashFrame (tabled [entry 3 2#5 1, { entry 4 2#5 1 with kind := .unlock }] (dropping .moving 0))
    let u := hearing crashFrame (moving .up .global .auto station)
    Calm s ∧ Head crashFrame 999000 [] s ∧ s.pins.outerHandle = false ∧ s.latch.crashEnd = none
      ∧ s.latch.seq = .dropping ∧ GoodSupply s ∧ TableBounds s ∧ Roomy (s.intent.table.length + 4) s
      ∧ s.line.state = .ok ∧ (∀ r ∈ s.win.req, r.dir = .down)
      ∧ Calm u ∧ u.latch.crashEnd = none ∧ u.latch.seq ≠ .dropping ∧ u.intent.table = [] ∧ u.win.drop = none := by
  and_intros <;> decide

/-- An EGRESS or an ENTRY in DROPPING with its drop out, at a station whose child safety is RELEASED. -/
def egressing (a : Addr) (k : ReleaseKind) : State :=
  addressed a (latchOf (fun x => { x with kind := some k, child := .released }) (dropping .moving 0))

/-- A LOCK for an ENTRY and for an EGRESS, a DEADLOCK, CHILD ON for an EGRESS, and a CRANK that ends. -/
theorem witness_ReleaseSequenceIsAbandonedOrResumed :
    (∀ p ∈ [(lock2, egressing 0 .entry), (lock2, egressing 0 .egress),
        (intentOfKind .deadlock 2#16 31#5, egressing 0 .egress), (intentOfKind .childOn 2#16 31#5, egressing 2 .egress)],
      let s := heardIntent p.1 p.2
      Calm s ∧ Head (frameOf 1 (.intent p.1)) 999000 [] s ∧ p.1.notice = none ∧ s.intent.relock = none
        ∧ s.intent.relockSpent = none ∧ inSet s.addr p.1.targets = true
        ∧ keyHigher { epoch := p.1.epoch, origin := 1 } (lastKey p.1.kind.family s.intent) = true
        ∧ s.latch.crashEnd = none ∧ s.latch.seq = .dropping ∧ s.latch.position = .closed ∧ s.latch.lock = .unlocked
        ∧ s.latch.dropOut = true ∧ s.win.req = some ⟨.drop, .down, .toPosition 40⟩ ∧ s.win.overrideMotion = false
        ∧ (p.1.kind = .childOn → isRear s = true))
      ∧ (let s := powerOf (fun x => { x with supply := .crank, rise7800 := some 960000, rise9300 := none })
          (latchOf (fun x => { x with seq := .retryWait, kind := some .entry, supplyWait := some 3000000 }) station)
        Calm s ∧ s.latch.supplyWait.isSome = true ∧ s.win.motion = .idle ∧ s.store.writing = none) := by
  and_intros <;> decide

/-- WINDOWS CLOSE at a station that each check refuses, one after the other, and against a running motion. -/
theorem witness_ArbiterRefusesPreemptsAndReplaces :
    let i := intentOfKind .windowsClose 2#16 31#5
    (∀ s ∈ [{ station with cfg := { station.cfg with caps := { station.cfg.caps with window := false } } },
        supplied .under station, winOf (fun x => { x with norm := false }) station,
        latchOf (fun x => { x with crashEnd := some 1000001 }) station, winOf (fun x => { x with heat := 80000 }) station,
        latchOf (fun x => { x with position := .opened }) station, pinchOf (fun x => { x with mode := .pinchHold }) station,
        moving .down .localSwitch .auto station, moving .down .global .auto station],
      let h := heardIntent i s
      Calm h ∧ Head (frameOf 1 (.intent i)) 999000 [] h ∧ i.notice = none ∧ inSet h.addr i.targets = true
        ∧ keyHigher { epoch := i.epoch, origin := 1 } h.intent.keyWindow = true ∧ h.line.state = .ok ∧ Roomy 4 h
        ∧ h.win.drop = none) := by decide

/-- What every clause on a press past the checks assumes. -/
abbrev Contending (d : Direction) (s : State) : Prop :=
  Calm s ∧ s.win.overrideMotion = false ∧ s.cfg.caps.window = true ∧ s.power.supply ≠ .under ∧ s.win.norm = true
    ∧ s.latch.crashEnd = none ∧ s.win.heat < 60000 ∧ s.latch.position = .closed ∧ s.pinch.mode = .normal
    ∧ s.latch.child ≠ .engaged ∧ s.pins.localHold ≠ some d

/-- Against a REVERSAL and a DROP; a GLOBAL motion in both directions, BRAKING and PAUSED; an own MANUAL one. -/
theorem witness_Arbiter_press :
    (∀ s ∈ [moving .down .reversal (.toPosition 600) station, dropping .moving 0, moving .up .global .auto station,
        moving .down .global .auto station, braking .up .global .auto,
        winOf (fun x => { x with motion := .paused, motor := .off, pauseLimit := some 3000000 }) (moving .down .global .auto station),
        moving .down .localSwitch .manual station], Contending .up s ∧ s.win.req.isSome = true)
      ∧ (let s := pinsOf (fun x => { x with localHold := some .up }) (moving .up .localSwitch .manual station)
        Calm s ∧ s.win.req = some ⟨.localSwitch, .up, .manual⟩ ∧ s.cfg.caps.window = true ∧ s.power.supply ≠ .under
          ∧ s.win.norm = true ∧ s.latch.crashEnd = none ∧ s.win.heat < 60000 ∧ s.latch.position = .closed
          ∧ s.pinch.mode = .normal ∧ s.latch.child ≠ .engaged ∧ s.pins.localSpent = false)
      ∧ (let s := hearing (packFrame .upAuto) (letGo .manual)
        Calm s ∧ Head (packFrame .upAuto) 999000 [] s ∧ (packFrame .upAuto).origin = driverAddr s.cfg
          ∧ s.addr ≠ driverAddr s.cfg ∧ s.addr.val < 4 ∧ (∀ q ∈ s.win.packAt, s.now < q + 250000)
          ∧ s.win.req = some ⟨.remoteSwitch, .up, .manual⟩ ∧ s.win.packEntry = .upManual) := by
  and_intros <;> decide

/-! ### Keys and fob frames -/

/-- A button frame of slot 2's identity: a counter, a button, and a code off by a difference. -/
def button (c : Counter) (b : Button) (off : BitVec 24) : List Byte :=
  [BitVec.ofNat 8 (16 + b.code)] ++ bytes32 key2.identity ++ bytes24 c
    ++ bytes24 (codeOf key2.sHi key2.sLo (buttonMessage c b) + off)

/-- The same frame, decoded. -/
def press (c : Counter) (b : Button) (off : BitVec 24) : ButtonFrame :=
  { identity := key2.identity, button := b, counter := c
    code := codeOf key2.sHi key2.sLo (buttonMessage c b) + off }

/-- A station whose slot 2 is `k`. -/
def slotted (k : KeySlot) : State :=
  receiving { station with keys := { station.keys with slots := station.keys.slots.set 2 { k with check := slotCover 2 k } } }

/-- What every clause on a button frame assumes. -/
abbrev Pressing (c : Counter) (b : Button) (off : BitVec 24) (k : KeySlot) : Prop :=
  Calm (slotted k) ∧ (slotted k).cfg.caps.receiver = true ∧ decodeButton (button c b off) = some (press c b off)
    ∧ (∀ m : Slot, slotGood m (slotted k).keys.slots[m] = true)
    ∧ (∀ m : Slot, (slotted k).keys.slots[m].state ≠ .empty → (slotted k).keys.slots[m].identity = key2.identity → m = 2)

/-- An intent with the notice of a key, heard from FR at a station whose slot 2 holds the key. -/
def noticed (k : IntentKind) (ep : Epoch) (ts : Stations) (id : Word32) (c : Counter) : IntentFrame :=
  { intentOfKind k ep ts with notice := some { identity := id, counter := c } }

/-- At no target, and with an equal key; an unknown identity; counters 1, 32768 and 32769 ahead; an armed auto-relock. -/
theorem witness_KeyNoticeIsTakenWithAnIntent :
    (∀ i ∈ [noticed .lock 2#16 2#5 7#32 5#24, noticed .unlock 2#16 2#5 key2.identity 0x1F4A#24,
        noticed .windowsStop 2#16 2#5 key2.identity 0x9F49#24, noticed .windowsOpen 2#16 2#5 key2.identity 0x9F4A#24,
        noticed .unlock 1#16 31#5 key2.identity 0x1F4A#24, noticed .lock 2#16 31#5 key2.identity 0x1F4A#24,
        noticed .windowsStop 2#16 31#5 key2.identity 0x1F4A#24],
      let s := heardIntent i (keysAtOne
        (intentOf (fun x => { x with relock := some ⟨5000000, ⟨3#16, 0⟩, i.notice⟩ }) (slotted key2)))
      Calm s ∧ Head (frameOf 1 (.intent i)) 999000 [] s ∧ i.notice.isSome = true
        ∧ (inSet s.addr i.targets = false ∨ (s.latch.crashEnd = none ∧ Roomy 4 s
          ∧ ((⟨i.epoch, 1⟩ : OrderKey) = lastKey i.kind.family s.intent
            ∨ (keyHigher ⟨i.epoch, 1⟩ (lastKey i.kind.family s.intent) = true ∧ s.latch.seq = .idle
              ∧ s.latch.position = .closed ∧ s.pins.outerHandle = false ∧ s.win.req = none)))))
      ∧ (∀ m : Slot, slotGood m (slotted key2).keys.slots[m] = true)
      ∧ (∀ m : Slot, (slotted key2).keys.slots[m].state ≠ .empty → (slotted key2).keys.slots[m].identity ≠ 7#32)
      ∧ (slotted key2).keys.slots[(2 : Slot)].state = .paired
      ∧ (0x9F49#24 - (slotted key2).keys.slots[(2 : Slot)].counter).toNat = 32768
      ∧ keyHigher ⟨3#16, 0⟩ ⟨1#16, 1⟩ = true := by
  and_intros <;> decide

theorem witness_ButtonFrame_suspended : Pressing 0x1F4A#24 .unlock 0#24 { key2 with state := .suspended } := by
  and_intros <;> decide

/-- A wrong code: out of a window, as the 7th and as the 8th of one. -/
theorem witness_ButtonFrame_badCode :
    Pressing 0x1F4A#24 .unlock 1#24 key2
      ∧ Pressing 0x1F4A#24 .unlock 1#24 { key2 with badCodes := 7, windowStart := some 900000 }
      ∧ ({ key2 with windowStart := some 900000 }).windowStart.any (fun w => decide (station.now < w + 60000000)) = true
      ∧ codeOf key2.sHi key2.sLo (BitVec.ofNat 32 ((0x1F4A#24 : Counter).toNat * 256 + Button.unlock.code))
          ≠ (press 0x1F4A#24 .unlock 1#24).code := by
  and_intros <;> decide

/-- Distances 0, 1, 256, 257, 32768 and 32769, each with the right code. -/
theorem witness_ButtonFrame_counters :
    Pressing 0x1F49#24 .lock 0#24 key2 ∧ Pressing 0x1F4A#24 .lock 0#24 key2 ∧ Pressing 0x2049#24 .lock 0#24 key2
      ∧ Pressing 0x204A#24 .lock 0#24 key2 ∧ Pressing 0x9F49#24 .lock 0#24 key2
      ∧ Pressing 0x9F4A#24 .lock 0#24 key2 := by
  and_intros <;> decide

/-- The right code, as the statement has it. -/
abbrev Good (c : Counter) : Prop :=
  codeOf key2.sHi key2.sLo (BitVec.ofNat 32 (c.toNat * 256 + Button.lock.code)) = (press c .lock 0#24).code

theorem witness_ButtonFrame_distances :
    Good 0x1F49#24 ∧ Good 0x1F4A#24 ∧ Good 0x2049#24 ∧ Good 0x204A#24 ∧ Good 0x9F49#24 ∧ Good 0x9F4A#24
      ∧ (0x1F49#24 - key2.counter).toNat = 0 ∧ (0x1F4A#24 - key2.counter).toNat = 1
      ∧ (0x2049#24 - key2.counter).toNat = 256 ∧ (0x204A#24 - key2.counter).toNat = 257
      ∧ (0x9F49#24 - key2.counter).toNat = 32768 ∧ (0x9F4A#24 - key2.counter).toNat = 32769 := by
  and_intros <;> decide

/-- A pending resync one count before; a closure open; LINE FAULT; no LOST slot is empty. -/
theorem witness_ButtonFrame_accepted :
    Pressing 0x9F49#24 .lock 0#24 { key2 with resync := some 0x9F48#24 }
      ∧ (slotted key2).line.state = .ok ∧ Roomy 4 (slotted key2)
      ∧ anyClosureOpen (latchOf (fun x => { x with position := .opened }) (slotted key2)) = true
      ∧ (faulted .held (slotted key2)).line.state ≠ .ok := by
  and_intros <;> decide

/-- A LOCK of the same key 2.9 s ago, with deadlock enabled. -/
def relocking : State :=
  let s := slotted key2
  { s with
    now := 10000000
    cfg := { s.cfg with deadlockEn := true, selective := true }
    intent := { s.intent with pressLatch := some ⟨.lock, 31#5, key2.identity, 7000001, false⟩ } }

theorem witness_ButtonFrame_deadlock : Calm relocking ∧ relocking.cfg.deadlockEn = true
    ∧ pressedWithin .lock (press 0x1F4A#24 .lock 0#24).identity 3000000 relocking = true
    ∧ pressedWithin .lock (press 0x1F4A#24 .lock 0#24).identity 2999999 relocking = false := by
  and_intros <;> decide

/-- Each button, accepted, at a station with the line OK and room in the table. -/
theorem witness_FobButtonIssuesItsIntent :
    (∀ b ∈ [Button.lock, .unlock, .tailgate, .release, .lockHeld, .unlockHeld],
      decodeButton (button 0x1F4A#24 b 0#24) = some (press 0x1F4A#24 b 0#24)
        ∧ codeOf key2.sHi key2.sLo (BitVec.ofNat 32 ((0x1F4A#24 : Counter).toNat * 256 + b.code)) = (press 0x1F4A#24 b 0#24).code)
      ∧ (∀ s ∈ [slotted key2, relocking], Calm s ∧ Roomy 4 s ∧ s.line.state = .ok ∧ s.cfg.caps.receiver = true
        ∧ (∀ m : Slot, slotGood m s.keys.slots[m] = true)
        ∧ (∀ m : Slot, s.keys.slots[m].state ≠ .empty → s.keys.slots[m].identity = key2.identity → m = 2)
        ∧ s.keys.slots[(2 : Slot)].state = .paired ∧ s.keys.slots[(2 : Slot)].identity = key2.identity
        ∧ s.keys.slots[(2 : Slot)].counter = 0x1F49#24 ∧ s.keys.slots[(2 : Slot)].sHi = key2.sHi
        ∧ s.keys.slots[(2 : Slot)].sLo = key2.sLo ∧ s.intent.startHold = none ∧ s.intent.table = []
        ∧ s.intent.nextTag ≠ 15 ∧ anyClosureOpen s = false) := by
  and_intros <;> decide

/-- 4.7 and 4.8: UNLOCK within 5 s of an UNLOCK to the driver goes to all, and starts the relock timer; RELEASE stops
a WINDOWS CLOSE of the key, but not one that a WINDOWS STOP has followed. -/
theorem test_fobButtons :
    let s := { slotted key2 with
      now := 10000000
      cfg := { (slotted key2).cfg with selective := true, relockS := 30 } }
    let first := after (.buttonFrame (button 0x1F4A#24 .unlock 0#24)) s
    let second := after (.buttonFrame (button 0x1F4B#24 .unlock 0#24)) { first with now := 14999999 }
    let closed := after (.buttonFrame (button 0x1F4A#24 .lockHeld 0#24)) s
    first.intent.pressLatch.map (fun p => (p.kind, p.targets)) = some (.unlock, 1#5)
      ∧ first.intent.relock.map (·.expiry) = some 40000000
      ∧ second.intent.pressLatch.map (·.targets) = some 31#5
      ∧ closed.intent.pressWindow.map (·.kind) = some .windowsClose
      ∧ (after (.buttonFrame (button 0x1F4B#24 .release 0#24)) closed).intent.epoch = 2#16
      ∧ (after (.buttonFrame (button 0x1F4B#24 .release 0#24))
          (intentOf (fun x => { x with pressWindow := x.pressWindow.map fun p => { p with followed := true } })
            closed)).intent.epoch = 1#16 := by
  decide +kernel

theorem witness_ButtonFrame_timers : ∃ s : State, Calm s ∧ s.keys.slots[(2 : Slot)].windowStart = some 900000
    ∧ s.keys.slots[(2 : Slot)].suspendedUntil = some 1500000 ∧ s.keys.slots[(2 : Slot)].state = .suspended :=
  ⟨slotted { key2 with state := .suspended, windowStart := some 900000, suspendedUntil := some 1500000 }, by
    and_intros <;> decide⟩

/-- A passive reply of slot 2 to a challenge. -/
def reply : Reply :=
  { identity := key2.identity, echo := 0xBBCCDD#24, strength := 120#8, code := codeOf key2.sHi key2.sLo 0xAABBCCDD#32 }

/-- The open search that drew the challenge. -/
def collecting : SearchRec :=
  { touchRecord .unlockArea 980000 with
    stage := .collecting, challenge := some 0xAABBCCDD#32, windowEnd := some 1020000 }

def replying : State :=
  searchOf (fun x => { x with record := some collecting }) (hearing (frameOf 1 (.fobRelay reply)) (slotted key2))

theorem witness_PassiveReplyIsRelayedOrCollected :
    decodePassive ([0x20#8] ++ replyBytes reply) = some reply ∧ (slotted key2).search.record = none
      ∧ Calm (slotted key2) ∧ Roomy 4 (slotted key2) ∧ (slotted key2).cfg.caps.receiver = true
      ∧ Calm replying ∧ Roomy 4 replying ∧ replying.line.state = .ok ∧ Head (frameOf 1 (.fobRelay reply)) 999000 [] replying
      ∧ replying.search.record = some collecting ∧ (0xAABBCCDD#32).setWidth 24 = reply.echo ∧ replying.now ≤ 1020000
      ∧ reply ∉ collecting.taken ∧ (∀ m : Slot, slotGood m replying.keys.slots[m] = true)
      ∧ (∀ m : Slot, replying.keys.slots[m].state ≠ .empty → replying.keys.slots[m].identity = reply.identity → m = 2)
      ∧ replying.keys.slots[(2 : Slot)].state = .paired ∧ replying.keys.slots[(2 : Slot)].identity = reply.identity
      ∧ codeOf replying.keys.slots[(2 : Slot)].sHi replying.keys.slots[(2 : Slot)].sLo 0xAABBCCDD#32 = reply.code := by
  and_intros <;> decide

/-- R101: the code in numbers, of a button frame and of a passive reply, that matches and that does not; the states are
those of witness_ButtonFrame_badCode and witness_PassiveReplyIsRelayedOrCollected. -/
theorem witness_CodeFunctionInNumbers :
    let code := fun m : Nat =>
      let round := fun w : Nat =>
        let x := (w * 33 + key2.sHi.toNat) % 2 ^ 32
        x ^^^ (x / 65536)
      round (round (round (round (key2.sLo.toNat ^^^ m)))) % 2 ^ 24
    Pressing 0x1F4A#24 .unlock 0#24 key2 ∧ Pressing 0x1F4A#24 .unlock 1#24 key2 ∧ key2.state = .paired
      ∧ (press 0x1F4A#24 .unlock 0#24).code.toNat = code (0x1F4A * 256 + 2)
      ∧ (press 0x1F4A#24 .unlock 1#24).code.toNat ≠ code (0x1F4A * 256 + 2)
      ∧ Calm replying ∧ replying.cfg.caps.receiver = true ∧ replying.search.record = some collecting
      ∧ reply.code.toNat = code 0xAABBCCDD ∧ (reply.code + 1).toNat ≠ code 0xAABBCCDD := by
  and_intros <;> decide

/-- A wrong code leaves the stale count and the counter, also where the counter is stale. -/
theorem test_wrongCode :
    (after (.buttonFrame (button 0x1F48#24 .unlock 1#24)) (slotted key2)).keys.bad = 1
      ∧ (after (.buttonFrame (button 0x1F48#24 .unlock 1#24)) (slotted key2)).keys.stale = 0
      ∧ (after (.passiveReply ([0x20#8] ++ replyBytes { reply with code := reply.code + 1 })) replying).keys.bad = 1
      ∧ (after (.passiveReply ([0x20#8] ++ replyBytes reply)) replying).keys.bad = 0 := by
  decide +kernel

/-- The station's own relay of the reply, in transmission. -/
def relaying (rec : Option SearchRec) : State :=
  searchOf (fun x => { x with record := rec }) (lineOf (fun l => { l with
    tx := [{ frame := frameOf 0 (.fobRelay reply), age := 1, errors := 0, inTx := true }], cond := .frame
    frameAt := 997000 }) (slotted key2))

/-- R111: the own relay reaches the own search unit; with no search open it changes nothing. -/
theorem witness_PassiveReply_sent : (∀ r ∈ [none, some collecting], Calm (relaying r) ∧ Roomy 4 (relaying r)
      ∧ (relaying r).line.state = .ok ∧ (relaying r).line.rx = [] ∧ (relaying r).search.record = r)
    ∧ (advanceTo (997000 + 3600) (relaying none)).now ≤ 1020000
    ∧ ((after .frameSent (relaying (some collecting))).search.record.map fun q => q.candidates.map (·.slot))
        = some [2] := by decide +kernel

/-- Slot 2 altered under its check word, its record good or absent and current or not, the lower slots EMPTY. -/
def spoiltSlot (current stored : Bool) (s : State) : State :=
  let k := { key2 with counter := 0#24, storeCurrent := current }
  { s with
    keys := { s.keys with slots := s.keys.slots.set 2 k }
    store := { s.store with
      records := s.store.records.set 3 (if stored then some (recordBytes (.key 2) (keyContent 2 key2)) else none) } }

/-- R98: a button frame, a passive reply, a FOB RELAY, an own relay sent and a counter notice meet the altered slot: it is
reloaded, or DAMAGED. -/
theorem witness_SpoiltSlot :
    let noticed := receiving (heardIntent { intentOfKind .lock 0#16 30#5 with
      notice := some { identity := key2.identity, counter := 0x1F4A#24 } } station)
    (∀ q ∈ [(Instr.buttonFrame unlockBytes, keyed station), (.fobRelay, replying), (.frameSent, relaying (some collecting)),
        (.latchIntent, noticed)],
      MeetsSpoiltSlot key2.identity 2 (spoiltSlot true true q.2) ∧ (slotRecord 2 (spoiltSlot true true q.2)).isSome = true
        ∧ slotRecord 2 (spoiltSlot true false q.2) = none ∧ Calm (spoiltSlot true true q.2)
        ∧ (after q.1 (spoiltSlot true true q.2)).keys.slots[(2 : Slot)].state = .paired
        ∧ (after q.1 (spoiltSlot true false q.2)).keys.slots[(2 : Slot)].state = .damaged
        ∧ (after q.1 (spoiltSlot false true q.2)).keys.slots[(2 : Slot)].state = .damaged) := by
  decide +kernel

/-- A reply whose identity no slot holds, or whose code is wrong. -/
def replyOf (id : Word32) (code : BitVec 24) : Reply := { reply with identity := id, code := code }

/-- Clause by clause: another challenge, after the window, a duplicate, an unknown identity, a SUSPENDED slot, and a
wrong code. -/
theorem witness_PassiveReply_discarded :
    (∀ rp ∈ [reply, replyOf 1#32 reply.code, replyOf key2.identity (reply.code + 1)],
        decodePassive ([0x20#8] ++ replyBytes rp) = some rp)
      ∧ (0xAABBCCDE#32).setWidth 24 ≠ reply.echo
      ∧ Calm (searchOf (fun x => { x with record := some { collecting with challenge := some 0xAABBCCDE#32 } }) replying)
      ∧ Calm (searchOf (fun x => { x with record := some { collecting with windowEnd := some 999999 } }) replying)
      ∧ ¬ (∃ w ∈ ({ collecting with windowEnd := some 999999 } : SearchRec).windowEnd, replying.now ≤ w)
      ∧ Calm (searchOf (fun x => { x with record := some { collecting with taken := [reply] } }) replying)
      ∧ (∀ m : Slot, replying.keys.slots[m].state ≠ .empty → replying.keys.slots[m].identity ≠ 1#32)
      ∧ codeOf key2.sHi key2.sLo 0xAABBCCDD#32 ≠ reply.code + 1
      ∧ (∀ m : Slot, slotGood m (slotted { key2 with state := .suspended }).keys.slots[m] = true)
      ∧ (slotted { key2 with state := .suspended }).keys.slots[(2 : Slot)].state = .suspended := by
  and_intros <;> decide

/-! ### Searches -/

/-- A station with this search open. -/
def searching (r : SearchRec) (s : State) : State := searchOf (fun x => { x with record := some r }) s

/-- Another station's claim on the LF air. -/
def claimed (at_ : Nat) (s : State) : State := searchOf (fun x => { x with claims := [⟨3, .searchClaim, at_⟩] }) s

def touched (a : Area) (s : State) : State := searchOf (fun x => { x with held := some ⟨a, 900000⟩ }) s

/-- What every clause on a touch assumes. -/
abbrev Touching (s : State) : Prop :=
  Calm s ∧ Roomy 4 s ∧ s.line.state = .ok ∧ s.cfg.caps.outer = true ∧ isTailgate s = false

/-- Air free at the claim's own expiry and taken 1 µs before it; CRANK, UNDER, a search open, and a station locked. -/
theorem witness_TouchOpensHoldsOrDropsASearch :
    Touching (claimed 1000000 station) ∧ Touching (claimed 1000001 station) ∧ Touching (supplied .crank station)
      ∧ Touching (supplied .under station) ∧ Touching (searching collecting station) ∧ Touching (latched .locked station)
      ∧ Touching (touched .unlockArea station) ∧ GoodSupply station ∧ station.search.record = none
      ∧ anyClosureOpen (peersIn .present station) = false ∧ station.latch.lock = .unlocked
      ∧ ((claimed 1000000 station).search.claims.all fun x => decide (x.expiry ≤ station.now)) = true
      ∧ ((claimed 1000001 station).search.claims.all fun x => decide (x.expiry ≤ station.now)) = false
      ∧ (touched .unlockArea station).search.held = some ⟨.unlockArea, 900000⟩ := by
  and_intros <;> decide

/-- The tailgate button at a LOCKED TG, a station without an outer antenna, and a lock area touch while LOCKED. -/
theorem witness_Touch_forms :
    (let s := addressed 4 (latched .locked station)
     Calm s ∧ Roomy 4 s ∧ s.line.state = .ok ∧ isTailgate s = true ∧ s.latch.lock ≠ .unlocked ∧ s.cfg.caps.outer = true
        ∧ s.search.record = none ∧ GoodSupply s)
      ∧ Calm (touched .tailgateButton (addressed 4 (latched .locked station)))
      ∧ (let s := { station with cfg := { station.cfg with caps := { station.cfg.caps with outer := false } } }
        Calm s ∧ Roomy 4 s ∧ s.line.state = .ok ∧ isTailgate s = false)
      ∧ (latched .locked station).latch.lock ≠ .unlocked := by
  and_intros <;> decide

/-- In LINE FAULT: a touch with the air free, one with a claim held, in CRANK, and with a search open. -/
theorem witness_StationActsAlone_touch :
    (∀ s ∈ [station, claimed 1000001 station, supplied .crank station, searching collecting station,
        addressed 4 (latched .locked station)],
      Calm (faulted .failures (receiving s)) ∧ (faulted .failures (receiving s)).line.state ≠ .ok
        ∧ (receiving s).cfg.caps.outer = true ∧ (receiving s).cfg.caps.receiver = true)
      ∧ isTailgate station = false ∧ isTailgate (addressed 4 station) = true := by
  and_intros <;> decide

/-- A claim in the transmit queue. -/
def claimTx : TxEntry := { frame := frameOf 0 .searchClaim, age := 0, errors := 0, inTx := false }

/-- What every clause on a heard claim assumes. -/
abbrev HearingClaim (p : Payload) (s : State) : Prop :=
  Calm s ∧ Roomy 4 s ∧ s.line.state = .ok ∧ Head (frameOf 1 p) 999000 [] s

/-- An own claim waiting, and a station with its search past the claim. -/
def claiming : State := searching (touchRecord .unlockArea 900000) (lineOf (fun x => { x with tx := [claimTx] }) station)

/-- From FR: a SEARCH CLAIM with and without an own claim waiting, an INTERIOR SEARCH that names FL, one that does not,
and one while another claim holds the air. -/
theorem witness_ClaimsJoinAndLeaveTheClaimList :
    HearingClaim .searchClaim (hearing (frameOf 1 .searchClaim) station)
      ∧ HearingClaim .searchClaim (hearing (frameOf 1 .searchClaim) claiming) ∧ ownClaimWaits claiming = true
      ∧ ownClaimWaits station = false
      ∧ HearingClaim (.interiorSearch 4#8 19#5) (hearing (frameOf 1 (.interiorSearch 4#8 19#5)) station)
      ∧ HearingClaim (.interiorSearch 4#8 2#5) (hearing (frameOf 1 (.interiorSearch 4#8 2#5)) station)
      ∧ HearingClaim (.interiorSearch 4#8 19#5) (hearing (frameOf 1 (.interiorSearch 4#8 19#5)) (claimed 1000001 station))
      ∧ (19#5).getLsbD station.addr.val = true ∧ (2#5).getLsbD station.addr.val = false
      ∧ ((claimed 1000001 station).search.claims.all fun c => c.origin == 1 || decide (c.expiry ≤ station.now)) = false
      ∧ (claimed 1000001 station).search.claims.find? (fun c => c.origin == 3) = some ⟨3, .searchClaim, 1000001⟩ := by
  and_intros <;> decide

/-- A key of slot 1 at a strength. -/
def keyAt (x : Byte) : Candidate := { slot := 1, identity := 7#32, strength := x, counter := 4#24 }

/-- A search of a kind at a stage whose window ends in 20 ms. -/
def windowed (k : SearchKind) (g : SearchStage) (a : Area) (l : List Candidate) : SearchRec :=
  { touchRecord a 900000 with
    kind := k, stage := g, windowEnd := some 1020000, candidates := l, challenge := some 5#32 }

/-- The peers PRESENT, with inner antennas. -/
def crowd (s : State) : State :=
  let t := peersIn .present s
  censusOf (fun x => { x with peers := Vector.replicate 8 { x.peers[0] with caps := some ⟨true, true, true, true, true⟩ } }) t

/-- One below the outer threshold and at it; the own lock in LINE FAULT; the UNLOCK's room; the participants. -/
theorem witness_OuterChallengeIsDecidedByItsStrongestKey :
    station.cfg.outerThr = 90
      ∧ (∀ y ∈ [keyAt 89#8], y.strength.toNat < station.cfg.outerThr)
      ∧ (∀ y ∈ [keyAt 90#8, { keyAt 90#8 with slot := 3 }, { keyAt 89#8 with slot := 0 }],
        y = keyAt 90#8 ∨ y.strength.toNat < (keyAt 90#8).strength.toNat
          ∨ (y.strength = (keyAt 90#8).strength ∧ (keyAt 90#8).slot.val < y.slot.val))
      ∧ (∀ l ∈ [[keyAt 89#8], [keyAt 90#8]], Calm (searching (windowed .entry .collecting .unlockArea l) station)
        ∧ Roomy 4 (searching (windowed .entry .collecting .unlockArea l) station))
      ∧ Calm (searching (windowed .entry .collecting .unlockArea [keyAt 90#8]) (faulted .held (latched .locked station)))
      ∧ (faulted .held (latched .locked station)).latch.lock = .locked ∧ station.latch.seq = .idle
      ∧ station.pins.outerHandle = false ∧ station.intent.startHold = none ∧ station.intent.table.length < 4
      ∧ station.intent.nextTag ≠ 15 ∧ station.cfg.selective = false ∧ station.addr.val < 5 := by
  and_intros <;> decide

/-- Under selective unlock, with and without an UNLOCK of the key within 5 s, and from the tailgate button. -/
theorem witness_OuterChallenge_targets :
    let selective := fun s : State => { s with now := 6000000, cfg := { s.cfg with selective := true } }
    let before := fun (at_ : Nat) (s : State) =>
      intentOf (fun x => { x with pressLatch := some ⟨.unlock, 1#5, 7#32, at_, false⟩ }) s
    (∀ s ∈ [selective station, before 1000001 (selective station), before 1000000 (selective station)],
        Calm (searching (windowed .entry .collecting .unlockArea [keyAt 90#8]) s)
          ∧ Roomy 4 (searching (windowed .entry .collecting .unlockArea [keyAt 90#8]) s) ∧ s.cfg.selective = true)
      ∧ Calm (searching (windowed .entry .collecting .tailgateButton [keyAt 90#8]) tailgate)
      ∧ Roomy 4 (searching (windowed .entry .collecting .tailgateButton [keyAt 90#8]) tailgate)
      ∧ tailgate.line.state = .ok ∧ tailgate.addr.val < 5
      ∧ Calm (searching (windowed .entry .collecting .tailgateButton [keyAt 90#8]) (faulted .held tailgate))
      ∧ tailgate.latch.seq = .idle ∧ tailgate.latch.position = .closed ∧ GoodSupply tailgate
      ∧ tailgate.cfg.caps.window = false ∧ tailgate.win.drop = none := by
  and_intros <;> decide

theorem witness_OuterChallenge_passiveLock :
    (∀ l ∈ [[keyAt 89#8], [keyAt 90#8]], Calm (searching (windowed .passiveLock .collecting .lockArea l) (crowd station))
        ∧ Roomy 4 (searching (windowed .passiveLock .collecting .lockArea l) (crowd station)))
      ∧ Calm (searching (windowed .passiveLock .collecting .lockArea [keyAt 90#8]) (faulted .held station))
      ∧ (crowd station).census.peers[(1 : Addr)].presence ≠ .lost
      ∧ (crowd station).census.peers[(1 : Addr)].caps.any (·.inner) = true ∧ (crowd station).census.censusOwed = false
      ∧ (crowd station).search.claims = [] ∧ (crowd station).line.state = .ok
      ∧ Calm (searchOf (fun x => { x with burst := some (.outer, 1010000) })
          (searching (windowed .entry .collecting .unlockArea []) station)) := by
  and_intros <;> decide

/-- What every clause on a slot assumes, with FR's report heard. -/
abbrev Slotting (r : SearchRec) (s : State) : Prop := Calm s ∧ Roomy 4 s ∧ s.line.state = .ok ∧ s.search.record = some r

def slotDuty : SearchRec :=
  { windowed .slotDuty .waiting .unlockArea [keyAt 119#8] with
    slotAt := some 1005000, requester := 2, number := 4#8 }

def interior (l : List Candidate) (x y : SlotResult) : SearchRec :=
  { windowed .passiveLock .interior .lockArea l with
    slotAt := some 1005000, number := 4#8, participants := [(0, x), (1, y)], decisionAt := some 1100000
    deciding := some (keyAt 100#8) }

def reported (r : SearchRec) (m : Byte) (s : State) : State :=
  searching r (hearing (frameOf 1 (.searchReport 0 .found m 9#8)) s)

/-- At 119 below the inner threshold and at 120; a good supply and CRANK; the number of the search and another. -/
theorem witness_InteriorSlotsAreSearchedAndReported :
    station.cfg.innerThr = 120 ∧ Slotting slotDuty (searching slotDuty station)
      ∧ Slotting slotDuty (searching slotDuty (supplied .crank station))
      ∧ Slotting (interior [keyAt 120#8] .noneYet .noneYet) (reported (interior [keyAt 120#8] .noneYet .noneYet) 4#8 station)
      ∧ Slotting (interior [] .noneYet .noneYet) (reported (interior [] .noneYet .noneYet) 5#8 (supplied .crank station))
      ∧ Head (frameOf 1 (.searchReport 0 .found 4#8 9#8)) 999000 [] (reported (interior [] .noneYet .noneYet) 4#8 station)
      ∧ GoodSupply station ∧ (supplied .crank station).power.supply.poor = true := by
  and_intros <;> decide

/-- A closure open, a key inside, and neither, with a station that did not answer. -/
theorem witness_PassiveLockIsDecidedByTheInteriorSearch :
    anyClosureOpen (latchOf (fun x => { x with position := .opened }) station) = true
      ∧ Slotting (interior [] .found .notFound) (searching (interior [] .found .notFound)
          (latchOf (fun x => { x with position := .opened }) station))
      ∧ Slotting (interior [] .found .notFound) (searching (interior [] .found .notFound) (crowd station))
      ∧ Slotting (interior [] .noneYet .notFound) (searching (interior [] .noneYet .notFound) (crowd station))
      ∧ Calm (searching (interior [] .found .notFound) (faulted .held station))
      ∧ (interior [] .found .notFound).decisionAt = some 1100000
      ∧ anyClosureOpen (crowd station) = false
      ∧ ((interior [] .found .notFound).participants.any fun q => q.2 == .found) = true
      ∧ ((interior [] .noneYet .notFound).participants.any fun q => q.2 == .found) = false
      ∧ without (without allStations (only station.addr)) (lostSet (crowd station)) ≠ 0#5 := by
  and_intros <;> decide

/-! ### The zone line -/

/-- An own frame to send. -/
def own (p : Payload) (errors : Nat) (inTx : Bool) : TxEntry :=
  { frame := frameOf 0 p, age := 1, errors := errors, inTx := inTx }

/-- The frame of entry 3, and a frame that waits before it. -/
def entryFrame : Payload :=
  .intent { kind := .lock, tag := 3, epoch := 2#16, targets := 31#5, cause := .fob, notice := none }

def sending (x : TxEntry) (c : LineCondition) (s : State) : State :=
  lineOf (fun l => { l with tx := [own .searchClaim 0 false, x], cond := c, frameAt := 999000, freeAt := 1000100 }) s

/-- What every clause on an own frame assumes. -/
abbrev Sending (x : TxEntry) (s : State) : Prop :=
  Calm s ∧ Roomy 3 s ∧ s.line.state = .ok ∧ s.line.tx = [own .searchClaim 0 false] ++ x :: []
    ∧ ∀ y ∈ [own .searchClaim 0 false] ++ [], y.inTx = false ∧ isAnnouncement y = false

def censusFrame : Payload := .census 0 resetSettings.caps 200#16 0#16

/-- A CENSUS before the gate opens, at a FREE and at a BUSY line, with a claim before it that may not pass. -/
theorem witness_OwnFrame_start :
    Sending (own censusFrame 0 false) (lineOf (fun l => { l with gateOpen := false }) (sending (own censusFrame 0 false) .free station))
      ∧ Sending (own censusFrame 0 false) (lineOf (fun l => { l with gateOpen := false }) (sending (own censusFrame 0 false) .busy station))
      ∧ [own .searchClaim 0 false].all (fun y => !(false || y.frame.payload.kind == 13 || y.frame.payload.kind == 15)) = true
      ∧ (sending (own censusFrame 0 false) .busy station).line.markWanted = false
      ∧ (sending (own censusFrame 0 false) .busy station).line.markEnd = none
      ∧ (sending (own censusFrame 0 false) .busy station).line.extEnd = none := by
  and_intros <;> decide

/-- In transmission with 6 and with 7 errors, at 30 and at 31 consecutive failures. -/
theorem witness_OwnFrame_lostOrDropped : ∀ n ∈ [6, 7],
    Sending (own entryFrame n true) (sending (own entryFrame n true) .frame (lineOf (fun l => { l with failures := 30 }) station))
      ∧ Sending (own entryFrame n true) (sending (own entryFrame n true) .frame (lineOf (fun l => { l with failures := 31 }) station)) := by
  decide

/-- The frame of entry 3, an ANNOUNCEMENT, and either with a frame waiting in the receive queue. -/
theorem witness_OwnFrame_sent :
    Sending (own entryFrame 0 true) (sending (own entryFrame 0 true) .frame (tabled [entry 3 2#5 1] station))
      ∧ entryOf 3 (tabled [entry 3 2#5 1] station) = some (entry 3 2#5 1)
      ∧ Sending (own (.announcement resetAnnounced) 0 true) (sending (own (.announcement resetAnnounced) 0 true) .frame station)
      ∧ resetAnnounced.going ≠ some true ∧ station.power.agree = 0
      ∧ Sending (own entryFrame 0 true) (hearing (frameOf 1 .searchClaim) (sending (own entryFrame 0 true) .frame station))
      ∧ framesHeld (hearing (frameOf 1 .searchClaim) station).line.rx < 7 := by
  and_intros <;> decide

/-- The station's CENSUS in transmission before the gate is open: sent whole, and at its 8th error. -/
theorem witness_OwnFrame_gate :
    let s := fun n => lineOf (fun l => { l with gateOpen := false }) (sending (own censusFrame n true) .frame station)
    Sending (own censusFrame 0 true) (s 0) ∧ Sending (own censusFrame 7 true) (s 7) ∧ (s 0).line.rx = []
      ∧ (s 7).line.failures < 31 ∧ censusFrame.kind = 13 ∧ (own censusFrame 0 true).jobless = false := by
  and_intros <;> decide

/-- The search that claims, with its claim in transmission and another claim that has just expired. -/
def claimOnLine : State :=
  claimed 1000400 (searching (touchRecord .unlockArea 900000)
    (lineOf (fun l => { l with tx := [own .searchClaim 0 true], cond := .frame, frameAt := 999000 }) station))

def claimsInterior : SearchRec :=
  { windowed .passiveLock .interiorClaiming .lockArea [] with windowEnd := none, claimQueued := true }

theorem witness_OwnClaimIsSentVoidOrTimesOut :
    Calm claimOnLine ∧ GoodSupply claimOnLine ∧ claimOnLine.line.tx = [own .searchClaim 0 true]
      ∧ claimOnLine.line.state = .ok ∧ claimOnLine.line.rx = []
      ∧ claimOnLine.search.record = some (touchRecord .unlockArea 900000)
      ∧ (touchRecord .unlockArea 900000).stage = .claiming
      ∧ (claimOnLine.search.claims.all fun c => decide (c.expiry ≤ (advanceTo (claimOnLine.line.frameAt + 1400) claimOnLine).now)) = true
      ∧ (searching claimsInterior station).power.heldSince = none ∧ (searching claimsInterior station).power.state = .run
      ∧ Roomy 3 (searching claimsInterior station) ∧ (searching claimsInterior station).intent.held = none
      ∧ (searching claimsInterior station).win.dropAnswer = none := by
  and_intros <;> decide

/-- An INTERIOR SEARCH in transmission, and its report waiting, as the 500 ms pass. -/
def claimsLate : State :=
  searching claimsInterior (lineOf (fun l => { l with tx := [own (.interiorSearch 4#8 3#5) 0 true]
                                                      rx := [.sent (.interiorSearch 3#8 3#5) 5] }) station)

/-- R131: UNDER makes the own slot of a passive lock in INTERIOR SKIPPED, also one that has found a key. -/
theorem test_interiorUnder :
    let r := { claimsInterior with stage := .interior, participants := [(0, .found), (1, .notFound)] }
    (after (.supplySample 5000) (searching r station)).search.record.map (·.participants)
      = some [(0, .skipped), (1, .notFound)] := by decide +kernel

theorem witness_OwnClaim_late : claimsLate.power.heldSince = none ∧ claimsLate.power.state = .run ∧ Roomy 3 claimsLate
    ∧ claimsLate.intent.held = none ∧ claimsLate.win.dropAnswer = none ∧ claimsLate.search.record = some claimsInterior := by
  and_intros <;> decide

/-- An own claim in transmission, with no error and with 7, for its search. -/
def claimSent (p : Payload) (r : SearchRec) (errors : Nat) (s : State) : State :=
  searching r (lineOf (fun l => { l with tx := [own p errors true], cond := .frame, frameAt := 999000 }) s)

/-- A SEARCH CLAIM with the air free, in CRANK, in UNDER, void, and at its 8th error; an INTERIOR SEARCH with the own
slot, without it, and void. -/
theorem witness_OwnClaim_sent :
    (∀ s ∈ [claimSent .searchClaim (touchRecord .unlockArea 900000) 0 station,
        claimSent .searchClaim (touchRecord .unlockArea 900000) 0 (supplied .crank station),
        claimSent .searchClaim (touchRecord .unlockArea 900000) 0 (supplied .under station),
        claimSent .searchClaim (touchRecord .unlockArea 900000) 0 (claimed 1000401 station),
        claimSent .searchClaim (touchRecord .unlockArea 900000) 7 station,
        claimSent (.interiorSearch 0#8 3#5) { claimsInterior with participants := [(0, .noneYet), (1, .noneYet)] } 0 station,
        claimSent (.interiorSearch 0#8 2#5) { claimsInterior with participants := [(1, .noneYet)] } 0 station,
        claimSent (.interiorSearch 0#8 2#5) claimsInterior 0 (claimed 9000000 station)],
      s.power.heldSince = none ∧ s.power.state = .run ∧ s.intent.held = none ∧ s.win.dropAnswer = none
        ∧ s.line.state = .ok ∧ s.line.rx = [] ∧ s.line.failures < 31
        ∧ (s.search.record.map (·.stage) = some .claiming
          ∨ (s.search.record.map (·.stage) = some .interiorClaiming ∧ s.search.record.map (·.number) = some 0#8
            ∧ s.search.record.map (·.claimQueued) = some true))) := by decide

/-- What every clause on UNDER assumes. -/
abbrev Underrun (r : SearchRec) (s : State) : Prop :=
  Calm s ∧ s.power.supply ≠ .under ∧ s.win.motion = .idle ∧ s.latch.seq ≠ .releasing ∧ s.store.writing = none
    ∧ s.search.record = some r

/-- A burst that ends 1 µs after the sample, and one that ends with it; each kind of search. -/
theorem witness_UnderEndsWhatTheSearchUnitDrives :
    let bursting := fun (e : Nat) (r : SearchRec) => searchOf (fun x => { x with burst := some (.outer, e) })
      (searching r (powerOf (fun x => { x with sampleAt := 999500 }) station))
    (advanceTo 1000500 station).now = 1000500
      ∧ (∀ e ∈ [1000500, 1000501], Underrun (windowed .entry .collecting .unlockArea []) (bursting e (windowed .entry .collecting .unlockArea []))
        ∧ Underrun slotDuty (bursting e slotDuty))
      ∧ (∀ g ∈ [SearchStage.claiming, .collecting],
        Underrun (windowed .passiveLock g .lockArea []) (searching (windowed .passiveLock g .lockArea []) station))
      ∧ Underrun (interior [] .noneYet .noneYet) (searching (interior [] .noneYet .noneYet) station) := by
  and_intros <;> decide

/-- R116: the frame whose search has ended so goes on, without a job. -/
theorem test_claim_abandoned : (inTxEntry (after .interiorClaimTimeout claimsLate)).map (·.jobless) = some true
    ∧ (after .interiorClaimTimeout claimsLate).line.rx = [] := by decide +kernel

/-- A station with `n` frames received. -/
def holding (n : Nat) (s : State) : State :=
  lineOf (fun l => { l with rx := List.replicate n (.frame (frameOf 1 .searchClaim) 5) }) s

/-- What every clause on a frame received assumes. -/
abbrev Receiving (s : State) : Prop :=
  Calm s ∧ s.line.state ≠ .lineFault .held ∧ inTxEntry s = none ∧ s.line.markEnd = none ∧ s.line.extEnd = none ∧ s.line.cond ≠ .held
    ∧ drainReports s = s

/-- With 5, 6, 7 and 8 frames received; from FR, with the own address, and CRASH NOTICE from FR. -/
theorem witness_ReceivedFrameIsJudged :
    Receiving (holding 5 station) ∧ Receiving (holding 6 station) ∧ Receiving (holding 7 station)
      ∧ Receiving (holding 8 station) ∧ Receiving (faulted .clash (holding 7 station)) ∧ station.line.state = .ok
      ∧ framesHeld (holding 5 station).line.rx = 5
      ∧ framesHeld (holding 8 station).line.rx = 8 ∧ (frameOf 1 .searchClaim).payload.defined = true
      ∧ (frameOf 0 .searchClaim).origin = station.addr
      ∧ (frameOf 1 .crashNotice).payload.kind = 0 ∧ (frameOf 1 .crashNotice).origin ≠ 6
      ∧ (frameOf 6 .crashNotice).payload.defined = true ∧ readFrame [] = none
      ∧ station.line.cond ≠ .frame ∧ [false, true].head? = some false ∧ [false, true].length ≤ 178
      ∧ (lineOf (fun l => { l with cond := .frame }) station).line.cond = .frame ∧ readFrame [false] = none := by
  and_intros <;> decide

/-- A run of 5000 bit times: the 12 bits of the sync and 4988 more. -/
theorem witness_ReceivedFrame_longRun : (List.replicate 4988 false).head? = some false ∧ Receiving station
    ∧ 100000 ≤ (12 + 4988) * 20 ∧ leadingDominant (List.replicate 3 false ++ [true]) = 3 := by
  and_intros <;> decide

/-- R136: a run of 100 ms brings LINE FAULT, one 1 µs shorter leaves the line BUSY. -/
theorem test_longRun : (after (.wakeMarkDetected 100000) station).line.state = .lineFault .held
    ∧ (after (.wakeMarkDetected 99999) station).line.state = .ok
    ∧ (readRun 900000 100000 station).line.state = .lineFault .held := by decide +kernel

/-- R135: the extension that ends while the line is HELD leaves it HELD, with the second one under way. -/
theorem test_extension_held :
    let s := lineOf (fun l => { l with cond := .held, holdFrom := some 999000, ext := 1, extEnd := some 1000160 }) (holding 7 station)
    (after .overloadExtensionEnd s).line.cond = .held ∧ (after .overloadExtensionEnd s).line.ext = 2 := by decide +kernel

/-- R135: a dominant run of 14 bit times is no sync. It is not counted, and the line is FREE 12 bit times after it. -/
theorem test_noSync : (after (.frameReception [false, false, true]) station).line.damaged = 0
    ∧ (after (.frameReception [false, false, true]) station).line.freeAt = 1000000 + (14 + 12) * 20
    ∧ (after (.frameReception [false, false, true]) station).line.cond = .busy := by decide +kernel

/-- R135, R146: a dominant bit long after the bit that discards a frame puts off FREE beyond the extension. -/
theorem test_overload_gap :
    (after (.frameReception (List.replicate 60 true ++ [false])) (holding 7 station)).line.freeAt
      = 1000000 + (12 + 61 + 12) * 20 := by decide +kernel

/-- R143, R144: a stop bit read recessive settles a frame, and one whose end part was not read is damaged. -/
theorem test_settlingBit : bitsRead (List.replicate 12 true) = 10 ∧ lastDominant [false, true, true, false] = 4
    ∧ readFrame ((frameBits (frameOf 1 .searchClaim)).take 57) = none
    ∧ (readFrame (frameBits (frameOf 1 .searchClaim))).isSome = true := by decide +kernel

/-- A frame of kind 18 from FR with 2 data octets. -/
def kind18 : List Bool :=
  let body := headerOctets 3 1 18 2 ++ [1#8, 2#8]
  (body ++ bytes16 (crc16 body)).flatMap octetBits ++ List.replicate 8 true

theorem witness_ReceivedFrame_undefinedKind :
    readFrame kind18 = some { cls := 3, origin := 1, kind := 18, data := [1#8, 2#8] } := by decide +kernel

/-- An extension, a hold and a LINE FAULT under way. -/
theorem witness_LineHoldsAndRecovers :
    (∀ n ∈ [6, 7], Calm (lineOf (fun l => { l with extEnd := some 1000160, ext := 1 }) (holding n station)))
      ∧ framesHeld (holding 7 station).line.rx = 7
      ∧ Calm (lineOf (fun l => { l with cond := .held, holdFrom := some 990000 }) station)
      ∧ inTxEntry station = none
      ∧ Calm (lineOf (fun l => { l with recoverAt := some 1040000 }) (faulted .held station))
      ∧ Calm (lineOf (fun l => { l with recoverAt := some 1900000 }) (faulted .failures station))
      ∧ (faulted .held station).line.tx = []
      ∧ allAnnounced (intentOf (fun x => { x with startHold := none }) (faulted .held station)) = false := by
  and_intros <;> decide

/-- A hold that runs while a touch is held: with no search open, with a search whose SEARCH CLAIM waits, and with one
whose claim has no job. -/
def heldLine (l : List TxEntry) (s : State) : State :=
  lineOf (fun x => { x with cond := .held, holdFrom := some 990000, tx := l }) (touched .lockArea s)

theorem witness_LineHoldTimeout_claim :
    Calm (heldLine [] station) ∧ Calm (heldLine [claimTx] claiming)
      ∧ Calm (heldLine [{ claimTx with jobless := true }] claiming)
      ∧ claimTx.jobless = false ∧ claimTx.frame.payload = .searchClaim ∧ (touchRecord .unlockArea 900000).stage = .claiming
      ∧ claiming.search.record = some (touchRecord .unlockArea 900000) := by
  and_intros <;> decide

/-- R147: the held touch is dropped first, and then the claim's job told "not sent" (R116, R119). -/
theorem test_lineHoldTimeout_claim :
    (after .lineHoldTimeout (heldLine [] station)).search.held = none
      ∧ (after .lineHoldTimeout (heldLine [claimTx] claiming)).search.held = some ⟨.unlockArea, 900000⟩
      ∧ (after .lineHoldTimeout (heldLine [claimTx] claiming)).search.record = none
      ∧ (after .lineHoldTimeout (heldLine [{ claimTx with jobless := true }] claiming)).search.held = none := by
  decide +kernel

/-- R58, R125: a tailgate search that succeeds in LINE FAULT releases the latch, and no drop is outstanding. -/
theorem test_tailgate_lineFault :
    let v := after .entrySearchDecision
      (searching (windowed .entry .collecting .tailgateButton [keyAt 90#8]) (faulted .held tailgate))
    v.latch.seq = .releasing ∧ v.latch.lock = .unlocked ∧ v.win.drop = none ∧ v.search.record = none := by
  decide +kernel

/-! ### Census -/

/-- From FR: a CENSUS of itself and of another position, an ANNOUNCEMENT with the latch OPEN, and the kinds that do
nothing more; balances 3 and 4; FR LOST. -/
theorem witness_DeliveredFrameIsEnteredInThePeerTable :
    (∀ p ∈ [Payload.census 1 resetSettings.caps 50#16 9#16, .census 2 resetSettings.caps 5000#16 9#16,
        .announcement { resetAnnounced with latch := some .opened }, .windowReport true false .pinched 0#16,
        .faultNotice .store 1#8, .wake 1#5 1#5 1#5 1#5 .touch],
      Calm (hearing (frameOf 1 p) (peersIn .lost station)) ∧ Head (frameOf 1 p) 999000 [] (hearing (frameOf 1 p) (peersIn .lost station)))
      ∧ (1 : Addr) ≠ station.addr ∧ station.census.balance < 4
      ∧ Calm (censusOf (fun x => { x with balance := 4 }) (hearing (frameOf 1 (.census 1 resetSettings.caps 50#16 9#16)) station))
      ∧ announcementWaits station = false
      ∧ (peersIn .lost station).census.peers[(1 : Addr)].presence = .lost
      ∧ (Payload.windowReport true false .pinched 0#16).kind = 10 ∧ (Payload.faultNotice .store 1#8).kind = 11
      ∧ (Payload.intentOutcome { tag := 3, kind := .lock, epoch := 2#16, outcome := .complete, reason := .none
                                 partialSearch := false, applied := 0#5, unresponsive := 0#5 }).kind = 14
      ∧ (Payload.serviceReply 1#8 0#8 .done).kind = 17 ∧ (Payload.wake 1#5 1#5 1#5 1#5 .touch).kind = 15
      ∧ (resetAnnounced).going ≠ some true := by
  and_intros <;> decide

/-- Balances -4, -3 and 0; LINE FAULT without agreement; a peer in each presence; no entry waits for FR. -/
theorem witness_IntervalAndSilenceTimersExpire :
    (∀ b ∈ [(-4 : Int), -3, 0], Calm (censusOf (fun x => { x with balance := b }) station))
      ∧ Calm (faulted .held station)
      ∧ agreement (advanceTo (faulted .held station).census.intervalEnd (faulted .held station)) = false
      ∧ (∀ x ∈ [Presence.present, .silent, .unknown, .lost], Calm (tabled [entry 4 4#5 1] (peersIn x station)))
      ∧ (∀ x ∈ (tabled [entry 4 4#5 1] station).intent.table, inSet 1 x.pending = false ∧ x.pending ≠ 0#5) := by
  and_intros <;> decide

/-! ### Supply, sleep, wake and reset -/

/-- A station with its samples at a level. -/
def sampledAt (old : Nat) (v : Supply) (s : State) : State :=
  supplied v (powerOf (fun x => { x with samples := List.replicate 20 old, sampleAt := 999500 }) s)

/-- What every clause on the supply assumes. -/
abbrev Supplying (s : State) : Prop :=
  Calm s ∧ s.win.drop = none ∧ s.search.record = none ∧ s.search.held = none ∧ s.search.burst = none
    ∧ s.store.writing = none ∧ s.latch.supplyWait = none

def releasing (s : State) : State :=
  latchOf (fun x => { x with seq := .releasing, kind := some .entry, attempts := 1, pulseEnd := some 1200000 }) s

/-- A close under way, a release, and rest: at 1500 mV and at 1501 mV of fall, at 7499 mV and below 6000 mV. -/
theorem witness_SupplyFallsAtOnceAndRisesAfterFiftyMs :
    Supplying (sampledAt 12000 .normal station) ∧ Supplying (sampledAt 12000 .normal (releasing station))
      ∧ Supplying (sampledAt 12000 .normal (moving .up .global .auto station))
      ∧ (levelState 5999).rank < (supplied .crank station).power.supply.rank ∧ levelState 5999 = .under
      ∧ ((sampledAt 12000 .normal station).power.samples[19]?.any fun x => decide (10500 + 1500 < x)) = false
      ∧ ((sampledAt 12000 .normal station).power.samples[19]?.any fun x => decide (10499 + 1500 < x)) = true
      ∧ Supplying (supplied .low (powerOf (fun x => { x with rise9300 := some 960000 }) station))
      ∧ Supplying (supplied .crank (powerOf (fun x => { x with rise7800 := some 960000, rise9300 := none }) station))
      ∧ Supplying (supplied .under (powerOf (fun x => { x with rise6300 := some 960000, rise7800 := none, rise9300 := none }) station)) := by
  and_intros <;> decide

/-- Lone for 30 s, in SLEEP PENDING with and without the station ready, at the edges of a wake mark. -/
theorem witness_StationGoesToSleep :
    (powerOf (fun x => { x with state := .run, going := false, quietEnd := none, loneFrom := some 8000000 }) dozing).power.state = .run
      ∧ sleepReady (powerOf (fun x => { x with state := .run, going := false, quietEnd := none, loneFrom := some 8000000 }) dozing) = true
      ∧ dozing.line.state = .ok ∧ Roomy 4 dozing ∧ dozing.power.state = .sleepPending ∧ dozing.power.heldSince = none
      ∧ dozing.intent.held = none ∧ dozing.win.dropAnswer = none ∧ dozing.search.record = none
      ∧ dozing.power.selfAbort = false ∧ dozing.census.censusOwed = false ∧ inTxEntry dozing = none
      ∧ dozing.line.cond ≠ .held ∧ dozing.power.quietEnd = some 9050000 ∧ sleepReady dozing = true
      ∧ announcementInTx dozing = false
      ∧ sleepReady (advanceTo 9050000 (powerOf (fun x => { x with localAt := 8999000 }) dozing)) = false := by
  and_intros <;> decide

/-- An ANNOUNCEMENT in transmission as the 100 ms end. -/
def announcing : TxEntry := own (.announcement resetAnnounced) 0 true

/-- It is waited for after them; and a hold that began 500 µs and 2 ms ago. -/
theorem witness_StationGoesToSleep_waits :
    (∀ d ∈ [none, some 1],
        let s := powerOf (fun x => { x with sleepDue := d })
          (lineOf (fun l => { l with tx := [announcing], cond := .frame, frameAt := 8999000 }) dozing)
        s.line.tx.find? (fun x => isAnnouncement x && x.inTx) = some announcing ∧ sleepReady s = true
          ∧ (d = none ∨ d = some announcing.age) ∧ s.line.rx = [] ∧ s.line.extEnd = none)
      ∧ ∀ h ∈ [8999500, 8998000],
        let s := lineOf (fun l => { l with cond := .held, holdFrom := some h }) dozing
        s.line.cond = .held ∧ h + 500 ≤ s.now ∧ s.now ≤ h + 2000 ∧ s.line.state = .ok ∧ Roomy 4 s
          ∧ s.power.state = .sleepPending := by
  refine ⟨by decide, by decide⟩

/-- One ANNOUNCEMENT in transmission as the 100 ms end, and a newer one that waits. -/
def superseding (due : Option Nat) (n : Nat) : State :=
  powerOf (fun x => { x with sleepDue := due })
    (lineOf (fun l => { l with
      tx := [{ own (.announcement resetAnnounced) n true with age := 0 }, { own (.announcement resetAnnounced) 0 false with age := 1 }]
      cond := .frame, frameAt := 8999000 })
      (censusOf (fun x => { x with lastWatched := watchedFields (announcedNow dozing) }) dozing))

/-- Each has its job; and SLEEP waits for the older one, at an arbitration and at an 8th error. -/
theorem witness_StationGoesToSleep_newer : ∀ n ∈ [0, 7],
    AnnouncementsHaveJobs (superseding none n) ∧ sleepReady (superseding none n) = true
      ∧ (superseding (some 0) n).power.sleepDue = some 0 ∧ sleepReady (superseding (some 0) n) = true
      ∧ ((superseding (some 0) n).line.tx.find? (fun x => isAnnouncement x && x.inTx)).map (·.age) = some 0
      ∧ (superseding none n).power.quietEnd = some 9050000 := by decide

/-- R178: an ANNOUNCEMENT that waits as the 100 ms end is withdrawn; one that takes the place of the one in
transmission is waited for. -/
theorem test_sleep_announcements :
    announcementWaits (after .sleepQuietTimerExpiry (superseding none 0)) = false
      ∧ (after .sleepQuietTimerExpiry (superseding none 0)).power.sleepDue = some 0
      ∧ (after .arbitrationLoss (superseding (some 0) 0)).power.sleepDue = some 1
      ∧ (after .bitError (superseding (some 0) 7)).power.state = .sleepPending := by decide +kernel

/-- An own ANNOUNCEMENT in transmission at a station long without local input, with its peers LOST or not ready. -/
def agreeing (st : PowerState) (n : Nat) (going : Option Bool) (x : Presence) : State :=
  peersIn x (powerOf (fun q => { q with state := st, agree := n, quietEnd := none, loneFrom := some 8000000 })
    (lineOf (fun l => { l with
      tx := [own (.announcement { resetAnnounced with going := going }) 0 true], cond := .frame, frameAt := 8999000 }) dozing))

/-- Every peer PRESENT, with an announcement that it is sleep-ready. -/
def readyPeers (s : State) : State :=
  censusOf (fun x => { x with peers := Vector.replicate 8 { x.peers[0] with
    presence := .present, announced := true, status := some { resetAnnounced with ready := some true } } }) s

/-- R175, R183: the second own ANNOUNCEMENT brings SLEEP PENDING where the peers agree, and not with every peer LOST. -/
theorem test_agreement : (after .frameSent (readyPeers (agreeing .run 1 none .present))).power.state = .sleepPending
    ∧ (after .frameSent (agreeing .run 1 none .lost)).power.state = .run
    ∧ (after .frameSent (agreeing .run 1 none .lost)).power.agree = 0 := by decide +kernel

/-- The first and the second agreement, none, every peer LOST, a peer that leaves, and each abort. -/
theorem witness_SleepIsAgreedFollowedAndAborted :
    (∀ s ∈ [readyPeers (agreeing .run 0 none .present), readyPeers (agreeing .run 1 none .present),
        agreeing .run 1 none .lost, agreeing .run 1 none .present, agreeing .sleepPending 1 (some true) .lost,
        faulted .failures (lineOf (fun l => { l with tx := [] }) (agreeing .run 0 none .lost)),
        latched .deadlocked (lineOf (fun l => { l with tx := [] }) (agreeing .sleepPending 1 none .lost)),
        hearing (frameOf 1 (.faultNotice .store 1#8)) (lineOf (fun l => { l with tx := [] }) (agreeing .sleepPending 1 none .lost)),
        hearing (frameOf 1 (.announcement { resetAnnounced with going := some true, ready := some true }))
          (lineOf (fun l => { l with tx := [] }) (agreeing .run 1 none .lost))],
      s.power.heldSince = none ∧ s.intent.held = none ∧ s.win.dropAnswer = none ∧ s.search.record = none
        ∧ s.census.censusOwed = false ∧ s.power.selfAbort = false ∧ s.power.sleepDue = none ∧ s.power.quietEnd = none
        ∧ s.power.loneFrom = some 8000000)
      ∧ sleepReady (readyPeers (agreeing .run 0 none .present)) = true
      ∧ ((readyPeers (agreeing .run 0 none .present)).census.peers[(1 : Addr)].status.map (·.ready)) = some (some true)
      ∧ (agreeing .run 1 none .present).census.peers[(1 : Addr)].presence ≠ .lost
      ∧ (agreeing .run 1 none .present).census.peers[(1 : Addr)].status = none := by
  and_intros <;> decide

/-- The filter opened, the sleeping station locked dead, and frames for it and for others. -/
theorem witness_SleepingStationWakes :
    asleep.power.heldSince = none ∧ asleep.line.state = .ok ∧ asleep.intent.held = none ∧ asleep.win.dropAnswer = none
      ∧ asleep.power.state = .sleep ∧ (powerOf (fun x => { x with filter := .opened 9003400 }) asleep).power.filter = .opened 9003400
      ∧ (advance ((70 + 10 * (Payload.wake 1#5 1#5 1#5 1#5 .touch).data.length) * 20) asleep).now ≤ 9003400
      ∧ inSet asleep.addr 1#5 = true ∧ inSet asleep.addr 30#5 = false ∧ isTailgate asleep = false
      ∧ [false, true].head? = some false ∧ [true, true].head? ≠ some false ∧ readFrame [true, true] = none
      ∧ (latched .deadlocked asleep).latch.lock = .deadlocked ∧ (latched .deadlocked asleep).power.state = .sleep
      ∧ Calm (lineOf (fun l => { l with markWanted := true }) station)
      ∧ Calm (lineOf (fun l => { l with markEnd := some 1001000 }) station) := by
  and_intros <;> decide

/-- A station held in reset, and one with its flush on, with nothing and with something to wait for. -/
theorem witness_ResetHoldsBootsAndLoads :
    (powerOf (fun x => { x with heldSince := some 990000 }) station).power.heldSince = some 990000
      ∧ (storeOf (fun x => { x with flush := some { limitAt := 1500000, replyDue := false } }) station).store.queue = []
      ∧ (storeOf (fun x => { x with flush := some { limitAt := 1500000, replyDue := false } }) station).store.writing = none
      ∧ Calm (storeOf (fun x => { x with flush := some { limitAt := 1500000, replyDue := true } }) station) := by
  and_intros <;> decide

/-- R183: a sample below 4500 mV holds the station in reset, awake or asleep; held, it takes the level of an input line. -/
theorem test_supplySample_reset : (after (.supplySample 4499) station).power.heldSince = some 1000000
    ∧ (after (.supplySample 4499) asleep).power.heldSince = some 9000000
    ∧ (after (.hallPulse 4499 900) station).power.heldSince = some 1000000
    ∧ (after (.latchSwitchChange .opened) (after (.supplySample 4499) station)).pins.latchSwitch = .opened
    ∧ (after .latchEdge (after (.supplySample 4499) station)) = after (.supplySample 4499) station := by decide +kernel

/-- Settings and a key record written out, at a store that answers and at one that does not. -/
theorem witness_ResetLoads :
    (settingsRanges { resetSettings with travel := 700 }).all id = true
      ∧ goodContent .config (some (recordBytes .config (configContent { resetSettings with travel := 700 })))
          = some (configContent { resetSettings with travel := 700 })
      ∧ goodContent (.key 0) (some (recordBytes (.key 0) (keyContent 0 key2))) = some (keyContent 0 key2)
      ∧ station.pins.storeAnswers = true ∧ (pinsOf (fun x => { x with storeAnswers := false }) station).pins.storeAnswers = false
      ∧ station.store.writing = none := by
  and_intros <;> decide +kernel

/-! ### Records and service -/

/-- A write of a key record under way at an attempt. -/
def writing (r : RecordId) (n : Nat) (s : State) : State :=
  storeOf (fun x => { x with writing := some { id := r, snapshot := [1#8, 2#8], attempt := n, underWay := true } }) s

/-- R98, R113: a verified write of a key record that was queued again since leaves store current no, also when its id
no longer waits. -/
theorem test_verified_stale :
    let s := storeOf (fun x => { x with writing := x.writing.map (staleWrite 2) }) (writing (.key 2) 1 (keyed station))
    (after (.writeAttemptEnd [1#8, 2#8] true) s).keys.slots[(2 : Slot)].storeCurrent = false
      ∧ (after (.writeAttemptEnd [1#8, 2#8] true) (writing (.key 2) 1 (keyed station))).keys.slots[(2 : Slot)].storeCurrent
          = true
      ∧ (after (.buttonFrame unlockBytes) (writing (.key 2) 1 (keyed station))).store.writing.map (·.stale) = some true := by
  decide +kernel

/-- A patrol at an item, with slot 2's check word sound or not, and zone 4's. -/
def patrolling (n : Fin 38) (id : Word32) (v : Nat) (current : Bool) : State :=
  { station with
    keys := { station.keys with slots := station.keys.slots.set 2 { key2 with identity := id, storeCurrent := current } }
    pinch :=
      let z : ZoneEntry := { learned := true, value := v, check := { zone := 4, learned := true, value := 1760 } }
      { station.pinch with profile := station.pinch.profile.set 4 z }
    store := { station.store with
      patrol := n, records := station.store.records.set 3 (some (recordBytes (.key 2) (keyContent 2 key2)))
      pairing := some { slot := 2, sHi := 1#32, sLo := 2#32, expiry := 1100000 } } }

/-- A write that begins with a good supply and in CRANK; attempts 2 and 3; items 2 and 10, sound and not. -/
theorem witness_RecordsAreWrittenVerifiedAndPatrolled :
    Calm (storeOf (fun x => { x with queue := [.key 2, .profile] }) station)
      ∧ Calm (supplied .crank (storeOf (fun x => { x with queue := [.key 2, .profile] }) station))
      ∧ Calm (writing (.key 2) 2 station) ∧ Calm (writing (.key 2) 3 station) ∧ Roomy 4 (writing (.key 2) 3 station)
      ∧ Calm (patrolling 2 key2.identity 1760 true) ∧ Calm (patrolling 2 1#32 1760 true)
      ∧ Calm (patrolling 2 1#32 1760 false) ∧ Calm (patrolling 10 1#32 1760 false) ∧ Calm (patrolling 10 1#32 1761 false)
      ∧ (patrolling 2 key2.identity 1760 true).keys.slots[(2 : Slot)].check
          = slotCover 2 (patrolling 2 key2.identity 1760 true).keys.slots[(2 : Slot)]
      ∧ (patrolling 2 1#32 1760 true).keys.slots[(2 : Slot)].check
          ≠ slotCover 2 (patrolling 2 1#32 1760 true).keys.slots[(2 : Slot)] := by
  and_intros <;> decide

/-- The stored record of slot 2 reads back. -/
theorem witness_Patrol_reload :
    ((goodContent (.key 2) (some (recordBytes (.key 2) (keyContent 2 key2)))).bind (decodeKey 2)).isSome = true := by
  decide +kernel

/-- R201: a SERVICE REPLY of 3 octets is heard, also a REFUSED without its reason and a STATUS without its part. -/
theorem test_shortReply : decodePayload 17 [1#8, 4#8, 1#8] = some (.serviceReply 1#8 4#8 .refusedBare)
    ∧ decodePayload 17 [1#8, 6#8, 2#8] = some (.serviceReply 1#8 6#8 .statusBare)
    ∧ decodePayload 17 [1#8, 6#8] = none := by decide +kernel

/-- A service request heard from RL. -/
def served (bs : List Byte) (s : State) : State := hearing (frameOf 2 (.serviceRequest ⟨bs⟩)) s

/-- What every clause on a service request assumes. -/
abbrev Serving (s : State) (bs : List Byte) : Prop :=
  Calm (served bs s) ∧ Roomy 4 (served bs s) ∧ (served bs s).line.state = .ok
    ∧ Head (frameOf 2 (.serviceRequest ⟨bs⟩)) 999000 [] (served bs s) ∧ (served bs s).win.drop = none

def paired (m : Slot) (s : State) : State :=
  storeOf (fun x => { x with pairing := some { slot := m, sHi := 1#32, sLo := 2#32, expiry := 1100000 } }) s

/-- UNLOCKED and LOCKED, in crash hold, with a secret for the slot and for another, and an identity that is taken. -/
theorem witness_PairingRequestsSetKeySlots :
    (∀ bs ∈ [[9#8, 31#8, 0#8, 3#8] ++ bytes32 5#32 ++ bytes32 6#32,
        [9#8, 31#8, 1#8, 3#8] ++ bytes32 7#32 ++ bytes24 0x123456#24, [9#8, 31#8, 2#8, 3#8]],
      Serving station bs ∧ Serving (latched .locked station) bs
        ∧ Serving (latchOf (fun x => { x with crashEnd := some 2000000 }) station) bs)
      ∧ (∀ m ∈ [(3 : Slot), 4], Serving (paired m (slotted key2)) ([9#8, 31#8, 1#8, 3#8] ++ bytes32 7#32 ++ bytes24 1#24))
      ∧ (31#8).getLsbD station.addr.val = true ∧ station.store.flush = none
      ∧ (∀ j : Slot, slotGood j (slotted key2).keys.slots[j] = true)
      ∧ (slotted key2).keys.slots[(2 : Slot)].state ≠ .empty
      ∧ ¬ ∃ j : Slot, j ≠ 3 ∧ (slotted key2).keys.slots[j].state ≠ .empty ∧ (slotted key2).keys.slots[j].identity = 7#32 := by
  and_intros <;> decide

/-- A target and none, a flush on and off, HALTED, a motion running, and the edges of the ranges. -/
theorem witness_ServiceRequestsActAndReply :
    (∀ bs ∈ [[3#8], [4#8], [5#8, 2#8, 0#8, 64#8], [5#8, 2#8, 8#8, 1#8], [5#8, 10#8, 3#8], [6#8, 0#8], [6#8, 14#8], [7#8],
        [8#8, 1#8, 1#8, 3#8, 132#8], [8#8, 1#8, 1#8, 3#8, 133#8], [9#8]],
      Serving station (9#8 :: 31#8 :: bs))
      ∧ (∀ k ∈ [0#8, 1#8, 2#8, 3#8, 4#8, 5#8, 6#8, 7#8, 8#8, 9#8], Serving station [9#8, 30#8, k]
        ∧ Serving (storeOf (fun x => { x with flush := some { limitAt := 1500000, replyDue := false } }) station)
            [9#8, 31#8, k])
      ∧ (30#8).getLsbD station.addr.val = false
      ∧ Serving (latchOf (fun x => { x with seq := .halted }) station) [9#8, 31#8, 3#8]
      ∧ Serving (moving .up .global .auto station) [9#8, 31#8, 4#8]
      ∧ Serving (winOf (fun x => { x with heat := 60000 }) station) [9#8, 31#8, 8#8, 1#8, 1#8, 3#8, 132#8]
      ∧ station.win.req = none ∧ station.cfg.caps.window = true ∧ GoodSupply station ∧ station.win.norm = true
      ∧ station.latch.crashEnd = none ∧ station.latch.position = .closed ∧ station.win.heat < 60000
      ∧ station.pinch.mode = .normal ∧ station.win.motion = .idle ∧ (statusPart 0 station).isSome = true := by
  and_intros <;> decide

/-- A request for each part, of a peer other than the sender among them. -/
theorem witness_StatusPartsInOctets :
    (∀ p ∈ [0#8, 1#8, 2#8, 3#8, 4#8, 5#8, 7#8], Serving station [9#8, 31#8, 6#8, p])
      ∧ (31#8).getLsbD station.addr.val = true ∧ (7#8).toNat = 6 + (1 : Addr).val ∧ (1 : Addr) ≠ station.addr
      ∧ (1 : Addr) ≠ (2 : Addr) := by
  and_intros <;> decide

end Sys2Proof.Tests
end

section
/-! Key records and fob frames: what acting on an intent leaves of the key check unit (chapters 4 and 5). -/

namespace Sys2Proof.Proofs.KeyFrames

open Sys2Proof Sys2Proof.Machine

/-- What acting on an intent and ending the command leave alone: the clock, the key check unit, the reference profile
and the power state; a local input of this instant stays the latest, and every record id that waits goes on waiting. -/
structure KeysKept (a b : State) : Prop where
  now : b.now = a.now
  keys : b.keys = a.keys
  profile : b.pinch.profile = a.pinch.profile
  powerState : b.power.state = a.power.state
  localAt : a.power.localAt = a.now → b.power.localAt = a.now
  queue : ∀ r ∈ a.store.queue, r ∈ b.store.queue

/-- A step that does not touch the five parts named. -/
theorem KeysKept.of_eq {a b : State} (hnow : b.now = a.now) (hkeys : b.keys = a.keys)
    (hprofile : b.pinch.profile = a.pinch.profile) (hpower : b.power = a.power) (hstore : b.store = a.store) :
    KeysKept a b :=
  ⟨hnow, hkeys, hprofile, by rw [hpower], fun h => by rw [hpower, h], fun r hr => by rw [hstore]; exact hr⟩

theorem KeysKept.refl (s : State) : KeysKept s s := .of_eq rfl rfl rfl rfl rfl

theorem KeysKept.trans {a b c : State} (h : KeysKept a b) (k : KeysKept b c) : KeysKept a c where
  now := k.now.trans h.now
  keys := k.keys.trans h.keys
  profile := k.profile.trans h.profile
  powerState := k.powerState.trans h.powerState
  localAt ha := (k.localAt ((h.localAt ha).trans h.now.symm)).trans h.now
  queue r hr := k.queue r (h.queue r hr)

/-- What queuing own frames leaves alone holds all of it. -/
theorem KeysKept.of_quiet {a b : State} (h : Quiet a b) : KeysKept a b where
  now := h.now
  keys := h.keys
  profile := by rw [h.pinch]
  powerState := h.powerState
  localAt ha := by
    have e : b.power.fixed.localAt = a.power.fixed.localAt := congrArg Power.localAt h.power
    exact e.trans ha
  queue r hr := by
    have e : b.store.fixed.queue = a.store.fixed.queue := congrArg Store.queue h.store
    exact e.symm ▸ hr

/-! ## The shared operations -/

theorem withWin_keysKept (s : State) (w : Window) : KeysKept s (s.withWin w) := .of_eq rfl rfl rfl rfl rfl

theorem withLatch_keysKept (s : State) (l : Latch) : KeysKept s { s with latch := l } := .of_eq rfl rfl rfl rfl rfl

theorem withIntent_keysKept (s : State) (n : Intents) : KeysKept s { s with intent := n } := .of_eq rfl rfl rfl rfl rfl

theorem withSearch_keysKept (s : State) (x : Search) : KeysKept s { s with search := x } := .of_eq rfl rfl rfl rfl rfl

theorem queueFrame_keysKept (p : Payload) (s : State) : KeysKept s (queueFrame p s) := .of_quiet (queueFrame_quiet p s)

theorem mem_queueRecord (r x : RecordId) (s : State) :
    x ∈ (queueRecord r s).store.queue ↔ x = r ∨ x ∈ s.store.queue := by
  unfold queueRecord
  split
  · rename_i h
    exact ⟨.inr, fun hx => hx.elim (fun e => e ▸ h) id⟩
  · simp [or_comm]

theorem queueRecord_keysKept (r : RecordId) (s : State) : KeysKept s (queueRecord r s) where
  now := by simp
  keys := by simp
  profile := by simp
  powerState := by simp
  localAt h := by simpa using h
  queue x hx := (mem_queueRecord r x s).2 (.inr hx)

theorem localInput_keysKept (s : State) : KeysKept s (localInput s) := ⟨rfl, rfl, rfl, rfl, fun _ => rfl, fun _ h => h⟩

/-! ## Motions and requests (chapter 1) -/

theorem motorTo_keysKept (m : Motor) (s : State) : KeysKept s (motorTo m s) := by
  unfold motorTo
  split <;> exact withWin_keysKept _ _

theorem markMoving_keysKept (s : State) : KeysKept s (markMoving s) := by
  unfold markMoving
  split
  · exact .refl s
  · exact (withWin_keysKept _ _).trans (queueRecord_keysKept _ _)

theorem drive_keysKept (d : Direction) (m : MotionState) (s : State) : KeysKept s (drive d m s) :=
  (withWin_keysKept s _).trans (markMoving_keysKept _)

theorem reportMotion_keysKept (r : Request) (o : Outcome) (s : State) : KeysKept s (reportMotion r o s) := by
  unfold reportMotion
  split
  · exact queueFrame_keysKept _ s
  · exact .refl s

theorem endOverride_profile (p : Pinch) : (endOverride p).profile = p.profile := by
  unfold endOverride
  split
  · split <;> rfl
  · rfl

theorem closeMotion_keysKept (r : Request) (o : Outcome) (s : State) : KeysKept s (closeMotion r o s) := by
  refine (reportMotion_keysKept r o s).trans (.of_eq rfl rfl ?_ rfl rfl)
  simp only [closeMotion]
  split
  · exact endOverride_profile _
  · rfl

theorem markRest_keysKept (s : State) : KeysKept s (markRest s) := by
  unfold markRest
  split
  · split
    · exact withWin_keysKept _ _
    · exact (withWin_keysKept _ _).trans (queueRecord_keysKept _ _)
  · exact .refl s

theorem finishMotion_keysKept (o : Outcome) (s : State) : KeysKept s (finishMotion o s) := by
  unfold finishMotion
  split
  · exact .refl s
  · exact (closeMotion_keysKept _ o s).trans ((motorTo_keysKept _ _).trans
      ((withWin_keysKept _ _).trans (markRest_keysKept _)))

theorem motorStart_keysKept (d : Direction) (s : State) : KeysKept s (motorStart d s) :=
  KeysKept.trans (b := { s with pinch := pinchMotorStart s.pinch }) (.of_eq rfl rfl rfl rfl rfl) (drive_keysKept _ _ _)

theorem motionStart_keysKept (r : Request) (s : State) : KeysKept s (motionStart r s) := by
  refine .of_eq rfl rfl ?_ rfl rfl
  simp only [motionStart, pinchMotionStart]
  split <;> rfl

theorem pauseMotion_keysKept (s : State) : KeysKept s (pauseMotion s) :=
  (motorTo_keysKept .off s).trans (.of_eq rfl rfl rfl rfl rfl)

theorem grantIdle_keysKept (r : Request) (s : State) : KeysKept s (grantIdle r s) := by
  unfold grantIdle
  have start := (withWin_keysKept s { s.win with startStalls := 0 }).trans (motionStart_keysKept r _)
  split
  · exact start.trans (pauseMotion_keysKept _)
  · exact start.trans (motorStart_keysKept _ _)

theorem brake_keysKept (s : State) : KeysKept s (brake s) := (motorTo_keysKept .braked s).trans (withWin_keysKept _ _)

theorem takeOver_keysKept (old r : Request) (s : State) : KeysKept s (takeOver old r s) := by
  have start := motionStart_keysKept r s
  unfold takeOver
  split
  · exact start
  · exact start.trans ((withWin_keysKept _ _).trans (pauseMotion_keysKept _))
  · split
    · simp only
      split
      · exact start
      · exact start.trans (withWin_keysKept _ _)
    · exact start.trans (brake_keysKept _)

theorem replaceRequest_keysKept (r : Request) (s : State) : KeysKept s (replaceRequest r s) := by
  unfold replaceRequest
  split <;> exact .of_eq rfl rfl rfl rfl rfl

theorem endAtOnce_keysKept (r : Request) (s : State) : KeysKept s (endAtOnce r s) := withWin_keysKept _ _

/-- A grant that ends at once, or else goes on as `t`. -/
theorem satisfied_keysKept {r : Request} {s t : State} (h : KeysKept s t) :
    KeysKept s (if satisfied r s.win.p then endAtOnce r s else t) := by
  split
  · exact endAtOnce_keysKept r s
  · exact h

theorem arbiter_keysKept (r : Request) (s : State) : KeysKept s (arbiter r s).2 := by
  unfold arbiter
  split
  · exact satisfied_keysKept (grantIdle_keysKept r s)
  · rename_i x hx
    have replaced := fun o : Outcome => (closeMotion_keysKept x o s).trans (takeOver_keysKept x r _)
    split
    · exact satisfied_keysKept (replaced _)
    · split
      · split
        · exact satisfied_keysKept (replaceRequest_keysKept r s)
        · split
          · exact satisfied_keysKept (replaced _)
          · exact finishMotion_keysKept _ s
      · exact .refl s

theorem request_keysKept (r : Request) (s : State) : KeysKept s (request r s).2 := by
  unfold request
  split
  · exact .refl s
  · exact arbiter_keysKept r s

theorem weighDrop_keysKept (limitAt : Nat) (s : State) : KeysKept s (weighDrop limitAt s) := by
  unfold weighDrop
  split
  · exact withWin_keysKept _ _
  · split
    · exact withWin_keysKept _ _
    · simp only
      split
      · split
        · exact withWin_keysKept _ _
        · exact (withWin_keysKept _ _).trans (arbiter_keysKept _ _)
      · exact (withWin_keysKept _ _).trans (arbiter_keysKept _ _)

theorem requestDrop_keysKept (s : State) : KeysKept s (requestDrop s) :=
  (withWin_keysKept s _).trans (weighDrop_keysKept _ _)

theorem serveWaitingDrop_keysKept (s : State) : KeysKept s (serveWaitingDrop s) := by
  unfold serveWaitingDrop
  split
  · split
    · exact weighDrop_keysKept _ s
    · exact .refl s
  · exact .refl s

theorem endMotion_keysKept (o : Outcome) (s : State) : KeysKept s (endMotion o s) :=
  (finishMotion_keysKept o s).trans (serveWaitingDrop_keysKept _)

theorem windowChild_keysKept (s : State) : KeysKept s (windowChild s) := by
  unfold windowChild
  split
  · split
    · exact endMotion_keysKept _ s
    · exact .refl s
  · exact .refl s

theorem windowIntentApplied_keysKept (k : IntentKind) (s : State) : KeysKept s (windowIntentApplied k s).2 := by
  unfold windowIntentApplied
  split
  · exact request_keysKept _ s
  · exact request_keysKept _ s
  · split
    · split
      · exact endMotion_keysKept _ s
      · exact .refl s
    · exact .refl s

/-! ## Lock, child safety and the release sequence (chapter 3) -/

theorem endSequence_keysKept (o : ReleaseOutcome) (s : State) : KeysKept s (endSequence o s) := withLatch_keysKept s _

theorem enterReleasing_keysKept (s : State) : KeysKept s (enterReleasing s) := by
  unfold enterReleasing
  split <;> exact withLatch_keysKept s _

theorem takeDropAnswer_keysKept (s : State) : KeysKept s (takeDropAnswer s) := by
  unfold takeDropAnswer
  split
  · exact .refl s
  · have answered := (withWin_keysKept s { s.win with dropAnswer := none }).trans
      (withLatch_keysKept _ { s.latch with dropOut := false })
    simp only
    split
    · split
      · exact answered.trans (enterReleasing_keysKept _)
      · split
        · exact answered.trans (endSequence_keysKept _ _)
        · exact answered.trans (withLatch_keysKept _ _)
    · exact withWin_keysKept s _

theorem startDrop_keysKept (s : State) : KeysKept s (startDrop s) :=
  (withLatch_keysKept s _).trans ((requestDrop_keysKept _).trans (takeDropAnswer_keysKept _))

theorem releaseRequest_keysKept (k : ReleaseKind) (s : State) : KeysKept s (releaseRequest k s) := by
  unfold releaseRequest
  split
  · simp only
    split
    · exact (withLatch_keysKept s _).trans (enterReleasing_keysKept _)
    · exact (withLatch_keysKept s _).trans (startDrop_keysKept _)
  · exact .refl s

theorem withdrawDrop_keysKept (s : State) : KeysKept s (withdrawDrop s) := by
  unfold withdrawDrop
  have cleared := withWin_keysKept s { s.win with drop := none, dropAnswer := none }
  split
  · simp only
    split
    · split
      · exact cleared.trans (endMotion_keysKept _ _)
      · exact cleared
    · exact cleared
  · exact .refl s

theorem lockChangeOnSequence_keysKept (s : State) : KeysKept s (lockChangeOnSequence s) := by
  unfold lockChangeOnSequence
  split
  · exact (withdrawDrop_keysKept s).trans (endSequence_keysKept _ _)
  · exact .refl s

theorem setLock_keysKept (l : LockState) (s : State) : KeysKept s (setLock l s) := by
  unfold setLock
  split
  · exact .refl s
  · have changed := (withLatch_keysKept s { s.latch with lock := l }).trans
      ((queueRecord_keysKept .latchState _).trans (lockChangeOnSequence_keysKept _))
    simp only
    split
    · exact changed.trans ((localInput_keysKept _).trans (releaseRequest_keysKept _ _))
    · exact changed

theorem applyLatch_keysKept (k : IntentKind) (s : State) : KeysKept s (applyLatch k s) := by
  unfold applyLatch
  split
  · exact setLock_keysKept _ s
  · exact setLock_keysKept _ s
  · exact setLock_keysKept _ s
  · exact (setLock_keysKept _ s).trans (releaseRequest_keysKept _ _)

theorem childOnSequence_keysKept (s : State) : KeysKept s (childOnSequence s) := by
  unfold childOnSequence
  split
  · exact (withdrawDrop_keysKept s).trans (endSequence_keysKept _ _)
  · exact .refl s

theorem applyChild_keysKept (k : IntentKind) (s : State) : KeysKept s (applyChild k s) := by
  unfold applyChild
  extract_lets c
  split
  · exact .refl s
  · have changed := (withLatch_keysKept s { s.latch with child := c }).trans (queueRecord_keysKept .latchState _)
    split
    · exact changed.trans ((childOnSequence_keysKept _).trans (windowChild_keysKept _))
    · exact changed

/-! ## Issuing and applying an intent (chapter 4) -/

theorem applyKind_keysKept (k : IntentKind) (s : State) : KeysKept s (applyKind k s).2 := by
  unfold applyKind
  split
  · exact applyLatch_keysKept k s
  · exact applyChild_keysKept k s
  · exact windowIntentApplied_keysKept k s

theorem decideIntent_keysKept (k : IntentKind) (key : OrderKey) (s : State) :
    KeysKept s (decideIntent k key s).2.2 := by
  unfold decideIntent
  split
  · exact .refl s
  · split
    · exact (withIntent_keysKept s _).trans (applyKind_keysKept k _)
    · split <;> exact .refl s

theorem cancelRelock_keysKept (s : State) : KeysKept s (cancelRelock s) := withIntent_keysKept s _

theorem followPress_keysKept (k : IntentKind) (s : State) : KeysKept s (followPress k s) := by
  unfold followPress
  split
  · exact withIntent_keysKept s _
  · exact .refl s

theorem rememberPress_keysKept (k : IntentKind) (ts : Stations) (c : Cause) (nt : Option Notice) (s : State) :
    KeysKept s (rememberPress k ts c nt s) := by
  unfold rememberPress
  split
  · exact .refl s
  · split
    · simp only
      split
      · exact withIntent_keysKept s _
      · exact withIntent_keysKept s _
      · exact .refl s
    · exact .refl s

theorem seePress_keysKept (k : IntentKind) (ts : Stations) (c : Cause) (nt : Option Notice) (s : State) :
    KeysKept s (seePress k ts c nt s) := (followPress_keysKept k s).trans (rememberPress_keysKept k ts c nt _)

theorem relockIssues_keysKept (e : OpenEntry) (s : State) : KeysKept s (relockIssues e s) := by
  unfold relockIssues
  split
  · simp only
    split
    · exact (cancelRelock_keysKept s).trans (withIntent_keysKept _ _)
    · exact cancelRelock_keysKept s
  · exact .refl s

theorem closeEntry_keysKept (e : OpenEntry) (s : State) : KeysKept s (closeEntry e s) := by
  have handed : KeysKept s (handOver e.unresponsive s) := .of_eq rfl rfl rfl rfl rfl
  exact handed.trans ((queueFrame_keysKept _ _).trans (withIntent_keysKept _ _))

theorem applyOwn_keysKept (e : OpenEntry) (s : State) : KeysKept s (applyOwn e s) := by
  unfold applyOwn
  have decided := decideIntent_keysKept e.kind { epoch := e.epoch, origin := s.addr } s
  split
  · simp only
    split
    · exact decided.trans (withIntent_keysKept _ _)
    · exact decided
  · exact .refl s

theorem closeIfDone_keysKept (t : Tag) (s : State) : KeysKept s (closeIfDone t s) := by
  unfold closeIfDone
  split
  · split
    · exact closeEntry_keysKept _ s
    · exact .refl s
  · exact .refl s

theorem issue_keysKept (p : Prepared) (s : State) : KeysKept s (issue p s) :=
  (withIntent_keysKept s _).trans ((relockIssues_keysKept _ _).trans ((seePress_keysKept _ _ _ _ _).trans
    ((queueFrame_keysKept _ _).trans ((applyOwn_keysKept _ _).trans (closeIfDone_keysKept _ _)))))

theorem prepare_keysKept (p : Prepared) (s : State) : KeysKept s (prepare p s) := by
  unfold prepare
  split
  · exact .refl s
  · split
    · exact issue_keysKept p s
    · exact withIntent_keysKept s _

theorem mapLock_keysKept (n : Notice) (s : State) : KeysKept s (mapLock n s) := by
  unfold mapLock
  split
  · exact queueFrame_keysKept _ s
  · exact prepare_keysKept _ s

theorem mapRelease_keysKept (n : Notice) (s : State) : KeysKept s (mapRelease n s) := by
  unfold mapRelease
  split
  · split
    · exact prepare_keysKept _ s
    · exact .refl s
  · exact .refl s

theorem mapButton_keysKept (b : Button) (n : Notice) (s : State) : KeysKept s (mapButton b n s) := by
  unfold mapButton
  split
  · exact .refl s
  · cases b with
    | lock => exact mapLock_keysKept n s
    | unlock | tailgate | lockHeld | unlockHeld => exact prepare_keysKept _ s
    | release => exact mapRelease_keysKept n s

/-! ## The end of a command -/

theorem issueHeld_keysKept (s : State) : KeysKept s (issueHeld s) := by
  unfold issueHeld
  split
  · split
    · exact (withIntent_keysKept s _).trans (issue_keysKept _ _)
    · exact .refl s
  · exact .refl s

theorem decidePassive_keysKept (r : SearchRec) (s : State) : KeysKept s (decidePassive r s) := by
  have ended : KeysKept s (setRecord none s) := withSearch_keysKept s _
  unfold decidePassive
  simp only
  split
  · exact ended
  · split
    · exact ended.trans (queueFrame_keysKept _ _)
    · split
      · exact ended.trans (queueFrame_keysKept _ _)
      · exact ended.trans (prepare_keysKept _ _)

theorem claimInterior_keysKept (r : SearchRec) (s : State) : KeysKept s (claimInterior r s) := by
  unfold claimInterior
  split
  · exact withSearch_keysKept s _
  · simp only
    split
    · exact decidePassive_keysKept _ s
    · exact (withSearch_keysKept s _).trans (queueFrame_keysKept _ _)

theorem settleInterior_keysKept (s : State) : KeysKept s (settleInterior s) := by
  unfold settleInterior
  split
  · split
    · exact claimInterior_keysKept _ s
    · exact .refl s
  · exact .refl s

/-- In RUN no sleep is aborted or entered (R176, R178). -/
theorem settleSleep_run (s : State) (h : s.power.state = .run) : settleSleep s = s := by
  simp [settleSleep, h]

/-- The end of a command in RUN, whatever waits to be done. -/
theorem settle_keysKept (s : State) (h : s.power.state = .run) : KeysKept s (settle s) := by
  have before := (takeDropAnswer_keysKept s).trans ((KeysKept.of_quiet (settleCensus_quiet _)).trans
    (settleInterior_keysKept _))
  have after := fun t : State => (KeysKept.of_quiet (settleStartHold_quiet t)).trans ((issueHeld_keysKept _).trans
    ((KeysKept.of_quiet (settleAgreement_quiet _)).trans ((KeysKept.of_quiet (settleStatus_quiet _)).trans
      (KeysKept.of_quiet (settleDue_quiet _)))))
  unfold settle
  split
  · rw [settleSleep_run _ (before.powerState.trans h)]
    simp only
    split
    · exact before.trans (after _)
    · exact before
  · exact .refl s

end Sys2Proof.Proofs.KeyFrames
end

section
/-! Key records and fob frames: the code function, the lookup and the check of a button frame (chapter 5). -/

namespace Sys2Proof.Proofs.KeyFrames

open Sys2Proof Sys2Proof.Machine

/-! ## The code function (R101) -/

/-- One round of the code function in plain numbers. -/
def roundNat (sHi w : Nat) : Nat := ((w * 33 + sHi) % 2 ^ 32) ^^^ ((w * 33 + sHi) % 2 ^ 32 / 65536)

theorem codeRound_toNat (sHi w : Word32) : (codeRound sHi w).toNat = roundNat sHi.toNat w.toNat := by
  have sum : (w * 33#32 + sHi).toNat = (w.toNat * 33 + sHi.toNat) % 2 ^ 32 := by
    rw [BitVec.toNat_add, BitVec.toNat_mul, Nat.mod_add_mod]; rfl
  rw [codeRound, BitVec.toNat_xor, BitVec.toNat_ushiftRight, Nat.shiftRight_eq_div_pow, sum]
  rfl

/-- The code of a message in plain numbers. -/
def codeNat (sHi sLo m : Nat) : Nat :=
  roundNat sHi (roundNat sHi (roundNat sHi (roundNat sHi (sLo ^^^ m)))) % 2 ^ 24

theorem codeOf_toNat (sHi sLo m : Word32) : (codeOf sHi sLo m).toNat = codeNat sHi.toNat sLo.toNat m.toNat := by
  rw [codeOf, BitVec.toNat_setWidth]
  simp only [codeRound_toNat, BitVec.toNat_xor, codeNat]

theorem codeOf_eq_iff (sHi sLo m : Word32) (c : BitVec 24) :
    codeOf sHi sLo m = c ↔ c.toNat = codeNat sHi.toNat sLo.toNat m.toNat := by
  rw [← codeOf_toNat, BitVec.toNat_inj, eq_comm]

theorem buttonMessage_toNat (c : Counter) (b : Button) : (buttonMessage c b).toNat = c.toNat * 256 + b.code := by
  have hb : (byte b.code).toNat = b.code := by cases b <;> rfl
  have hlt : (byte b.code).toNat < 2 ^ 8 := (byte b.code).isLt
  rw [buttonMessage, BitVec.toNat_append, Nat.shiftLeft_eq]
  rw [hb] at hlt ⊢
  rw [Nat.mul_comm, ← Nat.two_pow_add_eq_or_of_lt hlt, Nat.mul_comm]

theorem buttonMessage_eq (c : Counter) (b : Button) : buttonMessage c b = BitVec.ofNat 32 (c.toNat * 256 + b.code) := by
  rw [← buttonMessage_toNat, BitVec.ofNat_toNat, BitVec.setWidth_eq]

/-! ## The lookup among sound slots (R98, R102) -/

/-- The slot is not EMPTY and holds the identity. -/
abbrev Holds (id : Word32) (s : State) (m : Slot) : Prop :=
  s.keys.slots[m].state ≠ .empty ∧ s.keys.slots[m].identity = id

theorem holds_of_paired {id : Word32} {s : State} {m : Slot} (hpaired : s.keys.slots[m].state = .paired)
    (hid : s.keys.slots[m].identity = id) : Holds id s m := ⟨by rw [hpaired]; decide, hid⟩

theorem readSlot_sound {s : State} {m : Slot} (h : slotGood m s.keys.slots[m] = true) : readSlot m s = s := by
  rw [readSlot, if_pos h]

/-- Among sound slots the lookup changes nothing and finds the first that holds the identity. -/
theorem lookupIn_sound (id : Word32) (s : State) (sound : ∀ m : Slot, slotGood m s.keys.slots[m] = true) (l : List Slot) :
    lookupIn id l s = (l.find? (fun m => decide (Holds id s m)), s) := by
  induction l with
  | nil => rfl
  | cons m rest ih =>
      unfold lookupIn
      split
      · rename_i hempty
        rw [ih, List.find?_cons_of_neg (by simp [Holds, hempty, -Fin.getElem_fin])]
      · rename_i hstate
        simp only [readSlot_sound (sound m), sound m, Bool.true_eq_false, and_false, if_false]
        split
        · rename_i hholds
          rw [List.find?_cons_of_pos (by simpa [Holds, -Fin.getElem_fin] using hholds)]
        · rename_i hholds
          rw [ih, List.find?_cons_of_neg (by simpa [Holds, -Fin.getElem_fin] using hholds)]

theorem lookup_none {id : Word32} {s : State} (sound : ∀ m : Slot, slotGood m s.keys.slots[m] = true)
    (h : ∀ m : Slot, ¬ Holds id s m) : lookup id s = (none, s) := by
  rw [lookup, lookupIn_sound id s sound, List.find?_eq_none.2 fun m _ => by simpa using h m]

theorem lookup_some {id : Word32} {s : State} {n : Slot} (sound : ∀ m : Slot, slotGood m s.keys.slots[m] = true)
    (h : Holds id s n) (alone : ∀ m : Slot, s.keys.slots[m].state ≠ .empty → s.keys.slots[m].identity = id → m = n) :
    lookup id s = (some n, s) := by
  rw [lookup, lookupIn_sound id s sound]
  cases hf : (List.finRange 6).find? (fun m => decide (Holds id s m)) with
  | none => exact absurd h (by simpa using List.find?_eq_none.1 hf n (List.mem_finRange n))
  | some m =>
      obtain ⟨hstate, hid⟩ : Holds id s m := of_decide_eq_true (List.find?_some (p := fun m => decide (Holds id s m)) hf)
      rw [alone m hstate hid]

/-! ## The check of a button frame (R102 to R107) -/

/-- The slot after one more bad code, with the window said as in R106: it runs for 60 s from the first. -/
theorem countBad_eq (now : Nat) (k : KeySlot) :
    countBad now k =
      if (k.badCodes ≠ 0 ∧ k.windowStart.any (fun w => decide (now ≤ w + 60000000)) = true) ∧ 7 ≤ k.badCodes then
        { k with state := .suspended, badCodes := 0, windowStart := none, suspendedUntil := some (now + 60000000) }
      else if k.badCodes ≠ 0 ∧ k.windowStart.any (fun w => decide (now ≤ w + 60000000)) = true then
        { k with badCodes := k.badCodes + 1 }
      else { k with badCodes := 1, windowStart := some now } := by
  by_cases hcount : k.badCodes = 0
  · simp [countBad, hcount]
  · cases hstart : k.windowStart with
    | none => simp [countBad, hcount, hstart]
    | some w =>
        by_cases hlapsed : w + 60000000 < now
        · have hclosed : ¬ now ≤ w + 60000000 := by omega
          simp [countBad, hcount, hstart, hlapsed, hclosed]
        · have hopen : now ≤ w + 60000000 := by omega
          by_cases h7 : 7 ≤ k.badCodes <;> simp [countBad, hcount, hstart, hlapsed, hopen, h7]

/-- A sound slot written with fields that its check word does not cover keeps that word (R96). -/
theorem writeSlot_uncovered {n : Slot} {s : State} (k : KeySlot) (hgood : slotGood n s.keys.slots[n] = true)
    (hcheck : k.check = s.keys.slots[n].check) (hcover : slotCover n k = slotCover n s.keys.slots[n]) :
    writeSlot n k s = { s with keys := { s.keys with slots := s.keys.slots.set n k } } := by
  have hk : slotCover n k = k.check := by
    rw [hcover, hcheck]; exact (beq_iff_eq.1 hgood).symm
  rw [writeSlot, hk]

/-- The slots are sound and only slot `n` may hold the identity. -/
abbrev OnlySlot (id : Word32) (n : Slot) (s : State) : Prop :=
  (∀ m : Slot, slotGood m s.keys.slots[m] = true)
    ∧ ∀ m : Slot, s.keys.slots[m].state ≠ .empty → s.keys.slots[m].identity = id → m = n

/-- The code of a button frame is right for slot `n`. -/
abbrev RightCode (f : ButtonFrame) (n : Slot) (s : State) : Prop :=
  codeOf s.keys.slots[n].sHi s.keys.slots[n].sLo (buttonMessage f.counter f.button) = f.code

theorem checkButton_unknown {f : ButtonFrame} {n : Slot} {s : State} (hone : OnlySlot f.identity n s)
    (h : ¬ Holds f.identity s n) : checkButton f s = (false, s) := by
  obtain ⟨sound, alone⟩ := hone
  have none_holds : ∀ m : Slot, ¬ Holds f.identity s m := fun m hm => h (alone m hm.1 hm.2 ▸ hm)
  simp only [checkButton, lookup_none sound none_holds]

theorem checkButton_barred {f : ButtonFrame} {n : Slot} {s : State} (hone : OnlySlot f.identity n s)
    (h : Holds f.identity s n) (hstate : s.keys.slots[n].state ≠ .paired) : checkButton f s = (false, s) := by
  simp only [checkButton, lookup_some hone.1 h hone.2, if_pos hstate]

theorem checkButton_wrongCode {f : ButtonFrame} {n : Slot} {s : State} (hone : OnlySlot f.identity n s)
    (h : Holds f.identity s n) (hstate : s.keys.slots[n].state = .paired) (wrong : ¬ RightCode f n s) :
    checkButton f s = (false, badCode n s) := by
  simp only [checkButton, lookup_some hone.1 h hone.2, hstate, ne_eq, not_true_eq_false, if_false, if_pos wrong]

theorem checkButton_rightCode {f : ButtonFrame} {n : Slot} {s : State} (hone : OnlySlot f.identity n s)
    (h : Holds f.identity s n) (hstate : s.keys.slots[n].state = .paired) (right : RightCode f n s) :
    checkButton f s = counterCheck n f.counter s := by
  simp only [checkButton, lookup_some hone.1 h hone.2, hstate, ne_eq, not_true_eq_false, right, if_false]

/-! The rows of the counter check (R103). -/

theorem resyncs_eq (k : KeySlot) (c : Counter) :
    resyncs k c = k.resync.any (fun q => (c - q).toNat == 1 || (c - q).toNat == 2) := by
  cases h : k.resync <;> simp [resyncs, h, counterDistance]

theorem counterCheck_stale {n : Slot} {c : Counter} {s : State}
    (h : (c - s.keys.slots[n].counter).toNat = 0 ∨ 32768 < (c - s.keys.slots[n].counter).toNat) :
    counterCheck n c s = (false, { s with keys := { s.keys with stale := min 65535 (s.keys.stale + 1) } }) := if_pos h

theorem accepts_iff (k : KeySlot) (c : Counter) : accepts k c = true ↔
    1 ≤ (c - k.counter).toNat ∧ ((c - k.counter).toNat ≤ 256 ∨ ((c - k.counter).toNat ≤ 32768 ∧ resyncs k c = true)) := by
  simp only [accepts, Bool.and_eq_true, Bool.or_eq_true, decide_eq_true_eq]
  rfl

theorem not_stale {k : KeySlot} {c : Counter} (hlow : 1 ≤ (c - k.counter).toNat)
    (hhigh : (c - k.counter).toNat ≤ 32768) :
    ¬ (counterDistance k.counter c = 0 ∨ 32768 < counterDistance k.counter c) := by
  rw [counterDistance]; omega

theorem counterCheck_accepted {n : Slot} {c : Counter} {s : State} (h : accepts s.keys.slots[n] c = true) :
    counterCheck n c s = (true, takeCounter n c s) := by
  obtain ⟨hlow, hhigh⟩ := (accepts_iff _ _).1 h
  rw [counterCheck, if_neg (not_stale hlow (hhigh.elim (fun h => h.trans (by decide)) And.left)), if_pos h]

theorem counterCheck_pending {n : Slot} {c : Counter} {s : State} (hlow : 257 ≤ (c - s.keys.slots[n].counter).toNat)
    (hhigh : (c - s.keys.slots[n].counter).toNat ≤ 32768) (hresync : ¬ resyncs s.keys.slots[n] c = true)
    (hgood : slotGood n s.keys.slots[n] = true) :
    counterCheck n c s = (false, { s with keys := { s.keys with
      slots := s.keys.slots.set n { s.keys.slots[n] with resync := some c } } }) := by
  have hno : ¬ accepts s.keys.slots[n] c = true := fun h => by
    obtain ⟨-, hnear | ⟨-, hpending⟩⟩ := (accepts_iff _ _).1 h
    · omega
    · exact hresync hpending
  rw [counterCheck, if_neg (not_stale (by omega) hhigh), if_neg hno,
    writeSlot_uncovered { s.keys.slots[n] with resync := some c } hgood rfl rfl]

theorem takeCounter_bad (n : Slot) (c : Counter) (s : State) : (takeCounter n c s).keys.bad = s.keys.bad := by
  simp [takeCounter, queueKey, writeSlot]

/-- A frame with the right code counts no bad code (R103). -/
theorem counterCheck_bad (n : Slot) (c : Counter) (s : State) : (counterCheck n c s).2.keys.bad = s.keys.bad := by
  unfold counterCheck
  simp only
  split
  · rfl
  · split
    · exact takeCounter_bad n c s
    · rfl

theorem counterCheck_power (n : Slot) (c : Counter) (s : State) : (counterCheck n c s).2.power = s.power := by
  unfold counterCheck
  simp only
  split
  · rfl
  · split
    · simp [takeCounter]
    · rfl

theorem badCode_eq (n : Slot) (s : State) : badCode n s =
    { s with keys :=
      { slots := s.keys.slots.set n { countBad s.now s.keys.slots[n] with
          check := slotCover n (countBad s.now s.keys.slots[n]) }
        stale := s.keys.stale
        bad := min 65535 (s.keys.bad + 1) } } := rfl

/-- A bad code counts, and leaves the stale count and the slot's counter (R106). -/
theorem badCode_counts (n : Slot) (s : State) :
    (badCode n s).keys.bad = min 65535 (s.keys.bad + 1) ∧ (badCode n s).keys.stale = s.keys.stale
      ∧ (badCode n s).keys.slots[n].counter = s.keys.slots[n].counter := by
  refine ⟨rfl, rfl, ?_⟩
  have hcounter : (countBad s.now s.keys.slots[n]).counter = s.keys.slots[n].counter := by
    rw [countBad_eq]
    split
    · rfl
    · split <;> rfl
  simpa [badCode, writeSlot] using hcounter

/-- The state that an accepted frame of slot `n` with counter `c` leaves to the intent engine (R103, R104, R173). -/
def acceptedFrame (n : Slot) (c : Counter) (s : State) : State :=
  let x := { s.keys.slots[n] with counter := c, resync := none, storeCurrent := false }
  queueRecord (.key n) { s with
    keys := { s.keys with slots := s.keys.slots.set n { x with check := slotCover n x } }
    power := { s.power with localAt := s.now }
    store := { s.store with writing := s.store.writing.map (staleWrite n) } }

@[simp] theorem acceptedFrame_now (n : Slot) (c : Counter) (s : State) : (acceptedFrame n c s).now = s.now := by
  simp [acceptedFrame]
@[simp] theorem acceptedFrame_addr (n : Slot) (c : Counter) (s : State) : (acceptedFrame n c s).addr = s.addr := by
  simp [acceptedFrame]
@[simp] theorem acceptedFrame_cfg (n : Slot) (c : Counter) (s : State) : (acceptedFrame n c s).cfg = s.cfg := by
  simp [acceptedFrame]
@[simp] theorem acceptedFrame_pinch (n : Slot) (c : Counter) (s : State) : (acceptedFrame n c s).pinch = s.pinch := by
  simp [acceptedFrame]
@[simp] theorem acceptedFrame_latch (n : Slot) (c : Counter) (s : State) : (acceptedFrame n c s).latch = s.latch := by
  simp [acceptedFrame]
@[simp] theorem acceptedFrame_intent (n : Slot) (c : Counter) (s : State) :
    (acceptedFrame n c s).intent = s.intent := by
  simp [acceptedFrame]
@[simp] theorem acceptedFrame_line (n : Slot) (c : Counter) (s : State) : (acceptedFrame n c s).line = s.line := by
  simp [acceptedFrame]
@[simp] theorem acceptedFrame_census (n : Slot) (c : Counter) (s : State) :
    (acceptedFrame n c s).census = s.census := by
  simp [acceptedFrame]
@[simp] theorem acceptedFrame_localAt (n : Slot) (c : Counter) (s : State) :
    (acceptedFrame n c s).power.localAt = s.now := by simp [acceptedFrame]

theorem localInput_queueRecord (r : RecordId) (s : State) :
    localInput (queueRecord r s) = queueRecord r (localInput s) := by
  by_cases h : r ∈ s.store.queue
  · simp [queueRecord, localInput, h]
  · simp [queueRecord, localInput, h]

theorem localInput_takeCounter (n : Slot) (c : Counter) (s : State) :
    localInput (takeCounter n c s) = acceptedFrame n c s := by
  rw [takeCounter, queueKey, localInput_queueRecord, acceptedFrame]
  simp [writeSlot, localInput, slotCover]

theorem calm_queueRecord {r : RecordId} {s : State} (h : Calm s) : Calm (queueRecord r s) := by
  unfold queueRecord
  split <;> exact h

theorem calm_acceptedFrame (n : Slot) (c : Counter) {s : State} (h : Calm s) : Calm (acceptedFrame n c s) :=
  calm_queueRecord h

end Sys2Proof.Proofs.KeyFrames
end

section
/-! Key records and fob frames: what the commands answer, and the settled statements (chapter 5). -/

namespace Sys2Proof.Proofs.KeyFrames

open Sys2Proof Sys2Proof.Machine

/-! ## What the commands answer -/

theorem exec_buttonFrame (bytes : List Byte) (s : State) :
    exec (.buttonFrame bytes) s = live (buttonFrameOp bytes) s := rfl

theorem exec_passiveReply (bytes : List Byte) (s : State) :
    exec (.passiveReply bytes) s = live (passiveReplyOp bytes) s := rfl

theorem exec_badCodeWindowEnd (n : Slot) (s : State) : exec (.badCodeWindowEnd n) s =
    live (fun t => atTime (t.keys.slots[n].windowStart.map (· + 60000000)) (lapseBadCodes n) t) s := rfl

theorem exec_suspensionTimerExpiry (n : Slot) (s : State) : exec (.suspensionTimerExpiry n) s =
    live (fun t => atTime t.keys.slots[n].suspendedUntil (suspensionOver n) t) s := rfl

theorem live_next {f : State → State} {s : State} (h : s.power.heldSince = none) : live f s = .next (settle (f s)) := by
  simp [live, liveInput, h]

/-- A command whose effect at a calm state is the calm state `t` answers what keeps `t`. -/
theorem live_eq_kept {f : State → State} {s t : State} (h : Calm s) (hf : f s = t) (ht : Calm t) :
    ∃ v, live f s = .next v ∧ Kept t v := by
  subst hf
  exact live_kept h.1 ht

/-- A command whose effect is a state in RUN, though more may wait to be done, keeps its key check unit. -/
theorem live_keysKept {f : State → State} {s t : State} (h : s.power.heldSince = none) (hf : KeysKept t (f s))
    (ht : t.power.state = .run) : ∃ v, live f s = .next v ∧ KeysKept t v :=
  ⟨settle (f s), live_next h, hf.trans (settle_keysKept _ (hf.powerState.trans ht))⟩

theorem wakeCause_run {c : WakeCause} {s : State} (h : s.power.state = .run) : wakeCause c s = s := by
  simp [wakeCause, h]

theorem localCause_run {c : WakeCause} {s : State} (h : s.power.state = .run) : localCause c s = localInput s := by
  simp [localCause, h]

theorem buttonFrameOp_run {bytes : List Byte} {f : ButtonFrame} {s : State} (h : s.power.state = .run)
    (hcaps : s.cfg.caps.receiver = true) (hf : decodeButton bytes = some f) :
    buttonFrameOp bytes s = takeButton f s := by
  simp only [buttonFrameOp, hcaps, if_true, wakeCause_run h, hf]

theorem passiveReplyOp_run {bytes : List Byte} {r : Reply} {s : State} (h : s.power.state = .run)
    (hcaps : s.cfg.caps.receiver = true) (hr : decodePassive bytes = some r) :
    passiveReplyOp bytes s = routeReply r s := by
  simp only [passiveReplyOp, hcaps, if_true, wakeCause_run h, hr]

theorem takeButton_dropped {f : ButtonFrame} {s t : State} (h : checkButton f s = (false, t)) : takeButton f s = t := by
  simp only [takeButton, h]

theorem takeButton_accepted {f : ButtonFrame} {s t : State} (h : checkButton f s = (true, t))
    (hrun : t.power.state = .run) :
    takeButton f s = mapButton f.button { identity := f.identity, counter := f.counter } (localInput t) := by
  simp only [takeButton, h, localCause_run hrun]

/-! ## A refusal before issue (R87) -/

/-- The INTENT OUTCOME of an intent refused before its issue, at an own epoch (R87). -/
def refusedOutcome (k : IntentKind) (r : RefusalReason) (epoch : Epoch) : Payload :=
  .intentOutcome { tag := 15, kind := k, epoch := epoch, outcome := .refused, reason := r, partialSearch := false
                   applied := 0#5, unresponsive := 0#5 }

theorem refuseIntent_eq (k : IntentKind) (r : RefusalReason) (s : State) :
    refuseIntent k r s = queueFrame (refusedOutcome k r s.intent.epoch) s := rfl

theorem calm_queueFrame {p : Payload} {s : State} (h : Calm s) : Calm (queueFrame p s) := by
  obtain ⟨hreset, hrun, hheld, hdrop, hrec⟩ := h
  have q := queueFrame_quiet p s
  exact ⟨q.heldSince.trans hreset, q.powerState.trans hrun, q.held.trans hheld, by rw [q.win, hdrop],
    queueAs_stage _ _ _ hrec⟩

/-- With room a frame that is no ANNOUNCEMENT is queued at the end of the command, and nothing else has changed. -/
theorem settle_queueFrame {p : Payload} {s : State} (h : Calm s) (hok : s.line.state = .ok) (room : Roomy 4 s)
    (hp : isAnnouncement (newEntry p.cls p s) = false) :
    Kept s (settle (queueFrame p s)) ∧ Queued p (settle (queueFrame p s)) := by
  have hlen : s.line.tx.length + 4 ≤ 6 := room
  have q := (queueFrame_quiet p s).trans (settle_quiet _ (calm_queueFrame h))
  have joins : Gentle 1 s (queueFrame p s) := queueAs_gentle _ p s (by omega) hok
  have ends : Gentle 3 (queueFrame p s) (settle (queueFrame p s)) := by
    refine settle_gentle _ (calm_queueFrame h) ?_
    have := joins.length
    show _ + 3 ≤ 6
    omega
  have g := joins.trans ends
  have hmem : newEntry p.cls p s ∈ (queueFrame p s).line.tx := by
    rw [queueFrame, queueAs_room _ p s (by omega) hok]
    exact (mem_insertTx _ _ _).2 (.inl rfl)
  constructor
  · refine ⟨q.now, q.pending, q.freeCount, q.pins, q.addr, q.cfg, q.win, q.pinch, q.latch, q.keys, q.intent, q.table,
      q.startHold, q.claims, q.nextNumber, q.burst, fun _ => ?_, q.line, fun _ => g.stays, q.census, q.power, q.store,
      q.flush, fun _ => by rw [g.store]⟩
    rw [g.search]; exact ⟨rfl, rfl⟩
  · exact ⟨newEntry p.cls p s, ends.stays _ hmem hp, rfl, q.addr.symm⟩

theorem anyClosureOpen_congr {a b : State} (haddr : b.addr = a.addr) (hlatch : b.latch = a.latch)
    (hcensus : b.census = a.census) : anyClosureOpen b = anyClosureOpen a := by
  have h : closureOpen b = closureOpen a := by
    funext x
    simp only [closureOpen, haddr, hlatch, hcensus]
  rw [anyClosureOpen, h, anyClosureOpen]

theorem lockKind_congr {a b : State} (n : Notice) (hcfg : b.cfg = a.cfg) (hintent : b.intent = a.intent)
    (hnow : b.now = a.now) : lockKind n b = lockKind n a := by
  rw [lockKind, lockKind, pressedWithin, pressedWithin, hcfg, hintent, hnow]

/-- An accepted LOCK with a closure open is refused with the kind it would have made (R87, R91). -/
theorem mapButton_lock_refused {n : Notice} {s : State} (hok : s.line.state = .ok) (hopen : anyClosureOpen s = true) :
    mapButton .lock n s = refuseIntent (lockKind n s) .closureOpen s := by
  simp [mapButton, inLineFault, hok, mapLock, hopen]

/-! ## The rows of a button frame -/

section
variable {s : State} {bytes : List Byte} {f : ButtonFrame} {n : Slot}

/-- A frame that is not accepted leaves what its check made (R102). -/
theorem exec_buttonFrame_dropped {t : State} (h : Calm s) (hcaps : s.cfg.caps.receiver = true)
    (hf : decodeButton bytes = some f) (hcheck : checkButton f s = (false, t)) (ht : Calm t) :
    ∃ v, exec (.buttonFrame bytes) s = .next v ∧ Kept t v :=
  exec_buttonFrame bytes s ▸ live_eq_kept h ((buttonFrameOp_run h.2.1 hcaps hf).trans (takeButton_dropped hcheck)) ht

/-- Whatever its check comes to, the frame leaves the key check unit as the check left it (R102, R104). -/
theorem exec_buttonFrame_keys (h : Calm s) (hcaps : s.cfg.caps.receiver = true) (hf : decodeButton bytes = some f)
    (hrun : (checkButton f s).2.power.state = .run) :
    ∃ v, exec (.buttonFrame bytes) s = .next v ∧ v.keys = (checkButton f s).2.keys := by
  rw [exec_buttonFrame]
  have kept : KeysKept (checkButton f s).2 (takeButton f s) := by
    cases hc : checkButton f s with
    | mk accepted t =>
        cases accepted with
        | false => rw [takeButton_dropped hc]; exact .refl t
        | true =>
            rw [takeButton_accepted hc (by rw [hc] at hrun; exact hrun)]
            exact (localInput_keysKept t).trans (mapButton_keysKept _ _ _)
  obtain ⟨v, hv, k⟩ := live_keysKept h.1 ((buttonFrameOp_run h.2.1 hcaps hf).symm ▸ kept) hrun
  exact ⟨v, hv, k.keys⟩

/-- The effect of an accepted frame: the intent engine acts on the state with the counter taken (R103, R104). -/
theorem buttonFrameOp_accepted (h : Calm s) (hcaps : s.cfg.caps.receiver = true) (hf : decodeButton bytes = some f)
    (hcheck : checkButton f s = (true, takeCounter n f.counter s)) :
    buttonFrameOp bytes s
      = mapButton f.button { identity := f.identity, counter := f.counter } (acceptedFrame n f.counter s) := by
  have hrun : (takeCounter n f.counter s).power.state = .run := by simp [takeCounter, h.2.1]
  rw [buttonFrameOp_run h.2.1 hcaps hf, takeButton_accepted hcheck hrun, localInput_takeCounter]

/-- The clauses of an accepted frame that hold whatever the intent engine makes of it (R103, R104, R173). -/
theorem exec_buttonFrame_accepted (h : Calm s) (hcaps : s.cfg.caps.receiver = true) (hf : decodeButton bytes = some f)
    (hcheck : checkButton f s = (true, takeCounter n f.counter s)) :
    ∃ v, exec (.buttonFrame bytes) s = .next v ∧ v.keys = (acceptedFrame n f.counter s).keys ∧ v.now = s.now
      ∧ .key n ∈ v.store.queue ∧ v.power.localAt = s.now ∧ v.pinch.profile = s.pinch.profile := by
  have kept : KeysKept (acceptedFrame n f.counter s) (buttonFrameOp bytes s) :=
    buttonFrameOp_accepted h hcaps hf hcheck ▸ mapButton_keysKept _ _ _
  obtain ⟨v, hv, k⟩ := live_keysKept h.1 kept (calm_acceptedFrame n f.counter h).2.1
  have hqueue : .key n ∈ (acceptedFrame n f.counter s).store.queue := (mem_queueRecord _ _ _).2 (.inl rfl)
  have hlocal : v.power.localAt = s.now := by simpa using k.localAt (by simp)
  exact ⟨v, hv, k.keys, by simpa using k.now, k.queue _ hqueue, hlocal, by simpa using k.profile⟩

/-- In LINE FAULT the intent engine takes no action on an accepted frame (R89). -/
theorem exec_buttonFrame_lineFault (h : Calm s) (hcaps : s.cfg.caps.receiver = true) (hf : decodeButton bytes = some f)
    (hcheck : checkButton f s = (true, takeCounter n f.counter s)) (hfault : s.line.state ≠ .ok) :
    ∃ v, exec (.buttonFrame bytes) s = .next v ∧ Kept (acceptedFrame n f.counter s) v := by
  refine live_eq_kept h ((buttonFrameOp_accepted h hcaps hf hcheck).trans ?_) (calm_acceptedFrame n f.counter h)
  have hline : inLineFault (acceptedFrame n f.counter s) = true := by simpa [inLineFault] using hfault
  simp [mapButton, hline]

/-- An accepted LOCK with a closure open is refused with the kind it would have made (R87, R91). -/
theorem exec_buttonFrame_closureOpen (h : Calm s) (hcaps : s.cfg.caps.receiver = true)
    (hf : decodeButton bytes = some f) (hcheck : checkButton f s = (true, takeCounter n f.counter s))
    (hok : s.line.state = .ok) (room : Roomy 4 s) (hlock : f.button = .lock) (hopen : anyClosureOpen s = true) :
    ∃ v, exec (.buttonFrame bytes) s = .next v ∧ Kept (acceptedFrame n f.counter s) v
      ∧ Queued (refusedOutcome (lockKind { identity := f.identity, counter := f.counter } s) .closureOpen
          s.intent.epoch) v := by
  have hopen' : anyClosureOpen (acceptedFrame n f.counter s) = true :=
    (anyClosureOpen_congr (by simp) (by simp) (by simp)).trans hopen
  have hkind := lockKind_congr (a := s) (b := acceptedFrame n f.counter s)
    { identity := f.identity, counter := f.counter } (by simp) (by simp) (by simp)
  have hop := buttonFrameOp_accepted h hcaps hf hcheck
  rw [hlock, mapButton_lock_refused (by simpa using hok) hopen', hkind, refuseIntent_eq, acceptedFrame_intent] at hop
  refine ⟨settle (buttonFrameOp bytes s), live_next h.1, ?_⟩
  rw [hop]
  exact settle_queueFrame (calm_acceptedFrame n f.counter h) (by simpa using hok) (by simpa using room) rfl

end

/-! ## The record's timers (R106, R107) -/

theorem calm_advanceTo {t : Nat} {s : State} (h : Calm s) : Calm (advanceTo t s) := by
  simpa [Calm] using h

theorem calm_lapseBadCodes {n : Slot} {s : State} (h : Calm s) : Calm (lapseBadCodes n s) := h

theorem exec_badCodeWindowEnd_kept {s : State} {n : Slot} {w : Nat} (h : Calm s)
    (hw : s.keys.slots[n].windowStart = some w) :
    ∃ v, exec (.badCodeWindowEnd n) s = .next v ∧ Kept (lapseBadCodes n (advanceTo (w + 60000000) s)) v :=
  exec_badCodeWindowEnd n s ▸
    live_eq_kept h (by simp only [hw, atTime, Option.map_some]) (calm_lapseBadCodes (calm_advanceTo h))

theorem calm_suspensionOver {n : Slot} {s : State} (h : Calm s) : Calm (suspensionOver n s) := by
  unfold suspensionOver
  simp only
  split <;> exact h

theorem exec_suspensionTimerExpiry_kept {s : State} {n : Slot} {e : Nat} (h : Calm s)
    (he : s.keys.slots[n].suspendedUntil = some e) :
    ∃ v, exec (.suspensionTimerExpiry n) s = .next v ∧ Kept (suspensionOver n (advanceTo e s)) v :=
  exec_suspensionTimerExpiry n s ▸
    live_eq_kept h (by simp only [he, atTime]) (calm_suspensionOver (calm_advanceTo h))

/-- The slot at the end of its suspension timer: PAIRED if it was SUSPENDED (R97, R107). -/
def afterSuspension (n : Slot) (k : KeySlot) : KeySlot :=
  let x := { k with suspendedUntil := none, state := .paired }
  if k.state = .suspended then { x with check := slotCover n x } else { k with suspendedUntil := none }

theorem suspensionOver_eq (n : Slot) (s : State) : suspensionOver n s =
    { s with keys := { s.keys with slots := s.keys.slots.set n (afterSuspension n s.keys.slots[n]) } } := by
  by_cases h : s.keys.slots[n].state = .suspended
  · simp only [suspensionOver, afterSuspension, h, if_true]; rfl
  · simp only [suspensionOver, afterSuspension, h, if_false]

/-! ## The statement -/

/-- Settles O36: the lookup among sound slots, then the code, then the rows of the counter check. -/
theorem buttonFrameIsCheckedStepByStep : Obligations.ButtonFrameIsCheckedStepByStep := by
  unfold Obligations.ButtonFrameIsCheckedStepByStep
  refine ⟨fun s bytes f n calm hcaps hf sound alone => ?_, fun s n calm => ⟨fun w hw => ?_, fun e he => ?_⟩⟩
  · have hone : OnlySlot f.identity n s := ⟨sound, alone⟩
    intro k held d good resync slot
    have hgood : good ↔ RightCode f n s := by
      rw [RightCode, buttonMessage_eq]
    have hresync : resync ↔ resyncs k f.counter = true := by rw [resyncs_eq]
    refine ⟨fun hdrop => ?_, fun hheld hpaired hwrong => ?_, fun hheld hpaired hright hstale => ?_,
      fun hheld hpaired hright hlow hhigh hno => ?_, fun hheld hpaired hright hlow hnear => ?_⟩
    · refine exec_buttonFrame_dropped calm hcaps hf ?_ calm
      rcases hdrop with hunknown | ⟨hheld, hbarred⟩
      · exact checkButton_unknown hone hunknown
      · refine checkButton_barred hone hheld fun hpaired => ?_
        rcases hbarred with hb | hb <;> exact absurd (hpaired.symm.trans hb) (by decide)
    · have hcheck := checkButton_wrongCode hone hheld hpaired (fun hright => hwrong (hgood.2 hright))
      rw [badCode_eq, countBad_eq] at hcheck
      exact exec_buttonFrame_dropped calm hcaps hf hcheck calm
    · have hcheck := checkButton_rightCode hone hheld hpaired (hgood.1 hright)
      exact exec_buttonFrame_dropped calm hcaps hf (hcheck.trans (counterCheck_stale hstale)) calm
    · have hcheck := checkButton_rightCode hone hheld hpaired (hgood.1 hright)
      have hpending := counterCheck_pending hlow hhigh (fun h => hno (hresync.2 h)) (sound n)
      exact exec_buttonFrame_dropped calm hcaps hf (hcheck.trans hpending) calm
    · have haccepts : accepts k f.counter = true :=
        (accepts_iff k f.counter).2 ⟨hlow, hnear.imp_right (And.imp_right hresync.1)⟩
      have hcheck := (checkButton_rightCode hone hheld hpaired (hgood.1 hright)).trans (counterCheck_accepted haccepts)
      refine ⟨exec_buttonFrame_accepted calm hcaps hf hcheck, exec_buttonFrame_lineFault calm hcaps hf hcheck,
        fun hok room hlock hopen => ?_⟩
      have hkind : lockKind { identity := f.identity, counter := f.counter } s
          = if s.cfg.deadlockEn ∧ pressedWithin .lock f.identity 3000000 s then .deadlock else .lock := by
        simp only [lockKind, Bool.and_eq_true]
      rw [← hkind]
      exact exec_buttonFrame_closureOpen calm hcaps hf hcheck hok room hlock hopen
  · have h := exec_badCodeWindowEnd_kept calm hw
    rwa [lapseBadCodes, advanceTo_keys] at h
  · have h := exec_suspensionTimerExpiry_kept calm he
    rwa [suspensionOver_eq, advanceTo_keys, afterSuspension] at h

end Sys2Proof.Proofs.KeyFrames
end

section
/-! Key records and fob frames: the codes that a button frame and a passive reply are judged by (R101). -/

namespace Sys2Proof.Proofs.KeyFrames

open Sys2Proof Sys2Proof.Machine

/-! ## Passive replies (R100, R108, R122) -/

/-- The search record with the reply among those taken (R122). -/
def takenReply (q : SearchRec) (r : Reply) (s : State) : State :=
  setRecord (some { q with taken := q.taken ++ [r] }) s

section
variable {s : State} {q : SearchRec} {ch : Word32} {w : Nat} {r : Reply}

/-- A reply that the open search collects goes to validation, and adds no more than its candidate (R122). -/
theorem weighReply_keysKept (hq : s.search.record = some q) (hch : q.challenge = some ch)
    (hcollects : collects q r.echo s.now = true) (hnew : r ∉ q.taken) :
    KeysKept (validate r ch (takenReply q r s)).2 (weighReply r s) := by
  have htaken : (!q.taken.contains r) = true := by simpa using hnew
  simp only [weighReply, takenReply, hq, hch, hcollects, htaken, Bool.and_self, if_true]
  split
  · rename_i t hv
    rw [hv]; exact .refl t
  · rename_i c t hv
    rw [hv]; exact withSearch_keysKept t _

/-- A reply that echoes the challenge of the open search is not relayed (R111). -/
theorem routeReply_own (hq : s.search.record = some q) (hch : q.challenge = some ch) (hecho : ch.setWidth 24 = r.echo) :
    routeReply r s = weighReply r s := by
  simp [routeReply, hq, hch, echoOf, hecho]

theorem collects_of_open (hch : q.challenge = some ch) (hecho : ch.setWidth 24 = r.echo) (hw : q.windowEnd = some w)
    (hopen : s.now ≤ w) : collects q r.echo s.now = true := by
  simp [collects, hch, echoOf, hecho, hw, hopen]

end

/-- The code of a passive reply is right for slot `n` under a challenge. -/
abbrev RightReply (r : Reply) (ch : Word32) (n : Slot) (s : State) : Prop :=
  codeOf s.keys.slots[n].sHi s.keys.slots[n].sLo ch = r.code

section
variable {s : State} {r : Reply} {ch : Word32} {n : Slot}

theorem validate_right (hone : OnlySlot r.identity n s) (h : Holds r.identity s n)
    (hstate : s.keys.slots[n].state = .paired) (right : RightReply r ch n s) : (validate r ch s).2 = s := by
  simp only [validate, lookup_some hone.1 h hone.2, hstate, ne_eq, not_true_eq_false, right, if_false]

theorem validate_wrong (hone : OnlySlot r.identity n s) (h : Holds r.identity s n)
    (hstate : s.keys.slots[n].state = .paired) (wrong : ¬ RightReply r ch n s) : (validate r ch s).2 = badCode n s := by
  simp only [validate, lookup_some hone.1 h hone.2, hstate, ne_eq, not_true_eq_false, if_false, if_pos wrong]

end

/-- What a code judged right or wrong for slot `n` leaves of the counts (R101, R103, R106). -/
def Judged (c : Instr) (n : Slot) (right : Prop) (s : State) : Prop :=
  (right → ∃ v, exec c s = .next v ∧ v.keys.bad = s.keys.bad)
    ∧ (¬ right → ∃ v, exec c s = .next v ∧ v.keys.bad = min 65535 (s.keys.bad + 1) ∧ v.keys.stale = s.keys.stale
      ∧ v.keys.slots[n].counter = s.keys.slots[n].counter)

/-- A command that leaves the key check unit as after a bad code of slot `n` has counted it. -/
theorem counted_of_badCode {c : Instr} {n : Slot} {s t : State} (ht : t.keys = s.keys)
    (h : ∃ v, exec c s = .next v ∧ v.keys = (badCode n t).keys) :
    ∃ v, exec c s = .next v ∧ v.keys.bad = min 65535 (s.keys.bad + 1) ∧ v.keys.stale = s.keys.stale
      ∧ v.keys.slots[n].counter = s.keys.slots[n].counter := by
  obtain ⟨v, hv, hkeys⟩ := h
  obtain ⟨hbad, hstale, hcounter⟩ := badCode_counts n t
  rw [ht] at hbad hstale hcounter
  exact ⟨v, hv, by rw [hkeys, hbad], by rw [hkeys, hstale], by rw [hkeys, hcounter]⟩

theorem judged_buttonFrame {s : State} {bytes : List Byte} {f : ButtonFrame} {n : Slot} (h : Calm s)
    (hcaps : s.cfg.caps.receiver = true) (hf : decodeButton bytes = some f) (hone : OnlySlot f.identity n s)
    (holds : Holds f.identity s n) (hstate : s.keys.slots[n].state = .paired) :
    Judged (.buttonFrame bytes) n (RightCode f n s) s := by
  constructor
  · intro right
    have hcheck := checkButton_rightCode hone holds hstate right
    obtain ⟨v, hv, hkeys⟩ := exec_buttonFrame_keys h hcaps hf (by rw [hcheck, counterCheck_power]; exact h.2.1)
    exact ⟨v, hv, by rw [hkeys, hcheck, counterCheck_bad]⟩
  · intro wrong
    have hcheck := checkButton_wrongCode hone holds hstate wrong
    have hkeys := exec_buttonFrame_keys h hcaps hf (by rw [hcheck]; exact h.2.1)
    rw [hcheck] at hkeys
    exact counted_of_badCode rfl hkeys

/-- The reply that an open search collects leaves the key check unit as its validation did (R108, R122). -/
theorem exec_passiveReply_keys {s : State} {bytes : List Byte} {r : Reply} {q : SearchRec} {ch : Word32} {t : State}
    (h : Calm s) (hcaps : s.cfg.caps.receiver = true) (hr : decodePassive bytes = some r)
    (hq : s.search.record = some q) (hch : q.challenge = some ch) (hecho : ch.setWidth 24 = r.echo)
    (hcollects : collects q r.echo s.now = true) (hnew : r ∉ q.taken)
    (hvalidate : (validate r ch (takenReply q r s)).2 = t) (hrun : t.power.state = .run) :
    ∃ v, exec (.passiveReply bytes) s = .next v ∧ v.keys = t.keys := by
  have hop : passiveReplyOp bytes s = weighReply r s :=
    (passiveReplyOp_run h.2.1 hcaps hr).trans (routeReply_own hq hch hecho)
  have kept : KeysKept t (passiveReplyOp bytes s) := by
    rw [hop, ← hvalidate]; exact weighReply_keysKept hq hch hcollects hnew
  obtain ⟨v, hv, k⟩ := live_keysKept h.1 kept hrun
  exact ⟨v, (exec_passiveReply bytes s).trans hv, k.keys⟩

theorem judged_passiveReply {s : State} {bytes : List Byte} {r : Reply} {q : SearchRec} {ch : Word32} {n : Slot}
    (h : Calm s) (hcaps : s.cfg.caps.receiver = true) (hr : decodePassive bytes = some r)
    (hone : OnlySlot r.identity n s) (holds : Holds r.identity s n) (hstate : s.keys.slots[n].state = .paired)
    (hq : s.search.record = some q) (hch : q.challenge = some ch) (hecho : ch.setWidth 24 = r.echo)
    (hcollects : collects q r.echo s.now = true) (hnew : r ∉ q.taken) :
    Judged (.passiveReply bytes) n (RightReply r ch n s) s := by
  have hone' : OnlySlot r.identity n (takenReply q r s) := hone
  constructor
  · intro right
    obtain ⟨v, hv, hkeys⟩ := exec_passiveReply_keys h hcaps hr hq hch hecho hcollects hnew
      (validate_right hone' holds hstate right) h.2.1
    exact ⟨v, hv, congrArg Keys.bad hkeys⟩
  · intro wrong
    exact counted_of_badCode (t := takenReply q r s) rfl (exec_passiveReply_keys h hcaps hr hq hch hecho hcollects hnew
      (validate_wrong hone' holds hstate wrong) h.2.1)

/-- Settles O37: the words of the code function are numbers mod 2^32, and each frame is judged by the one slot found. -/
theorem codeFunctionInNumbers : Obligations.CodeFunctionInNumbers := by
  unfold Obligations.CodeFunctionInNumbers
  intro code
  refine ⟨codeOf_toNat, fun s bytes n calm hcaps sound => ?_⟩
  intro k found judged
  refine ⟨fun f hf hfound => ?_, fun r hr hfound q hq ch hch hecho w hw hopen hnew => ?_⟩
  · obtain ⟨hpaired, hid, alone⟩ := hfound
    have hcode : f.code.toNat = code k.sHi k.sLo (f.counter.toNat * 256 + f.button.code) ↔ RightCode f n s := by
      rw [RightCode, codeOf_eq_iff, buttonMessage_toNat]; rfl
    have h := judged_buttonFrame calm hcaps hf ⟨sound, alone⟩ (holds_of_paired hpaired hid) hpaired
    rwa [← hcode] at h
  · obtain ⟨hpaired, hid, alone⟩ := hfound
    have hcode : r.code.toNat = code k.sHi k.sLo ch.toNat ↔ RightReply r ch n s := by
      rw [RightReply, codeOf_eq_iff]; rfl
    have h := judged_passiveReply calm hcaps hr ⟨sound, alone⟩ (holds_of_paired hpaired hid) hpaired hq hch hecho
      (collects_of_open hch hecho hw hopen) hnew
    rwa [← hcode] at h

end Sys2Proof.Proofs.KeyFrames
end

section
/-! What every command does, said once for every relation between states: a relation that holds across each kind of
elementary change holds across each operation of the station. This file: the elementary changes and the transmit
queue. -/

namespace Sys2Proof.Proofs.Steps

open Sys2Proof Sys2Proof.Machine

/-! ## What an elementary change keeps -/

/-- No passive lock waits to queue its INTERIOR SEARCH (R126). -/
def NoInterior (s : State) : Prop := ∀ r ∈ s.search.record, r.stage ≠ .interiorClaiming

/-- A change of the transmit queue keeps the bounds of the line interface and the jobs of the ANNOUNCEMENTs. -/
structure TxFits (a b : State) : Prop where
  bounds : LineBounds a → LineBounds b
  jobs : AnnouncementsHaveJobs a → AnnouncementsHaveJobs b

/-- The figures of the window controller and the pinch monitor in their ranges (R1, R21, R39, R45). -/
def GlassFigures (s : State) : Prop :=
  (-32 ≤ s.win.p ∧ s.win.p ≤ s.cfg.travel + 32) ∧ s.win.heat ≤ 90000 ∧ s.win.drift ≤ 65535
    ∧ s.pinch.reversals.length ≤ 3 ∧ ∀ z : Zone, s.pinch.profile[z].value ≤ 16383

/-- Motion state, request and motor go together (R8): `MotionFits` without the pinch count. -/
def MotionCore (s : State) : Prop :=
  (s.win.motion = .idle ↔ s.win.req = none)
    ∧ (∀ d, s.win.motor = .driven d →
        (s.win.motion = .starting ∨ s.win.motion = .moving ∨ s.win.motion = .reversing) ∧ s.win.req.map (·.dir) = some d)
    ∧ (s.win.motion = .braking ↔ s.win.motor = .braked)
    ∧ (s.win.motion = .moving ∨ s.win.motion = .reversing → ∃ d, s.win.motor = .driven d)
    ∧ (s.win.motion = .starting → (∃ d, s.win.motor = .driven d) ∨ s.win.pauseEnd.isSome)
    ∧ s.win.motion ≠ .blocked

/-- `t` is `s` with another window and pinch monitor, and motion, request, motor and the figures still fit. -/
structure MotionStep (s t : State) : Prop where
  eq : t = { s with win := t.win, pinch := t.pinch }
  figures : GlassFigures s → GlassFigures t
  motion : MotionCore s → MotionCore t

/-- The pinch count rests below 3 as well (R35). -/
structure PlaceStep (s t : State) : Prop extends MotionStep s t where
  count : s.pinch.count ≤ 2 → t.pinch.count ≤ 2

/-- The count, the drift events and the normalisation (R1, R2). -/
def placeOf (w : Window) : Int × Nat × Bool := (w.p, w.drift, w.norm)

/-- The place stays as well. -/
structure GlassStep (s t : State) : Prop extends PlaceStep s t where
  place : placeOf t.win = placeOf s.win

/-- Another latch keeps the release sequence in step with its timers and a HALTED one HALTED, and the child state. -/
structure LatchStep (s : State) (l : Latch) : Prop where
  release : ReleaseFits s → ReleaseFits { s with latch := l } ∧ (s.latch.seq = .halted → l.seq = .halted)
  child : l.child = s.latch.child

/-- Another line interface keeps its bounds, the jobs of the ANNOUNCEMENTs and the saturating counts. -/
structure LineStep (s : State) (l : Line) : Prop where
  tx : TxFits s { s with line := l }
  damaged : s.line.damaged ≤ 65535 → l.damaged ≤ 65535
  overruns : s.line.overruns ≤ 65535 → l.overruns ≤ 65535
  txFails : s.line.txFails ≤ 65535 → l.txFails ≤ 65535

/-- The same of another line interface in a state `t` that has followed from `s`. -/
structure LineAfter (s t : State) (l : Line) : Prop where
  bounds : LineBounds s → LineBounds t → LineBounds { t with line := l }
  jobs : AnnouncementsHaveJobs t → AnnouncementsHaveJobs { t with line := l }
  damaged : t.line.damaged ≤ 65535 → l.damaged ≤ 65535
  overruns : t.line.overruns ≤ 65535 → l.overruns ≤ 65535
  txFails : t.line.txFails ≤ 65535 → l.txFails ≤ 65535

theorem LineStep.after {s : State} {l : Line} (h : LineStep s l) : LineAfter s s l :=
  ⟨fun _ => h.tx.bounds, h.tx.jobs, h.damaged, h.overruns, h.txFails⟩

/-- Another census unit keeps the balance and its counts in their ranges (R159, R162). -/
structure CensusStep (c d : Census) : Prop where
  balance : -4 ≤ c.balance ∧ c.balance ≤ 4 → -4 ≤ d.balance ∧ d.balance ≤ 4
  late : c.late ≤ 65535 → d.late ≤ 65535
  unresponsive : (∀ a : Addr, c.peers[a].unresponsive ≤ 255) → ∀ a : Addr, d.peers[a].unresponsive ≤ 255

/-- Another intent engine keeps the last-applied keys and the bounds of the open intent table, and holds no intent that
was not held. -/
structure IntentStep (s : State) (n : Intents) : Prop where
  lastKey : ∀ f, lastKey f n = lastKey f s.intent
  table : TableBounds s → TableBounds { s with intent := n }
  held : s.intent.held = none → n.held = none

/-! ## Relations that hold across the elementary changes -/

/-- The relation is a preorder that holds across the changes of the window controller and the pinch monitor, and across
those that no statement watches. -/
structure GlassCore (R : State → State → Prop) : Prop where
  refl : ∀ s, R s s
  trans : ∀ {a b c}, R a b → R b c → R a c
  clock : ∀ t s, R s (advanceTo t s)
  quiet : ∀ {a b}, Quiet a b → TxFits a b → (NoInterior a → NoInterior b) → R a b
  pins : ∀ s p, p.strap = s.pins.strap → R s { s with pins := p }
  challenge : ∀ s, R s { s with freeCount := s.freeCount + 1 }
  glass : ∀ {s t}, GlassStep s t → R s t
  keys : ∀ s k, (s.keys.stale ≤ 65535 → k.stale ≤ 65535) → (s.keys.bad ≤ 65535 → k.bad ≤ 65535) →
    R s { s with keys := k }
  search : ∀ {s t} x, R s t → (NoInterior s → NoInterior { t with search := x }) → R s { t with search := x }
  store : ∀ s x, (QueueDistinct s → QueueDistinct { s with store := x }) → R s { s with store := x }

/-- A driven pulse is weighed, and declares a pinch where the count reaches 3 (R35). -/
def weighPulse (u t : Nat) (s : State) : State :=
  let v := (pinchPulse u t s).withWin (passStart (pinchPulse u t s).win)
  if v.pinch.count = 3 then declarePinch v else v

/-- The relation also holds across a change of the place. -/
structure PlaceClosed (R : State → State → Prop) : Prop extends GlassCore R where
  place : ∀ {s t}, PlaceStep s t → R s t

/-- The relation also holds across a pulse that is weighed, in which the count may reach 3. -/
structure GlassClosed (R : State → State → Prop) : Prop extends PlaceClosed R where
  pulse : ∀ u t s, (∃ d, s.win.motor = .driven d) → R s (weighPulse u t s)

/-- The relation also holds across the changes of the latch controller other than a child state, and a local input. -/
structure LatchClosed (R : State → State → Prop) : Prop extends GlassCore R where
  latch : ∀ s l, LatchStep s l → R s { s with latch := l }
  input : ∀ s, R s (localInput s)

/-- The relation also holds across the changes of the line interface, the census unit and the power manager that keep
the power state. -/
structure StationClosed (R : State → State → Prop) : Prop extends LatchClosed R where
  line : ∀ {s t} l, R s t → LineAfter s t l → R s { t with line := l }
  census : ∀ s c, CensusStep s.census c → R s { s with census := c }
  power : ∀ s p, p.state = s.power.state → (s.power.spurious ≤ 65535 → p.spurious ≤ 65535) → R s { s with power := p }

/-- The relation also holds across the changes of the intent engine that decide no intent, a child state with what it
does to the release sequence, and a change of the power state other than to SLEEP. -/
structure Closed (R : State → State → Prop) : Prop extends StationClosed R where
  intent : ∀ s n, IntentStep s n → R s { s with intent := n }
  childEngaged : ∀ s, R s (childOnSequence (queueRecord .latchState { s with latch := { s.latch with child := .engaged } }))
  childReleased : ∀ s, R s (queueRecord .latchState { s with latch := { s.latch with child := .released } })
  awake : ∀ s p, p.state ≠ .sleep → (s.power.spurious ≤ 65535 → p.spurious ≤ 65535) → R s { s with power := p }

/-- The decision of an intent, a prepared intent that is held, and a passive lock that begins to wait for its INTERIOR
SEARCH, each at most once after changes in `R`: what they lead to is in `D`, which further changes in `R` keep. -/
structure DecideClosed (R D : State → State → Prop) : Prop extends Closed R where
  lift : ∀ {a b}, R a b → D a b
  after : ∀ {a b c}, D a b → R b c → D a c
  key : ∀ {a s} f k, R a s → keyHigher k (lastKey f s.intent) = true →
    D a { s with intent := setLastKey f k s.intent }
  hold : ∀ {a s} p, R a s → D a { s with intent := { s.intent with held := some p } }
  wait : ∀ {a s} x, R a s → D a { s with search := x }
  freed : ∀ {a s t} x, D a s → ¬ NoInterior s → NoInterior { s with search := x } → D { s with search := x } t → D a t
  unheld : ∀ {a s t}, D a s → s.intent.held ≠ none → D { s with intent := { s.intent with held := none } } t → D a t

/-! ## The transmit queue -/

theorem LineBounds.of_tx {a b : State} (hl : b.line.fixed = a.line.fixed)
    (hlen : a.line.tx.length ≤ 6 → b.line.tx.length ≤ 6) (hfault : a.line.state ≠ .ok → a.line.tx = [] → b.line.tx = [])
    (hjobs : AnnouncementsHaveJobs a → AnnouncementsHaveJobs b) (h : LineBounds a) : LineBounds b := by
  obtain ⟨htx, hrx, hext, hfail, hempty, hj⟩ := h
  have hrx' : b.line.fixed.rx = a.line.fixed.rx := congrArg (·.rx) hl
  have hext' : b.line.fixed.ext = a.line.fixed.ext := congrArg (·.ext) hl
  have hfail' : b.line.fixed.failures = a.line.fixed.failures := congrArg (·.failures) hl
  have hstate : b.line.fixed.state = a.line.fixed.state := congrArg (·.state) hl
  refine ⟨hlen htx, le_of_eq_of_le (congrArg framesHeld hrx') hrx, le_of_eq_of_le hext' hext,
    le_of_eq_of_le hfail' hfail, fun hne => ?_, hjobs hj⟩
  have hne' : a.line.state ≠ .ok := fun e => hne (hstate.trans e)
  exact hfault hne' (hempty hne')

theorem TxFits.of_tx {a b : State} (hl : b.line.fixed = a.line.fixed)
    (hlen : a.line.tx.length ≤ 6 → b.line.tx.length ≤ 6) (hfault : a.line.state ≠ .ok → a.line.tx = [] → b.line.tx = [])
    (hjobs : AnnouncementsHaveJobs a → AnnouncementsHaveJobs b) : TxFits a b :=
  ⟨LineBounds.of_tx hl hlen hfault hjobs, hjobs⟩

/-- The same line interface but for what no bound speaks of. -/
theorem TxFits.of_eq {a b : State} (htx : b.line.tx = a.line.tx) (hl : b.line.fixed = a.line.fixed) : TxFits a b :=
  .of_tx hl (htx ▸ id) (fun _ h => htx.trans h) (fun h => by unfold AnnouncementsHaveJobs; rw [htx]; exact h)

theorem TxFits.refl (s : State) : TxFits s s := ⟨id, id⟩

theorem TxFits.trans {a b c : State} (h : TxFits a b) (k : TxFits b c) : TxFits a c :=
  ⟨k.bounds ∘ h.bounds, k.jobs ∘ h.jobs⟩

theorem notSent_tx (p : Payload) (s : State) : (notSent p s).line.tx = s.line.tx := by
  cases hp : isClaimPayload p
  · exact (notSent_unclaimed p s hp).1
  · cases p <;> simp only [isClaimPayload, Bool.false_eq_true] at hp
    all_goals
      simp only [notSent]
      split
      · unfold claimLost
        split
        · rfl
        · split
          · rfl
          · split <;> rfl
          · rfl
      · rfl

theorem tell_tx (e : TxEntry) (s : State) : (Machine.tell e s).line.tx = s.line.tx := by
  unfold Machine.tell
  split
  · rfl
  · exact notSent_tx _ s

theorem tell_txFits (e : TxEntry) (s : State) : TxFits s (Machine.tell e s) := .of_eq (tell_tx e s) (tell_quiet e s).line

theorem splitVictim_length {l rest : List TxEntry} {v : TxEntry} (h : splitVictim l = some (v, rest)) :
    rest.length + 1 = l.length := by
  induction l generalizing rest with
  | nil => simp [splitVictim] at h
  | cons x xs ih =>
      unfold splitVictim at h
      split at h
      · rename_i w r hw
        simp only [Option.some.injEq, Prod.mk.injEq] at h
        obtain ⟨rfl, rfl⟩ := h
        simp [ih hw]
      · split at h
        · simp at h
        · simp only [Option.some.injEq, Prod.mk.injEq] at h
          obtain ⟨-, rfl⟩ := h
          rfl

/-- A queue made of an old one and entries with jobs keeps the jobs. -/
theorem jobs_insert {a b : State} {e : TxEntry} {l : List TxEntry} (he : isAnnouncement e = true → e.jobless = false)
    (hb : b.line.tx = insertTx e l) (hl : ∀ x ∈ l, x ∈ a.line.tx) (h : AnnouncementsHaveJobs a) :
    AnnouncementsHaveJobs b := by
  intro x hx
  rw [hb] at hx
  rcases (mem_insertTx _ _ _).1 hx with rfl | hx
  · exact he
  · exact h x (hl x hx)

theorem admitted_ok {cls : Fin 8} {p : Payload} {s : State} (h : admitted cls p s = true) : s.line.state = .ok := by
  by_contra hne
  simp [admitted, inLineFault, hne] at h

theorem queueEntry_txFits {e : TxEntry} (s : State) (he : isAnnouncement e = true → e.jobless = false) :
    TxFits s (queueEntry e s) := by
  unfold queueEntry
  split
  · exact tell_txFits e s
  · rename_i hadm
    have hok : s.line.state = .ok := admitted_ok (by simpa using hadm)
    split
    · rename_i hroom
      exact .of_tx rfl (fun _ => by simpa [length_insertTx] using hroom) (fun hne => absurd hok hne)
        (jobs_insert he rfl fun _ h => h)
    · split
      · rename_i v rest hv
        refine TxFits.trans (b := { s with line := { s.line with tx := insertTx e rest, nextAge := s.line.nextAge + 1 } })
          (.of_tx rfl ?_ (fun hne => absurd hok hne) ?_) (tell_txFits _ _)
        · simp [length_insertTx, splitVictim_length hv]
        · exact jobs_insert he rfl (splitVictim_mem hv).2.2
      · exact .refl s

theorem queueAs_txFits (cls : Fin 8) (p : Payload) (s : State) : TxFits s (queueAs cls p s) :=
  queueEntry_txFits s fun _ => rfl

theorem queueFrame_txFits (p : Payload) (s : State) : TxFits s (queueFrame p s) := queueAs_txFits _ p s

theorem queueCensus_txFits (s : State) : TxFits s (queueCensus s) := by
  unfold queueCensus
  split
  · exact .refl s
  · exact queueFrame_txFits _ s

theorem withdraw_txFits (f : Payload → Bool) (s : State) : TxFits s (withdraw f s) :=
  .of_tx rfl (fun h => le_trans (List.length_filter_le _ _) h) (fun _ h => by simp [withdraw, h])
    (fun h x hx => h x (List.mem_filter.1 hx).1)

theorem replaceAnnouncement_jobs {cls : Fin 8} {p : Payload} {s : State} (h : AnnouncementsHaveJobs s) :
    ∀ x ∈ replaceAnnouncement cls p s, isAnnouncement x = true → x.jobless = false := by
  unfold replaceAnnouncement
  split
  · intro x hx
    rcases (mem_insertTx _ _ _).1 hx with rfl | hx
    · exact fun _ => rfl
    · exact h x (List.mem_filter.1 hx).1
  · exact h

theorem queueAnnouncement_txFits (s : State) : TxFits s (queueAnnouncement s) := by
  unfold queueAnnouncement
  simp only
  split
  · exact .of_eq rfl rfl
  · split
    · refine .of_tx rfl (fun h => le_trans (replaceAnnouncement_length _ _ _) h) (fun _ h => ?_) fun h => ?_
      · exact List.length_eq_zero_iff.1 (Nat.le_zero.1 (le_trans (replaceAnnouncement_length _ _ _) (by simp [h])))
      · exact fun x hx => replaceAnnouncement_jobs (s := { s with census := { s.census with
          waitingChange := false, lastWatched := watchedFields (announcedNow s), statusOwed := false } }) h x hx
    · exact TxFits.trans (b := { s with census := { s.census with
          waitingChange := false, lastWatched := watchedFields (announcedNow s), statusOwed := false } })
        (.of_eq rfl rfl) (queueAs_txFits _ _ _)

/-! ## The search unit while a frame is queued -/

theorem queueAs_noInterior (cls : Fin 8) (p : Payload) {s : State} (h : NoInterior s) : NoInterior (queueAs cls p s) :=
  queueAs_stage cls p s h

theorem queueFrame_noInterior (p : Payload) {s : State} (h : NoInterior s) : NoInterior (queueFrame p s) :=
  queueAs_stage _ p s h

theorem queueCensus_noInterior {s : State} (h : NoInterior s) : NoInterior (queueCensus s) := by
  unfold queueCensus
  split
  · exact h
  · exact queueFrame_noInterior _ h

theorem queueAnnouncement_noInterior {s : State} (h : NoInterior s) : NoInterior (queueAnnouncement s) := by
  unfold queueAnnouncement
  simp only
  split
  · exact h
  · split
    · exact h
    · exact queueAs_stage _ _ _ h

/-! ## Relations across queuing -/

section
variable {R : State → State → Prop} {a s : State}

theorem GlassCore.under_quiet (h : GlassCore R) {t : State} (hs : R a s) (q : Quiet s t) (f : TxFits s t)
    (n : NoInterior s → NoInterior t) : R a t := h.trans hs (h.quiet q f n)

theorem GlassCore.under_queueEntry (h : GlassCore R) (hs : R a s) {e : TxEntry}
    (he : isAnnouncement e = true → e.jobless = false) : R a (queueEntry e s) :=
  h.under_quiet hs (queueEntry_quiet e s) (queueEntry_txFits s he) (queueEntry_stage e s)

theorem GlassCore.under_queueFrame (h : GlassCore R) (hs : R a s) (p : Payload) : R a (queueFrame p s) :=
  h.under_queueEntry hs fun _ => rfl

theorem GlassCore.under_queueCensus (h : GlassCore R) (hs : R a s) : R a (queueCensus s) :=
  h.under_quiet hs (queueCensus_quiet s) (queueCensus_txFits s) queueCensus_noInterior

theorem GlassCore.under_queueAnnouncement (h : GlassCore R) (hs : R a s) : R a (queueAnnouncement s) :=
  h.under_quiet hs (queueAnnouncement_quiet s) (queueAnnouncement_txFits s) queueAnnouncement_noInterior

theorem GlassCore.under_firstFrames (h : GlassCore R) (hs : R a s) : R a (firstFrames s) :=
  h.under_queueAnnouncement (h.under_queueCensus hs)

theorem GlassCore.under_withdraw (h : GlassCore R) (hs : R a s) (f : Payload → Bool) : R a (withdraw f s) :=
  h.under_quiet hs (withdraw_quiet f s) (withdraw_txFits f s) id

theorem GlassCore.under_tell (h : GlassCore R) (hs : R a s) (e : TxEntry) : R a (Machine.tell e s) :=
  h.under_quiet hs (tell_quiet e s) (tell_txFits e s) (tell_stage e s)

/-! The write-back queue (R188) and what no statement watches. -/

theorem GlassCore.under_store (h : GlassCore R) (hs : R a s) {x : Store}
    (hx : QueueDistinct s → QueueDistinct { s with store := x }) : R a { s with store := x } :=
  h.trans hs (h.store s x hx)

/-- Another record store interface with the same write-back queue. -/
theorem GlassCore.under_storeSame (h : GlassCore R) (hs : R a s) {x : Store} (hq : x.queue = s.store.queue) :
    R a { s with store := x } :=
  h.under_store hs fun d => by
    simp only [QueueDistinct, hq]
    exact d

theorem queueRecord_distinct (r : RecordId) {s : State} (h : QueueDistinct s) : QueueDistinct (queueRecord r s) := by
  unfold queueRecord
  split
  · exact h
  · rename_i hr
    exact List.Nodup.append h (List.nodup_singleton r) (by simpa using hr)

theorem GlassCore.under_queueRecord (h : GlassCore R) (hs : R a s) (r : RecordId) : R a (queueRecord r s) := by
  have hd := queueRecord_distinct r (s := s)
  unfold queueRecord at hd ⊢
  split
  · exact hs
  · rename_i hr
    rw [if_neg hr] at hd
    exact h.under_store hs hd

theorem GlassCore.under_unqueueRecord (h : GlassCore R) (hs : R a s) (r : RecordId) : R a (unqueueRecord r s) :=
  h.under_store hs fun d => d.filter _

theorem GlassCore.under_advanceTo (h : GlassCore R) (hs : R a s) (t : Nat) : R a (advanceTo t s) :=
  h.trans hs (h.clock t s)

theorem GlassCore.under_advance (h : GlassCore R) (hs : R a s) (t : Nat) : R a (advance t s) :=
  h.under_advanceTo hs _

theorem GlassCore.under_pins (h : GlassCore R) (hs : R a s) {p : Pins} (hp : p.strap = s.pins.strap) :
    R a { s with pins := p } := h.trans hs (h.pins s p hp)

theorem GlassCore.under_keys (h : GlassCore R) (hs : R a s) {k : Keys} (hst : s.keys.stale ≤ 65535 → k.stale ≤ 65535)
    (hbad : s.keys.bad ≤ 65535 → k.bad ≤ 65535) : R a { s with keys := k } := h.trans hs (h.keys s k hst hbad)

theorem GlassCore.under_search (h : GlassCore R) (hs : R a s) {x : Search}
    (hx : NoInterior s → NoInterior { s with search := x }) : R a { s with search := x } :=
  h.trans hs (h.search x (h.refl s) hx)

end

end Sys2Proof.Proofs.Steps
end

section
/-! What every command does: the window controller and the pinch monitor (chapters 1 and 2). -/

namespace Sys2Proof.Proofs.Steps

open Sys2Proof Sys2Proof.Machine

/-! ## Where motion state, request and motor stand together (R8) -/

theorem MotionCore.idle {s : State} (hm : s.win.motion = .idle) (hr : s.win.req = none) (ho : s.win.motor = .off) :
    MotionCore s := by
  simp [MotionCore, hm, hr, ho]

theorem MotionCore.driven {s : State} {d : Direction} (ho : s.win.motor = .driven d)
    (hm : s.win.motion = .starting ∨ s.win.motion = .moving ∨ s.win.motion = .reversing)
    (hr : s.win.req.map (·.dir) = some d) : MotionCore s := by
  have hreq : s.win.req ≠ none := fun e => by simp [e] at hr
  rcases hm with hm | hm | hm <;> simp [MotionCore, hm, hr, ho, hreq]

theorem MotionCore.braked {s : State} (hm : s.win.motion = .braking) (ho : s.win.motor = .braked)
    (hr : s.win.req ≠ none) : MotionCore s := by
  simp [MotionCore, hm, hr, ho]

theorem MotionCore.paused {s : State} (hm : s.win.motion = .paused) (ho : s.win.motor = .off)
    (hr : s.win.req ≠ none) : MotionCore s := by
  simp [MotionCore, hm, hr, ho]

theorem MotionCore.stallPause {s : State} (hm : s.win.motion = .starting) (ho : s.win.motor = .off)
    (hp : s.win.pauseEnd.isSome) (hr : s.win.req ≠ none) : MotionCore s := by
  simp [MotionCore, hm, hr, ho, hp]

/-- The same motion state, request, motor and start-stall pause. -/
theorem MotionCore.same {s t : State} (hm : t.win.motion = s.win.motion) (hr : t.win.req = s.win.req)
    (ho : t.win.motor = s.win.motor) (hp : t.win.pauseEnd = s.win.pauseEnd) (h : MotionCore s) : MotionCore t := by
  unfold MotionCore
  rw [hm, hr, ho, hp]
  exact h

/-- Another request in the direction of the running one. -/
theorem MotionCore.replaced {s t : State} {x r : Request} (hx : s.win.req = some x) (ht : t.win.req = some r)
    (hd : s.win.motor = .off ∨ s.win.motor = .braked ∨ x.dir = r.dir) (hm : t.win.motion = s.win.motion)
    (ho : t.win.motor = s.win.motor) (hp : t.win.pauseEnd = s.win.pauseEnd) (h : MotionCore s) : MotionCore t := by
  obtain ⟨hidle, hdriven, hbrake, hmoves, hstart, hblocked⟩ := h
  refine ⟨by simp [hm, hidle, hx, ht], fun d hd' => ?_, by rw [hm, ho]; exact hbrake, by rw [hm, ho]; exact hmoves,
    by rw [hm, ho, hp]; exact hstart, by rw [hm]; exact hblocked⟩
  rw [ho] at hd'
  obtain ⟨hmove, hdir⟩ := hdriven d hd'
  refine ⟨by rw [hm]; exact hmove, ?_⟩
  rcases hd with hoff | hbr | hdir'
  · simp [hoff] at hd'
  · simp [hbr] at hd'
  · simpa [ht, ← hdir', hx] using hdir

/-- With no request running the motor is off. -/
theorem MotionCore.off_of_idle {s : State} (h : MotionCore s) (hr : s.win.req = none) :
    s.win.motion = .idle ∧ s.win.motor = .off := by
  obtain ⟨hidle, hdriven, hbrake, -, -, -⟩ := h
  have hm := hidle.2 hr
  refine ⟨hm, ?_⟩
  cases ho : s.win.motor with
  | off => rfl
  | driven d => simpa [hm] using (hdriven d ho).1
  | braked => simpa [hm] using hbrake.2 ho

theorem MotionFits.core {s : State} (h : MotionFits s) : MotionCore s := by
  obtain ⟨h1, h2, h3, h4, h5, h6, -⟩ := h
  exact ⟨h1, h2, h3, h4, h5, h6⟩

theorem MotionFits.count {s : State} (h : MotionFits s) : s.pinch.count ≤ 2 := h.2.2.2.2.2.2

theorem MotionCore.fits {s : State} (h : MotionCore s) (hc : s.pinch.count ≤ 2) : MotionFits s := by
  obtain ⟨h1, h2, h3, h4, h5, h6⟩ := h
  exact ⟨h1, h2, h3, h4, h5, h6, hc⟩

/-! ## Changes of the window and the pinch monitor alone -/

/-- `t` is `s` with another window and pinch monitor, the figures in their ranges. -/
structure Reglazed (s t : State) : Prop where
  eq : t = { s with win := t.win, pinch := t.pinch }
  figures : GlassFigures s → GlassFigures t
  place : placeOf t.win = placeOf s.win

theorem Reglazed.trans {s t u : State} (h : Reglazed s t) (k : Reglazed t u) : Reglazed s u := by
  refine ⟨?_, k.figures ∘ h.figures, k.place.trans h.place⟩
  have e := k.eq
  rw [h.eq] at e
  exact e

theorem Reglazed.refl (s : State) : Reglazed s s := ⟨rfl, id, rfl⟩

/-- Figures that no change moves. -/
theorem Reglazed.of_figures {s t : State} (eq : t = { s with win := t.win, pinch := t.pinch })
    (hp : placeOf t.win = placeOf s.win) (hh : t.win.heat = s.win.heat)
    (hr : t.pinch.reversals = s.pinch.reversals) (hz : t.pinch.profile = s.pinch.profile) : Reglazed s t := by
  refine ⟨eq, ?_, hp⟩
  have hcfg : t.cfg = s.cfg := by rw [eq]
  obtain ⟨hpos, hd, -⟩ := by simpa only [placeOf, Prod.mk.injEq] using hp
  simp only [GlassFigures, hpos, hh, hd, hr, hz, hcfg]
  exact id

/-- The figures that the window controller and the pinch monitor keep in their ranges. -/
def figuresOf (s : State) : (Int × Nat × Bool) × Nat × List Nat × Vector ZoneEntry 32 :=
  (placeOf s.win, s.win.heat, s.pinch.reversals, s.pinch.profile)

theorem Reglazed.of_same {s t : State} (eq : t = { s with win := t.win, pinch := t.pinch })
    (h : figuresOf t = figuresOf s) : Reglazed s t := by
  exact .of_figures eq (congrArg (·.1) h) (congrArg (·.2.1) h) (congrArg (·.2.2.1) h) (congrArg (·.2.2.2) h)

theorem Reglazed.step {s t : State} (g : Reglazed s t) (hm : MotionCore s → MotionCore t)
    (hc : s.pinch.count ≤ 2 → t.pinch.count ≤ 2) : GlassStep s t := ⟨⟨⟨g.eq, g.figures, hm⟩, hc⟩, g.place⟩

/-- A change that no watched field of the window and the pinch monitor sees. -/
theorem Reglazed.idle_step {s t : State} (g : Reglazed s t) (hm : t.win.motion = s.win.motion)
    (hr : t.win.req = s.win.req) (ho : t.win.motor = s.win.motor) (hp : t.win.pauseEnd = s.win.pauseEnd)
    (hc : t.pinch.count = s.pinch.count) : GlassStep s t := g.step (MotionCore.same hm hr ho hp) (hc ▸ id)

theorem motorTo_reglazed (m : Motor) (s : State) : Reglazed s (motorTo m s) := by
  unfold motorTo
  split <;> exact .of_same rfl rfl

@[simp] theorem motorTo_motor (m : Motor) (s : State) : (motorTo m s).win.motor = m := by
  unfold motorTo
  split <;> rfl

@[simp] theorem motorTo_motion (m : Motor) (s : State) : (motorTo m s).win.motion = s.win.motion := by
  unfold motorTo
  split <;> rfl

@[simp] theorem motorTo_req (m : Motor) (s : State) : (motorTo m s).win.req = s.win.req := by
  unfold motorTo
  split <;> rfl

@[simp] theorem motorTo_pinch (m : Motor) (s : State) : (motorTo m s).pinch = s.pinch := by
  unfold motorTo
  split <;> rfl

theorem motionStart_reglazed (r : Request) (s : State) : Reglazed s (motionStart r s) := by
  unfold motionStart
  exact .of_figures rfl rfl rfl (by simp only [pinchMotionStart]; split <;> rfl)
    (by simp only [pinchMotionStart]; split <;> rfl)

theorem motionStart_count (r : Request) (s : State) : (motionStart r s).pinch.count = 0 := rfl
theorem motionStart_req (r : Request) (s : State) : (motionStart r s).win.req = some r := rfl
theorem motionStart_motion (r : Request) (s : State) : (motionStart r s).win.motion = s.win.motion := rfl
theorem motionStart_motor (r : Request) (s : State) : (motionStart r s).win.motor = s.win.motor := rfl
theorem motionStart_pauseEnd (r : Request) (s : State) : (motionStart r s).win.pauseEnd = s.win.pauseEnd := rfl

theorem brake_reglazed (s : State) : Reglazed s (brake s) :=
  (motorTo_reglazed .braked s).trans (.of_same (by rfl) (by rfl))

theorem brake_core {s : State} (hr : s.win.req ≠ none) : MotionCore (brake s) :=
  .braked rfl (motorTo_motor .braked s) (by simpa [brake] using hr)

theorem pauseMotion_reglazed (s : State) : Reglazed s (pauseMotion s) :=
  (motorTo_reglazed .off s).trans (.of_same (by rfl) (by rfl))

theorem pauseMotion_core {s : State} (hr : s.win.req ≠ none) : MotionCore (pauseMotion s) :=
  .paused rfl (motorTo_motor .off s) (by simpa [pauseMotion] using hr)

theorem pauseMotion_count (s : State) : (pauseMotion s).pinch.count = s.pinch.count := by simp [pauseMotion]

theorem brake_count (s : State) : (brake s).pinch.count = s.pinch.count := by simp [brake]

theorem endOverride_count (p : Pinch) : (endOverride p).count = p.count := by
  unfold endOverride
  split
  · split <;> rfl
  · rfl

theorem endPinchHold_reversals (p : Pinch) : (endPinchHold p).reversals.length ≤ p.reversals.length := by
  simp [endPinchHold]

theorem endOverride_reversals (p : Pinch) : (endOverride p).reversals.length ≤ p.reversals.length := by
  unfold endOverride
  split
  · split
    · exact endPinchHold_reversals p
    · exact Nat.le_refl _
  · exact Nat.le_refl _

theorem endOverride_profile (p : Pinch) : (endOverride p).profile = p.profile := KeyFrames.endOverride_profile p

section
variable {R : State → State → Prop} {a s : State}

theorem GlassCore.under_step (h : GlassCore R) (hs : R a s) {t : State} (g : GlassStep s t) : R a t :=
  h.trans hs (h.glass g)

/-- What `MotionCore` reads of the window controller. -/
def motionOf (w : Window) : MotionState × Option Request × Motor × Option Nat := (w.motion, w.req, w.motor, w.pauseEnd)

/-- Another window whose watched fields are the same. -/
theorem GlassCore.under_withWin (h : GlassCore R) (hs : R a s) {w : Window}
    (hw : (motionOf w, placeOf w, w.heat) = (motionOf s.win, placeOf s.win, s.win.heat)) :
    R a (s.withWin w) := by
  obtain ⟨hm, hr, ho, hpe⟩ := by simpa only [motionOf, Prod.mk.injEq] using congrArg (·.1) hw
  exact h.under_step hs (Reglazed.idle_step (.of_figures rfl (congrArg (·.2.1) hw) (congrArg (·.2.2) hw) rfl rfl)
    hm hr ho hpe rfl)

/-- Another pinch monitor whose watched fields are the same. -/
theorem GlassCore.under_pinch (h : GlassCore R) (hs : R a s) {p : Pinch} (hc : p.count ≤ s.pinch.count)
    (hr : p.reversals.length ≤ s.pinch.reversals.length) (hz : p.profile = s.pinch.profile) :
    R a { s with pinch := p } := by
  refine h.under_step hs ⟨⟨⟨rfl, ?_, MotionCore.same rfl rfl rfl rfl⟩, fun k => le_trans hc k⟩, rfl⟩
  rintro ⟨hp, hh, hd, hrev, hprof⟩
  exact ⟨hp, hh, hd, le_trans hr hrev, fun z => by simpa [hz] using hprof z⟩

/-! ## The end of a motion -/

theorem GlassCore.under_markMoving (h : GlassCore R) (hs : R a s) : R a (markMoving s) := by
  unfold markMoving
  split
  · exact hs
  · exact h.under_queueRecord (h.under_withWin hs (by rfl)) _

theorem GlassCore.under_markRest (h : GlassCore R) (hs : R a s) : R a (markRest s) := by
  unfold markRest
  split
  · split
    · exact h.under_withWin hs (by rfl)
    · exact h.under_queueRecord (h.under_withWin hs (by rfl)) _
  · exact hs

theorem GlassCore.under_reportMotion (h : GlassCore R) (hs : R a s) (r : Request) (o : Outcome) :
    R a (reportMotion r o s) := by
  unfold reportMotion
  split
  · exact h.under_queueFrame hs _
  · exact hs

/-- The answer to a drop changes nothing else of the window. -/
theorem answerDrop_eq (r : Request) (o : Outcome) (w : Window) :
    answerDrop r o w = { w with drop := (answerDrop r o w).drop, dropAnswer := (answerDrop r o w).dropAnswer } := by
  unfold answerDrop
  split
  · split <;> rfl
  · rfl

theorem closeMotion_reglazed (r : Request) (o : Outcome) (s : State) :
    Reglazed (reportMotion r o s) (closeMotion r o s) := by
  refine ⟨rfl, ?_, by simp only [closeMotion]; rw [answerDrop_eq]; rfl⟩
  rintro ⟨hp, hh, hd, hrev, hprof⟩
  simp only [closeMotion, GlassFigures]
  rw [answerDrop_eq]
  refine ⟨hp, hh, hd, ?_⟩
  split
  · exact ⟨le_trans (endOverride_reversals _) hrev, fun z => by simpa only [endOverride_profile] using hprof z⟩
  · exact ⟨hrev, hprof⟩

theorem closeMotion_count (r : Request) (o : Outcome) (s : State) :
    (closeMotion r o s).pinch.count = (reportMotion r o s).pinch.count := by
  simp only [closeMotion]
  split
  · exact endOverride_count _
  · rfl

@[simp] theorem reportMotion_win (r : Request) (o : Outcome) (s : State) : (reportMotion r o s).win = s.win := by
  unfold reportMotion
  split
  · exact (queueFrame_quiet _ s).win
  · rfl

@[simp] theorem reportMotion_pinch (r : Request) (o : Outcome) (s : State) : (reportMotion r o s).pinch = s.pinch := by
  unfold reportMotion
  split
  · exact (queueFrame_quiet _ s).pinch
  · rfl

@[simp] theorem closeMotion_req (r : Request) (o : Outcome) (s : State) : (closeMotion r o s).win.req = s.win.req := by
  simp only [closeMotion]
  rw [answerDrop_eq, reportMotion_win]

@[simp] theorem closeMotion_motion (r : Request) (o : Outcome) (s : State) :
    (closeMotion r o s).win.motion = s.win.motion := by
  simp only [closeMotion]
  rw [answerDrop_eq, reportMotion_win]

@[simp] theorem closeMotion_motor (r : Request) (o : Outcome) (s : State) :
    (closeMotion r o s).win.motor = s.win.motor := by
  simp only [closeMotion]
  rw [answerDrop_eq, reportMotion_win]

@[simp] theorem closeMotion_pauseEnd (r : Request) (o : Outcome) (s : State) :
    (closeMotion r o s).win.pauseEnd = s.win.pauseEnd := by
  simp only [closeMotion]
  rw [answerDrop_eq, reportMotion_win]

theorem GlassCore.under_closeMotion (h : GlassCore R) (hs : R a s) (r : Request) (o : Outcome) :
    R a (closeMotion r o s) := by
  refine h.under_step (h.under_reportMotion hs r o) ((closeMotion_reglazed r o s).idle_step ?_ ?_ ?_ ?_
    (closeMotion_count r o s)) <;> simp

theorem GlassCore.under_finishMotion (h : GlassCore R) (hs : R a s) (o : Outcome) : R a (finishMotion o s) := by
  unfold finishMotion
  split
  · exact hs
  · refine h.under_markRest (h.under_step (h.under_closeMotion hs _ o) (Reglazed.step
      ((motorTo_reglazed .off _).trans (.of_same (by rfl) (by rfl))) (fun _ => ?_) (fun k => ?_)))
    · exact .idle rfl rfl (motorTo_motor .off _)
    · simpa using k

/-! ## Starting the motor -/

theorem GlassCore.under_drive (h : GlassCore R) (hs : R a s) {t : State} (g : Reglazed s t) {d : Direction}
    {m : MotionState} (hm : m = .starting ∨ m = .reversing) (hr : t.win.req.map (·.dir) = some d)
    (hc : t.pinch.count ≤ 2) : R a (drive d m t) := by
  refine h.under_markMoving (h.under_step hs (Reglazed.step (g.trans (.of_same (by rfl) (by rfl))) (fun _ => ?_)
    fun _ => hc))
  refine .driven (d := d) rfl ?_ hr
  rcases hm with rfl | rfl
  · exact .inl rfl
  · exact .inr (.inr rfl)

theorem GlassCore.under_motorStart (h : GlassCore R) (hs : R a s) {t : State} (g : Reglazed s t) {d : Direction}
    (hr : t.win.req.map (·.dir) = some d) : R a (motorStart d t) :=
  h.under_drive hs (t := { t with pinch := pinchMotorStart t.pinch }) (g.trans (.of_same (by rfl) (by rfl)))
    (.inl rfl) hr (Nat.zero_le _)

theorem GlassCore.under_startRequest (h : GlassCore R) (hs : R a s) {r : Request} (hr : s.win.req = some r) :
    R a (startRequest r s) := by
  unfold startRequest
  split
  · split
    · exact h.under_finishMotion hs _
    · exact h.under_drive hs (t := { s with pinch := { s.pinch with count := 0 } }) (.of_same rfl rfl)
        (.inr rfl) (by simp [hr]) (Nat.zero_le _)
  · split
    · exact h.under_finishMotion hs _
    · exact h.under_motorStart hs (.refl s) (by simp [hr])

/-! ## The arbiter -/

theorem GlassCore.under_grantIdle (h : GlassCore R) (hs : R a s) (r : Request) : R a (grantIdle r s) := by
  have g : Reglazed s (motionStart r (s.withWin { s.win with startStalls := 0 })) :=
    Reglazed.trans (.of_same (by rfl) (by rfl)) (motionStart_reglazed r _)
  unfold grantIdle
  simp only
  split
  · refine h.under_step hs ((g.trans (pauseMotion_reglazed _)).step (fun _ => pauseMotion_core ?_) fun _ => ?_)
    · simp [motionStart_req]
    · rw [pauseMotion_count, motionStart_count]; omega
  · exact h.under_motorStart hs g (by simp [motionStart_req])

theorem GlassCore.under_pauseMotion (h : GlassCore R) (hs : R a s) (hr : s.win.req ≠ none) : R a (pauseMotion s) :=
  h.under_step hs ((pauseMotion_reglazed s).step (fun _ => pauseMotion_core hr) (by rw [pauseMotion_count]; exact id))

theorem GlassCore.under_takeOver (h : GlassCore R) (hs : R a s) {x : Request} (hx : s.win.req = some x) (r : Request) :
    R a (takeOver x r s) := by
  have g := motionStart_reglazed r s
  have fresh : (motionStart r s).pinch.count ≤ 2 := Nat.zero_le _
  unfold takeOver
  split
  · rename_i hbraking
    refine h.under_step hs (g.step (fun m => ?_) fun _ => fresh)
    exact m.replaced hx rfl (.inr (.inl (m.2.2.1.1 hbraking))) rfl rfl rfl
  · refine h.under_step hs (Reglazed.step (g.trans (Reglazed.trans (.of_same (by rfl) (by rfl))
      (pauseMotion_reglazed _))) (fun _ => pauseMotion_core (by simp [motionStart_req])) fun _ => ?_)
    rw [pauseMotion_count]
    exact fresh
  · split
    · rename_i hdir
      simp only
      split
      · exact h.under_step hs (g.step (fun m => m.replaced hx rfl (.inr (.inr hdir)) rfl rfl rfl) fun _ => fresh)
      · exact h.under_step hs ((g.trans (.of_same (by rfl) (by rfl))).step
          (fun m => m.replaced hx rfl (.inr (.inr hdir)) rfl rfl rfl) fun _ => fresh)
    · refine h.under_step hs ((g.trans (brake_reglazed _)).step (fun _ => brake_core (by simp [motionStart_req]))
        fun _ => ?_)
      rw [brake_count]
      exact fresh

theorem GlassCore.under_replaceRequest (h : GlassCore R) (hs : R a s) {x r : Request} (hx : s.win.req = some x)
    (hd : x.dir = r.dir) : R a (replaceRequest r s) := by
  unfold replaceRequest
  split <;> exact h.under_step hs ((Reglazed.of_same (by rfl) (by rfl)).step
    (MotionCore.replaced hx rfl (.inr (.inr hd)) rfl rfl rfl) id)

theorem GlassCore.under_endAtOnce (h : GlassCore R) (hs : R a s) (r : Request) : R a (endAtOnce r s) :=
  h.under_withWin hs (by rfl)

theorem GlassCore.under_arbiter (h : GlassCore R) (hs : R a s) (r : Request) : R a (arbiter r s).2 := by
  unfold arbiter
  split
  · simp only
    split
    · exact h.under_endAtOnce hs r
    · exact h.under_grantIdle hs r
  · rename_i x hx
    have taken (o : Outcome) : R a (takeOver x r (closeMotion x o s)) :=
      h.under_takeOver (h.under_closeMotion hs x o) (by simpa using hx) r
    split
    · simp only
      split
      · exact h.under_endAtOnce hs r
      · exact taken _
    · split
      · split
        · rename_i hdir
          simp only
          split
          · exact h.under_endAtOnce hs r
          · exact h.under_replaceRequest hs hx hdir
        · split
          · simp only
            split
            · exact h.under_endAtOnce hs r
            · exact taken _
          · exact h.under_finishMotion hs _
      · exact hs

theorem GlassCore.under_request (h : GlassCore R) (hs : R a s) (r : Request) : R a (request r s).2 := by
  unfold request
  split
  · exact hs
  · exact h.under_arbiter hs r

/-! ## Drops and the operations that end a motion -/

theorem GlassCore.under_weighDrop (h : GlassCore R) (hs : R a s) (limitAt : Nat) : R a (weighDrop limitAt s) := by
  unfold weighDrop
  split
  · exact h.under_withWin hs (by rfl)
  · split
    · exact h.under_withWin hs (by rfl)
    · simp only
      split
      · split
        · exact h.under_withWin hs (by rfl)
        · exact h.under_arbiter (h.under_withWin hs (by rfl)) _
      · exact h.under_arbiter (h.under_withWin hs (by rfl)) _

theorem GlassCore.under_requestDrop (h : GlassCore R) (hs : R a s) : R a (requestDrop s) :=
  h.under_weighDrop (h.under_withWin hs (by rfl)) _

theorem GlassCore.under_serveWaitingDrop (h : GlassCore R) (hs : R a s) : R a (serveWaitingDrop s) := by
  unfold serveWaitingDrop
  split
  · split
    · exact h.under_weighDrop hs _
    · exact hs
  · exact hs

theorem GlassCore.under_endMotion (h : GlassCore R) (hs : R a s) (o : Outcome) : R a (endMotion o s) :=
  h.under_serveWaitingDrop (h.under_finishMotion hs o)

theorem GlassCore.under_resume (h : GlassCore R) (hs : R a s) : R a (resume s) := by
  unfold resume
  split
  · rename_i r hr
    exact h.under_serveWaitingDrop (h.under_startRequest hs hr)
  · exact hs

theorem PlaceClosed.under_unnormalise (h : PlaceClosed R) (hs : R a s) : R a (unnormalise s) := by
  have lost : R a (queueRecord .windowState (s.withWin { s.win with norm := false })) :=
    h.under_queueRecord (h.trans hs (h.place (t := s.withWin { s.win with norm := false })
      ⟨⟨rfl, id, MotionCore.same rfl rfl rfl rfl⟩, id⟩)) _
  unfold unnormalise
  split
  · simp only
    split
    · split
      · exact lost
      · exact h.under_endMotion lost _
    · exact lost
  · exact hs

theorem GlassCore.under_declarePinch (h : GlassCore R) (hs : R a s) : R a (declarePinch s) := by
  unfold declarePinch
  split
  · exact hs
  · rename_i r hr
    refine h.under_step (h.under_closeMotion hs r .pinched) ?_
    refine Reglazed.step (((motionStart_reglazed _ _).trans (brake_reglazed _)).trans ⟨rfl, ?_, rfl⟩) (fun _ => ?_)
      (fun _ => Nat.zero_le _)
    · rintro ⟨hp, hh, hd, hrev, hprof⟩
      refine ⟨hp, hh, hd, ?_, hprof⟩
      simp only [enterPinch]
      split
      · simp only [List.length_append, List.length_drop, List.length_singleton]; omega
      · simp only [List.length_append, List.length_singleton]; omega
    · exact MotionCore.same rfl rfl rfl rfl (brake_core (by simp [motionStart_req]))

end

end Sys2Proof.Proofs.Steps
end

section
/-! What every command does: pulses, stalls, holds and what other blocks bring to the window (chapters 1 and 2). -/

namespace Sys2Proof.Proofs.Steps

open Sys2Proof Sys2Proof.Machine

/-! ## The reference profile -/

theorem learnedValue_le (z : Zone) (e : ZoneEntry) (q : ZoneSum) : learnedValue z e q ≤ 16383 := by
  unfold learnedValue
  simp only
  split <;> omega

theorem learnZone_le (q : Vector ZoneSum 32) (profile : Vector ZoneEntry 32) (z : Zone)
    (h : profile[z].value ≤ 16383) : (learnZone q profile z).value ≤ 16383 := by
  unfold learnZone
  split
  · exact learnedValue_le _ _ _
  · exact h

theorem zone_ofFn (f : Zone → ZoneEntry) (z : Zone) : (Vector.ofFn f)[z] = f z := Vector.getElem_ofFn z.isLt

theorem zone_set_le {profile : Vector ZoneEntry 32} (w : Zone) {e : ZoneEntry} (he : e.value ≤ 16383)
    (h : ∀ z : Zone, profile[z].value ≤ 16383) (z : Zone) : (profile.set w e)[z].value ≤ 16383 := by
  simp only [Fin.getElem_fin, Vector.getElem_set]
  split
  · exact he
  · exact h z

section
variable {R : State → State → Prop} {a s : State}

/-- Another profile with every value in its range. -/
theorem GlassCore.under_profile (h : GlassCore R) (hs : R a s) {profile : Vector ZoneEntry 32}
    (hz : (∀ z : Zone, s.pinch.profile[z].value ≤ 16383) → ∀ z : Zone, profile[z].value ≤ 16383) :
    R a { s with pinch := { s.pinch with profile := profile } } := by
  refine h.under_step hs ⟨⟨⟨rfl, ?_, MotionCore.same rfl rfl rfl rfl⟩, id⟩, rfl⟩
  rintro ⟨hp, hh, hd, hrev, hprof⟩
  exact ⟨hp, hh, hd, hrev, hz hprof⟩

theorem GlassCore.under_unlearnZone (h : GlassCore R) (hs : R a s) (z : Zone) : R a (unlearnZone z s) :=
  h.under_queueRecord (h.under_profile hs (zone_set_le z (Nat.zero_le _))) _

theorem GlassCore.under_demandZone (h : GlassCore R) (hs : R a s) (z : Zone) : R a (demandZone z s) := by
  unfold demandZone
  split
  · exact h.under_unlearnZone hs z
  · exact hs

theorem GlassCore.under_learn (h : GlassCore R) (hs : R a s) : R a (learn s) := by
  unfold learn
  split
  · exact hs
  · split
    · exact h.under_queueRecord (h.under_profile hs fun hz z => by
        rw [zone_ofFn]
        exact learnZone_le _ _ z (hz z)) _
    · exact hs

/-! ## Pulses -/

/-- The state after the demand check of a pulse (R31, R42). -/
def demanded (s : State) : State := if weighed s then demandZone (zoneOf s.cfg s.win.p) s else s

theorem GlassCore.under_demanded (h : GlassCore R) (hs : R a s) : R a (demanded s) := by
  unfold demanded
  split
  · exact h.under_demandZone hs _
  · exact hs

theorem demandZone_win (z : Zone) (s : State) : (demandZone z s).win = s.win := by
  unfold demandZone unlearnZone
  split
  · rw [queueRecord_win]
  · rfl

theorem demanded_win (s : State) : (demanded s).win = s.win := by
  unfold demanded
  split
  · exact demandZone_win _ s
  · rfl

theorem pinchStages_profile (u t : Nat) (z : Zone) (s : State) :
    (pinchStages u t z s).profile = s.pinch.profile ∧ (pinchStages u t z s).reversals = s.pinch.reversals := by
  unfold pinchStages
  simp only
  split <;> exact ⟨rfl, rfl⟩

theorem pinchPulse_reglazed (u t : Nat) (s : State) : Reglazed (demanded s) (pinchPulse u t s) := by
  have parts : ∀ q : Pinch, q.profile = (demanded s).pinch.profile → q.reversals = (demanded s).pinch.reversals →
      Reglazed (demanded s) { demanded s with pinch := q } := fun q hq hr => .of_figures rfl rfl rfl hr hq
  unfold pinchPulse
  refine parts _ ?_ ?_
  · simp only [demanded]
    split
    · exact (pinchStages_profile _ _ _ _).1
    · split <;> rfl
  · simp only [demanded]
    split
    · exact (pinchStages_profile _ _ _ _).2
    · split <;> rfl

theorem pinchPulse_win (u t : Nat) (s : State) : (pinchPulse u t s).win = s.win := demanded_win s

theorem passStart_eq (w : Window) : passStart w =
    { w with motion := (passStart w).motion, startStalls := (passStart w).startStalls } := by
  unfold passStart
  split <;> rfl

/-- STARTING becomes MOVING with the motor driven (R7). -/
theorem passStart_core {s t : State} {d : Direction} (ho : s.win.motor = .driven d) (ht : t.win = passStart s.win)
    (h : MotionCore s) : MotionCore t := by
  obtain ⟨hmove, hreq⟩ := h.2.1 d ho
  have hmotor : t.win.motor = .driven d := by rw [ht, passStart_eq]; exact ho
  have hreq' : t.win.req = s.win.req := by rw [ht, passStart_eq]
  refine .driven hmotor ?_ (hreq' ▸ hreq)
  rw [ht]
  unfold passStart
  split
  · exact .inr (.inl rfl)
  · exact hmove

/-- The pulse weighed, before the count is compared with 3. -/
def weighedPulse (u t : Nat) (s : State) : State := (pinchPulse u t s).withWin (passStart (pinchPulse u t s).win)

theorem weighPulse_eq (u t : Nat) (s : State) : weighPulse u t s =
    if (weighedPulse u t s).pinch.count = 3 then declarePinch (weighedPulse u t s) else weighedPulse u t s := rfl

theorem weighedPulse_step (u t : Nat) {s : State} {d : Direction} (ho : s.win.motor = .driven d) :
    MotionStep (demanded s) (weighedPulse u t s) ∧ placeOf (weighedPulse u t s).win = placeOf (demanded s).win := by
  have hwin : (weighedPulse u t s).win = passStart (demanded s).win := rfl
  have g : Reglazed (pinchPulse u t s) (weighedPulse u t s) := by
    have hp := passStart_eq (pinchPulse u t s).win
    exact .of_figures rfl (by rw [weighedPulse, withWin_win, hp]; rfl) (by rw [weighedPulse, withWin_win, hp]) rfl rfl
  have k := (pinchPulse_reglazed u t s).trans g
  exact ⟨⟨k.eq, k.figures, passStart_core (d := d) (by rw [demanded_win, ho]) hwin⟩, k.place⟩

/-- A relation that does not watch the pinch count holds across a weighed pulse. -/
theorem GlassCore.under_weighPulse_of_free (h : GlassCore R) (free : ∀ {s t}, MotionStep s t → placeOf t.win = placeOf s.win → R s t) (hs : R a s)
    (u t : Nat) (ho : ∃ d, s.win.motor = .driven d) : R a (weighPulse u t s) := by
  obtain ⟨d, ho⟩ := ho
  have pulsed : R a (weighedPulse u t s) := h.trans (h.under_demanded hs) ((weighedPulse_step u t ho).elim free)
  rw [weighPulse_eq]
  split
  · exact h.under_declarePinch pulsed
  · exact pulsed

/-- A relation that watches neither the place nor the pinch count holds across every pulse. -/
theorem GlassCore.glassClosed_of_free (h : GlassCore R) (free : ∀ {s t}, MotionStep s t → R s t) : GlassClosed R where
  toGlassCore := h
  place g := free g.toMotionStep
  pulse u t s ho := h.under_weighPulse_of_free (fun g _ => free g) (h.refl s) u t ho

/-- The count moved within its bounds. -/
theorem PlaceClosed.under_count (h : PlaceClosed R) (hs : R a s) {q : Int} (hq : countLow ≤ q ∧ q ≤ countHigh s.cfg) :
    R a (s.withWin { s.win with p := q }) := by
  refine h.trans hs (h.place ⟨⟨rfl, ?_, MotionCore.same rfl rfl rfl rfl⟩, id⟩)
  rintro ⟨-, hh, hd, hrest⟩
  exact ⟨hq, hh, hd, hrest⟩

theorem satInc_le (n : Nat) : satInc n ≤ 65535 := Nat.min_le_left _ _

theorem PlaceClosed.under_drift (h : PlaceClosed R) (hs : R a s) :
    R a (s.withWin { s.win with clamped := true, drift := satInc s.win.drift }) := by
  refine h.trans hs (h.place ⟨⟨rfl, ?_, MotionCore.same rfl rfl rfl rfl⟩, id⟩)
  rintro ⟨hp, hh, -, hrest⟩
  exact ⟨hp, hh, satInc_le _, hrest⟩

theorem PlaceClosed.under_countPulse (h : PlaceClosed R) (hs : R a s) (d : Direction) : R a (countPulse d s) := by
  unfold countPulse
  simp only
  split
  · rename_i hq
    exact h.under_count hs hq
  · split
    · exact hs
    · exact h.under_unnormalise (h.under_drift hs)

theorem GlassCore.under_oweDrop (h : GlassCore R) (hs : R a s) : R a (oweDrop s) := by
  unfold oweDrop
  split
  · split
    · exact h.under_queueRecord (h.under_withWin hs (by rfl)) _
    · exact hs
  · exact hs

theorem GlassCore.under_afterPulse (h : GlassCore R) (hs : R a s) : R a (afterPulse s) := by
  unfold afterPulse
  split
  · split
    · exact h.under_endMotion hs _
    · split
      · exact h.under_endMotion hs _
      · exact hs
  · exact hs

/-- The window at a driven pulse that has been counted (R1, R20). -/
def owedPulse (s : State) : State := oweDrop (s.withWin { s.win with pulses := s.win.pulses + 1, lastPulseAt := s.now })

theorem drivenPulse_eq (d : Direction) (u t : Nat) (s : State) : drivenPulse d u t s =
    if (countPulse d (owedPulse s)).win.motor = .driven d
        ∧ (countPulse d (owedPulse s)).win.pulses = (owedPulse s).win.pulses then
      if (weighedPulse u t (countPulse d (owedPulse s))).pinch.count = 3 then
        declarePinch (weighedPulse u t (countPulse d (owedPulse s)))
      else afterPulse (weighedPulse u t (countPulse d (owedPulse s)))
    else countPulse d (owedPulse s) := rfl

theorem GlassClosed.under_drivenPulse (h : GlassClosed R) (hs : R a s) (d : Direction) (u t : Nat) :
    R a (drivenPulse d u t s) := by
  have counted : R a (countPulse d (owedPulse s)) := h.under_countPulse (h.under_oweDrop (h.under_withWin hs (by rfl))) d
  rw [drivenPulse_eq]
  generalize countPulse d (owedPulse s) = v at counted
  split
  · rename_i hd
    have pulsed := h.trans counted (h.pulse u t _ ⟨d, hd.1⟩)
    rw [weighPulse_eq] at pulsed
    split
    · rename_i hc
      rwa [if_pos hc] at pulsed
    · rename_i hc
      rw [if_neg hc] at pulsed
      exact h.under_afterPulse pulsed
  · exact counted

theorem PlaceClosed.under_coastPulse (h : PlaceClosed R) (hs : R a s) : R a (coastPulse s) := by
  unfold coastPulse
  split
  · split
    · exact h.under_countPulse (h.under_withWin hs (by rfl)) _
    · exact hs
  · exact hs

/-! ## Stalls -/

/-- The count set to a place within its bounds, as at an end stop (R6). -/
theorem PlaceClosed.under_place (h : PlaceClosed R) (hs : R a s) {w : Window}
    (hw : (motionOf w, w.heat) = (motionOf s.win, s.win.heat))
    (hp : -32 ≤ w.p ∧ w.p ≤ s.cfg.travel + 32) (hd : s.win.drift ≤ 65535 → w.drift ≤ 65535) : R a (s.withWin w) := by
  simp only [motionOf, Prod.mk.injEq] at hw
  obtain ⟨⟨hm, hr, ho, hpe⟩, hh⟩ := hw
  refine h.trans hs (h.place ⟨⟨rfl, ?_, MotionCore.same hm hr ho hpe⟩, id⟩)
  rintro ⟨-, hheat, hdrift, hrest⟩
  exact ⟨hp, le_of_eq_of_le hh hheat, hd hdrift, hrest⟩

theorem PlaceClosed.under_endStop (h : PlaceClosed R) (hs : R a s) {place : Int}
    (hp : -32 ≤ place ∧ place ≤ s.cfg.travel + 32) (o : Outcome) : R a (endStop place o s) := by
  refine h.under_endMotion (h.under_queueRecord (h.under_place hs (by rfl) hp fun hd => ?_) _) o
  simp only
  split
  · exact satInc_le _
  · exact hd

theorem GlassCore.under_startStall (h : GlassCore R) (hs : R a s) (hm : s.win.motion = .starting) (hr : s.win.req ≠ none) :
    R a (startStall s) := by
  unfold startStall
  split
  · exact h.under_endMotion hs _
  · refine h.under_step hs (Reglazed.step ((motorTo_reglazed .off s).trans (.of_same (by rfl) (by rfl))) (fun _ => ?_) ?_)
    · exact .stallPause (by simp [hm]) (by simp) rfl (by simpa using hr)
    · simp

theorem learn_cfg (s : State) : (learn s).cfg = s.cfg := by
  unfold learn
  split
  · rfl
  · split <;> simp

theorem PlaceClosed.under_stalled (h : PlaceClosed R) (hs : R a s) : R a (stalled s) := by
  have bottom : R a (endStop s.cfg.travel .opened s) := h.under_endStop hs ⟨by omega, by omega⟩ _
  unfold stalled
  split
  · split
    · exact hs
    · split
      · exact h.under_endStop (h.under_learn hs) ⟨by omega, by omega⟩ _
      · exact h.under_declarePinch hs
  · rename_i r ho hr
    simp only
    split
    · split
      · exact bottom
      · exact h.under_endMotion hs _
    · split
      · exact h.under_endMotion hs _
      · split
        · exact bottom
        · split
          · rename_i hm
            exact h.under_startStall hs hm (by simp [hr])
          · exact h.under_endMotion hs _
  · exact hs

theorem PlaceClosed.under_closeHold (h : PlaceClosed R) (hs : R a s) : R a (closeHold s) :=
  h.under_endMotion (h.under_queueRecord (h.under_place hs
    (w := { s.win with p := 0, norm := true, dropOwed := none }) rfl ⟨by simp, by simp only; omega⟩ id) _) _

theorem GlassCore.under_endStallPause (h : GlassCore R) (hs : R a s) : R a (endStallPause s) := by
  unfold endStallPause
  split
  · rename_i r hr
    exact h.under_startRequest hs hr
  · exact hs

theorem GlassCore.under_closeCoast (h : GlassCore R) (hs : R a s) : R a (closeCoast s) := by
  have closed : R a (s.withWin { s.win with coast := none }) := h.under_withWin hs (by rfl)
  unfold closeCoast
  simp only
  split
  · exact closed
  · exact h.under_queueRecord closed _

/-! ## Holds, and what other blocks bring -/

theorem GlassCore.under_dropLostHold (h : GlassCore R) (hs : R a s) : R a (dropLostHold s) := by
  unfold dropLostHold
  split
  · split
    · exact hs
    · exact h.under_endMotion hs _
  · exact hs

theorem GlassCore.under_endBrake (h : GlassCore R) (hs : R a s) : R a (endBrake s) := by
  unfold endBrake
  split
  · rename_i r hr
    split
    · exact h.under_endMotion hs _
    · split
      · exact h.under_pauseMotion hs (by simp [hr])
      · exact h.under_resume (h.under_withWin hs (by rfl))
  · exact hs

/-- A motion that is not IDLE has its request, so that it may be paused. -/
theorem GlassCore.under_windowSupply (h : GlassCore R) (hs : R a s) : R a (windowSupply s) := by
  unfold windowSupply
  split
  · exact hs
  · exact h.under_endMotion hs _
  · exact hs
  · exact hs
  · rename_i hidle _ _
    refine h.under_step hs (Reglazed.step (pauseMotion_reglazed s) (fun m => pauseMotion_core fun hr => ?_)
      (by rw [pauseMotion_count]; exact id))
    simp_all [m.1.2 hr]
  · split
    · split
      · exact h.under_resume hs
      · exact h.under_endMotion hs _
    · exact hs
  · exact hs

theorem GlassCore.under_windowCrash (h : GlassCore R) (hs : R a s) : R a (windowCrash s) := by
  unfold windowCrash
  split
  · exact h.under_endMotion hs _
  · exact hs

theorem GlassCore.under_windowLatchOpen (h : GlassCore R) (hs : R a s) : R a (windowLatchOpen s) := by
  unfold windowLatchOpen
  split
  · exact h.under_endMotion hs _
  · exact hs

theorem GlassCore.under_windowLatchClosed (h : GlassCore R) (hs : R a s) : R a (windowLatchClosed s) := by
  unfold windowLatchClosed
  split
  · exact hs
  · split
    · exact hs
    · split
      · simp only
        split
        · exact h.under_queueRecord (h.under_withWin (h.under_request hs _) (by rfl)) _
        · exact h.under_request hs _
      · exact h.under_queueRecord (h.under_withWin hs (by rfl)) _

theorem GlassCore.under_windowChild (h : GlassCore R) (hs : R a s) : R a (windowChild s) := by
  unfold windowChild
  split
  · split
    · exact h.under_endMotion hs _
    · exact hs
  · exact hs

theorem GlassCore.under_windowIntentApplied (h : GlassCore R) (hs : R a s) (k : IntentKind) :
    R a (windowIntentApplied k s).2 := by
  unfold windowIntentApplied
  split
  · exact h.under_request hs _
  · exact h.under_request hs _
  · split
    · split
      · exact h.under_endMotion hs _
      · exact hs
    · exact hs

theorem GlassCore.under_localPress (h : GlassCore R) (hs : R a s) (d : Direction) (m : Mode) : R a (localPress d m s) := by
  unfold localPress
  split
  · exact hs
  · exact h.under_dropLostHold (h.under_pins (h.under_request hs _) rfl)

theorem GlassCore.under_setHold (h : GlassCore R) (hs : R a s) (d : Option Direction) (b : Bool) : R a (setHold d b s) :=
  h.under_pins hs rfl

theorem GlassCore.under_sendPack (h : GlassCore R) (hs : R a s) : R a (sendPack s) :=
  h.under_queueFrame (h.under_withWin hs (by rfl)) _

theorem GlassCore.under_lapsePack (h : GlassCore R) (hs : R a s) : R a (lapsePack s) :=
  h.under_dropLostHold (h.under_withWin hs (by rfl))

theorem GlassCore.under_judgeEntry (h : GlassCore R) (hs : R a s) (e : SwitchEntry) (endAt : Nat) :
    R a (judgeEntry e endAt s) := by
  have taken : R a (s.withWin { s.win with packEntry := e, packAt := some endAt }) := h.under_withWin hs (by rfl)
  unfold judgeEntry
  simp only
  split
  · exact taken
  · split
    · exact h.under_dropLostHold (h.under_request taken _)
    · exact h.under_dropLostHold taken

theorem GlassCore.under_takePack (h : GlassCore R) (hs : R a s) (fr : Frame) (endAt : Nat) :
    R a (takePack fr endAt s) := by
  unfold takePack
  split
  · split
    · refine h.under_judgeEntry ?_ _ _
      split
      · exact h.under_lapsePack hs
      · exact hs
    · exact hs
  · exact hs

theorem GlassCore.under_dropTimeout (h : GlassCore R) (hs : R a s) : R a (dropTimeout s) := by
  have answered : R a (s.withWin { s.win with drop := none, dropAnswer := some .timeout }) := h.under_withWin hs (by rfl)
  unfold dropTimeout
  simp only
  split
  · split
    · exact h.under_endMotion answered _
    · exact answered
  · exact answered

theorem GlassCore.under_timedDone (h : GlassCore R) (hs : R a s) : R a (timedDone s) :=
  h.under_endMotion (h.under_withWin hs (by rfl)) _

theorem GlassCore.under_hardLimit (h : GlassCore R) (hs : R a s) : R a (hardLimit s) := by
  unfold hardLimit
  split
  · exact hs
  · exact h.under_endMotion hs _

theorem GlassCore.under_holdTimerEnds (h : GlassCore R) (hs : R a s) : R a { s with pinch := holdTimerEnds s.pinch } := by
  unfold holdTimerEnds
  split
  · exact h.under_pinch hs (Nat.le_refl _) (Nat.le_refl _) rfl
  · exact h.under_pinch hs (Nat.le_refl _) (endPinchHold_reversals _) rfl

end

end Sys2Proof.Proofs.Steps
end

section
/-! What every command does: the latch controller (chapter 3). -/

namespace Sys2Proof.Proofs.Steps

open Sys2Proof Sys2Proof.Machine

/-! ## The release sequence -/

theorem endSequence_step (o : ReleaseOutcome) {s : State} (h : s.latch.seq ≠ .halted ∨ s.latch.supplyWait.isSome) :
    LatchStep s (endSequence o s).latch := by
  refine ⟨fun fits => ?_, rfl⟩
  obtain ⟨-, -, -, -, -, hwait, -, -, hattempts, -⟩ := fits
  refine ⟨by simp [ReleaseFits, endSequence, hattempts], fun halted => ?_⟩
  rcases h with h | h
  · exact absurd halted h
  · simpa [halted] using hwait h

/-- A sequence that waits for its glass, its retry or the supply may enter RELEASING (R62, R65). -/
theorem enterReleasing_step {s : State}
    (h : s.latch.seq = .dropping ∨ s.latch.waitEnd.isSome ∨ s.latch.supplyWait.isSome) :
    LatchStep s (enterReleasing s).latch := by
  refine ⟨fun fits => ?_, by unfold enterReleasing; split <;> rfl⟩
  obtain ⟨hkind, hpulse, hwait, hretry, hout, hsupply, hdrop, hretries, hattempts, hchild⟩ := fits
  have hseq : s.latch.seq = .dropping ∨ s.latch.seq = .retryWait := by
    rcases h with h | h | h
    · exact .inl h
    · exact .inr (hwait h)
    · exact hsupply h
  have hsome : s.latch.kind.isNone = false := by
    cases hk : s.latch.kind.isNone
    · rfl
    · rcases hkind.1 hk with e | e <;> rcases hseq with f | f <;> simp [e] at f
  have hle : s.latch.attempts ≤ 2 := by
    rcases hseq with e | e
    · rw [hdrop e]; omega
    · exact hretries e
  have hnone : s.latch.pulseEnd.isSome = false := by
    cases hp : s.latch.pulseEnd.isSome
    · rfl
    · have := hpulse.1 hp
      rcases hseq with e | e <;> simp [e] at this
  unfold enterReleasing
  split
  · rcases hseq with e | e
    · refine ⟨?_, by simp [e]⟩
      simp only [e, reduceCtorEq, if_false]
      simpa [ReleaseFits, e, hsome, hnone, hattempts, hdrop e] using hchild
    · refine ⟨?_, by simp [e]⟩
      simp only [e, reduceCtorEq, if_false]
      simpa [ReleaseFits, e, hsome, hnone, hattempts, hle] using hchild
  · refine ⟨?_, by rcases hseq with e | e <;> simp [e]⟩
    refine ⟨by simp [hsome], by simp, by simp, by simp, by simp, by simp, by simp, by simp, by simp only; omega, hchild⟩

/-- The outstanding drop is answered (R60). -/
theorem dropOut_step (s : State) : LatchStep s { s.latch with dropOut := false } := by
  refine ⟨fun fits => ⟨?_, id⟩, rfl⟩
  obtain ⟨hkind, hpulse, hwait, hretry, -, hrest⟩ := fits
  exact ⟨hkind, hpulse, hwait, hretry, by simp, hrest⟩

theorem retryDelay_step {s : State} (h : s.latch.seq = .dropping) (t : Nat) :
    LatchStep s { s.latch with retryUsed := true, retryDelay := some t } := by
  refine ⟨fun fits => ⟨?_, id⟩, rfl⟩
  obtain ⟨hkind, hpulse, hwait, -, hrest⟩ := fits
  exact ⟨hkind, hpulse, hwait, fun _ => h, hrest⟩

/-- The second drop is requested (R60). -/
theorem startDrop_step {s : State} (h : s.latch.retryDelay.isSome) :
    LatchStep s { s.latch with seq := .dropping, dropOut := true, retryDelay := none } := by
  refine ⟨fun fits => ?_, rfl⟩
  obtain ⟨hkind, hpulse, hwait, hretry, hout, hsupply, hdrop, hretries, hattempts, hchild⟩ := fits
  have e := hretry h
  rw [e] at hkind hpulse hwait
  exact ⟨⟨hkind, hpulse, hwait, by simp, by simp, fun _ => .inl rfl, fun _ => hdrop e, by simp, hattempts, hchild⟩,
    by simp [e]⟩

/-- A release request at an IDLE sequence: it drops the glass first, or in crash hold is released (R57, R60, R68). -/
theorem releaseRequest_step {s : State} {k : ReleaseKind} (hidle : s.latch.seq = .idle)
    (hk : k = .egress → s.latch.child ≠ .engaged) :
    LatchStep s { s.latch with
        kind := some k, attempts := 0, retryUsed := false, seq := .dropping, dropOut := true, retryDelay := none }
      ∧ LatchStep s (enterReleasing { s with latch := { s.latch with kind := some k, attempts := 0, retryUsed := false } }).latch := by
  have hchild : s.latch.child = .engaged → ¬ k = .egress := fun e f => hk f e
  constructor
  · refine ⟨fun fits => ?_, rfl⟩
    obtain ⟨-, hpulse, hwait, hretry, hout, hsupply, -⟩ := fits
    simp only [hidle, reduceCtorEq, iff_false, imp_false, or_self] at *
    exact ⟨by simp [ReleaseFits, hpulse, hwait]; exact hchild, by simp⟩
  · refine ⟨fun fits => ?_, by unfold enterReleasing; split <;> rfl⟩
    obtain ⟨-, hpulse, hwait, hretry, hout, hsupply, -⟩ := fits
    simp only [hidle, reduceCtorEq, iff_false, imp_false, or_self] at *
    unfold enterReleasing
    split <;> exact ⟨by simp [ReleaseFits, hpulse]; exact hchild, by simp⟩

/-- A failed pulse: RETRY WAIT, or HALTED at the third (R62, R63). -/
theorem pulseFailed_steps {s : State} (h : s.latch.pulseEnd.isSome) :
    (s.latch.attempts < 3 → LatchStep s { s.latch with seq := .retryWait, pulseEnd := none, waitEnd := some (s.now + 300000) })
      ∧ LatchStep s { s.latch with seq := .halted, kind := none, pulseEnd := none, lastRelease := .halted } := by
  constructor
  · intro hlt
    refine ⟨fun fits => ?_, rfl⟩
    obtain ⟨hkind, hpulse, hwait, hretry, hout, hsupply, hdrop, hretries, hattempts, hchild⟩ := fits
    have e := hpulse.1 h
    simp only [e, reduceCtorEq, or_self, iff_false, imp_false] at *
    refine ⟨⟨by simpa using hkind, by simp, by simp, by simpa using hretry, by simpa using hout, by simp, by simp,
      by simp only; omega, hattempts, hchild⟩, by simp⟩
  · refine ⟨fun fits => ?_, rfl⟩
    obtain ⟨hkind, hpulse, hwait, hretry, hout, hsupply, hdrop, hretries, hattempts, hchild⟩ := fits
    have e := hpulse.1 h
    simp only [e, reduceCtorEq, or_self, iff_false, imp_false] at *
    exact ⟨⟨by simp, by simp, by simpa using hwait, by simpa using hretry, by simpa using hout, by simpa using hsupply,
      by simp, by simp, hattempts, by simp⟩, by simp⟩

section
variable {R : State → State → Prop} {a s : State}

theorem LatchClosed.under_latch (h : LatchClosed R) (hs : R a s) {l : Latch} (hl : LatchStep s l) :
    R a { s with latch := l } := h.trans hs (h.latch s l hl)

/-- What `ReleaseFits` reads of the latch controller. -/
def sequenceOf (l : Latch) :
    Option ReleaseKind × SeqState × Option Nat × Option Nat × Option Nat × Bool × Option Nat × Nat × ChildState :=
  (l.kind, l.seq, l.pulseEnd, l.waitEnd, l.retryDelay, l.dropOut, l.supplyWait, l.attempts, l.child)

/-- Another latch whose release sequence and child state are the same. -/
theorem LatchClosed.under_latchSame (h : LatchClosed R) (hs : R a s) {l : Latch}
    (hl : sequenceOf l = sequenceOf s.latch) : R a { s with latch := l } := by
  simp only [sequenceOf, Prod.mk.injEq] at hl
  obtain ⟨hk, hq, hp, hw, hr, hd, hsu, ha, hc⟩ := hl
  refine h.under_latch hs ⟨fun fits => ?_, hc⟩
  simp only [ReleaseFits, hk, hq, hp, hw, hr, hd, hsu, ha, hc]
  exact ⟨fits, id⟩

theorem LatchClosed.under_localInput (h : LatchClosed R) (hs : R a s) : R a (localInput s) :=
  h.trans hs (h.input s)

theorem LatchClosed.under_endSequence (h : LatchClosed R) (hs : R a s) (o : ReleaseOutcome)
    (hq : s.latch.seq ≠ .halted ∨ s.latch.supplyWait.isSome) : R a (endSequence o s) :=
  h.under_latch hs (endSequence_step o hq)

theorem enterReleasing_eq (s : State) : enterReleasing s = { s with latch := (enterReleasing s).latch } := by
  unfold enterReleasing
  split <;> rfl

theorem LatchClosed.under_enterReleasing (h : LatchClosed R) (hs : R a s)
    (hq : s.latch.seq = .dropping ∨ s.latch.waitEnd.isSome ∨ s.latch.supplyWait.isSome) : R a (enterReleasing s) := by
  rw [enterReleasing_eq]
  exact h.under_latch hs (enterReleasing_step hq)

theorem LatchClosed.under_takeDropAnswer (h : LatchClosed R) (hs : R a s) : R a (takeDropAnswer s) := by
  unfold takeDropAnswer
  split
  · exact hs
  · have taken : R a (s.withWin { s.win with dropAnswer := none }) := h.under_withWin hs (by rfl)
    simp only
    split
    · rename_i hseq
      have answered := h.under_latch taken (dropOut_step _)
      split
      · exact h.under_enterReleasing answered (.inl hseq.1)
      · split
        · exact h.under_endSequence answered _ (.inl (by simp [hseq.1]))
        · exact h.under_latch answered (retryDelay_step (by exact hseq.1) _)
    · exact taken

theorem LatchClosed.under_startDrop (h : LatchClosed R) (hs : R a s) (hr : s.latch.retryDelay.isSome) :
    R a (startDrop s) :=
  h.under_takeDropAnswer (h.under_requestDrop (h.under_latch hs (startDrop_step hr)))

theorem LatchClosed.under_releaseRequest (h : LatchClosed R) (hs : R a s) {k : ReleaseKind}
    (hk : k = .egress → s.latch.child ≠ .engaged) : R a (releaseRequest k s) := by
  unfold releaseRequest
  split
  · rename_i hidle
    obtain ⟨hdrop, hpulse⟩ := releaseRequest_step hidle.1 hk
    simp only
    split
    · rw [enterReleasing_eq]
      exact h.under_latch hs hpulse
    · exact h.under_takeDropAnswer (h.under_requestDrop (h.under_latch hs hdrop))
  · exact hs

theorem LatchClosed.under_releaseEntry (h : LatchClosed R) (hs : R a s) : R a (releaseRequest .entry s) :=
  h.under_releaseRequest hs nofun

end

/-! ## What the window controller leaves of the latch -/

/-- The window controller and what it queues leave the latch controller alone. -/
theorem glass_keepsLatch : PlaceClosed fun a b => b.latch = a.latch where
  refl _ := rfl
  trans h k := k.trans h
  clock _ _ := by simp
  quiet q _ _ := q.latch
  pins _ _ _ := rfl
  challenge _ := rfl
  glass g := by rw [g.eq]
  keys _ _ _ _ := rfl
  search _ e _ := e
  store _ _ _ := rfl
  place g := by rw [g.eq]

section
variable {R : State → State → Prop} {a s : State}

theorem GlassCore.under_withdrawDrop (h : GlassCore R) (hs : R a s) : R a (withdrawDrop s) := by
  have withdrawn : R a (s.withWin { s.win with drop := none, dropAnswer := none }) := h.under_withWin hs (by rfl)
  unfold withdrawDrop
  split
  · simp only
    split
    · split
      · exact h.under_endMotion withdrawn _
      · exact withdrawn
    · exact withdrawn
  · exact hs

theorem withdrawDrop_latch (s : State) : (withdrawDrop s).latch = s.latch :=
  glass_keepsLatch.under_withdrawDrop (a := s) rfl

theorem LatchClosed.under_lockChangeOnSequence (h : LatchClosed R) (hs : R a s) : R a (lockChangeOnSequence s) := by
  unfold lockChangeOnSequence
  split
  · rename_i hseq
    exact h.under_endSequence (h.under_withdrawDrop hs) _ (.inl (by simp [withdrawDrop_latch, hseq.1]))
  · exact hs

theorem LatchClosed.under_setLock (h : LatchClosed R) (hs : R a s) (l : LockState) : R a (setLock l s) := by
  have changed := h.under_lockChangeOnSequence (h.under_queueRecord (h.under_latchSame hs (by rfl)
    (l := { s.latch with lock := l })) .latchState)
  unfold setLock
  split
  · exact hs
  · simp only
    split
    · exact h.under_releaseEntry (h.under_localInput changed)
    · exact changed

theorem LatchClosed.under_applyLatch (h : LatchClosed R) (hs : R a s) (k : IntentKind) : R a (applyLatch k s) := by
  unfold applyLatch
  split
  · exact h.under_setLock hs _
  · exact h.under_setLock hs _
  · exact h.under_setLock hs _
  · exact h.under_releaseEntry (h.under_setLock hs _)

theorem LatchClosed.under_outerPull (h : LatchClosed R) (hs : R a s) : R a (outerPull s) := by
  unfold outerPull
  split
  · exact h.under_releaseEntry hs
  · exact hs

end

/-- The latch controller changes no child state but where it says so. -/
theorem latch_keepsChild : LatchClosed fun a b => b.latch.child = a.latch.child where
  refl _ := rfl
  trans h k := k.trans h
  clock _ _ := by simp
  quiet q _ _ := by rw [q.latch]
  pins _ _ _ := rfl
  challenge _ := rfl
  glass g := by rw [g.eq]
  keys _ _ _ _ := rfl
  search _ e _ := e
  store _ _ _ := rfl
  latch _ _ l := l.child
  input _ := rfl

section
variable {R : State → State → Prop} {a s : State}

theorem LatchClosed.under_innerPull (h : LatchClosed R) (hs : R a s) : R a (innerPull s) := by
  unfold innerPull
  split
  · exact hs
  · rename_i hfree
    have hchild : (setLock .unlocked s).latch.child = s.latch.child := latch_keepsChild.under_setLock (a := s) rfl _
    exact h.under_releaseRequest (h.under_setLock hs _) fun _ e => hfree (.inr (hchild ▸ e))

theorem LatchClosed.under_localLockChange (h : LatchClosed R) (hs : R a s) : R a (localLockChange s) := by
  unfold localLockChange
  split
  · split
    · exact hs
    · exact h.under_setLock hs _
  · exact h.under_setLock hs _
  · exact hs

theorem LatchClosed.under_latchOpened (h : LatchClosed R) (hs : R a s) : R a (latchOpened s) := by
  have stopped := h.under_windowLatchOpen hs
  unfold latchOpened
  simp only
  split
  · rename_i e
    exact h.under_endSequence stopped _ (.inl (by simp [e]))
  · rename_i e
    exact h.under_endSequence stopped _ (.inl (by simp [e]))
  · rename_i e
    exact h.under_endSequence stopped _ (.inl (by simp [e]))
  · exact stopped

theorem LatchClosed.under_latchSupply (h : LatchClosed R) (hs : R a s) : R a (latchSupply s) := by
  unfold latchSupply
  split
  · rename_i e
    exact h.under_endSequence hs _ (.inl (by simp [e.2]))
  · split
    · rename_i e
      exact h.under_enterReleasing hs (.inr (.inr e.1))
    · exact hs

theorem LatchClosed.under_crashOnSequence (h : LatchClosed R) (hs : R a s) : R a (crashOnSequence s) := by
  unfold crashOnSequence
  split
  · rename_i e
    exact h.under_enterReleasing hs (.inl e)
  · exact hs

theorem Closed.under_applyChild (h : Closed R) (hs : R a s) (k : IntentKind) : R a (applyChild k s) := by
  have engaged := h.under_windowChild (h.trans hs (h.childEngaged s))
  have released := h.trans hs (h.childReleased s)
  unfold applyChild
  by_cases hk : k = .childOn
  · simp only [hk, if_true]
    split
    · exact hs
    · exact engaged
  · simp only [if_neg hk, reduceCtorEq, if_false]
    split
    · exact hs
    · exact released

end

/-- A relation that does not watch the latch controller holds across a child state that becomes ENGAGED. -/
theorem LatchClosed.childEngaged_of_free {R : State → State → Prop} (h : LatchClosed R)
    (free : ∀ (s : State) (l : Latch), R s { s with latch := l }) (s : State) :
    R s (childOnSequence (queueRecord .latchState { s with latch := { s.latch with child := .engaged } })) := by
  have engaged := h.under_queueRecord (free s { s.latch with child := .engaged }) .latchState
  unfold childOnSequence
  split
  · exact h.trans (h.under_withdrawDrop engaged) (free _ _)
  · exact engaged

theorem GlassCore.childReleased_of_free {R : State → State → Prop} (h : GlassCore R)
    (free : ∀ (s : State) (l : Latch), R s { s with latch := l }) (s : State) :
    R s (queueRecord .latchState { s with latch := { s.latch with child := .released } }) :=
  h.under_queueRecord (free s { s.latch with child := .released }) .latchState

end Sys2Proof.Proofs.Steps
end

section
/-! What every command does: the fault set and the key check unit (chapters 5 and 8), and the intent engine
(chapter 4). -/

namespace Sys2Proof.Proofs.Steps

open Sys2Proof Sys2Proof.Machine

section
variable {R D : State → State → Prop} {a s : State}

/-! ## The fault set and the key table -/

theorem StationClosed.under_census (h : StationClosed R) (hs : R a s) {c : Census} (hc : CensusStep s.census c) :
    R a { s with census := c } := h.trans hs (h.census s c hc)

/-- Another census unit with the same balance, late count and peers. -/
theorem StationClosed.under_censusSame (h : StationClosed R) (hs : R a s) {c : Census}
    (hc : (c.balance, c.late, c.peers) = (s.census.balance, s.census.late, s.census.peers)) :
    R a { s with census := c } := by
  simp only [Prod.mk.injEq] at hc
  obtain ⟨hb, hl, hp⟩ := hc
  exact h.under_census hs ⟨hb ▸ id, hl ▸ id, hp ▸ id⟩

theorem StationClosed.under_setFault (h : StationClosed R) (hs : R a s) (f : StationFault) (d : Option Byte) :
    R a (setFault f d s) := h.under_censusSame hs (by rfl)

theorem StationClosed.under_enterFault (h : StationClosed R) (hs : R a s) (f : StationFault) (d : Byte) :
    R a (enterFault f d s) := h.under_queueFrame (h.under_setFault hs f _) _

theorem StationClosed.under_leaveFault (h : StationClosed R) (hs : R a s) (f : StationFault) : R a (leaveFault f s) :=
  h.under_setFault hs f _

theorem GlassCore.under_slots (h : GlassCore R) (hs : R a s) (slots : Vector KeySlot 6) :
    R a { s with keys := { s.keys with slots := slots } } := h.under_keys hs id id

theorem GlassCore.under_writeSlot (h : GlassCore R) (hs : R a s) (n : Slot) (k : KeySlot) : R a (writeSlot n k s) :=
  h.under_slots hs _

theorem GlassCore.under_queueKey (h : GlassCore R) (hs : R a s) (n : Slot) : R a (queueKey n s) :=
  have slots := h.under_slots hs (s.keys.slots.set n { s.keys.slots[n] with storeCurrent := false })
  h.under_queueRecord
    (h.under_store slots (x := { s.store with writing := s.store.writing.map (staleWrite n) }) id) _

theorem StationClosed.under_damageSlot (h : StationClosed R) (hs : R a s) (n : Slot) : R a (damageSlot n s) :=
  h.under_enterFault (h.under_unqueueRecord (h.under_writeSlot hs n _) _) _ _

theorem StationClosed.under_readSlot (h : StationClosed R) (hs : R a s) (n : Slot) : R a (readSlot n s) := by
  unfold readSlot
  split
  · exact hs
  · split
    · split
      · exact h.under_writeSlot hs n _
      · exact h.under_damageSlot hs n
    · exact h.under_damageSlot hs n

theorem StationClosed.under_lookupIn (h : StationClosed R) (id : Word32) (l : List Slot) (hs : R a s) :
    R a (lookupIn id l s).2 := by
  induction l generalizing s with
  | nil => exact hs
  | cons n rest ih =>
      unfold lookupIn
      split
      · exact ih hs
      · have read := h.under_readSlot hs n
        simp only
        split
        · exact read
        · split
          · exact read
          · exact ih read

theorem StationClosed.under_lookup (h : StationClosed R) (hs : R a s) (id : Word32) : R a (lookup id s).2 :=
  h.under_lookupIn id _ hs

theorem GlassCore.under_badCode (h : GlassCore R) (hs : R a s) (n : Slot) : R a (badCode n s) :=
  h.under_writeSlot (h.under_keys hs (k := { s.keys with bad := satInc s.keys.bad }) id fun _ => satInc_le _) n _

theorem GlassCore.under_takeCounter (h : GlassCore R) (hs : R a s) (n : Slot) (c : Counter) : R a (takeCounter n c s) :=
  h.under_queueKey (h.under_writeSlot hs n _) n

theorem GlassCore.under_counterCheck (h : GlassCore R) (hs : R a s) (n : Slot) (c : Counter) :
    R a (counterCheck n c s).2 := by
  unfold counterCheck
  simp only
  split
  · exact h.under_keys hs (fun _ => satInc_le _) id
  · split
    · exact h.under_takeCounter hs n c
    · exact h.under_writeSlot hs n _

theorem StationClosed.under_checkButton (h : StationClosed R) (hs : R a s) (f : ButtonFrame) :
    R a (checkButton f s).2 := by
  have found := h.under_lookup hs f.identity
  unfold checkButton
  split
  · rename_i e
    rwa [e] at found
  · rename_i e
    rw [e] at found
    simp only
    split
    · exact found
    · split
      · exact h.under_badCode found _
      · exact h.under_counterCheck found _ _

theorem StationClosed.under_takeNotice (h : StationClosed R) (hs : R a s) (n : Notice) : R a (takeNotice n s) := by
  have found := h.under_lookup hs n.identity
  unfold takeNotice
  split
  · rename_i e
    rwa [e] at found
  · rename_i e
    rw [e] at found
    simp only
    split
    · exact h.under_takeCounter found _ _
    · exact found

theorem StationClosed.under_validate (h : StationClosed R) (hs : R a s) (r : Reply) (ch : Word32) :
    R a (validate r ch s).2 := by
  have found := h.under_lookup hs r.identity
  unfold validate
  split
  · rename_i e
    rwa [e] at found
  · rename_i e
    rw [e] at found
    simp only
    split
    · exact found
    · split
      · exact h.under_badCode found _
      · exact found

theorem StationClosed.under_rewriteSlot (h : StationClosed R) (hs : R a s) (n : Slot) (st : SlotState)
    (id sHi sLo : Word32) (c : Counter) : R a (rewriteSlot n st id sHi sLo c s) := by
  unfold rewriteSlot
  simp only
  split
  · unfold clearKeyDamaged
    split
    · exact h.under_queueKey (h.under_writeSlot hs n _) n
    · exact h.under_leaveFault (h.under_queueKey (h.under_writeSlot hs n _) n) _
  · exact h.under_queueKey (h.under_writeSlot hs n _) n

theorem StationClosed.under_readAllSlots (h : StationClosed R) (hs : R a s) : R a (readAllSlots s) := by
  unfold readAllSlots
  generalize List.finRange 6 = l
  induction l generalizing s with
  | nil => exact hs
  | cons n rest ih => exact ih (h.under_readSlot hs n)

theorem GlassCore.under_keyVerified (h : GlassCore R) (hs : R a s) (n : Slot) (stale : Bool) :
    R a (keyVerified n stale s) := by
  unfold keyVerified
  split
  · exact hs
  · exact h.under_slots hs _

/-! ## The intent engine -/

theorem Closed.under_intent (h : Closed R) (hs : R a s) {n : Intents} (hn : IntentStep s n) :
    R a { s with intent := n } := h.trans hs (h.intent s n hn)

/-- Another intent engine with the same keys and table. -/
theorem Closed.under_intentHeld (h : Closed R) (hs : R a s) {n : Intents}
    (hn : (n.keyLatch, n.keyChild, n.keyWindow, n.table)
      = (s.intent.keyLatch, s.intent.keyChild, s.intent.keyWindow, s.intent.table))
    (hh : s.intent.held = none → n.held = none) : R a { s with intent := n } := by
  simp only [Prod.mk.injEq] at hn
  obtain ⟨hl, hc, hw, ht⟩ := hn
  refine h.under_intent hs ⟨fun f => ?_, fun k => ?_, hh⟩
  · cases f
    · exact hl
    · exact hc
    · exact hw
  · simp only [TableBounds, ht]
    exact k

/-- Another intent engine with the same keys, table and held intent. -/
theorem Closed.under_intentSame (h : Closed R) (hs : R a s) {n : Intents}
    (hn : (n.keyLatch, n.keyChild, n.keyWindow, n.table, n.held)
      = (s.intent.keyLatch, s.intent.keyChild, s.intent.keyWindow, s.intent.table, s.intent.held)) :
    R a { s with intent := n } := by
  simp only [Prod.mk.injEq] at hn
  obtain ⟨hl, hc, hw, ht, hh⟩ := hn
  exact h.under_intentHeld hs (by rw [hl, hc, hw, ht]) hh.trans

theorem Closed.under_raiseEpoch (h : Closed R) (hs : R a s) (e : Epoch) : R a (raiseEpoch e s) := by
  unfold raiseEpoch
  split
  · exact h.under_intentSame hs (by rfl)
  · exact hs

theorem Closed.under_cancelRelock (h : Closed R) (hs : R a s) : R a (cancelRelock s) :=
  h.under_intentHeld hs rfl fun e => by simp [e]

theorem Closed.under_followPress (h : Closed R) (hs : R a s) (k : IntentKind) : R a (followPress k s) := by
  unfold followPress
  split
  · exact h.under_intentSame hs (by rfl)
  · exact hs

theorem Closed.under_rememberPress (h : Closed R) (hs : R a s) (k : IntentKind) (ts : Stations) (c : Cause)
    (nt : Option Notice) : R a (rememberPress k ts c nt s) := by
  unfold rememberPress
  split
  · exact hs
  · split
    · simp only
      split
      · exact h.under_intentSame hs (by rfl)
      · exact h.under_intentSame hs (by rfl)
      · exact hs
    · exact hs

theorem Closed.under_seePress (h : Closed R) (hs : R a s) (k : IntentKind) (ts : Stations) (c : Cause)
    (nt : Option Notice) : R a (seePress k ts c nt s) :=
  h.under_rememberPress (h.under_followPress hs k) k ts c nt

theorem Closed.under_relockSees (h : Closed R) (hs : R a s) (k : IntentKind) (key : OrderKey) (nt : Option Notice) :
    R a (relockSees k key nt s) := by
  unfold relockSees
  split
  · split
    · split
      · exact hs
      · exact h.under_cancelRelock hs
    · exact h.under_cancelRelock hs
  · exact hs

theorem Closed.under_applyKind (h : Closed R) (hs : R a s) (k : IntentKind) : R a (applyKind k s).2 := by
  unfold applyKind
  split
  · exact h.under_applyLatch hs k
  · exact h.under_applyChild hs k
  · exact h.under_windowIntentApplied hs k

theorem DecideClosed.under_decideIntent (h : DecideClosed R D) (hs : R a s) (k : IntentKind) (key : OrderKey) :
    D a (decideIntent k key s).2.2 := by
  unfold decideIntent
  split
  · exact h.lift hs
  · split
    · rename_i hkey
      exact h.after (h.key _ _ hs hkey) (h.under_applyKind (h.refl _) k)
    · split
      · exact h.lift hs
      · exact h.lift hs

theorem Closed.under_hearIntent (h : Closed R) (hs : R a s) (origin : Addr) (i : IntentFrame) :
    R a (hearIntent origin i s) := by
  unfold hearIntent
  refine h.under_relockSees (h.under_seePress ?_ _ _ _ _) _ _ _
  split
  · exact h.under_takeNotice hs _
  · exact hs

theorem DecideClosed.under_receiveIntent (h : DecideClosed R D) (hs : R a s) (origin : Addr) (i : IntentFrame) :
    D a (receiveIntent origin i s) := by
  have heard := h.under_hearIntent hs origin i
  unfold receiveIntent
  simp only
  split
  · exact h.after (h.under_decideIntent heard _ _) (h.under_queueFrame (h.refl _) _)
  · exact h.lift heard

/-! ## The open intent table -/

/-- Another table with the same tags, or with fewer. -/
theorem Closed.under_table (h : Closed R) (hs : R a s) {l : List OpenEntry}
    (hl : (l.map (·.tag)).Sublist (s.intent.table.map (·.tag))) :
    R a { s with intent := { s.intent with table := l } } := by
  refine h.under_intent hs ⟨fun f => by cases f <;> rfl, ?_, id⟩
  rintro ⟨hlen, htag, hdistinct⟩
  refine ⟨?_, fun e he => ?_, hl.nodup hdistinct⟩
  · have := hl.length_le
    simp only [List.length_map] at this
    exact le_trans this hlen
  · obtain ⟨x, hx, hxe⟩ := List.mem_map.1 (hl.subset (List.mem_map_of_mem (f := (·.tag)) he))
    exact hxe ▸ htag x hx

theorem Closed.under_removeEntry (h : Closed R) (hs : R a s) (t : Tag) : R a (removeEntry t s) :=
  h.under_table hs (List.filter_sublist.map _)

theorem Closed.under_putEntry (h : Closed R) (hs : R a s) (e : OpenEntry) : R a (putEntry e s) := by
  have tags : (s.intent.table.map fun x => if x.tag = e.tag then e else x).map (·.tag) = s.intent.table.map (·.tag) := by
    rw [List.map_map]
    refine List.map_congr_left fun x _ => ?_
    simp only [Function.comp]
    split
    · rename_i ht
      exact ht.symm
    · rfl
  exact h.under_table hs (tags ▸ List.Sublist.refl _)

theorem StationClosed.under_handOver (h : StationClosed R) (hs : R a s) (set : Stations) : R a (handOver set s) := by
  refine h.under_census hs ⟨id, id, fun hp b => ?_⟩
  have e : (Vector.ofFn fun c : Addr =>
      if inSet c set && c != s.addr then unresponsivePeer s.census.peers[c] else s.census.peers[c])[b]
        = if inSet b set && b != s.addr then unresponsivePeer s.census.peers[b] else s.census.peers[b] :=
    Vector.getElem_ofFn b.isLt
  simp only [e]
  split
  · exact Nat.min_le_left _ _
  · exact hp b

theorem Closed.under_closeEntry (h : Closed R) (hs : R a s) (e : OpenEntry) : R a (closeEntry e s) :=
  h.under_removeEntry (h.under_queueFrame (h.under_handOver hs _) _) _

theorem Closed.under_settleEntry (h : Closed R) (hs : R a s) (e : OpenEntry) : R a (settleEntry e s) := by
  unfold settleEntry
  split
  · exact h.under_closeEntry (h.under_putEntry hs e) e
  · exact h.under_putEntry hs e

theorem Closed.under_receiveAck (h : Closed R) (hs : R a s) (origin : Addr) (f : AckFrame) :
    R a (receiveAck origin f s) := by
  unfold receiveAck
  split
  · split
    · split
      · exact h.under_settleEntry hs _
      · exact hs
    · exact hs
  · exact hs

theorem Closed.under_attemptExpired (h : Closed R) (hs : R a s) (e : OpenEntry) : R a (attemptExpired e s) := by
  unfold attemptExpired
  split
  · exact h.under_queueFrame (h.under_putEntry hs _) _
  · exact h.under_settleEntry hs _

theorem Closed.under_intentsLose (h : Closed R) (hs : R a s) (p : Addr) : R a (intentsLose p s) := by
  unfold intentsLose
  generalize s.intent.table = l
  induction l generalizing s with
  | nil => exact hs
  | cons e rest ih =>
      refine ih ?_
      unfold loseFrom
      split
      · exact h.under_settleEntry hs _
      · exact hs

theorem Closed.under_intentsCrash (h : Closed R) (hs : R a s) : R a (intentsCrash s) := by
  have closed : R a (s.intent.table.foldl crashEntry s) := by
    generalize s.intent.table = l
    induction l generalizing s with
    | nil => exact hs
    | cons e rest ih =>
        refine ih ?_
        unfold crashEntry
        split
        · exact h.under_removeEntry (h.under_queueFrame hs _) _
        · exact hs
  exact h.under_cancelRelock (h.under_intentHeld closed rfl fun e => by simp [e])

theorem Closed.under_intentsLineFault (h : Closed R) (hs : R a s) : R a (intentsLineFault s) :=
  h.under_intent hs ⟨fun f => by cases f <;> rfl, fun _ => ⟨by simp, by simp, by simp⟩, fun _ => rfl⟩

theorem Closed.under_beginStartHold (h : Closed R) (hs : R a s) : R a (beginStartHold s) := h.under_intentSame hs (by rfl)

/-! ## Issuing (R75, R76) -/

/-- A tag that may be given: not 15, and held by no open entry (R76). -/
def TagFree (table : List OpenEntry) (t : Tag) : Prop := t ≠ 15 ∧ ∀ e ∈ table, e.tag ≠ t

theorem freeTag_free (table : List OpenEntry) (n : Nat) (t : Tag) (h : ∃ k < n, TagFree table (t + Fin.ofNat 16 k)) :
    TagFree table (freeTag table n t) := by
  induction n generalizing t with
  | zero => obtain ⟨k, hk, -⟩ := h; omega
  | succ n ih =>
      obtain ⟨k, hk, hfree⟩ := h
      unfold freeTag
      split
      · rename_i htaken
        refine ih _ ?_
        cases k with
        | zero =>
            exfalso
            have e : t + Fin.ofNat 16 0 = t := by simp
            rw [e] at hfree
            rcases htaken with h15 | hany
            · exact hfree.1 h15
            · obtain ⟨x, hx, hxt⟩ := List.any_eq_true.1 hany
              exact hfree.2 x hx (by simpa using hxt)
        | succ k =>
            refine ⟨k, by omega, ?_⟩
            have e : t + 1 + Fin.ofNat 16 k = t + Fin.ofNat 16 (k + 1) := by
              apply Fin.ext
              simp only [Fin.val_add, Fin.val_ofNat, Fin.val_one]
              omega
            rw [e]
            exact hfree
      · rename_i hfree'
        simp only [not_or] at hfree'
        refine ⟨hfree'.1, fun e he htag => hfree'.2 (List.any_eq_true.2 ⟨e, he, by simpa using htag⟩)⟩

/-- With at most 14 entries some tag is free. -/
theorem exists_tagFree (table : List OpenEntry) (h : table.length ≤ 14) : ∃ t, TagFree table t := by
  by_contra hnone
  have hall : ∀ t : Tag, t ∈ insert 15 (table.map (·.tag)).toFinset := by
    intro t
    by_contra ht
    simp only [Finset.mem_insert, List.mem_toFinset, List.mem_map, not_or, not_exists, not_and] at ht
    exact hnone ⟨t, ht.1, fun e he => ht.2 e he⟩
  have hcard := Finset.card_le_card (fun t _ => hall t : (Finset.univ : Finset Tag) ⊆ _)
  have hins := Finset.card_insert_le (15 : Tag) (table.map (·.tag)).toFinset
  have hlist := List.toFinset_card_le (table.map (·.tag))
  simp only [Finset.card_univ, Fintype.card_fin, List.length_map] at hcard hins hlist
  omega

theorem openEntryOf_tagFree (p : Prepared) {s : State} (h : s.intent.table.length < 4) :
    TagFree s.intent.table (openEntryOf p s).tag := by
  obtain ⟨u, hu⟩ := exists_tagFree s.intent.table (by omega)
  refine freeTag_free _ _ _ ⟨(u - s.intent.nextTag).val, (u - s.intent.nextTag).isLt, ?_⟩
  have e : s.intent.nextTag + Fin.ofNat 16 (u - s.intent.nextTag).val = u := by
    rw [Fin.ofNat_val_eq_self]
    exact add_sub_cancel _ _
  rwa [e]

/-- The entry an issued intent opens, before its frame is queued (R75). -/
def openedIntent (p : Prepared) (s : State) : State :=
  { s with intent := { s.intent with
      epoch := (openEntryOf p s).epoch, nextTag := (openEntryOf p s).tag + 1, table := s.intent.table ++ [openEntryOf p s] } }

theorem Closed.under_openedIntent (h : Closed R) (hs : R a s) (p : Prepared) (hroom : s.intent.table.length < 4) :
    R a (openedIntent p s) := by
  obtain ⟨h15, hnew⟩ := openEntryOf_tagFree p hroom
  refine h.under_intent hs ⟨fun f => by cases f <;> rfl, ?_, id⟩
  rintro ⟨-, htag, hdistinct⟩
  refine ⟨by simpa using hroom, fun e he => ?_, ?_⟩
  · rcases List.mem_append.1 he with he | he
    · exact htag e he
    · rw [List.mem_singleton.1 he]
      exact h15
  · simp only [List.map_append, List.map_cons, List.map_nil]
    refine List.Nodup.append hdistinct (List.nodup_singleton _) ?_
    simp only [List.disjoint_singleton, List.mem_map, not_exists, not_and]
    exact hnew

theorem Closed.under_relockIssues (h : Closed R) (hs : R a s) (e : OpenEntry) : R a (relockIssues e s) := by
  have cancelled := h.under_cancelRelock hs
  unfold relockIssues
  split
  · simp only
    split
    · exact h.under_intentSame cancelled (by rfl)
    · exact cancelled
  · exact hs

theorem DecideClosed.under_applyOwn (h : DecideClosed R D) (hs : R a s) (e : OpenEntry) : D a (applyOwn e s) := by
  have decided := h.under_decideIntent hs e.kind { epoch := e.epoch, origin := s.addr }
  unfold applyOwn
  split
  · simp only
    split
    · exact h.after decided (h.under_putEntry (h.refl _) _)
    · exact decided
  · exact h.lift hs

theorem Closed.under_closeIfDone (h : Closed R) (hs : R a s) (t : Tag) : R a (closeIfDone t s) := by
  unfold closeIfDone
  split
  · split
    · exact h.under_closeEntry hs _
    · exact hs
  · exact hs

/-- The state in which an issued intent is applied by its own station: its frame has been queued (R75, R94, R90). -/
def announcedIntent (p : Prepared) (s : State) : State :=
  queueFrame (intentPayload (openEntryOf p s))
    (seePress p.kind p.targets p.cause p.notice (relockIssues (openEntryOf p s) (openedIntent p s)))

theorem issue_eq (p : Prepared) (s : State) :
    issue p s = closeIfDone (openEntryOf p s).tag (applyOwn (openEntryOf p s) (announcedIntent p s)) := rfl

theorem Closed.under_announcedIntent (h : Closed R) (hs : R a s) (p : Prepared) (hroom : s.intent.table.length < 4) :
    R a (announcedIntent p s) :=
  h.under_queueFrame (h.under_seePress (h.under_relockIssues (h.under_openedIntent hs p hroom) _) _ _ _ _) _

theorem DecideClosed.under_issue (h : DecideClosed R D) (hs : R a s) (p : Prepared) (hroom : s.intent.table.length < 4) :
    D a (issue p s) :=
  h.after (h.under_applyOwn (h.under_announcedIntent hs p hroom) _) (h.under_closeIfDone (h.refl _) _)

theorem mayIssue_room {s : State} (h : mayIssue s = true) : s.intent.table.length < 4 := by
  simp only [mayIssue, Bool.and_eq_true, decide_eq_true_eq] at h
  exact h.2

theorem DecideClosed.under_prepare (h : DecideClosed R D) (hs : R a s) (p : Prepared) : D a (prepare p s) := by
  unfold prepare
  split
  · exact h.lift hs
  · split
    · rename_i hmay
      exact h.under_issue hs p (mayIssue_room hmay)
    · exact h.hold p hs

theorem DecideClosed.under_issueHeld (h : DecideClosed R D) (hs : D a s) : D a (issueHeld s) := by
  unfold issueHeld
  split
  · rename_i p hp
    split
    · rename_i hmay
      simp only [Bool.and_eq_true] at hmay
      exact h.unheld hs (by simp [hp]) (h.under_issue (h.refl _) p (mayIssue_room hmay.1))
    · exact hs
  · exact hs

theorem GlassCore.under_refuseIntent (h : GlassCore R) (hs : R a s) (k : IntentKind) (r : RefusalReason) :
    R a (refuseIntent k r s) := h.under_queueFrame hs _

theorem DecideClosed.under_mapButton (h : DecideClosed R D) (hs : R a s) (b : Button) (n : Notice) :
    D a (mapButton b n s) := by
  unfold mapButton
  split
  · exact h.lift hs
  · split
    · unfold mapLock
      split
      · exact h.lift (h.under_refuseIntent hs _ _)
      · exact h.under_prepare hs _
    · exact h.under_prepare hs _
    · exact h.under_prepare hs _
    · exact h.under_prepare hs _
    · exact h.under_prepare hs _
    · unfold mapRelease
      split
      · split
        · exact h.under_prepare hs _
        · exact h.lift hs
      · exact h.lift hs

theorem DecideClosed.under_mapLockout (h : DecideClosed R D) (hs : R a s) : D a (mapLockout s) := h.under_prepare hs _

theorem DecideClosed.under_mapInsideButton (h : DecideClosed R D) (hs : R a s) : D a (mapInsideButton s) := by
  unfold mapInsideButton
  split
  · exact h.under_prepare hs _
  · exact h.under_prepare hs _
  · exact h.lift hs

end

end Sys2Proof.Proofs.Steps
end

section
/-! What every command does: the search unit (chapter 6), the census unit (chapter 8) and the power manager
(chapter 9). -/

namespace Sys2Proof.Proofs.Steps

open Sys2Proof Sys2Proof.Machine

section
variable {R D : State → State → Prop} {a s : State}

/-! ## Records and claims -/

theorem GlassCore.under_setRecord (h : GlassCore R) (hs : R a s) {r : Option SearchRec}
    (hr : ∀ x ∈ r, x.stage ≠ .interiorClaiming) : R a (setRecord r s) := h.under_search hs fun _ => hr

theorem GlassCore.under_freeRecord (h : GlassCore R) (hs : R a s) : R a (setRecord none s) :=
  h.under_setRecord hs (by simp)

/-- The open record changes and keeps its stage. -/
theorem GlassCore.under_changeRecord (h : GlassCore R) (hs : R a s) {r x : SearchRec} (hr : s.search.record = some r)
    (hx : x.stage = r.stage) : R a (setRecord (some x) s) :=
  h.under_search hs fun n y hy => by
    obtain rfl : x = y := Option.mem_some_iff.1 hy
    rw [hx]
    exact n r hr

theorem GlassCore.under_holdTouch (h : GlassCore R) (hs : R a s) (t : HeldTouch) : R a (holdTouch t s) :=
  h.under_search hs id

theorem claimLost_tx (s : State) : (claimLost s).line.tx = s.line.tx := by
  unfold claimLost
  split
  · rfl
  · split
    · rfl
    · split
      · rfl
      · rfl
    · rfl

theorem GlassCore.under_claimLost (h : GlassCore R) (hs : R a s) : R a (claimLost s) :=
  h.under_quiet hs (claimLost_quiet s) (.of_eq (claimLost_tx s) (claimLost_quiet s).line) (claimLost_stage s)

theorem GlassCore.under_addClaim (h : GlassCore R) (hs : R a s) (o : Addr) (k : ClaimKind) (e : Nat) :
    R a (addClaim o k e s) := h.under_search hs id

theorem GlassCore.under_removeClaim (h : GlassCore R) (hs : R a s) (o : Addr) : R a (removeClaim o s) :=
  h.under_search hs id

theorem GlassCore.under_withdrawOwnClaim (h : GlassCore R) (hs : R a s) : R a (withdrawOwnClaim s) := by
  unfold withdrawOwnClaim
  split
  · exact h.under_claimLost (h.under_withdraw hs _)
  · exact hs

theorem StationClosed.under_line (h : StationClosed R) (hs : R a s) {l : Line} (hl : LineStep s l) :
    R a { s with line := l } := h.trans hs (h.line l (h.refl s) hl.after)

/-- Another line interface with the same queue of frames to send, no more received frames, and the same counts. -/
theorem StationClosed.under_lineLess (h : StationClosed R) (hs : R a s) {l : Line}
    (hl : (l.tx, l.state, l.failures, l.damaged, l.overruns, l.txFails)
      = (s.line.tx, s.line.state, s.line.failures, s.line.damaged, s.line.overruns, s.line.txFails))
    (hrx : framesHeld l.rx ≤ framesHeld s.line.rx) (hext : l.ext ≤ s.line.ext) : R a { s with line := l } := by
  simp only [Prod.mk.injEq] at hl
  obtain ⟨htx, hst, hfail, hd, ho, ht⟩ := hl
  have jobs : AnnouncementsHaveJobs s → AnnouncementsHaveJobs { s with line := l } := by
    simp only [AnnouncementsHaveJobs, htx]
    exact id
  refine h.under_line hs ⟨⟨?_, jobs⟩, hd ▸ id, ho ▸ id, ht ▸ id⟩
  rintro ⟨len, held, ext, failures, empty, jobbed⟩
  exact ⟨htx ▸ len, hrx.trans held, hext.trans ext, hfail.le.trans failures, fun hne => htx.trans (empty (hst ▸ hne)),
    jobs jobbed⟩

/-- Another line interface whose queues, state and counts are the same. -/
theorem StationClosed.under_lineSame (h : StationClosed R) (hs : R a s) {l : Line}
    (hl : (l.tx, l.state, l.failures, l.damaged, l.overruns, l.txFails, l.rx, l.ext)
      = (s.line.tx, s.line.state, s.line.failures, s.line.damaged, s.line.overruns, s.line.txFails, s.line.rx, s.line.ext)) :
    R a { s with line := l } := by
  simp only [Prod.mk.injEq] at hl
  obtain ⟨htx, hst, hfail, hd, ho, ht, hrx, hext⟩ := hl
  exact h.under_lineLess hs (by rw [htx, hst, hfail, hd, ho, ht]) (by rw [hrx]) hext.le

theorem framesHeld_filter (f : RxItem → Bool) (l : List RxItem) : framesHeld (l.filter f) ≤ framesHeld l :=
  (List.filter_sublist).countP_le

theorem StationClosed.under_abandonClaim (h : StationClosed R) (hs : R a s) : R a (abandonClaim s) := by
  have jobs : AnnouncementsHaveJobs s → AnnouncementsHaveJobs (abandonClaim s) := by
    intro jobbed x hx
    obtain ⟨e, he, rfl⟩ := List.mem_map.1 hx
    have e_jobbed := jobbed e (List.mem_filter.1 he).1
    split
    · rename_i hclaim
      intro hann
      cases hp : e.frame.payload <;> simp_all [isAnnouncement, isClaimPayload]
    · exact e_jobbed
  have step : LineStep s (abandonClaim s).line := by
    refine ⟨⟨?_, jobs⟩, id, id, id⟩
    rintro ⟨len, held, ext, failures, empty, jobbed⟩
    refine ⟨?_, (framesHeld_filter _ _).trans held, ext, failures, fun hne => ?_, jobs jobbed⟩
    · exact le_trans (by simpa [abandonClaim, withdraw] using List.length_filter_le _ _) len
    · simp [abandonClaim, withdraw, empty hne]
  exact h.under_line hs step

/-! ## Challenges and touches -/

theorem GlassCore.under_driveChallenge (h : GlassCore R) (hs : R a s) (an : Antenna) (r : SearchRec) :
    R a (driveChallenge an r s) := by
  refine h.under_search (h.trans hs (h.challenge s)) fun _ x hx => ?_
  obtain rfl := Option.mem_some_iff.1 hx
  by_cases hr : r.stage = .interior
  · simp [hr]
  · simp [hr]

theorem GlassCore.under_outerChallenge (h : GlassCore R) (hs : R a s) (r : SearchRec) : R a (outerChallenge r s) := by
  unfold outerChallenge
  split
  · exact h.under_holdTouch (h.under_freeRecord hs) _
  · exact h.under_freeRecord hs
  · exact h.under_driveChallenge hs _ _

theorem GlassCore.under_takeTouch (h : GlassCore R) (hs : R a s) (ar : Area) (t : Nat) : R a (takeTouch ar t s) := by
  unfold takeTouch
  split
  · exact hs
  · split
    · unfold faultTouch
      split
      · exact hs
      · split
        · exact h.under_holdTouch hs _
        · exact h.under_outerChallenge hs _
    · split
      · exact h.under_refuseIntent hs _ _
      · split
        · exact hs
        · split
          · exact h.under_holdTouch hs _
          · exact h.under_queueFrame (h.under_setRecord hs (by simp [touchRecord])) _

theorem LatchClosed.under_retryTouch (h : LatchClosed R) (hs : R a s) (t : HeldTouch) : R a (retryTouch t s) := by
  have taken : R a { s with search := { s.search with held := none } } := h.under_search hs id
  unfold retryTouch
  simp only
  split
  · exact h.under_releaseEntry taken
  · exact h.under_takeTouch taken _ _

/-! ## Replies -/

theorem StationClosed.under_weighReply (h : StationClosed R) (hs : R a s) (rp : Reply) : R a (weighReply rp s) := by
  unfold weighReply
  split
  · exact hs
  · rename_i r hr
    split
    · exact hs
    · rename_i ch hch
      split
      · have taken : R s (setRecord (some { r with taken := r.taken ++ [rp] }) s) :=
          h.under_changeRecord (h.refl s) hr rfl
        have validated := h.under_validate taken rp ch
        simp only
        split
        · rename_i e
          rw [e] at validated
          exact h.trans hs validated
        · rename_i e
          rw [e] at validated
          refine h.trans hs (h.search _ validated fun n x hx => ?_)
          obtain rfl := Option.mem_some_iff.1 hx
          exact n r hr
      · exact hs

theorem StationClosed.under_routeReply (h : StationClosed R) (hs : R a s) (rp : Reply) : R a (routeReply rp s) := by
  unfold routeReply
  simp only
  split_ifs
  · exact h.under_weighReply hs rp
  · exact h.under_queueFrame hs _

/-! ## Decisions -/

theorem DecideClosed.under_entryFound (h : DecideClosed R D) (hs : R a s) (ar : Area) (c : Candidate) :
    D a (entryFound ar c s) := by
  unfold entryFound
  split
  · have unlocked := h.under_setLock hs .unlocked
    simp only
    split
    · exact h.lift (h.under_releaseEntry unlocked)
    · exact h.lift unlocked
  · split
    · exact h.under_prepare hs _
    · exact h.under_prepare hs _

theorem DecideClosed.under_decideEntry (h : DecideClosed R D) (hs : R a s) (r : SearchRec) : D a (decideEntry r s) := by
  unfold decideEntry
  split
  · exact h.under_entryFound (h.under_freeRecord hs) _ _
  · exact h.lift (h.under_freeRecord hs)

theorem DecideClosed.under_decidePassive (h : DecideClosed R D) (r : SearchRec) (hs : R a (setRecord none s)) :
    D a (decidePassive r s) := by
  unfold decidePassive
  simp only
  split
  · exact h.lift hs
  · split
    · exact h.lift (h.under_refuseIntent hs _ _)
    · split
      · exact h.lift (h.under_refuseIntent hs _ _)
      · exact h.under_prepare hs _

theorem DecideClosed.under_decideOuter (h : DecideClosed R D) (hs : R a s) (r : SearchRec) : D a (decideOuter r s) := by
  have freed := h.under_freeRecord hs
  unfold decideOuter
  split
  · exact h.lift (h.under_refuseIntent freed _ _)
  · simp only
    split
    · exact h.lift freed
    · split
      · exact h.under_decidePassive _ freed
      · exact h.wait _ hs

theorem DecideClosed.under_claimInterior (h : DecideClosed R D) (hs : D a s) (r : SearchRec) (hn : ¬ NoInterior s) :
    D a (claimInterior r s) := by
  have freed : ∀ {t}, D (setRecord none s) t → D a t := fun ht => h.freed _ hs hn (by simp [NoInterior]) ht
  unfold claimInterior
  split
  · exact freed (h.lift (h.refl _))
  · simp only
    split
    · exact freed (h.under_decidePassive _ (h.refl _))
    · exact freed (h.after (h.wait _ (h.refl _)) (h.under_queueFrame (h.refl _) _))

/-! ## Slots -/

theorem GlassCore.under_claimSent (h : GlassCore R) (hs : R a s) (e : Nat) : R a (claimSent e s) := by
  unfold claimSent
  split
  · exact hs
  · split
    · split
      · exact h.under_claimLost hs
      · exact h.under_outerChallenge hs _
    · split
      · exact hs
      · split
        · exact h.under_claimLost hs
        · exact h.under_setRecord hs (by simp)
    · exact hs

theorem GlassCore.under_reportSlot (h : GlassCore R) (hs : R a s) (r : SearchRec) (q : SearchResult) (b : Byte) :
    R a (reportSlot r q b s) := h.under_queueFrame (h.under_freeRecord hs) _

theorem GlassCore.under_startSlot (h : GlassCore R) (hs : R a s) {r : SearchRec} (hr : s.search.record = some r) :
    R a (startSlot r s) := by
  unfold startSlot
  simp only
  split
  · split
    · exact h.under_freeRecord hs
    · exact h.under_changeRecord hs hr rfl
  · split
    · split
      · exact h.under_reportSlot hs _ _ _
      · exact h.under_changeRecord hs hr rfl
    · exact h.under_driveChallenge hs _ _

theorem GlassCore.under_endSlot (h : GlassCore R) (hs : R a s) {r : SearchRec} (hr : s.search.record = some r) :
    R a (endSlot r s) := by
  unfold endSlot
  simp only
  split
  · exact h.under_reportSlot hs _ _ _
  · exact h.under_changeRecord hs hr rfl

theorem GlassCore.under_hearInterior (h : GlassCore R) (hs : R a s) (o : Addr) (n : Byte) (ps : Stations) (e : Nat) :
    R a (hearInterior o n ps e s) := by
  have heard := h.under_withdrawOwnClaim (h.under_addClaim hs o .interiorSearch (decisionTime e (setSize ps)))
  unfold hearInterior
  simp only
  split
  · exact h.under_setRecord heard (by simp [dutyRecord])
  · exact heard

theorem GlassCore.under_hearReport (h : GlassCore R) (hs : R a s) (o q : Addr) (res : SearchResult) (n : Byte) :
    R a (hearReport o q res n s) := by
  unfold hearReport
  split
  · exact hs
  · rename_i r hr
    split
    · exact h.under_changeRecord hs hr rfl
    · exact hs

theorem StationClosed.under_searchUnder (h : StationClosed R) (hs : R a s) : R a (searchUnder s) := by
  have stopped : R a (stopBurst { s with search := { s.search with held := none } }) :=
    h.under_search (h.under_search hs (x := { s.search with held := none }) id) id
  unfold searchUnder
  simp only
  split
  · exact stopped
  · split
    · split
      · exact h.under_reportSlot stopped _ _ _
      · exact stopped
    · split
      · exact h.under_freeRecord stopped
      · exact stopped
    · split
      · exact h.under_freeRecord (h.under_abandonClaim stopped)
      · exact h.under_freeRecord stopped
      · rename_i hstage
        exact h.under_setRecord stopped (by simp [skipOwn, hstage])
      · exact stopped

theorem StationClosed.under_searchSupply (h : StationClosed R) (hs : R a s) : R a (searchSupply s) := by
  unfold searchSupply
  split
  · exact h.under_searchUnder hs
  · exact hs

/-! ## The peer table and the balance -/

theorem StationClosed.under_setPeer (h : StationClosed R) (hs : R a s) (o : Addr) {f : Peer → Peer}
    (hf : ∀ p, (f p).unresponsive = p.unresponsive) : R a (setPeer o f s) := by
  refine h.under_census hs ⟨id, id, fun hp b => ?_⟩
  show ((s.census.peers.set o (f s.census.peers[o]))[b]).unresponsive ≤ 255
  by_cases hb : b = o
  · subst hb
    have e : (s.census.peers.set b (f s.census.peers[b]))[b] = f s.census.peers[b] := by simp
    rw [e, hf]
    exact hp b
  · have hv : (o : Nat) ≠ b := fun e => hb (Fin.ext e.symm)
    have e : (s.census.peers.set o (f s.census.peers[o]))[b] = s.census.peers[b] := by
      simpa using Vector.getElem_set_ne _ _ hv
    rw [e]
    exact hp b

theorem StationClosed.under_heard (h : StationClosed R) (hs : R a s) (o : Addr) : R a (heard o s) := by
  unfold heard
  split
  · exact hs
  · exact h.under_setPeer hs o fun _ => rfl

theorem StationClosed.under_pullIn (h : StationClosed R) (hs : R a s) : R a (pullIn s) := by
  unfold pullIn
  split
  · exact h.under_queueAnnouncement hs
  · exact h.under_censusSame hs (by rfl)

theorem StationClosed.under_hearCensus (h : StationClosed R) (hs : R a s) (o pos : Addr) (caps : Capabilities)
    (iv : BitVec 16) (ep : Epoch) : R a (hearCensus o pos caps iv ep s) := by
  unfold hearCensus
  simp only
  split
  · exact h.under_queueCensus (h.under_pullIn (h.under_setPeer hs o fun _ => rfl))
  · exact h.under_pullIn (h.under_setPeer hs o fun _ => rfl)

theorem Closed.under_hearAnnouncement (h : Closed R) (hs : R a s) (o : Addr) (n : Announced) :
    R a (hearAnnouncement o n s) := by
  unfold hearAnnouncement
  simp only
  split
  · exact h.under_cancelRelock (h.under_setPeer hs o fun _ => rfl)
  · exact h.under_setPeer hs o fun _ => rfl

theorem StationClosed.under_restartInterval (h : StationClosed R) (hs : R a s) : R a (restartInterval s) :=
  h.under_censusSame hs (by rfl)

theorem StationClosed.under_balanceFalls (h : StationClosed R) (hs : R a s) : R a (balanceFalls s) := by
  unfold balanceFalls
  split
  · rename_i hlow
    exact h.under_census hs ⟨fun hb => ⟨by simp only; omega, by simp only; omega⟩, id, id⟩
  · have late : R a { s with census := { s.census with late := satInc s.census.late, urgent := true } } :=
      h.under_census hs ⟨id, fun _ => satInc_le _, id⟩
    simp only
    split
    · exact h.under_queueAnnouncement late
    · exact late

theorem StationClosed.under_balanceRises (h : StationClosed R) (hs : R a s) : R a (balanceRises s) :=
  h.under_census hs ⟨fun hb => ⟨by simp only; omega, by simp only; omega⟩, id, id⟩

theorem StationClosed.under_censusWake (h : StationClosed R) (hs : R a s) : R a (censusWake s) := by
  refine h.under_restartInterval (h.under_census hs ⟨fun _ => by simp, id, fun hp b => ?_⟩)
  have e : (s.census.peers.map (freshPeer s))[b] = freshPeer s s.census.peers[b] := by simp
  show ((s.census.peers.map (freshPeer s))[b]).unresponsive ≤ 255
  rw [e]
  exact hp b

theorem Closed.under_peerSilent (h : Closed R) (hs : R a s) (o : Addr) : R a (peerSilent o s) := by
  have lost := h.under_setPeer hs o (f := fun p => { p with presence := .lost }) fun _ => rfl
  unfold peerSilent
  split
  · exact h.under_setPeer hs o fun _ => rfl
  · exact h.under_intentsLose lost o
  · exact h.under_intentsLose lost o
  · exact hs

/-! ## The supply state -/

theorem StationClosed.under_power (h : StationClosed R) (hs : R a s) {p : Power}
    (hp : (p.state, p.spurious) = (s.power.state, s.power.spurious)) : R a { s with power := p } := by
  simp only [Prod.mk.injEq] at hp
  exact h.trans hs (h.power s p hp.1 (hp.2 ▸ id))

theorem StationClosed.under_setSupply (h : StationClosed R) (hs : R a s) (v : Supply) : R a (setSupply v s) := by
  unfold setSupply
  split
  · exact hs
  · exact h.under_store (h.under_searchSupply (h.under_latchSupply (h.under_windowSupply (h.under_power hs (by rfl))))) id

theorem StationClosed.under_supplyFalls (h : StationClosed R) (hs : R a s) (v : Supply) : R a (supplyFalls v s) := by
  unfold supplyFalls
  split
  · exact h.under_setSupply hs v
  · exact hs

theorem StationClosed.under_takeMeasures (h : StationClosed R) (hs : R a s) (u : Nat) : R a (takeMeasures u s) :=
  h.under_power hs (by rfl)

theorem StationClosed.under_pulseSample (h : StationClosed R) (hs : R a s) (u : Nat) : R a (pulseSample u s) :=
  h.under_supplyFalls (h.under_takeMeasures hs u) _

theorem StationClosed.under_periodicSample (h : StationClosed R) (hs : R a s) (u : Nat) : R a (periodicSample u s) := by
  have measured := h.under_takeMeasures hs u
  unfold periodicSample
  simp only
  refine h.under_supplyFalls ?_ _
  split
  · exact h.under_power (h.under_power measured (by rfl)
      (p := { (takeMeasures u s).power with
        rise7800 := remeasure 7800 u s.now, rise9300 := remeasure 9300 u s.now })) (by rfl)
  · exact h.under_power measured (by rfl)

theorem StationClosed.under_supplyRises (h : StationClosed R) (hs : R a s) : R a (supplyRises s) := by
  unfold supplyRises
  split
  · exact h.under_setSupply hs _
  · exact hs

/-! ## Sleep and wake -/

theorem Closed.under_awake (h : Closed R) (hs : R a s) {p : Power} (hsp : p.spurious = s.power.spurious)
    (hp : p.state ≠ .sleep) : R a { s with power := p } :=
  h.trans hs (h.awake s p hp (hsp ▸ id))

theorem Closed.under_enterSleepPending (h : Closed R) (hs : R a s) : R a (enterSleepPending s) := by
  unfold enterSleepPending
  split
  · have pending : R a { s with power := { s.power with
        state := .sleepPending, going := true, selfAbort := false, sleepDue := none, quietEnd := none } } :=
      h.under_awake hs (by rfl) (by simp)
    simp only
    split
    · exact h.under_power pending (by rfl)
    · exact h.under_queueAnnouncement pending
  · exact hs

theorem Closed.under_moveAgreement (h : Closed R) (hs : R a s) : R a (moveAgreement s) := by
  have moved : ∀ n, R a { s with power := { s.power with agree := n } } := fun n => h.under_power hs (by rfl)
  unfold moveAgreement
  generalize (if agreement s then min 2 (s.power.agree + 1) else 0) = n
  simp only
  split
  · exact h.under_enterSleepPending (moved n)
  · exact moved n

theorem Closed.under_announcementSent (h : Closed R) (hs : R a s) (g : Bool) : R a (announcementSent g s) := by
  unfold announcementSent
  split
  · split
    · exact h.under_power hs (by rfl)
    · exact hs
  · exact h.under_moveAgreement hs

theorem Closed.under_followPeer (h : Closed R) (hs : R a s) : R a (followPeer s) := by
  unfold followPeer
  split
  · exact h.under_enterSleepPending hs
  · exact hs

theorem Closed.under_abortSleep (h : Closed R) (hs : R a s) (c : Option WakeCause) : R a (abortSleep c s) := by
  unfold abortSleep
  split
  · have running : R a (queueCensus { s with power := { s.power with
        state := .run, agree := 0, quietEnd := none, going := false, sleepDue := none, selfAbort := false } }) :=
      h.under_queueCensus (h.under_awake hs (by rfl) (by simp))
    simp only
    split
    · split
      · exact running
      · exact h.under_queueFrame (h.under_lineSame running (by rfl)) _
    · exact running
  · exact hs

theorem lineWake_step (s : State) : LineStep s (lineWake s.now s.line) := by
  refine ⟨⟨fun _ => ⟨by simp [lineWake], by simp [lineWake, framesHeld], by simp [lineWake], by simp [lineWake], ?_, ?_⟩, ?_⟩,
    id, id, id⟩
  · exact fun _ => rfl
  · exact fun _ hx => absurd hx List.not_mem_nil
  · exact fun _ _ hx => absurd hx List.not_mem_nil

/-- The power manager of a wake: RUN, with the latest reading of the supply sense (R171, R179). -/
def wokenPower (s : State) : Power :=
  { firstSample s.pins.supplySense s.now s.power with
    state := .run, localAt := s.now, agree := 0, loneFrom := none, quietEnd := none, going := false
    sleepDue := none, selfAbort := false, filter := .watching }

theorem Closed.under_wokenBlocks (h : Closed R) (power : R a { s with power := wokenPower s }) : R a (wakeBlocks s) := by
  have latch := h.under_latchSame power (by rfl) (l := { s.latch with position := s.pins.latchSwitch, filterEnd := none })
  have search := h.under_search latch (x := { s.search with record := none, held := none, claims := [], burst := none })
    (fun _ => by simp [NoInterior])
  have line := h.under_line search (lineWake_step _)
  have store := h.under_store line (x := { s.store with patrolAt := s.now }) id
  exact h.under_beginStartHold (h.under_censusWake store)

theorem Closed.under_wokenLocally (h : Closed R) (power : R a { s with power := wokenPower s }) (c : WakeCause) :
    R a (localWake c s) := by
  have woken := h.under_wokenBlocks power
  unfold localWake
  simp only
  split
  · exact woken
  · exact h.under_firstFrames (h.under_queueFrame (h.under_lineSame woken (by rfl)) _)

theorem Closed.under_wokenByLine (h : Closed R) (power : R a { s with power := wokenPower s }) : R a (wakeByLine s) := by
  have woken := h.under_wokenBlocks power
  unfold wakeByLine
  simp only
  split
  · exact woken
  · exact h.under_firstFrames woken

theorem Closed.under_wokenPower (h : Closed R) (hs : R a s) : R a { s with power := wokenPower s } :=
  h.under_awake hs rfl (by simp [wokenPower])

theorem Closed.under_localWake (h : Closed R) (hs : R a s) (c : WakeCause) : R a (localWake c s) :=
  h.under_wokenLocally (h.under_wokenPower hs) c

theorem Closed.under_wakeByLine (h : Closed R) (hs : R a s) : R a (wakeByLine s) :=
  h.under_wokenByLine (h.under_wokenPower hs)

theorem Closed.under_localCause (h : Closed R) (hs : R a s) (c : WakeCause) : R a (localCause c s) := by
  unfold localCause
  split
  · exact h.under_localInput (h.under_localWake hs c)
  · exact h.under_localInput (h.under_abortSleep hs _)
  · exact h.under_localInput hs

theorem Closed.under_wakeCause (h : Closed R) (hs : R a s) (c : WakeCause) : R a (wakeCause c s) := by
  unfold wakeCause
  split
  · exact h.under_localWake hs c
  · exact hs

theorem StationClosed.under_spuriousWake (h : StationClosed R) (hs : R a s) : R a (spuriousWake s) :=
  h.trans hs (h.power s _ rfl fun _ => satInc_le _)

theorem StationClosed.under_withdrawAnnouncement (h : StationClosed R) (hs : R a s) : R a (withdrawAnnouncement s) :=
  h.under_withdraw hs _

end

end Sys2Proof.Proofs.Steps
end

section
/-! What every command does: the line interface (chapter 7). -/

namespace Sys2Proof.Proofs.Steps

open Sys2Proof Sys2Proof.Machine

section
variable {R D : State → State → Prop} {a s : State}

/-! ## LINE FAULT -/

theorem StationClosed.under_changeCause (h : StationClosed R) (hs : R a s) {c old : LineCause}
    (hold : s.line.state = .lineFault old) : R a (changeCause c old s) := by
  unfold changeCause
  split
  · refine h.under_line hs ⟨⟨?_, id⟩, id, id, id⟩
    rintro ⟨len, held, ext, failures, empty, jobbed⟩
    exact ⟨len, held, ext, failures, fun _ => empty (by simp [hold]), jobbed⟩
  · exact hs

theorem GlassCore.under_tellNotSent (h : GlassCore R) (l : List TxEntry) (hs : R a s) : R a (tellNotSent l s) := by
  induction l generalizing s with
  | nil => exact hs
  | cons e rest ih => exact ih (h.under_tell hs e)

theorem faultLine_step (c : LineCause) (s : State) : LineStep s (faultLine c s.now s.line) := by
  have jobs : AnnouncementsHaveJobs { s with line := faultLine c s.now s.line } :=
    fun _ hx => absurd hx List.not_mem_nil
  refine ⟨⟨?_, fun _ => jobs⟩, id, id, id⟩
  rintro ⟨-, held, ext, -, -, -⟩
  exact ⟨by simp [faultLine], held, ext, by simp [faultLine], fun _ => rfl, jobs⟩

/-- The blocks take the entry to LINE FAULT with the line `l`, and the jobs of the discarded frames are told (R147). -/
def faultEntered (l : Line) (discarded : List TxEntry) (s : State) : State :=
  tellNotSent discarded (searchLineFault (intentsLineFault { s with line := l }))

theorem Closed.under_faultEntered (h : Closed R) (hs : R a s) {l : Line} (hl : LineStep s l) (d : List TxEntry) :
    R a (faultEntered l d s) :=
  h.under_tellNotSent d (h.under_search (h.under_intentsLineFault (h.under_line hs hl)) id)

theorem enterLineFault_ok {s : State} (hok : s.line.state = .ok) (c : LineCause) :
    enterLineFault c s = faultEntered (faultLine c s.now s.line) s.line.tx s := by
  unfold enterLineFault
  rw [hok]
  rfl

theorem Closed.under_enterLineFault (h : Closed R) (hs : R a s) (c : LineCause) : R a (enterLineFault c s) := by
  cases hst : s.line.state with
  | ok =>
      rw [enterLineFault_ok hst]
      exact h.under_faultEntered hs (faultLine_step c s) _
  | lineFault old =>
      unfold enterLineFault
      rw [hst]
      exact h.under_changeCause hs hst

theorem Closed.under_recoverLine (h : Closed R) (hs : R a s) : R a (recoverLine s) := by
  have line : R a { s with line := { s.line with state := .ok, recoverAt := none, gateOpen := false, failures := 0 } } := by
    refine h.under_line hs ⟨⟨?_, id⟩, id, id, id⟩
    rintro ⟨len, held, ext, -, -, jobbed⟩
    exact ⟨len, held, ext, by simp, fun hne => absurd rfl hne, jobbed⟩
  have census := h.under_census line (c := { s.census with balance := 0, urgent := false, censusOwed := false })
    ⟨fun _ => by simp, id, id⟩
  exact h.under_beginStartHold (h.under_firstFrames census)

theorem StationClosed.under_restartRecovery (h : StationClosed R) (hs : R a s) (t : Nat) :
    R a (restartRecovery t s) := by
  unfold restartRecovery
  split
  · exact h.under_lineSame hs (by rfl)
  · exact hs

/-! ## Reports -/

theorem GlassCore.under_startAttemptTimer (h : GlassCore R) (hs : R a s) (i : IntentFrame) :
    R a (startAttemptTimer i s) := h.under_quiet hs (startAttemptTimer_quiet i s) (.of_eq rfl rfl) id

theorem Closed.under_reportSent (h : Closed R) (hs : R a s) (p : Payload) (e : Nat) : R a (reportSent p e s) := by
  unfold reportSent
  split
  · exact h.under_startAttemptTimer hs _
  · split
    · exact h.under_claimSent hs e
    · exact hs
  · split
    · exact h.under_claimSent hs e
    · exact hs
  · exact h.under_lineSame hs (by rfl)
  · exact h.under_announcementSent (h.under_balanceRises hs) _
  · exact h.under_weighReply hs _
  · split
    · exact h.under_store hs id
    · exact hs
  · exact hs

/-- The receive queue becomes another with no more frames than at the start. -/
theorem StationClosed.under_received (h : StationClosed R) (hs : R a s) {rx : List RxItem}
    (hrx : framesHeld rx ≤ framesHeld a.line.rx) : R a { s with line := { s.line with rx := rx } } := by
  refine h.line _ hs ⟨?_, id, id, id, id⟩
  rintro ⟨-, heldA, -⟩ ⟨len, held, ext, failures, empty, jobbed⟩
  exact ⟨len, hrx.trans heldA, ext, failures, empty, jobbed⟩

theorem Closed.under_drainList (h : Closed R) (l : List RxItem) (hs : R a s)
    (hl : framesHeld l ≤ framesHeld a.line.rx) : R a (drainList l s) := by
  induction l generalizing s with
  | nil => exact hs
  | cons x rest ih =>
      cases x with
      | sent p e =>
          have hrest : framesHeld rest ≤ framesHeld a.line.rx := le_trans (by simp [framesHeld]) hl
          exact ih (h.under_reportSent (h.under_received hs hrest) p e) hrest
      | frame fr e => exact hs

theorem Closed.under_drainReports (h : Closed R) (hs : R a s) : R a (drainReports s) :=
  h.trans hs (h.under_drainList _ (h.refl s) le_rfl)

/-! ## Delivery -/

theorem Closed.under_raiseFrom (h : Closed R) (hs : R a s) (p : Payload) : R a (raiseFrom p s) := by
  unfold raiseFrom
  split
  · exact h.under_raiseEpoch hs _
  · exact h.under_raiseEpoch (h.under_raiseEpoch hs _) _
  · exact h.under_raiseEpoch hs _
  · exact h.under_raiseEpoch hs _
  · exact hs

/-- A frame is delivered by `f`, which may decide an intent. -/
theorem DecideClosed.under_takeHead (h : DecideClosed R D) (hs : R a s) {is : Payload → Bool}
    {f : Frame → Nat → State → State} (hf : ∀ {t} fr e, R a t → D a (f fr e t)) : D a (takeHead is f s) := by
  unfold takeHead
  split
  · rename_i fr e rest hrx
    split
    · have hrest : framesHeld rest ≤ framesHeld s.line.rx := by simp [hrx, framesHeld]
      have left : R a { s with line := { s.line with rx := rest } } := h.under_lineLess hs rfl hrest le_rfl
      have raised := h.under_raiseFrom left fr.payload
      unfold deliver
      refine h.after (hf fr e ?_) (h.under_drainReports (h.under_heard (h.refl _) _))
      split
      · exact h.under_abortSleep raised none
      · exact raised
    · exact h.lift hs
  · exact h.lift hs

/-- A frame is delivered by `f`, which decides no intent. -/
theorem DecideClosed.under_hearHead (h : DecideClosed R D) (hs : R a s) {is : Payload → Bool}
    {f : Frame → Nat → State → State} (hf : ∀ {t} fr e, R a t → R a (f fr e t)) : D a (takeHead is f s) :=
  h.under_takeHead hs fun fr e ht => h.lift (hf fr e ht)

/-! ## Sending -/

theorem StationClosed.under_overloadTest (h : StationClosed R) (hs : R a s) : R a (overloadTest s) := by
  unfold overloadTest
  split
  · rename_i hmore
    refine h.under_line hs ⟨⟨?_, id⟩, id, id, id⟩
    rintro ⟨len, held, -, failures, empty, jobbed⟩
    exact ⟨len, held, hmore.2.1, failures, empty, jobbed⟩
  · exact h.under_lineSame hs (by rfl)

theorem StationClosed.under_endFrame (h : StationClosed R) (hs : R a s) (us : Nat) : R a (endFrame us s) :=
  h.under_lineSame hs (by rfl)

/-- Another transmit queue, no longer, whose entries keep their jobs. -/
theorem StationClosed.under_txLess (h : StationClosed R) (hs : R a s) {l : Line}
    (hl : (l.state, l.ext, l.damaged, l.overruns) = (s.line.state, s.line.ext, s.line.damaged, s.line.overruns))
    (hrx : framesHeld l.rx = framesHeld s.line.rx) (hfail : l.failures ≤ s.line.failures)
    (ht : s.line.txFails ≤ 65535 → l.txFails ≤ 65535) (hlen : l.tx.length ≤ s.line.tx.length)
    (hjobs : AnnouncementsHaveJobs s → ∀ x ∈ l.tx, isAnnouncement x = true → x.jobless = false) :
    R a { s with line := l } := by
  simp only [Prod.mk.injEq] at hl
  obtain ⟨hst, hext, hd, ho⟩ := hl
  refine h.under_line hs ⟨⟨?_, fun jobbed => hjobs jobbed⟩, hd ▸ id, ho ▸ id, ht⟩
  rintro ⟨len, held, ext, failures, empty, jobbed⟩
  refine ⟨hlen.trans len, hrx.le.trans held, hext.le.trans ext, hfail.trans failures, fun hne => ?_, hjobs jobbed⟩
  have hs0 : s.line.tx = [] := empty (hst ▸ hne)
  rw [hs0] at hlen
  exact List.length_eq_zero_iff.1 (Nat.le_zero.1 hlen)

/-- The same, of the transmit queue alone. -/
theorem StationClosed.under_tx (h : StationClosed R) (hs : R a s) {tx : List TxEntry} (hlen : tx.length ≤ s.line.tx.length)
    (hjobs : AnnouncementsHaveJobs s → ∀ x ∈ tx, isAnnouncement x = true → x.jobless = false) :
    R a { s with line := { s.line with tx := tx } } := h.under_txLess hs rfl rfl le_rfl id hlen hjobs

theorem markHead_length {g : Bool} {l m : List TxEntry} (h : markHead g l = some m) : m.length = l.length := by
  induction l generalizing m with
  | nil => simp [markHead] at h
  | cons x xs ih =>
      unfold markHead at h
      split at h
      · obtain rfl := Option.some.inj h
        rfl
      · obtain ⟨r, hr, rfl⟩ := Option.map_eq_some_iff.1 h
        simp [ih hr]

theorem markHead_jobs {g : Bool} {l m : List TxEntry} (h : markHead g l = some m)
    (hl : ∀ x ∈ l, isAnnouncement x = true → x.jobless = false) : ∀ x ∈ m, isAnnouncement x = true → x.jobless = false := by
  induction l generalizing m with
  | nil => simp [markHead] at h
  | cons x xs ih =>
      unfold markHead at h
      split at h
      · obtain rfl := Option.some.inj h
        exact List.forall_mem_cons.2 ⟨hl x List.mem_cons_self, fun y hy => hl y (List.mem_cons_of_mem x hy)⟩
      · obtain ⟨r, hr, rfl⟩ := Option.map_eq_some_iff.1 h
        exact List.forall_mem_cons.2 ⟨hl x List.mem_cons_self, ih hr fun y hy => hl y (List.mem_cons_of_mem x hy)⟩

theorem StationClosed.under_startFrame (h : StationClosed R) (hs : R a s) : R a (startFrame s) := by
  unfold startFrame
  split
  · split
    · rename_i tx htx
      have later := h.under_advanceTo hs (freeTime s)
      have same : (advanceTo (freeTime s) s).line.tx = s.line.tx := advanceTo_line_tx _ s
      have queued : R a { (advanceTo (freeTime s) s) with line := { (advanceTo (freeTime s) s).line with tx := tx } } := by
        refine h.under_tx later (le_of_eq ?_) fun jobs => ?_
        · rw [same]
          exact markHead_length htx
        · exact markHead_jobs htx (same ▸ jobs)
      exact h.under_lineLess queued (by rfl) (by exact le_rfl) (by exact Nat.zero_le _)
    · exact hs
  · exact hs

theorem dropInTx_jobs {s : State} (h : AnnouncementsHaveJobs s) :
    ∀ x ∈ dropInTx s.line.tx, isAnnouncement x = true → x.jobless = false := fun x hx => h x (List.mem_filter.1 hx).1

theorem StationClosed.under_supersede (h : StationClosed R) (hs : R a s) (e : TxEntry) : R a (supersede e s) := by
  have dropped : R a { s with line := { s.line with tx := dropInTx s.line.tx } } :=
    h.under_tx hs (List.length_filter_le _ _) dropInTx_jobs
  exact h.under_power dropped (by rfl)

/-- The frame in transmission changes in what no job depends on. -/
theorem StationClosed.under_mapInTx (h : StationClosed R) (hs : R a s) {f : TxEntry → TxEntry}
    (hf : ∀ x, (f x).frame = x.frame ∧ (f x).jobless = x.jobless) :
    R a { s with line := { s.line with tx := mapInTx f s.line.tx } } := by
  refine h.under_tx hs (by simp [mapInTx]) fun jobs x hx => ?_
  obtain ⟨y, hy, rfl⟩ := List.mem_map.1 hx
  have hy := jobs y hy
  split
  · rw [(hf y).2]
    intro hann
    exact hy (by simpa [isAnnouncement, (hf y).1] using hann)
  · exact hy

theorem StationClosed.under_loseArbitration (h : StationClosed R) (hs : R a s) : R a (loseArbitration s) := by
  unfold loseArbitration
  split
  · exact hs
  · split
    · exact h.under_supersede hs _
    · exact h.under_mapInTx hs fun _ => ⟨rfl, rfl⟩

/-- Another count of consecutive failures. -/
def withFailures (n : Nat) (s : State) : State := { s with line := { s.line with failures := n } }

theorem notSent_withFailures (n : Nat) (p : Payload) (s : State) :
    notSent p (withFailures n s) = withFailures n (notSent p s) := by
  have lost : claimLost (withFailures n s) = withFailures n (claimLost s) := by
    unfold claimLost
    show (match s.search.record with | none => _ | some r => _) = _
    cases s.search.record with
    | none => rfl
    | some r =>
        cases hr : r.stage <;> simp only [hr]
        case interiorClaiming =>
          show (if inLineFault s = true then _ else _) = _
          split <;> rfl
        all_goals rfl
  cases p
  case searchClaim =>
    unfold notSent
    show (if awaitsClaim .searchClaim s = true then _ else _) = _
    split
    · exact lost
    · rfl
  case interiorSearch m ps =>
    unfold notSent
    show (if awaitsClaim (.interiorSearch m ps) s = true then _ else _) = _
    split
    · exact lost
    · rfl
  case serviceReply m k r =>
    cases r
    case done =>
      unfold notSent
      simp only
      split <;> rfl
    all_goals rfl
  all_goals rfl

theorem tell_withFailures (n : Nat) (e : TxEntry) (s : State) :
    Machine.tell e (withFailures n s) = withFailures n (Machine.tell e s) := by
  unfold Machine.tell
  split
  · rfl
  · exact notSent_withFailures n _ s

/-- The transmit queue without the frame in transmission, which has failed for good and is counted (R139). -/
def failedLine (l : Line) : Line := { l with tx := dropInTx l.tx, txFails := satInc l.txFails, failures := l.failures + 1 }

theorem dropFailed_eq (e : TxEntry) (s : State) : dropFailed e s =
    if 31 ≤ s.line.failures then enterLineFault .failures (Machine.tell e { s with line := failedLine s.line })
    else Machine.tell e { s with line := failedLine s.line } := by
  have same : (Machine.tell e { s with line := failedLine s.line }).line.fixed.failures = s.line.failures + 1 :=
    congrArg Line.failures (tell_quiet e { s with line := failedLine s.line }).line
  have same : (Machine.tell e { s with line := failedLine s.line }).line.failures = s.line.failures + 1 := same
  unfold dropFailed
  show (if 32 ≤ (Machine.tell e { s with line := failedLine s.line }).line.failures then _ else _) = _
  rw [same]
  simp only [Nat.reduceLeDiff]
  rfl

theorem Closed.under_dropFailed (h : Closed R) (hs : R a s) {e : TxEntry} (he : e ∈ s.line.tx) :
    R a (dropFailed e s) := by
  have dropped : R a { s with line := { s.line with tx := dropInTx s.line.tx, txFails := satInc s.line.txFails } } :=
    h.under_txLess hs rfl rfl le_rfl (fun _ => satInc_le _) (List.length_filter_le _ _) dropInTx_jobs
  rw [dropFailed_eq]
  split
  · cases hst : s.line.state with
    | ok =>
        -- The count of 32 is passed through and cleared as LINE FAULT is entered.
        have told := h.under_tell dropped e
        generalize hu : Machine.tell e { s with line := { s.line with
          tx := dropInTx s.line.tx, txFails := satInc s.line.txFails } } = u at told
        have hcount : Machine.tell e { s with line := failedLine s.line } = withFailures (s.line.failures + 1) u := by
          rw [← hu]
          exact tell_withFailures (s.line.failures + 1) e { s with line := { s.line with
            tx := dropInTx s.line.tx, txFails := satInc s.line.txFails } }
        have hok : u.line.fixed.state = .ok := by
          rw [← hu]
          exact (congrArg Line.state (tell_quiet e _).line).trans hst
        have hok : (withFailures (s.line.failures + 1) u).line.state = .ok := hok
        rw [hcount, enterLineFault_ok hok]
        exact h.under_faultEntered told (faultLine_step _ u) _
    | lineFault old =>
        -- In LINE FAULT the queue is empty, so that no frame is in transmission.
        refine h.under_enterLineFault (h.under_tell (h.under_line hs (l := failedLine s.line) ⟨⟨?_, dropInTx_jobs⟩, id, id, fun _ => satInc_le _⟩) e) _
        rintro ⟨-, -, -, -, empty, -⟩
        rw [empty (by simp [hst])] at he
        exact absurd he List.not_mem_nil
  · rename_i hfew
    refine h.under_tell (h.under_line hs (l := failedLine s.line) ⟨⟨?_, dropInTx_jobs⟩, id, id, fun _ => satInc_le _⟩) e
    rintro ⟨len, held, ext, -, empty, jobbed⟩
    refine ⟨le_trans (List.length_filter_le _ _) len, held, ext, by simp only [failedLine]; omega, fun hne => ?_,
      dropInTx_jobs jobbed⟩
    simp [failedLine, dropInTx, empty hne]

theorem inTxEntry_mem {e : TxEntry} (h : inTxEntry s = some e) : e ∈ s.line.tx := List.mem_of_find?_eq_some h

theorem Closed.under_meetBitError (h : Closed R) (hs : R a s) : R a (meetBitError s) := by
  have ended := h.under_endFrame hs 560
  unfold meetBitError
  split
  · exact hs
  · rename_i e he
    simp only
    split
    · exact h.under_supersede ended e
    · split
      · exact h.under_dropFailed ended (inTxEntry_mem he)
      · exact h.under_mapInTx ended (f := fun x => { x with inTx := false, errors := x.errors + 1 }) fun _ => ⟨rfl, rfl⟩

theorem framesHeld_report (l : List RxItem) (e : TxEntry) (t : Nat) :
    framesHeld (l ++ sentReport e t) = framesHeld l := by
  unfold sentReport
  split <;> simp [framesHeld]

theorem Closed.under_finishFrame (h : Closed R) (hs : R a s) : R a (finishFrame s) := by
  unfold finishFrame
  split
  · exact hs
  · rename_i e he
    have ended := h.under_endFrame (h.under_advanceTo hs (s.line.frameAt + frameBitTimes e.frame.payload.data.length * 20)) 240
    exact h.under_drainReports (h.under_overloadTest
      (h.under_txLess ended (by rfl) (by exact framesHeld_report _ e _) (by exact Nat.zero_le _) (by exact id)
        (List.length_filter_le _ _) dropInTx_jobs))

theorem Closed.under_runEnds (h : Closed R) (hs : R a s) (us : Nat) : R a (runEnds us s) := by
  have ended : R a { s with line := { s.line with cond := .busy, freeAt := freeAfterRun s } } := h.under_lineSame hs (by rfl)
  have restarted := h.under_restartRecovery ended s.now
  unfold runEnds
  simp only
  split
  · exact h.under_abortSleep restarted none
  · exact restarted

theorem Closed.under_readRun (h : Closed R) (hs : R a s) (start us : Nat) : R a (readRun start us s) := by
  unfold readRun
  refine h.under_runEnds (h.under_advanceTo ?_ _) us
  split
  · exact h.under_enterLineFault (h.under_advanceTo hs _) _
  · exact hs

/-! ## Reception -/

theorem StationClosed.under_countDamaged (h : StationClosed R) (hs : R a s) : R a (countDamaged s) :=
  h.under_line hs ⟨⟨id, id⟩, fun _ => satInc_le _, id, id⟩

theorem Closed.under_clash (h : Closed R) (hs : R a s) (r : RawFrame) : R a (clash r s) :=
  h.under_enterFault (h.under_enterLineFault (h.under_countDamaged hs) _) _ _

theorem StationClosed.under_joinFrame (h : StationClosed R) (hs : R a s) (r : RawFrame) : R a (joinFrame r s) := by
  unfold joinFrame
  split
  · exact h.under_countDamaged hs
  · split
    · exact h.under_line hs ⟨⟨id, id⟩, id, fun _ => satInc_le _, id⟩
    · rename_i hroom
      refine h.under_line hs ⟨⟨?_, id⟩, id, id, id⟩
      rintro ⟨len, -, ext, failures, empty, jobbed⟩
      refine ⟨len, ?_, ext, failures, empty, jobbed⟩
      simp only [framesHeld, List.countP_append, List.countP_singleton, if_true] at hroom ⊢
      omega

theorem Closed.under_judgeFrame (h : Closed R) (hs : R a s) (bits : List Bool) : R a (judgeFrame bits s) := by
  unfold judgeFrame
  split
  · exact h.under_countDamaged hs
  · split
    · exact h.under_clash hs _
    · exact h.under_joinFrame hs _

theorem Closed.under_readReception (h : Closed R) (hs : R a s) (bits : List Bool) : R a (readReception bits s) := by
  have later := h.under_advanceTo hs (receptionStart s + 240 + bitsRead bits * 20)
  exact h.under_drainReports (h.under_overloadTest (h.under_judgeFrame (h.under_restartRecovery
    (h.under_lineLess later (by rfl) (by exact le_rfl) (by exact Nat.zero_le _)) _) bits))

theorem Closed.under_ignoreRun (h : Closed R) (hs : R a s) (bits : List Bool) : R a (ignoreRun bits s) := by
  have read := h.under_readRun hs (freeTime s) ((12 + leadingDominant bits) * 20)
  exact h.under_restartRecovery (h.under_lineSame read (by rfl)) _

theorem Closed.under_receiveBits (h : Closed R) (hs : R a s) (bits : List Bool) : R a (receiveBits bits s) := by
  unfold receiveBits
  split
  · exact hs
  · split
    · exact h.under_ignoreRun hs bits
    · exact h.under_readReception hs bits

end

end Sys2Proof.Proofs.Steps
end

section
/-! What every command does: the record store interface with the resets (chapter 10). -/

namespace Sys2Proof.Proofs.Steps

open Sys2Proof Sys2Proof.Machine

/-- The relation also holds across a reset: every block at its values after a reset, the configuration read, and the
lock and child state read (R183, R186). -/
structure ResetClosed (R : State → State → Prop) : Prop extends Closed R, PlaceClosed R where
  blank : ∀ s p, p.state = .run → p.spurious = 0 → R s { blankState s with power := p }
  config : ∀ s c x, 64 ≤ c.travel ∧ c.travel ≤ 2048 → s.win.p = 0 →
    R s { s with cfg := c, store := { s.store with pendingCfg := x } }
  child : ∀ s l c, s.latch.kind = none → R s { s with latch := { s.latch with lock := l, child := c } }

section
variable {R D : State → State → Prop} {a s : State}

/-! ## Resets -/

theorem ResetClosed.under_holdReset (h : ResetClosed R) (hs : R a s) : R a (holdReset s) :=
  h.trans hs (h.blank s { State.reset.power with heldSince := some s.now } rfl rfl)

theorem StationClosed.under_senseInReset (h : StationClosed R) (hs : R a s) (u : Nat) : R a (senseInReset u s) :=
  h.under_power (h.under_pins hs (p := { s.pins with supplySense := u }) rfl) (by rfl)

theorem defaulted_travel (c : Settings) : 64 ≤ (defaulted c).travel ∧ (defaulted c).travel ≤ 2048 := by
  simp only [defaulted, pick]
  split
  · assumption
  · omega

theorem ResetClosed.under_loadConfig (h : ResetClosed R) (hs : R a s) (hp : s.win.p = 0) : R a (loadConfig s) := by
  unfold loadConfig
  split
  · rename_i c _
    have loaded := h.trans hs (h.config s { defaulted c with caps := adjustCaps s.addr c.caps }
      { defaulted c with caps := adjustCaps s.addr c.caps } (defaulted_travel c) hp)
    simp only
    split
    · exact h.under_enterFault loaded _ _
    · exact loaded
  · exact h.under_enterFault
      (h.trans hs (h.config s (defaultSettings s.addr) (defaultSettings s.addr) (by simp [defaultSettings, resetSettings]) hp)) _ _

theorem loadConfig_latch (s : State) : (loadConfig s).latch = s.latch := by
  have entered : ∀ (b : Byte) (t : State), (enterFault .configDefaulted b t).latch = t.latch := fun b t =>
    (queueFrame_quiet _ _).latch
  unfold loadConfig
  split
  · simp only
    split
    · exact entered _ _
    · rfl
  · exact entered _ _

theorem GlassCore.under_loadKeys (h : GlassCore R) (l : List Slot) (hs : R a s) : R a (l.foldl loadKey s) := by
  induction l generalizing s with
  | nil => exact hs
  | cons n rest ih => exact ih (h.under_slots hs _)

theorem GlassCore.under_loadProfile (h : GlassCore R) (hs : R a s) : R a (loadProfile s) := by
  unfold loadProfile
  split
  · split
    · rename_i f _ _
      refine h.under_profile hs fun _ z => ?_
      rw [zone_ofFn]
      unfold loadedZone
      split
      · exact Nat.zero_le _
      · rename_i hle
        exact Nat.not_lt.1 hle
    · exact h.under_queueRecord hs _
  · exact hs

theorem PlaceClosed.under_loadWindow (h : PlaceClosed R) (hs : R a s) : R a (loadWindow s) := by
  unfold loadWindow
  split
  · refine h.under_place hs (by rfl) ⟨?_, ?_⟩ id
    · simp only [clampCount, countLow, countHigh]; omega
    · simp only [clampCount, countLow, countHigh]; omega
  · exact hs

theorem ResetClosed.under_loadLatch (h : ResetClosed R) (hs : R a s) (hk : s.latch.kind = none) : R a (loadLatch s) := by
  have loaded : ∀ l c, R a { s with latch := { s.latch with lock := l, child := c } } := fun l c =>
    h.trans hs (h.child s l c hk)
  unfold loadLatch
  split
  · simp only
    generalize (if isRear s then _ else ChildState.notFitted) = c
    split
    · exact h.under_queueRecord (loaded _ c) _
    · exact loaded _ c
  · exact loaded _ _

theorem ResetClosed.under_loadRecords (h : ResetClosed R) (hs : R a s) (hp : s.win.p = 0) (hk : s.latch.kind = none) :
    R a (loadRecords s) := by
  have window := h.under_loadWindow (h.under_loadProfile (h.under_loadKeys (List.finRange 6) (h.under_loadConfig hs hp)))
  have latch : (loadWindow (loadProfile ((List.finRange 6).foldl loadKey (loadConfig s)))).latch = s.latch := by
    rw [← loadConfig_latch s]
    exact glass_keepsLatch.under_loadWindow (glass_keepsLatch.under_loadProfile
      (glass_keepsLatch.under_loadKeys _ (a := loadConfig s) rfl))
  exact h.under_loadLatch window (latch ▸ hk)

/-- The state of a reset that ends, before the records are loaded (R184). -/
def blankBoot (s : State) : State :=
  { blankState s with
    power := { firstSample s.pins.supplySense s.now State.reset.power with localAt := s.now } }

theorem ResetClosed.under_loadedBoot (h : ResetClosed R) (hs : R a (blankBoot s)) : R a (boot s) :=
  h.under_firstFrames (h.under_beginStartHold (h.under_censusWake (h.under_loadRecords hs rfl rfl)))

theorem ResetClosed.under_boot (h : ResetClosed R) (hs : R a s) : R a (boot s) :=
  h.under_loadedBoot (h.trans hs (h.blank s _ rfl rfl))

/-! ## Writes and patrol -/

theorem GlassCore.under_beginWrite (h : GlassCore R) (hs : R a s) : R a (beginWrite s) := by
  unfold beginWrite
  split
  · rename_i r rest _ hq
    split
    · exact hs
    · refine h.under_store hs fun distinct => ?_
      simp only [QueueDistinct, hq] at distinct ⊢
      exact (List.nodup_cons.1 distinct).2
  · exact hs

theorem StationClosed.under_endAttempt (h : StationClosed R) (hs : R a s) (c : List Byte) (n : Bool) :
    R a (endAttempt c n s) := by
  unfold endAttempt
  split
  · exact hs
  · rename_i w _
    split
    · exact hs
    · have read : R a { s with
          pins := { s.pins with storeAnswers := n }
          store := { s.store with records := s.store.records.set w.id.index (some c) } } :=
        h.under_store (h.under_pins hs (p := { s.pins with storeAnswers := n }) rfl) id
      simp only
      split
      · unfold writeVerified
        simp only
        split
        · exact h.under_keyVerified (h.under_storeSame read (by rfl)) _ _
        · exact h.under_storeSame read (by rfl)
      · split
        · exact h.under_storeSame read (by rfl)
        · exact h.under_enterFault (h.under_storeSame read (by rfl)) _ _

theorem StationClosed.under_patrolOp (h : StationClosed R) (hs : R a s) : R a (patrolOp s) := by
  have stepped := h.under_store (h.under_advanceTo hs (s.store.patrolAt + 100000)) (x :=
    { (advanceTo (s.store.patrolAt + 100000) s).store with
        patrol := s.store.patrol + 1, patrolAt := (advanceTo (s.store.patrolAt + 100000) s).now }) id
  unfold patrolOp patrolItem
  simp only
  split
  · exact h.under_readSlot stepped _
  · split
    · exact stepped
    · exact h.under_unlearnZone stepped _

/-! ## Service requests -/

theorem GlassCore.under_reply (h : GlassCore R) (hs : R a s) (n k : Byte) (r : ServiceResult) : R a (reply n k r s) :=
  h.under_queueFrame hs _

theorem GlassCore.under_refuse (h : GlassCore R) (hs : R a s) (q : ServiceParts) (r : ServiceReason) :
    R a (refuse q r s) := h.under_reply hs _ _ _

theorem GlassCore.under_done (h : GlassCore R) (hs : R a s) (q : ServiceParts) : R a (done q s) := h.under_reply hs _ _ _

theorem GlassCore.under_serve (h : GlassCore R) (hs : R a s) {f : ServiceParts → State → State} (fr : Frame) (e : Nat)
    (hf : ∀ q, R a (f q s)) : R a (serve f fr e s) := by
  unfold serve
  split
  · split
    · exact hs
    · split
      · exact hs
      · split
        · exact h.under_reply hs _ _ _
        · exact hf _
  · exact hs

theorem GlassCore.under_doPairSecret (h : GlassCore R) (hs : R a s) (q : ServiceParts) : R a (doPairSecret q s) := by
  unfold doPairSecret
  split
  · split
    · exact h.under_refuse hs _ _
    · split
      · exact h.under_refuse hs _ _
      · split
        · exact h.under_refuse hs _ _
        · exact h.under_done (h.under_storeSame hs (by rfl)) _
  · exact h.under_refuse hs _ _

theorem StationClosed.under_pairKeyWith (h : StationClosed R) (hs : R a s) (q : ServiceParts) (n : Slot) (id : Word32)
    (c : Counter) : R a (pairKeyWith q n id c s) := by
  have read := h.under_readAllSlots hs
  unfold pairKeyWith
  split
  · exact h.under_refuse hs _ _
  · split
    · exact h.under_refuse hs _ _
    · split
      · exact h.under_refuse hs _ _
      · split
        · exact h.under_refuse hs _ _
        · simp only
          split
          · exact h.under_refuse read _ _
          · rename_i b _ _ _
            have paired : R a (pairSlot n id b.sHi b.sLo c (readAllSlots s)) := h.under_rewriteSlot read n .paired _ _ _ _
            generalize pairSlot n id b.sHi b.sLo c (readAllSlots s) = t at paired ⊢
            exact h.under_done (h.under_storeSame paired (by rfl)) _

theorem StationClosed.under_doPairKey (h : StationClosed R) (hs : R a s) (q : ServiceParts) : R a (doPairKey q s) := by
  unfold doPairKey
  split
  · split
    · exact h.under_refuse hs _ _
    · exact h.under_pairKeyWith hs _ _ _ _
  · exact h.under_refuse hs _ _

theorem StationClosed.under_doRemoveKey (h : StationClosed R) (hs : R a s) (q : ServiceParts) :
    R a (doRemoveKey q s) := by
  unfold doRemoveKey
  split
  · split
    · exact h.under_refuse hs _ _
    · exact h.under_done (h.under_rewriteSlot hs _ _ _ _ _ _) _
  · exact h.under_refuse hs _ _

theorem GlassCore.under_unlearnAll (h : GlassCore R) (hs : R a s) : R a (unlearnAll s) :=
  h.under_queueRecord (h.under_profile hs fun _ z => by rw [zone_ofFn]; exact Nat.zero_le _) _

theorem PlaceClosed.under_doRelearn (h : PlaceClosed R) (hs : R a s) (q : ServiceParts) : R a (doRelearn q s) := by
  unfold doRelearn
  split
  · exact h.under_refuse hs _ _
  · split
    · exact h.under_refuse hs _ _
    · exact h.under_done (h.under_queueRecord (h.under_unnormalise (h.under_unlearnAll hs)) _) _

theorem GlassCore.under_doWriteConfig (h : GlassCore R) (hs : R a s) (q : ServiceParts) : R a (doWriteConfig q s) := by
  unfold doWriteConfig
  split
  · rename_i f v _
    split
    · exact h.under_done (h.under_queueRecord (h.under_store hs
        (x := { s.store with pendingCfg := writeField f.toNat (valueOf v) s.store.pendingCfg }) id) _) _
    · exact h.under_refuse hs _ _
  · exact h.under_refuse hs _ _

theorem GlassCore.under_doReadStatus (h : GlassCore R) (hs : R a s) (q : ServiceParts) : R a (doReadStatus q s) := by
  unfold doReadStatus
  split
  · split
    · exact h.under_reply hs _ _ _
    · exact h.under_refuse hs _ _
  · exact h.under_refuse hs _ _

theorem GlassCore.under_doMoveWindow (h : GlassCore R) (hs : R a s) (q : ServiceParts) : R a (doMoveWindow q s) := by
  unfold doMoveWindow
  split
  · exact h.under_refuse hs _ _
  · simp only
    split
    · exact h.under_done (h.under_request hs _) _
    · exact h.under_refuse (h.under_request hs _) _ _

theorem GlassCore.under_doServiceReset (h : GlassCore R) (hs : R a s) (q : ServiceParts) :
    R a (doServiceReset q s) := by
  unfold doServiceReset
  split
  · exact h.under_refuse hs _ _
  · split
    · exact h.under_queueEntry hs (by simp [isAnnouncement, newEntry])
    · exact h.under_done (h.under_storeSame hs (by rfl)) _

/-- The relation also holds across CLEAR HALT (R63). -/
def ClearClosed (R : State → State → Prop) : Prop := ∀ s, R s (clearHaltOp s)

theorem GlassCore.under_doClearHalt (h : GlassCore R) (hc : ClearClosed R) (hs : R a s) (q : ServiceParts) :
    R a (doClearHalt q s) := by
  unfold doClearHalt
  split
  · exact h.under_done (h.trans hs (hc s)) q
  · exact h.under_refuse hs _ _

end

end Sys2Proof.Proofs.Steps
end

section
/-! What every command does: the end of a command, and the commands themselves. -/

namespace Sys2Proof.Proofs.Steps

open Sys2Proof Sys2Proof.Machine

/-- At the end of a command the station may go to sleep (R178), which leads from `D` to `E`; otherwise the end is in `E`
as it is in `D`. -/
structure EndClosed (R D E : State → State → Prop) : Prop extends DecideClosed R D where
  rest : ∀ {a b}, D a b → E a b
  sleep : ∀ {a s}, D a s → s.power.state = .sleepPending → sleepReady s = true → announcementInTx s = false →
    E a (enterSleep s)

section
variable {R D E : State → State → Prop} {a s : State}

/-! ## The end of a command -/

theorem GlassCore.under_settleStartHold (h : GlassCore R) (hs : R a s) : R a (settleStartHold s) := by
  refine h.under_quiet hs (settleStartHold_quiet s) (.of_eq ?_ (settleStartHold_quiet s).line) fun n => ?_
  · unfold settleStartHold
    split <;> rfl
  · unfold settleStartHold
    split <;> exact n

theorem StationClosed.under_settleCensus (h : StationClosed R) (hs : R a s) : R a (settleCensus s) := by
  unfold settleCensus
  split
  · exact h.under_queueCensus (h.under_censusSame hs (by rfl))
  · exact hs

theorem StationClosed.under_settleAgreement (h : StationClosed R) (hs : R a s) : R a (settleAgreement s) :=
  h.under_power hs (by rfl)

theorem StationClosed.under_settleStatus (h : StationClosed R) (hs : R a s) : R a (settleStatus s) := by
  unfold settleStatus
  split
  · exact hs
  · split
    · exact h.under_queueAnnouncement hs
    · exact h.under_censusSame hs (by rfl)

theorem GlassCore.under_settleDue (h : GlassCore R) (hs : R a s) : R a (settleDue s) := by
  unfold settleDue
  split
  · exact h.under_queueAnnouncement hs
  · exact hs

theorem DecideClosed.under_settleInterior (h : DecideClosed R D) (hs : D a s) : D a (settleInterior s) := by
  unfold settleInterior
  split
  · rename_i r hr
    split
    · rename_i hdue
      refine h.under_claimInterior hs r fun n => n r hr ?_
      simp only [interiorDue, Bool.and_eq_true, beq_iff_eq] at hdue
      exact hdue.1.1.1
    · exact hs
  · exact hs

theorem enterSleep_asleep (s : State) : awake (enterSleep s) = false := rfl

/-- A sleep is entered at the end of a command, or the command goes on as before. -/
theorem EndClosed.settleSleep_cases (h : EndClosed R D E) (hs : D a s) :
    D a (settleSleep s) ∨ (awake (settleSleep s) = false ∧ E a (settleSleep s)) := by
  unfold settleSleep
  split
  · rename_i hpending
    split
    · exact .inl (h.after hs (h.under_abortSleep (h.refl s) none))
    · rename_i hready
      simp only [Bool.or_eq_true, Bool.not_eq_true', not_or, Bool.not_eq_true, Bool.not_eq_false] at hready
      split
      · split
        · rename_i hreported
          simp only [reportedForSleep, Bool.and_eq_true, Bool.not_eq_true'] at hreported
          exact .inr ⟨enterSleep_asleep s, h.sleep hs hpending hready.2 hreported.1.1⟩
        · exact .inl hs
      · exact .inl hs
  · exact .inl hs

theorem settle_asleep {s : State} (h : awake s = false) : settle s = s := by simp [settle, h]

theorem settle_held {s : State} (h : s.power.heldSince.isNone = false) : settle s = s := by simp [settle, h]

theorem EndClosed.under_settle (h : EndClosed R D E) (hs : D a s) : E a (settle s) := by
  unfold settle
  split
  · have due : D a (settleInterior (settleCensus (takeDropAnswer s))) :=
      h.under_settleInterior (h.after hs (h.under_settleCensus (h.under_takeDropAnswer (h.refl s))))
    rcases h.settleSleep_cases due with rested | ⟨asleep, ended⟩
    · simp only
      split
      · refine h.rest (h.after (h.under_issueHeld (h.after rested (h.under_settleStartHold (h.refl _)))) ?_)
        exact h.under_settleDue (h.under_settleStatus (h.under_settleAgreement (h.refl _)))
      · exact h.rest rested
    · simp only [asleep, Bool.false_eq_true, if_false]
      exact ended
  · exact h.rest hs

/-! ## The wrappers of the meanings -/

/-- A command answers a next state, in the relation to the state before. -/
def Ends (E : State → State → Prop) (s : State) (o : Host.Outcome State Fault Refusal) : Prop := ∃ t, o = .next t ∧ E s t

theorem EndClosed.ends_liveInput (h : EndClosed R D E) {pin f : State → State} (hpin : R s (pin s)) (hf : D s (f s)) :
    Ends E s (liveInput pin f s) := by
  unfold liveInput
  split
  · exact ⟨_, rfl, h.rest (h.lift hpin)⟩
  · exact ⟨_, rfl, h.under_settle hf⟩

theorem EndClosed.ends_decide (h : EndClosed R D E) {f : State → State} (hf : D s (f s)) : Ends E s (live f s) :=
  h.ends_liveInput (h.refl s) hf

theorem EndClosed.ends_live (h : EndClosed R D E) {f : State → State} (hf : R s (f s)) : Ends E s (live f s) :=
  h.ends_decide (h.lift hf)

theorem EndClosed.ends_awakeDecide (h : EndClosed R D E) {f : State → State} (hf : D s (f s)) :
    Ends E s (whileAwake f s) := by
  refine h.ends_decide ?_
  split
  · exact hf
  · exact h.lift (h.refl s)

theorem EndClosed.ends_awake (h : EndClosed R D E) {f : State → State} (hf : R s (f s)) : Ends E s (whileAwake f s) :=
  h.ends_awakeDecide (h.lift hf)

/-- A timer that runs ends at its time; one that does not run changes nothing. -/
theorem DecideClosed.under_atTimeDecide (h : DecideClosed R D) {o : Option Nat} {f : State → State}
    (hf : ∀ e, o = some e → D s (f (advanceTo e s))) : D s (atTime o f s) := by
  unfold atTime
  split
  · exact hf _ rfl
  · exact h.lift (h.refl s)

theorem GlassCore.under_atTime (h : GlassCore R) {o : Option Nat} {f : State → State}
    (hf : ∀ e, o = some e → R s (advanceTo e s) → R s (f (advanceTo e s))) : R s (atTime o f s) := by
  unfold atTime
  split
  · exact hf _ rfl (h.clock _ s)
  · exact h.refl s

theorem EndClosed.ends_timer (h : EndClosed R D E) {o : State → Option Nat} {f : State → State}
    (hf : ∀ e, o s = some e → R s (advanceTo e s) → R s (f (advanceTo e s))) :
    Ends E s (whileAwake (fun t => atTime (o t) f t) s) := h.ends_awake (h.under_atTime hf)

theorem EndClosed.ends_delivery (h : EndClosed R D E) {is : Payload → Bool} {f : Frame → Nat → State → State}
    (hf : ∀ {t} fr e, R s t → R s (f fr e t)) : Ends E s (onDelivery is f s) :=
  h.ends_awakeDecide (h.under_hearHead (h.refl s) hf)

theorem EndClosed.ends_service (h : EndClosed R D E) {is : Payload → Bool} {f : ServiceParts → State → State}
    (hf : ∀ {t} q, R s t → R s (f q t)) : Ends E s (onDelivery is (serve f) s) :=
  h.ends_delivery fun fr e ht => h.under_serve ht fr e fun q => hf q ht

/-! ## Window, pinch and latch -/

theorem Closed.under_pulseOp (h : Closed R) (g : GlassClosed R) (hs : R a s) (u t : Nat) (hu : ¬ u < 4500) : R a (hallPulseOp u t s) := by
  have later := h.under_advanceTo hs (s.win.lastPulseAt + t)
  unfold hallPulseOp
  simp only [hu, if_false]
  split
  · rename_i d _
    have pulsed := g.under_drivenPulse later d u t
    generalize drivenPulse d u t (advanceTo (s.win.lastPulseAt + t) s) = v at pulsed ⊢
    exact h.under_pulseSample (h.under_pins pulsed (p := { v.pins with supplySense := u }) rfl) u
  · split
    · exact g.under_coastPulse later
    · exact later

theorem ResetClosed.under_pulseReset (h : ResetClosed R) (hs : R a s) (u t : Nat) (hu : u < 4500) :
    R a (hallPulseOp u t s) := by
  unfold hallPulseOp
  simp only [hu, if_true]
  exact h.under_holdReset (h.under_pins (h.under_advanceTo hs _) rfl)

theorem Closed.under_firstDetent (h : Closed R) (hs : R a s) (d : Direction) : R a (firstDetent d s) := by
  unfold firstDetent
  split
  · exact h.under_localCause hs _
  · exact h.under_localPress (h.under_localCause (h.under_setHold hs _ _) _) d .manual

theorem Closed.under_secondDetent (h : Closed R) (hs : R a s) (d : Direction) : R a (secondDetent d s) := by
  have held := h.under_localCause (h.under_setHold hs (some d) (s.pins.localHold == some d && s.pins.localSpent)) .switch
  unfold secondDetent
  simp only
  split
  · exact held
  · exact h.under_localPress held d .auto

theorem Closed.under_packChanged (h : Closed R) (hs : R a s) (p : Vector SwitchEntry 4) : R a (packChanged p s) := by
  unfold packChanged
  split
  · exact h.under_sendPack (h.under_withWin (h.under_localCause hs .switch) (by rfl))
  · exact hs

theorem Closed.under_switchChanged (h : Closed R) (hs : R a s) (r : LatchPosition) : R a (switchChanged r s) := by
  have read := h.under_pins hs (p := { s.pins with latchSwitch := r }) rfl
  unfold switchChanged
  split
  · exact hs
  · simp only
    split
    · exact h.under_localCause read _
    · exact h.under_latchSame read (by rfl)

theorem Closed.under_latchEdge (h : Closed R) (hs : R a s) : R a (latchEdge s) := by
  have read := h.under_localCause (h.under_latchSame hs (by rfl)
    (l := { s.latch with position := s.pins.latchSwitch, filterEnd := none })) .latch
  unfold latchEdge
  simp only
  split
  · exact h.under_latchOpened (h.under_cancelRelock read)
  · exact h.under_windowLatchClosed read

theorem Closed.under_outerHandleOp (h : Closed R) (hs : R a s) (b : Bool) : R a (outerHandleOp b s) := by
  have moved := h.under_pins hs (p := { s.pins with outerHandle := b }) rfl
  unfold outerHandleOp
  split
  · exact hs
  · simp only
    split
    · exact h.under_outerPull (h.under_localCause moved _)
    · exact moved

theorem GlassCore.under_outerHandlePin (h : GlassCore R) (hs : R a s) (b : Bool) : R a (outerHandlePin b s) := by
  unfold outerHandlePin
  split
  · exact hs
  · exact h.under_pins hs rfl

theorem DecideClosed.under_insideButtonOp (h : DecideClosed R D) (hs : R a s) : D a (insideButtonOp s) := by
  have pressed := h.under_localCause hs .button
  unfold insideButtonOp
  simp only
  split
  · exact h.lift (h.under_localLockChange pressed)
  · exact h.under_mapInsideButton pressed

theorem Closed.under_tailgateButtonOp (h : Closed R) (hs : R a s) : R a (tailgateButtonOp s) := by
  have pressed := h.under_localCause hs .button
  unfold tailgateButtonOp
  split
  · simp only
    split
    · exact h.under_releaseEntry pressed
    · exact h.under_takeTouch pressed _ _
  · exact hs

theorem Closed.under_pulseFailed (h : Closed R) (hs : R a s) (hp : s.latch.pulseEnd.isSome) : R a (pulseFailed s) := by
  obtain ⟨retry, halt⟩ := pulseFailed_steps hp
  unfold pulseFailed
  split
  · rename_i hlt
    exact h.under_latch hs (retry hlt)
  · exact h.under_enterFault (h.under_latch hs halt) _ _

theorem Closed.under_takeCrash (h : Closed R) (hs : R a s) (fr : Frame) (e : Nat) : R a (takeCrash fr e s) := by
  have unlocked := h.under_setLock (h.under_censusSame (h.under_latchSame hs (by rfl)
    (l := { s.latch with crashEnd := some (s.now + 10000000) })) (by rfl) (c := { s.census with statusOwed := true })) .unlocked
  unfold takeCrash
  simp only
  split
  · exact unlocked
  · exact h.under_crashOnSequence (h.under_intentsCrash (h.under_windowCrash unlocked))

/-! ## Intents, keys and searches -/

theorem DecideClosed.under_takeIntent (h : DecideClosed R D) (hs : R a s) (fr : Frame) (e : Nat) :
    D a (takeIntent fr e s) := by
  unfold takeIntent
  split
  · exact h.under_receiveIntent hs _ _
  · exact h.lift hs

theorem Closed.under_takeAck (h : Closed R) (hs : R a s) (fr : Frame) (e : Nat) : R a (takeAck fr e s) := by
  unfold takeAck
  split
  · exact h.under_receiveAck hs _ _
  · exact hs

theorem Closed.under_attemptOver (h : Closed R) (hs : R a s) (t : Tag) : R a (attemptOver t s) := by
  unfold attemptOver
  split
  · exact h.under_attemptExpired hs _
  · exact hs

theorem DecideClosed.under_lockoutOp (h : DecideClosed R D) (hs : R a s) : D a (lockoutOp s) := by
  unfold lockoutOp
  split
  · exact h.under_mapLockout (h.under_localCause hs _)
  · exact h.lift hs

theorem DecideClosed.under_relockOver (h : DecideClosed R D) (hs : R a s) : D a (relockOver s) :=
  h.under_prepare (h.under_wakeCause (h.under_intentSame hs (by rfl)
    (n := { s.intent with relock := none, relockSpent := s.intent.relock })) .relock) _

theorem DecideClosed.under_buttonFrameOp (h : DecideClosed R D) (hs : R a s) (bytes : List Byte) :
    D a (buttonFrameOp bytes s) := by
  have woken := h.under_wakeCause hs .receiver
  unfold buttonFrameOp
  split
  · simp only
    split
    · rename_i f _
      have checked := h.under_checkButton woken f
      unfold takeButton
      split
      · rename_i e
        rw [e] at checked
        exact h.under_mapButton (h.under_localCause checked _) _ _
      · rename_i e
        rw [e] at checked
        exact h.lift checked
    · exact h.lift woken
  · exact h.lift hs

theorem GlassCore.under_suspensionOver (h : GlassCore R) (hs : R a s) (n : Slot) : R a (suspensionOver n s) := by
  unfold suspensionOver
  simp only
  split
  · exact h.under_writeSlot hs n _
  · exact h.under_slots hs _

theorem Closed.under_passiveReplyOp (h : Closed R) (hs : R a s) (bytes : List Byte) : R a (passiveReplyOp bytes s) := by
  have woken := h.under_wakeCause hs .receiver
  unfold passiveReplyOp
  split
  · simp only
    split
    · exact h.under_routeReply woken _
    · exact woken
  · exact hs

theorem StationClosed.under_takeRelay (h : StationClosed R) (hs : R a s) (fr : Frame) (e : Nat) :
    R a (takeRelay fr e s) := by
  unfold takeRelay
  split
  · exact h.under_weighReply hs _
  · exact hs

theorem Closed.under_touchOp (h : Closed R) (hs : R a s) (ar : Area) : R a (touchOp ar s) := by
  unfold touchOp
  split
  · exact hs
  · exact h.under_takeTouch (h.under_localCause hs _) _ _

theorem LatchClosed.under_retryOp (h : LatchClosed R) (hs : R a s) : R a (retryOp s) := by
  unfold retryOp
  split
  · split
    · exact h.under_retryTouch hs _
    · exact hs
  · exact hs

theorem GlassCore.under_takeClaim (h : GlassCore R) (hs : R a s) (fr : Frame) (e : Nat) : R a (takeClaim fr e s) :=
  h.under_withdrawOwnClaim (h.under_addClaim hs _ _ _)

theorem GlassCore.under_takeInterior (h : GlassCore R) (hs : R a s) (fr : Frame) (e : Nat) :
    R a (takeInterior fr e s) := by
  unfold takeInterior
  split
  · exact h.under_hearInterior hs _ _ _ _
  · exact hs

theorem GlassCore.under_takeReport (h : GlassCore R) (hs : R a s) (fr : Frame) (e : Nat) : R a (takeReport fr e s) := by
  unfold takeReport
  split
  · exact h.under_hearReport hs _ _ _ _
  · exact hs

/-- A decision on the open search record, if there is one. -/
theorem DecideClosed.under_withRecordDecide (h : DecideClosed R D) (hs : R a s) {f : SearchRec → State → State}
    (hf : ∀ r, s.search.record = some r → D a (f r s)) : D a (withRecord f s) := by
  unfold withRecord
  split
  · exact hf _ ‹_›
  · exact h.lift hs

theorem under_withRecord (hs : R a s) {f : SearchRec → State → State}
    (hf : ∀ r, s.search.record = some r → R a (f r s)) : R a (withRecord f s) := by
  unfold withRecord
  split
  · exact hf _ ‹_›
  · exact hs

/-! ## Line, census and power -/

theorem StationClosed.under_holdStarts (h : StationClosed R) (hs : R a s) : R a (holdStarts s) := by
  unfold holdStarts
  split
  · exact hs
  · exact h.under_lineSame (h.under_advance hs _) (by rfl)

theorem Closed.under_holdEnds (h : Closed R) (hs : R a s) : R a (holdEnds s) := by
  unfold holdEnds
  split
  · exact h.under_runEnds (h.under_lineSame hs (by rfl)) _
  · exact hs

theorem StationClosed.under_takeCensus (h : StationClosed R) (hs : R a s) (fr : Frame) (e : Nat) :
    R a (takeCensus fr e s) := by
  unfold takeCensus
  split
  · exact h.under_hearCensus hs _ _ _ _ _
  · exact hs

theorem Closed.under_takeAnnouncement (h : Closed R) (hs : R a s) (fr : Frame) (e : Nat) :
    R a (takeAnnouncement fr e s) := by
  unfold takeAnnouncement
  split
  · have entered := h.under_heard (h.under_hearAnnouncement hs fr.origin ‹Announced›) fr.origin
    simp only
    split
    · exact h.under_followPeer entered
    · exact entered
  · exact hs

theorem Closed.under_intervalOver (h : Closed R) (hs : R a s) : R a (intervalOver s) := by
  have restarted := h.under_restartInterval hs
  unfold intervalOver
  simp only
  split
  · exact h.under_moveAgreement restarted
  · exact h.under_balanceFalls restarted

theorem Closed.under_sampleOp (h : Closed R) (hs : R a s) (u : Nat) (hu : ¬ u < 4500) : R a (supplySampleOp u s) := by
  have read := h.under_pins hs (p := { s.pins with supplySense := u }) rfl
  unfold supplySampleOp
  simp only [hu, if_false]
  split
  · exact h.under_periodicSample (h.under_power (h.under_advanceTo read (s.power.sampleAt + 1000)) (by rfl)) u
  · exact read

theorem ResetClosed.under_sampleReset (h : ResetClosed R) (hs : R a s) (u : Nat) (hu : u < 4500) :
    R a (supplySampleOp u s) := by
  have read := h.under_pins hs (p := { s.pins with supplySense := u }) rfl
  unfold supplySampleOp
  simp only [hu, if_true]
  split
  · exact h.under_holdReset (h.under_advanceTo read _)
  · exact h.under_holdReset read

theorem Closed.under_markRead (h : Closed R) (hs : R a s) (us : Nat) : R a (markRead us s) := by
  unfold markRead
  split
  · exact hs
  · exact h.under_readRun (h.under_lineSame hs (by rfl)) _ _

theorem StationClosed.under_driveMark (h : StationClosed R) (hs : R a s) : R a (driveMark s) := by
  unfold driveMark
  split
  · exact h.under_lineSame (h.under_advanceTo hs _) (by rfl)
  · exact hs

theorem StationClosed.under_filterRun (h : StationClosed R) (hs : R a s) (us : Nat) : R a (filterRun us s) := by
  have later := h.under_advance hs us
  unfold filterRun
  split
  · exact hs
  · simp only
    split
    · exact h.under_power later (by rfl)
    · exact later

theorem Closed.under_filterFrame (h : Closed R) (hs : R a s) (bits : List Bool) : R a (filterFrame bits s) := by
  have later := h.under_advance hs ((12 + bitsRead bits) * 20)
  unfold filterFrame
  split
  · exact hs
  · split
    · exact h.under_filterRun hs _
    · simp only
      split
      · exact later
      · split
        · exact later
        · split
          · exact h.under_wakeByLine later
          · exact h.under_spuriousWake later

theorem no_announcementInTx {s : State} (h : announcementAge s = none) : announcementInTx s = false := by
  simp only [announcementAge, Option.map_eq_none_iff, List.find?_eq_none] at h
  simpa [announcementInTx] using h

/-- The quiet timer's expiry may enter SLEEP (R178). -/
theorem EndClosed.under_quietOver (h : EndClosed R D E) (hs : R a s) :
    R a (quietOver s) ∨ (awake (quietOver s) = false ∧ E a (quietOver s)) := by
  unfold quietOver
  split
  · rename_i hready
    split
    · exact .inl (h.under_withdrawAnnouncement (h.under_power hs (by rfl)))
    · rename_i hage
      exact .inr ⟨enterSleep_asleep s, h.sleep (h.lift hs) hready.1 hready.2.1 (no_announcementInTx hage)⟩
  · exact .inl hs

theorem EndClosed.ends_quiet (h : EndClosed R D E) : Ends E s (execSleepQuietTimerExpiry s) := by
  have passed : D s (if awake s then atTime s.power.quietEnd quietOver s else s)
      ∨ (awake (if awake s then atTime s.power.quietEnd quietOver s else s) = false
        ∧ E s (if awake s then atTime s.power.quietEnd quietOver s else s)) := by
    split
    · unfold atTime
      split
      · exact (h.under_quietOver (h.clock _ s)).imp_left h.lift
      · exact .inl (h.lift (h.refl s))
    · exact .inl (h.lift (h.refl s))
  rcases passed with goes | ⟨asleep, ended⟩
  · exact h.ends_decide goes
  · unfold execSleepQuietTimerExpiry whileAwake live liveInput
    split
    · exact ⟨_, rfl, h.rest (h.lift (h.refl s))⟩
    · rw [settle_asleep asleep]
      exact ⟨_, rfl, ended⟩

end

end Sys2Proof.Proofs.Steps
end

section
/-! What every command does: the dispatch, and one step. -/

namespace Sys2Proof.Proofs.Steps

open Sys2Proof Sys2Proof.Machine

section
variable {R D E : State → State → Prop} {s : State}

/-- Every command answers a next state in `E`: a reset where `R` holds across one, CLEAR HALT where `R` holds across it. -/
theorem EndClosed.ends_exec (h : EndClosed R D E) (g : GlassClosed R) (c : Instr) (s : State) (hreset : isReset c = true → ResetClosed R)
    (hclear : c = .clearHalt → ClearClosed R) : Ends E s (exec c s) := by
  cases c with unfold exec
  | hallPulse u t =>
      refine h.ends_liveInput (h.under_senseInReset (h.refl s) u) (h.lift ?_)
      by_cases hu : u < 4500
      · exact (hreset (decide_eq_true hu)).under_pulseReset (h.refl s) u t hu
      · exact h.under_pulseOp g (h.refl s) u t hu
  | coastWindowEnd => exact h.ends_timer fun _ _ ht => h.under_closeCoast ht
  | stall =>
      refine h.ends_awake ?_
      split
      · exact g.under_stalled (h.clock _ s)
      · exact h.refl s
  | startStallPauseEnd => exact h.ends_timer fun _ _ ht => h.under_endStallPause ht
  | closeHoldComplete =>
      refine h.ends_awake ?_
      split
      · exact g.under_closeHold (h.clock _ s)
      · exact h.refl s
  | brakeEnd => exact h.ends_timer fun _ _ ht => h.under_endBrake ht
  | localSwitchFirstDetent d =>
      exact h.ends_liveInput (h.under_setHold (h.refl s) _ _) (h.lift (h.under_firstDetent (h.refl s) d))
  | localSwitchSecondDetent d =>
      exact h.ends_liveInput (h.under_setHold (h.refl s) _ _) (h.lift (h.under_secondDetent (h.refl s) d))
  | localSwitchRelease =>
      exact h.ends_liveInput (h.under_setHold (h.refl s) _ _)
        (h.lift (h.under_dropLostHold (h.under_setHold (h.refl s) none false)))
  | switchPackChange fl fr rl rr =>
      exact h.ends_liveInput (h.under_withWin (h.refl s) (by rfl)) (h.lift (h.under_packChanged (h.refl s) _))
  | switchPackRefresh =>
      refine h.ends_awake ?_
      split
      · exact h.under_atTime fun _ _ ht => h.under_sendPack ht
      · exact h.refl s
  | switchPack => exact h.ends_delivery fun fr e ht => h.under_takePack ht fr e
  | switchPackValidityLapse => exact h.ends_live (h.under_atTime fun _ _ ht => h.under_lapsePack ht)
  | dropLimitExpiry => exact h.ends_timer fun _ _ ht => h.under_dropTimeout ht
  | timedDropEnd => exact h.ends_timer fun _ _ ht => h.under_timedDone ht
  | thermalHardLimit =>
      refine h.ends_awake ?_
      split
      · exact h.under_hardLimit (h.under_advance (h.refl s) _)
      · exact h.refl s
  | pauseLimitExpiry => exact h.ends_timer fun _ _ ht => h.under_endMotion ht _
  | pinchHoldTimerExpiry => exact h.ends_live (h.under_atTime fun _ _ ht => h.under_holdTimerEnds ht)
  | latchSwitchChange r =>
      exact h.ends_liveInput (h.under_pins (h.refl s) rfl) (h.lift (h.under_switchChanged (h.refl s) r))
  | latchEdge => exact h.ends_timer fun _ _ ht => h.under_latchEdge ht
  | outerHandlePull b =>
      exact h.ends_liveInput (h.under_outerHandlePin (h.refl s) b) (h.lift (h.under_outerHandleOp (h.refl s) b))
  | innerHandlePull => exact h.ends_live (h.under_innerPull (h.under_localCause (h.refl s) .handle))
  | insideLockButton => exact h.ends_decide (h.under_insideButtonOp (h.refl s))
  | tailgateButton => exact h.ends_live (h.under_tailgateButtonOp (h.refl s))
  | dropRetryDelayEnd =>
      exact h.ends_timer fun e he ht => h.under_startDrop ht (by simp [he])
  | releasePulseEnd =>
      exact h.ends_timer fun e he ht => h.under_pulseFailed ht (by simp [he])
  | retryWaitEnd =>
      exact h.ends_timer fun e he ht => h.under_enterReleasing ht (.inr (.inl (by simp [he])))
  | supplyWaitExpiry =>
      exact h.ends_timer fun e he ht => h.under_endSequence ht _ (.inr (by simp [he]))
  | crashNotice => exact h.ends_delivery fun fr e ht => h.under_takeCrash ht fr e
  | crashHoldExpiry => exact h.ends_timer fun _ _ ht => h.under_latchSame ht (by rfl)
  | latchIntent => exact h.ends_awakeDecide (h.under_takeHead (h.refl s) fun fr e ht => h.under_takeIntent ht fr e)
  | childIntent => exact h.ends_awakeDecide (h.under_takeHead (h.refl s) fun fr e ht => h.under_takeIntent ht fr e)
  | windowIntent => exact h.ends_awakeDecide (h.under_takeHead (h.refl s) fun fr e ht => h.under_takeIntent ht fr e)
  | intentAck => exact h.ends_delivery fun fr e ht => h.under_takeAck ht fr e
  | attemptTimerExpiry tag => exact h.ends_timer fun _ _ ht => h.under_attemptOver ht tag
  | startHoldTimeout => exact h.ends_timer fun _ _ ht => h.under_intentSame ht (by rfl)
  | driverLockoutSwitch => exact h.ends_decide (h.under_lockoutOp (h.refl s))
  | autoRelockExpiry =>
      exact h.ends_decide (h.under_atTimeDecide fun e _ => h.under_relockOver (h.clock e s))
  | buttonFrame bytes => exact h.ends_decide (h.under_buttonFrameOp (h.refl s) bytes)
  | badCodeWindowEnd n => exact h.ends_live (h.under_atTime fun _ _ ht => h.under_slots ht _)
  | suspensionTimerExpiry n => exact h.ends_live (h.under_atTime fun _ _ ht => h.under_suspensionOver ht n)
  | passiveReply bytes => exact h.ends_live (h.under_passiveReplyOp (h.refl s) bytes)
  | fobRelay => exact h.ends_delivery fun fr e ht => h.under_takeRelay ht fr e
  | unlockAreaTouch => exact h.ends_live (h.under_touchOp (h.refl s) _)
  | lockAreaTouch => exact h.ends_live (h.under_touchOp (h.refl s) _)
  | heldTouchRetry => exact h.ends_awake (h.under_retryOp (h.refl s))
  | heldTouchDrop => exact h.ends_timer fun _ _ ht => h.under_search ht id
  | searchClaim => exact h.ends_delivery fun fr e ht => h.under_takeClaim ht fr e
  | claimExpiry o => exact h.ends_timer fun _ _ ht => h.under_removeClaim ht o
  | entrySearchDecision =>
      exact h.ends_awakeDecide (h.under_atTimeDecide fun e _ =>
        h.under_withRecordDecide (h.clock e s) fun r _ => h.under_decideEntry (h.clock e s) r)
  | outerStageDecision =>
      exact h.ends_awakeDecide (h.under_atTimeDecide fun e _ =>
        h.under_withRecordDecide (h.clock e s) fun r _ => h.under_decideOuter (h.clock e s) r)
  | interiorClaimTimeout => exact h.ends_timer fun _ _ ht => h.under_freeRecord (h.under_abandonClaim ht)
  | interiorSearch => exact h.ends_delivery fun fr e ht => h.under_takeInterior ht fr e
  | slotStart => exact h.ends_timer fun _ _ ht => under_withRecord ht fun _ hr => h.under_startSlot ht hr
  | slotWindowEnd => exact h.ends_timer fun _ _ ht => under_withRecord ht fun _ hr => h.under_endSlot ht hr
  | searchReport => exact h.ends_delivery fun fr e ht => h.under_takeReport ht fr e
  | passiveLockDecision =>
      exact h.ends_awakeDecide (h.under_atTimeDecide fun e _ =>
        h.under_withRecordDecide (h.clock e s) fun r _ => h.under_decidePassive r (h.under_freeRecord (h.clock e s)))
  | challengeBurstEnd => exact h.ends_timer fun _ _ ht => h.under_search ht id
  | frameStart => exact h.ends_awake (h.under_startFrame (h.refl s))
  | arbitrationLoss => exact h.ends_awake (h.under_loseArbitration (h.refl s))
  | bitError => exact h.ends_awake (h.under_meetBitError (h.refl s))
  | frameSent => exact h.ends_awake (h.under_finishFrame (h.refl s))
  | frameReception bits => exact h.ends_awake (h.under_receiveBits (h.refl s) bits)
  | overloadExtensionEnd => exact h.ends_timer fun _ _ ht => h.under_overloadTest (h.under_advance ht _)
  | lineHoldStart => exact h.ends_awake (h.under_holdStarts (h.refl s))
  | lineHoldEnd => exact h.ends_awake (h.under_holdEnds (h.refl s))
  | lineHoldTimeout => exact h.ends_timer fun _ _ ht => h.under_enterLineFault ht _
  | lineFaultRecovery => exact h.ends_timer fun _ _ ht => h.under_recoverLine ht
  | census => exact h.ends_delivery fun fr e ht => h.under_takeCensus ht fr e
  | announcement => exact h.ends_delivery fun fr e ht => h.under_takeAnnouncement ht fr e
  | windowReport => exact h.ends_delivery fun _ _ ht => ht
  | faultNotice => exact h.ends_delivery fun _ _ ht => ht
  | intentOutcome => exact h.ends_delivery fun _ _ ht => ht
  | serviceReply => exact h.ends_delivery fun _ _ ht => ht
  | wake => exact h.ends_delivery fun _ _ ht => ht
  | intervalTimerExpiry => exact h.ends_awake (h.under_intervalOver (h.clock _ s))
  | silenceTimeout peer => exact h.ends_timer fun _ _ ht => h.under_peerSilent ht peer
  | supplySample u =>
      refine h.ends_liveInput (h.under_senseInReset (h.refl s) u) (h.lift ?_)
      by_cases hu : u < 4500
      · exact (hreset (decide_eq_true hu)).under_sampleReset (h.refl s) u hu
      · exact h.under_sampleOp (h.refl s) u hu
  | supplyRise => exact h.ends_timer fun _ _ ht => h.under_supplyRises ht
  | localActivityTimeout => exact h.ends_awake (h.clock _ s)
  | loneTimerExpiry => exact h.ends_timer fun _ _ ht => h.under_enterSleepPending ht
  | wakeMarkDetected us => exact h.ends_awake (h.under_markRead (h.refl s) us)
  | sleepQuietTimerExpiry => exact h.ends_quiet
  | wakeMarkDrive => exact h.ends_awake (h.under_driveMark (h.refl s))
  | wakeMarkEnd => exact h.ends_timer fun _ _ ht => h.under_lineSame ht (by rfl)
  | wakeFilterRun us => exact h.ends_live (h.under_filterRun (h.refl s) us)
  | wakeFilterTimeout => exact h.ends_live (h.under_atTime fun _ _ ht => h.under_spuriousWake ht)
  | wakeFilterFrame bits => exact h.ends_live (h.under_filterFrame (h.refl s) bits)
  | powerOnReset => exact ⟨_, rfl, h.rest (h.lift ((hreset rfl).under_holdReset (h.refl s)))⟩
  | powerOnResetEnd u n =>
      refine ⟨_, rfl, ?_⟩
      unfold atTime
      split
      · have later := h.under_pins (h.clock ‹Nat› s)
          (p := { (advanceTo ‹Nat› s).pins with supplySense := u, storeAnswers := n }) rfl
        unfold resetOver
        simp only
        split
        · exact h.rest (h.lift (h.under_power later (by rfl)))
        · exact h.under_settle (h.lift ((hreset rfl).under_boot later))
      · exact h.rest (h.lift (h.refl s))
  | writeBegin => exact h.ends_awake (h.under_beginWrite (h.refl s))
  | writeAttemptEnd content n => exact h.ends_awake (h.under_endAttempt (h.refl s) content n)
  | patrolStep => exact h.ends_awake (h.under_patrolOp (h.refl s))
  | pairSecret => exact h.ends_service fun q ht => h.under_doPairSecret ht q
  | pairKey => exact h.ends_service fun q ht => h.under_doPairKey ht q
  | removeKey => exact h.ends_service fun q ht => h.under_doRemoveKey ht q
  | pairingBufferExpiry => exact h.ends_timer fun _ _ ht => h.under_storeSame ht (by rfl)
  | clearHalt => exact h.ends_service fun q ht => h.under_doClearHalt (hclear rfl) ht q
  | relearnWindow => exact h.ends_service fun q ht => g.under_doRelearn ht q
  | writeConfig => exact h.ends_service fun q ht => h.under_doWriteConfig ht q
  | readStatus => exact h.ends_service fun q ht => h.under_doReadStatus ht q
  | serviceReset => exact h.ends_service fun q ht => h.under_doServiceReset ht q
  | moveWindow => exact h.ends_service fun q ht => h.under_doMoveWindow ht q
  | serviceRequestUndefinedKind => exact h.ends_service fun q ht => h.under_refuse ht q _
  | serviceResetPerform =>
      refine h.ends_live ?_
      split
      · exact (hreset rfl).under_boot (h.refl s)
      · exact h.refl s
  | flushTimeout => exact h.ends_live (h.under_atTime fun _ _ ht => (hreset rfl).under_boot ht)

end

end Sys2Proof.Proofs.Steps
end

section
/-! Every command completes; every step keeps the line's bounds, the motion, the release sequence, the figures, the
write-back queue and the open intent table. -/

namespace Sys2Proof.Proofs.Invariants

open Sys2Proof Sys2Proof.Machine Sys2Proof.Proofs.Steps

section
variable {R : State → State → Prop}

/-- A relation that watches neither the order keys, the held intent nor the search unit need not tell decisions from
other changes. -/
theorem decideClosed_of_closed (h : Closed R)
    (intent : ∀ s n, n.table = s.intent.table → R s { s with intent := n }) (search : ∀ s x, R s { s with search := x }) :
    DecideClosed R R where
  toClosed := h
  lift := id
  after := h.trans
  key f k hs _ := h.trans hs (intent _ _ (by cases f <;> rfl))
  hold _ hs := h.trans hs (intent _ _ rfl)
  wait _ hs := h.trans hs (search _ _)
  freed _ hs _ _ ht := h.trans hs (h.trans (search _ _) ht)
  unheld {_ s _} hs _ ht := h.trans hs (h.trans (intent s { s.intent with held := none } rfl) ht)

theorem endClosed_of_closed (h : Closed R)
    (intent : ∀ s n, n.table = s.intent.table → R s { s with intent := n }) (search : ∀ s x, R s { s with search := x })
    (sleep : ∀ s, R s (enterSleep s)) : EndClosed R R R where
  toDecideClosed := decideClosed_of_closed h intent search
  rest := id
  sleep hs _ _ _ := h.trans hs (sleep _)

end

/-- The change keeps `P`. -/
abbrev Keeps (P : State → Prop) (a b : State) : Prop := P a → P b

/-- What holds across every command holds across every step. -/
theorem step_keeps {P : State → Prop} (h : EndClosed (Keeps P) (Keeps P) (Keeps P)) (g : GlassClosed (Keeps P))
    (hreset : ResetClosed (Keeps P))
    (hclear : ClearClosed (Keeps P)) (pending : ∀ s l, P s → P { s with pending := l }) {s t : State} (hs : P s)
    (ht : step s = .next t) : P t := by
  unfold step at ht
  split at ht
  · obtain rfl := Host.Outcome.next.inj ht
    exact h.under_advance (h.refl s) 1000 hs
  · rename_i c rest _
    obtain ⟨u, hu, keeps⟩ := h.ends_exec g c { s with pending := rest } (fun _ => hreset) (fun _ => hclear)
    obtain rfl := Host.Outcome.next.inj (hu.symm.trans ht)
    exact keeps (pending s rest hs)

/-! ## Every command completes -/

/-- The queue of waiting commands and the strap lines are untouched, and neither time nor the count of free values goes
back. -/
structure Onward (a b : State) : Prop where
  pending : b.pending = a.pending
  strap : b.pins.strap = a.pins.strap
  now : a.now ≤ b.now
  freeCount : a.freeCount ≤ b.freeCount

theorem Onward.of_same {a b : State}
    (h : (b.pending, b.pins.strap, b.now, b.freeCount) = (a.pending, a.pins.strap, a.now, a.freeCount)) : Onward a b := by
  obtain ⟨hp, hs, hn, hf⟩ := by simpa only [Prod.mk.injEq] using h
  exact ⟨hp, hs, hn.ge, hf.ge⟩

theorem Onward.trans {a b c : State} (h : Onward a b) (k : Onward b c) : Onward a c :=
  ⟨k.pending.trans h.pending, k.strap.trans h.strap, h.now.trans k.now, h.freeCount.trans k.freeCount⟩

theorem onward_latchClosed : LatchClosed Onward where
  refl _ := .of_same rfl
  trans := .trans
  clock t s := ⟨by simp, by simp, by unfold advanceTo; split <;> simp only <;> omega, by simp⟩
  quiet q _ _ := ⟨q.pending, by rw [q.pins], q.now.ge, q.freeCount.ge⟩
  pins _ _ hp := ⟨rfl, hp, le_rfl, le_rfl⟩
  challenge _ := ⟨rfl, rfl, le_rfl, Nat.le_succ _⟩
  glass g := by
    rw [g.eq]
    exact .of_same rfl
  keys _ _ _ _ := .of_same rfl
  search _ e _ := e.trans (.of_same rfl)
  store _ _ _ := .of_same rfl
  latch _ _ _ := .of_same rfl
  input _ := .of_same rfl

theorem onward_glassClosed : GlassClosed Onward :=
  onward_latchClosed.glassClosed_of_free fun g => by
    rw [g.eq]
    exact .of_same rfl

theorem onward_closed : Closed Onward where
  toLatchClosed := onward_latchClosed
  line _ hs _ := hs.trans (.of_same rfl)
  census _ _ _ := .of_same rfl
  power _ _ _ _ := .of_same rfl
  intent _ _ _ := .of_same rfl
  childEngaged s := onward_latchClosed.childEngaged_of_free (fun _ _ => .of_same rfl) s
  childReleased s := onward_latchClosed.childReleased_of_free (fun _ _ => .of_same rfl) s
  awake _ _ _ _ := .of_same rfl

theorem onward_endClosed : EndClosed Onward Onward Onward :=
  endClosed_of_closed onward_closed (fun _ _ _ => .of_same rfl) (fun _ _ => .of_same rfl) fun _ => .of_same rfl

theorem onward_resetClosed : ResetClosed Onward where
  toClosed := onward_closed
  place := onward_glassClosed.place
  blank _ _ _ _ := .of_same rfl
  config _ _ _ _ _ := .of_same rfl
  child _ _ _ _ := .of_same rfl

theorem onward_clearClosed : ClearClosed Onward := fun s => by
  unfold clearHaltOp
  split <;> exact .of_same rfl

/-- Settles O2: what runs onward at each elementary change runs onward at each command. -/
theorem everyCommandCompletes : Obligations.EveryCommandCompletes := by
  intro c s
  obtain ⟨t, ht, on⟩ := onward_endClosed.ends_exec onward_glassClosed c s (fun _ => onward_resetClosed) (fun _ => onward_clearClosed)
  exact ⟨t, ht, on.pending, on.strap, on.now, on.freeCount⟩

/-! ## The line interface's bounds -/

theorem advanceTo_lineBounds (t : Nat) {s : State} (h : LineBounds s) : LineBounds (advanceTo t s) := by
  simpa [LineBounds, AnnouncementsHaveJobs] using h

theorem lineBounds_latchClosed : LatchClosed (Keeps LineBounds) where
  refl _ := id
  trans h k := k ∘ h
  clock t _ := advanceTo_lineBounds t
  quiet _ f _ := f.bounds
  pins _ _ _ := id
  challenge _ := id
  glass g := by
    rw [g.eq]
    exact id
  keys _ _ _ _ := id
  search _ e _ := e
  store _ _ _ := id
  latch _ _ _ := id
  input _ := id

theorem lineBounds_glassClosed : GlassClosed (Keeps LineBounds) :=
  lineBounds_latchClosed.glassClosed_of_free fun g => by
    rw [g.eq]
    exact id

theorem lineBounds_closed : Closed (Keeps LineBounds) where
  toLatchClosed := lineBounds_latchClosed
  line _ hs hl := fun h => hl.bounds h (hs h)
  census _ _ _ := id
  power _ _ _ _ := id
  intent _ _ _ := id
  childEngaged s := lineBounds_latchClosed.childEngaged_of_free (fun _ _ => id) s
  childReleased s := lineBounds_latchClosed.childReleased_of_free (fun _ _ => id) s
  awake _ _ _ _ := id

theorem enterSleep_lineBounds {s : State} (h : LineBounds s) : LineBounds (enterSleep s) := by
  obtain ⟨len, -, ext, failures, empty, jobbed⟩ := (withdraw_txFits (fun p => p.kind == 12) s).bounds h
  exact ⟨len, Nat.zero_le _, ext, failures, empty, jobbed⟩

theorem lineBounds_endClosed : EndClosed (Keeps LineBounds) (Keeps LineBounds) (Keeps LineBounds) :=
  endClosed_of_closed lineBounds_closed (fun _ _ _ => id) (fun _ _ => id)
    fun _ => enterSleep_lineBounds

theorem blank_lineBounds (s : State) (p : Power) : LineBounds { blankState s with power := p } :=
  ⟨by simp [blankState], by simp [blankState, State.reset, framesHeld], by simp [blankState, State.reset],
    by simp [blankState, State.reset], fun _ => rfl, fun _ h => absurd h List.not_mem_nil⟩

theorem lineBounds_resetClosed : ResetClosed (Keeps LineBounds) where
  toClosed := lineBounds_closed
  place := lineBounds_glassClosed.place
  blank s p _ _ := fun _ => blank_lineBounds s p
  config _ _ _ _ _ := id
  child _ _ _ _ := id

theorem lineBounds_clearClosed : ClearClosed (Keeps LineBounds) := fun s => by
  unfold clearHaltOp
  split
  · exact id
  · exact id

/-- Settles O4: each elementary change keeps the bounds, so that each command and each step does. -/
theorem everyStepKeepsLineBounds : Obligations.EveryStepKeepsLineBounds := fun _ _ hs ht =>
  step_keeps lineBounds_endClosed lineBounds_glassClosed lineBounds_resetClosed lineBounds_clearClosed (fun _ _ => id) hs ht

/-! ## Motion state, request and motor -/

theorem motionFits_of_glass {a b : State} (hw : b.win = a.win) (hp : b.pinch = a.pinch) (h : MotionFits a) :
    MotionFits b := by
  simpa only [MotionFits, hw, hp] using h

theorem advanceTo_core (t : Nat) {s : State} : MotionCore s → MotionCore (advanceTo t s) :=
  MotionCore.same (by simp) (by simp) (by simp) (by simp)

theorem core_glassCore : GlassCore (Keeps MotionCore) where
  refl _ := id
  trans h k := k ∘ h
  clock t _ := advanceTo_core t
  quiet q _ _ := by simp only [Keeps, MotionCore, q.win]; exact id
  pins _ _ _ := id
  challenge _ := id
  glass g := g.motion
  keys _ _ _ _ := id
  search _ e _ := e
  store _ _ _ := id

theorem pinchStages_count_le (u t : Nat) (z : Zone) (s : State) : (pinchStages u t z s).count ≤ s.pinch.count + 1 := by
  unfold pinchStages
  simp only
  split
  · exact Nat.le_succ _
  · simp only [addLoad]
    split <;> omega

theorem demandZone_count (z : Zone) (s : State) : (demandZone z s).pinch.count = s.pinch.count := by
  unfold demandZone unlearnZone
  split
  · rw [queueRecord_pinch]
  · rfl

/-- One pulse raises the count by at most 1 (R35). -/
theorem weighedPulse_count_le (u t : Nat) (s : State) : (weighedPulse u t s).pinch.count ≤ s.pinch.count + 1 := by
  show (pinchPulse u t s).pinch.count ≤ _
  unfold pinchPulse
  simp only
  split
  · exact le_of_le_of_eq (pinchStages_count_le _ _ _ _) (by rw [demandZone_count])
  · split
    · exact Nat.le_succ _
    · exact Nat.le_succ _

/-- A declared pinch leaves the count at 0 (R35). -/
theorem declarePinch_count {s : State} (hr : s.win.req ≠ none) : (declarePinch s).pinch.count = 0 := by
  unfold declarePinch
  split
  · exact absurd ‹_› hr
  · simp [enterPinch]

theorem weighPulse_fits (u t : Nat) {s : State} (ho : ∃ d, s.win.motor = .driven d) (h : MotionFits s) :
    MotionFits (weighPulse u t s) := by
  refine MotionCore.fits (core_glassCore.under_weighPulse_of_free (fun g _ => g.motion) (a := s) id u t ho (MotionFits.core h)) ?_
  obtain ⟨d, ho⟩ := ho
  have hle := weighedPulse_count_le u t s
  have hcount := MotionFits.count h
  rw [weighPulse_eq]
  split
  · have hreq : (weighedPulse u t s).win.req = s.win.req := by
      show (passStart (pinchPulse u t s).win).req = _
      rw [passStart_eq, pinchPulse_win]
    rw [declarePinch_count (by rw [hreq]; exact fun e => by simpa [e] using (h.2.1 d ho).2)]
    omega
  · omega

theorem motionFits_latchClosed : LatchClosed (Keeps MotionFits) where
  refl _ := id
  trans h k := k ∘ h
  clock t s := fun h => MotionCore.fits (advanceTo_core t (MotionFits.core h)) (by simpa using MotionFits.count h)
  quiet q _ _ := motionFits_of_glass q.win q.pinch
  pins _ _ _ := id
  challenge _ := id
  glass g := fun h => MotionCore.fits (g.motion (MotionFits.core h)) (g.count (MotionFits.count h))
  keys _ _ _ _ := id
  search _ e _ := e
  store _ _ _ := id
  latch _ _ _ := id
  input _ := id

theorem motionFits_glassClosed : GlassClosed (Keeps MotionFits) where
  toGlassCore := motionFits_latchClosed.toGlassCore
  place g := fun h => MotionCore.fits (g.motion (MotionFits.core h)) (g.count (MotionFits.count h))
  pulse u t _ ho := weighPulse_fits u t ho

theorem motionFits_closed : Closed (Keeps MotionFits) where
  toLatchClosed := motionFits_latchClosed
  line _ hs _ := hs
  census _ _ _ := id
  power _ _ _ _ := id
  intent _ _ _ := id
  childEngaged s := motionFits_latchClosed.childEngaged_of_free (fun _ _ => id) s
  childReleased s := motionFits_latchClosed.childReleased_of_free (fun _ _ => id) s
  awake _ _ _ _ := id

theorem motionFits_endClosed : EndClosed (Keeps MotionFits) (Keeps MotionFits) (Keeps MotionFits) :=
  endClosed_of_closed motionFits_closed (fun _ _ _ => id) (fun _ _ => id) fun _ => id

theorem motionFits_resetClosed : ResetClosed (Keeps MotionFits) where
  toClosed := motionFits_closed
  place := motionFits_glassClosed.place
  blank _ _ _ _ := fun _ => MotionCore.fits (.idle rfl rfl rfl) (Nat.zero_le _)
  config _ _ _ _ _ := id
  child _ _ _ _ := id

theorem motionFits_clearClosed : ClearClosed (Keeps MotionFits) := fun s => by
  unfold clearHaltOp
  split <;> exact id

/-- Settles O5: each elementary change keeps motion, request and motor together, and a weighed pulse the count below 3. -/
theorem everyStepKeepsMotionStateRequestAndMotor : Obligations.EveryStepKeepsMotionStateRequestAndMotor := fun _ _ hs ht =>
  step_keeps motionFits_endClosed motionFits_glassClosed motionFits_resetClosed motionFits_clearClosed (fun _ _ => id) hs ht

end Sys2Proof.Proofs.Invariants
end

section
/-! One step, the state after reset, and what every step keeps of the release sequence, the figures, the write-back
queue and the open intent table. -/

namespace Sys2Proof.Proofs.Invariants

open Sys2Proof Sys2Proof.Machine Sys2Proof.Proofs.Steps

/-- Settles O1: both halves are `step` read out; the idle millisecond goes forward, so that the clock moves. -/
theorem stepRunsTheFrontCommandOrIdles : Obligations.StepRunsTheFrontCommandOrIdles := by
  refine ⟨fun c rest s h => by simp [step, h], fun s h => ?_⟩
  have later : ¬ s.now + 1000 ≤ s.now := by omega
  simp [step, h, advance, advanceTo, later, lineAt]

/-! ## The release sequence -/

/-- The release sequence keeps in step with its timers and, where `halts` says so, a HALTED one stays HALTED. -/
def Fitting (halts : Prop) (a b : State) : Prop :=
  ReleaseFits a → ReleaseFits b ∧ (halts → a.latch.seq = .halted → b.latch.seq = .halted)

variable {halts : Prop}

theorem fitting_same {a b : State} (hl : b.latch = a.latch) : Fitting halts a b := fun fits => by
  simp only [ReleaseFits, hl]
  exact ⟨fits, fun _ => id⟩

theorem fitting_trans {a b c : State} (h : Fitting halts a b) (k : Fitting halts b c) : Fitting halts a c := fun fits => by
  obtain ⟨fitsB, haltsB⟩ := h fits
  obtain ⟨fitsC, haltsC⟩ := k fitsB
  exact ⟨fitsC, fun hh e => haltsC hh (haltsB hh e)⟩

theorem fitting_latchClosed : LatchClosed (Fitting halts) where
  refl _ := fitting_same rfl
  trans := fitting_trans
  clock _ _ := fitting_same (by simp)
  quiet q _ _ := fitting_same q.latch
  pins _ _ _ := fitting_same rfl
  challenge _ := fitting_same rfl
  glass g := fitting_same (by rw [g.eq])
  keys _ _ _ _ := fitting_same rfl
  search _ e _ := fitting_trans e (fitting_same rfl)
  store _ _ _ := fitting_same rfl
  latch _ _ l := fun fits => by
    obtain ⟨fits, stays⟩ := l.release fits
    exact ⟨fits, fun _ => stays⟩
  input _ := fitting_same rfl

/-- A child state that becomes ENGAGED ends an EGRESS in progress (R56). -/
theorem fitting_childEngaged (s : State) :
    Fitting halts s (childOnSequence (queueRecord .latchState { s with latch := { s.latch with child := .engaged } })) := by
  intro fits
  obtain ⟨hkind, hpulse, hwait, hretry, hout, hsupply, hdrop, hretries, hattempts, -⟩ := fits
  unfold childOnSequence
  simp only [queueRecord_latch]
  split
  · rename_i hk
    have running : s.latch.seq ≠ .halted := fun e => by
      have := hkind.2 (.inr e)
      simp [hk.1] at this
    refine ⟨?_, fun _ e => absurd e running⟩
    simp [ReleaseFits, endSequence, withdrawDrop_latch, hattempts]
  · rename_i hk
    have other : s.latch.kind ≠ some .egress := fun e => by
      have running : ¬ (s.latch.seq = .idle ∨ s.latch.seq = .halted) := by simp [← hkind, e]
      cases hq : s.latch.seq <;> simp [e, hq] at hk running
    refine ⟨?_, fun _ e => by simpa using e⟩
    simp only [ReleaseFits, queueRecord_latch]
    exact ⟨hkind, hpulse, hwait, hretry, hout, hsupply, hdrop, hretries, hattempts, fun _ => other⟩

theorem fitting_childReleased (s : State) :
    Fitting halts s (queueRecord .latchState { s with latch := { s.latch with child := .released } }) := by
  rintro ⟨hkind, hpulse, hwait, hretry, hout, hsupply, hdrop, hretries, hattempts, -⟩
  simp only [ReleaseFits, queueRecord_latch]
  exact ⟨⟨hkind, hpulse, hwait, hretry, hout, hsupply, hdrop, hretries, hattempts, nofun⟩, fun _ => id⟩

theorem fitting_glassClosed : GlassClosed (Fitting halts) :=
  fitting_latchClosed.glassClosed_of_free fun g => fitting_same (by rw [g.eq])

theorem fitting_closed : Closed (Fitting halts) where
  toLatchClosed := fitting_latchClosed
  line _ hs _ := fitting_trans hs (fitting_same rfl)
  census _ _ _ := fitting_same rfl
  power _ _ _ _ := fitting_same rfl
  intent _ _ _ := fitting_same rfl
  childEngaged := fitting_childEngaged
  childReleased := fitting_childReleased
  awake _ _ _ _ := fitting_same rfl

theorem fitting_endClosed : EndClosed (Fitting halts) (Fitting halts) (Fitting halts) :=
  endClosed_of_closed fitting_closed (fun _ _ _ => fitting_same rfl) (fun _ _ => fitting_same rfl)
    fun s => fitting_latchClosed.trans (b := { s with latch := { s.latch with filterEnd := none } })
      (fitting_latchClosed.under_latchSame (fitting_same rfl) rfl) (fitting_same rfl)

theorem keeps_of_fitting {a b : State} (h : Fitting False a b) : Keeps ReleaseFits a b := fun fits => (h fits).1

theorem fitting_of_keeps {a b : State} (h : Keeps ReleaseFits a b) : Fitting False a b := fun fits =>
  ⟨h fits, False.elim⟩

theorem blank_releaseFits (s : State) (p : Power) : ReleaseFits { blankState s with power := p } := by
  simp [ReleaseFits, blankState, State.reset]

theorem fitting_resetClosed : ResetClosed (Fitting False) where
  toClosed := fitting_closed
  place := fitting_glassClosed.place
  blank s p _ _ := fitting_of_keeps fun _ => blank_releaseFits s p
  config _ _ _ _ _ := fitting_same rfl
  child s l c hk := fitting_of_keeps fun fits => by
    obtain ⟨hkind, hpulse, hwait, hretry, hout, hsupply, hdrop, hretries, hattempts, -⟩ := fits
    exact ⟨hkind, hpulse, hwait, hretry, hout, hsupply, hdrop, hretries, hattempts, fun _ => by simp [hk]⟩

theorem fitting_clearClosed : ClearClosed (Fitting False) := fun s => by
  unfold clearHaltOp
  split
  · rename_i hq
    refine fitting_of_keeps fun fits => ?_
    obtain ⟨hkind, hpulse, hwait, hretry, hout, hsupply, hdrop, hretries, hattempts, hchild⟩ := fits
    simp only [hq, reduceCtorEq, or_true, iff_true, iff_false, or_self, imp_false] at *
    exact ⟨by simpa [leaveFault, setFault] using hkind, by simpa [leaveFault, setFault] using hpulse,
      by simpa [leaveFault, setFault] using hwait, by simpa [leaveFault, setFault] using hretry,
      by simpa [leaveFault, setFault] using hout, by simpa [leaveFault, setFault] using hsupply, nofun, nofun,
      Nat.zero_le _, hchild⟩
  · exact fitting_same rfl

/-- Settles O6: the first part by the invariant across every elementary change, the second with the HALTED sequence as
well, which only a reset and CLEAR HALT touch. -/
theorem everyStepKeepsTheReleaseSequenceAndHalted : Obligations.EveryStepKeepsTheReleaseSequenceAndHalted := by
  refine ⟨fun s t fits ht => ?_, fun c s t fits ht halted hc hr => ?_⟩
  · unfold step at ht
    split at ht
    · obtain rfl := Host.Outcome.next.inj ht
      exact keeps_of_fitting (fitting_closed.under_advance (fitting_same rfl) 1000) fits
    · rename_i c rest _
      obtain ⟨u, hu, keeps⟩ := fitting_endClosed.ends_exec fitting_glassClosed c { s with pending := rest } (fun _ => fitting_resetClosed)
        fun _ => fitting_clearClosed
      obtain rfl := Host.Outcome.next.inj (hu.symm.trans ht)
      exact keeps_of_fitting keeps fits
  · obtain ⟨u, hu, keeps⟩ := (fitting_endClosed (halts := True)).ends_exec fitting_glassClosed c s (fun e => by simp [e] at hr)
      fun e => absurd e hc
    obtain rfl := Host.Outcome.next.inj (hu.symm.trans ht)
    exact (keeps fits).2 trivial halted

/-! ## The write-back queue -/

theorem distinct_latchClosed : LatchClosed (Keeps QueueDistinct) where
  refl _ := id
  trans h k := k ∘ h
  clock _ _ := by simp [Keeps, QueueDistinct]
  quiet q _ _ := by
    have e := congrArg Store.queue q.store
    simp only [Store.fixed] at e
    simp only [Keeps, QueueDistinct, e]
    exact id
  pins _ _ _ := id
  challenge _ := id
  glass g := by
    rw [g.eq]
    exact id
  keys _ _ _ _ := id
  search _ e _ := e
  store _ _ hq := hq
  latch _ _ _ := id
  input _ := id

theorem distinct_glassClosed : GlassClosed (Keeps QueueDistinct) :=
  distinct_latchClosed.glassClosed_of_free fun g => by
    rw [g.eq]
    exact id

theorem distinct_closed : Closed (Keeps QueueDistinct) where
  toLatchClosed := distinct_latchClosed
  line _ hs _ := hs
  census _ _ _ := id
  power _ _ _ _ := id
  intent _ _ _ := id
  childEngaged s := distinct_latchClosed.childEngaged_of_free (fun _ _ => id) s
  childReleased s := distinct_latchClosed.childReleased_of_free (fun _ _ => id) s
  awake _ _ _ _ := id

theorem distinct_endClosed : EndClosed (Keeps QueueDistinct) (Keeps QueueDistinct) (Keeps QueueDistinct) :=
  endClosed_of_closed distinct_closed (fun _ _ _ => id) (fun _ _ => id) fun _ => id

theorem distinct_resetClosed : ResetClosed (Keeps QueueDistinct) where
  toClosed := distinct_closed
  place := distinct_glassClosed.place
  blank _ _ _ _ := fun _ => List.nodup_nil
  config _ _ _ _ _ := id
  child _ _ _ _ := id

theorem distinct_clearClosed : ClearClosed (Keeps QueueDistinct) := fun s => by
  unfold clearHaltOp
  split <;> exact id

/-! ## The open intent table -/

theorem tableBounds_iff (s : State) : TableBounds s ↔ (s.intent.table.map (·.tag)).length ≤ 4
    ∧ (∀ t ∈ s.intent.table.map (·.tag), t ≠ 15) ∧ (s.intent.table.map (·.tag)).Nodup := by
  simp [TableBounds]

/-- The bounds speak of the tags alone. -/
theorem tableBounds_of_tags {a b : State} (h : b.intent.table.map (·.tag) = a.intent.table.map (·.tag)) :
    Keeps TableBounds a b := by
  simp only [Keeps, tableBounds_iff, h]
  exact id

theorem quiet_tags {a b : State} (q : Quiet a b) : b.intent.table.map (·.tag) = a.intent.table.map (·.tag) := by
  have e := congrArg (List.map OpenEntry.tag) q.table
  rw [List.map_map, List.map_map] at e
  exact e

theorem tableBounds_latchClosed : LatchClosed (Keeps TableBounds) where
  refl _ := id
  trans h k := k ∘ h
  clock _ _ := tableBounds_of_tags (by simp)
  quiet q _ _ := tableBounds_of_tags (quiet_tags q)
  pins _ _ _ := id
  challenge _ := id
  glass g := by
    rw [g.eq]
    exact id
  keys _ _ _ _ := id
  search _ e _ := e
  store _ _ _ := id
  latch _ _ _ := id
  input _ := id

theorem tableBounds_glassClosed : GlassClosed (Keeps TableBounds) :=
  tableBounds_latchClosed.glassClosed_of_free fun g => by
    rw [g.eq]
    exact id

theorem tableBounds_closed : Closed (Keeps TableBounds) where
  toLatchClosed := tableBounds_latchClosed
  line _ hs _ := hs
  census _ _ _ := id
  power _ _ _ _ := id
  intent _ _ hn := hn.table
  childEngaged s := tableBounds_latchClosed.childEngaged_of_free (fun _ _ => id) s
  childReleased s := tableBounds_latchClosed.childReleased_of_free (fun _ _ => id) s
  awake _ _ _ _ := id

theorem tableBounds_endClosed : EndClosed (Keeps TableBounds) (Keeps TableBounds) (Keeps TableBounds) :=
  endClosed_of_closed tableBounds_closed (fun _ _ hn => tableBounds_of_tags (by rw [hn])) (fun _ _ => id) fun _ => id

theorem tableBounds_resetClosed : ResetClosed (Keeps TableBounds) where
  toClosed := tableBounds_closed
  place := tableBounds_glassClosed.place
  blank _ _ _ _ := fun _ => ⟨by simp [blankState, State.reset], by simp [blankState, State.reset],
    by simp [blankState, State.reset]⟩
  config _ _ _ _ _ := id
  child _ _ _ _ := id

theorem tableBounds_clearClosed : ClearClosed (Keeps TableBounds) := fun s => by
  unfold clearHaltOp
  split <;> exact id

/-! ## The figures -/

/-- The figures of the station outside the window controller and the pinch monitor. -/
def CountsInRange (s : State) : Prop :=
  (-4 ≤ s.census.balance ∧ s.census.balance ≤ 4) ∧ s.keys.stale ≤ 65535 ∧ s.keys.bad ≤ 65535
    ∧ s.line.damaged ≤ 65535 ∧ s.line.overruns ≤ 65535 ∧ s.line.txFails ≤ 65535 ∧ s.census.late ≤ 65535
    ∧ s.power.spurious ≤ 65535 ∧ ∀ a : Addr, s.census.peers[a].unresponsive ≤ 255

/-- The figures in three parts: the travel, the glass and the counts. -/
theorem figuresInRange_iff (s : State) :
    FiguresInRange s ↔ (64 ≤ s.cfg.travel ∧ s.cfg.travel ≤ 2048) ∧ GlassFigures s ∧ CountsInRange s := by
  constructor
  · rintro ⟨htravel, hp, hheat, hbal, hrev, hprof, hdrift, hstale, hbad, hdam, hover, hfail, hlate, hspur, hun⟩
    exact ⟨htravel, ⟨hp, hheat, hdrift, hrev, hprof⟩, hbal, hstale, hbad, hdam, hover, hfail, hlate, hspur, hun⟩
  · rintro ⟨htravel, ⟨hp, hheat, hdrift, hrev, hprof⟩, hbal, hstale, hbad, hdam, hover, hfail, hlate, hspur, hun⟩
    exact ⟨htravel, hp, hheat, hbal, hrev, hprof, hdrift, hstale, hbad, hdam, hover, hfail, hlate, hspur, hun⟩

/-- A change of the counts alone. -/
theorem figures_of_counts {a b : State} (hc : b.cfg = a.cfg) (hw : b.win = a.win) (hp : b.pinch = a.pinch)
    (h : CountsInRange a → CountsInRange b) : Keeps FiguresInRange a b := by
  simp only [Keeps, figuresInRange_iff, GlassFigures, hc, hw, hp]
  exact fun ⟨ht, hg, hn⟩ => ⟨ht, hg, h hn⟩

theorem heatAfter_le (w : Window) (us : Nat) (h : w.heat ≤ 90000) : (heatAfter w us).heat ≤ 90000 := by
  unfold heatAfter
  split
  · exact Nat.min_le_left _ _
  · exact le_trans (Nat.sub_le _ _) h

theorem advanceTo_figures (t : Nat) (s : State) (h : FiguresInRange s) : FiguresInRange (advanceTo t s) := by
  obtain ⟨htravel, hp, hheat, hrest⟩ := h
  have heat : (advanceTo t s).win.heat ≤ 90000 := by
    unfold advanceTo
    split
    · exact hheat
    · exact heatAfter_le _ _ hheat
  refine ⟨by simpa using htravel, by simpa using hp, heat, by simpa using hrest⟩

theorem quiet_counts {a b : State} (q : Quiet a b) : CountsInRange a → CountsInRange b := by
  have balance : b.census.balance = a.census.balance := show b.census.fixed.balance = a.census.fixed.balance by rw [q.census]
  have late : b.census.late = a.census.late := show b.census.fixed.late = a.census.fixed.late by rw [q.census]
  have peers : b.census.peers = a.census.peers := show b.census.fixed.peers = a.census.fixed.peers by rw [q.census]
  have damaged : b.line.damaged = a.line.damaged := show b.line.fixed.damaged = a.line.fixed.damaged by rw [q.line]
  have overruns : b.line.overruns = a.line.overruns := show b.line.fixed.overruns = a.line.fixed.overruns by rw [q.line]
  have txFails : b.line.txFails = a.line.txFails := show b.line.fixed.txFails = a.line.fixed.txFails by rw [q.line]
  have spurious : b.power.spurious = a.power.spurious := show b.power.fixed.spurious = a.power.fixed.spurious by rw [q.power]
  simp only [CountsInRange, balance, late, peers, damaged, overruns, txFails, spurious, q.keys]
  exact id

theorem figures_motionStep {s t : State} (g : MotionStep s t) : Keeps FiguresInRange s t := by
  simp only [Keeps, figuresInRange_iff]
  rintro ⟨htravel, hglass, hcounts⟩
  have hcfg : t.cfg = s.cfg := by rw [g.eq]
  refine ⟨hcfg ▸ htravel, g.figures hglass, ?_⟩
  rw [g.eq]
  exact hcounts

theorem figures_latchClosed : LatchClosed (Keeps FiguresInRange) where
  refl _ := id
  trans h k := k ∘ h
  clock := advanceTo_figures
  quiet q _ _ := figures_of_counts q.cfg q.win q.pinch (quiet_counts q)
  pins _ _ _ := id
  challenge _ := id
  glass g := figures_motionStep g.toMotionStep
  keys _ _ hst hbad := figures_of_counts rfl rfl rfl fun ⟨hb, hs, hk, hrest⟩ => ⟨hb, hst hs, hbad hk, hrest⟩
  search _ e _ := e
  store _ _ _ := id
  latch _ _ _ := id
  input _ := id

theorem figures_glassClosed : GlassClosed (Keeps FiguresInRange) :=
  figures_latchClosed.glassClosed_of_free figures_motionStep

theorem figures_closed : Closed (Keeps FiguresInRange) where
  toLatchClosed := figures_latchClosed
  line _ hs hl := figures_latchClosed.trans hs (figures_of_counts rfl rfl rfl
    fun ⟨hb, hst, hk, hd, ho, ht, hrest⟩ => ⟨hb, hst, hk, hl.damaged hd, hl.overruns ho, hl.txFails ht, hrest⟩)
  census _ _ hc := figures_of_counts rfl rfl rfl
    fun ⟨hb, hst, hk, hd, ho, ht, hlate, hspur, hun⟩ =>
      ⟨hc.balance hb, hst, hk, hd, ho, ht, hc.late hlate, hspur, hc.unresponsive hun⟩
  power _ _ _ hp := figures_of_counts rfl rfl rfl
    fun ⟨hb, hst, hk, hd, ho, ht, hlate, hspur, hun⟩ => ⟨hb, hst, hk, hd, ho, ht, hlate, hp hspur, hun⟩
  intent _ _ _ := id
  childEngaged s := figures_latchClosed.childEngaged_of_free (fun _ _ => id) s
  childReleased s := figures_latchClosed.childReleased_of_free (fun _ _ => id) s
  awake _ _ _ hp := figures_of_counts rfl rfl rfl
    fun ⟨hb, hst, hk, hd, ho, ht, hlate, hspur, hun⟩ => ⟨hb, hst, hk, hd, ho, ht, hlate, hp hspur, hun⟩

theorem figures_endClosed : EndClosed (Keeps FiguresInRange) (Keeps FiguresInRange) (Keeps FiguresInRange) :=
  endClosed_of_closed figures_closed (fun _ _ _ => id) (fun _ _ => id) fun _ => id

theorem blank_figures (s : State) {p : Power} (hp : p.spurious = 0) : FiguresInRange { blankState s with power := p } := by
  rw [figuresInRange_iff]
  refine ⟨by simp [blankState, State.reset, resetSettings], ⟨?_, ?_, ?_, ?_, fun z => ?_⟩, ?_, ?_, ?_, ?_, ?_, ?_, ?_,
    by simp [hp], fun a => ?_⟩
  all_goals simp [blankState, State.reset, resetSettings, resetZone, resetPeer]

theorem figures_resetClosed : ResetClosed (Keeps FiguresInRange) where
  toClosed := figures_closed
  place := figures_glassClosed.place
  blank s _ _ hp := fun _ => blank_figures s hp
  config _ _ _ hc hp := by
    rintro ⟨-, -, hrest⟩
    exact ⟨hc, by simp only [hp]; omega, hrest⟩
  child _ _ _ _ := id

theorem figures_clearClosed : ClearClosed (Keeps FiguresInRange) := fun s => by
  unfold clearHaltOp
  split <;> exact id

/-- Settles O7: each elementary change keeps the figures in range, the queue distinct and the tags distinct. -/
theorem everyStepKeepsFiguresQueueAndTable : Obligations.EveryStepKeepsFiguresQueueAndTable :=
  ⟨fun _ _ hs ht => step_keeps figures_endClosed figures_glassClosed figures_resetClosed figures_clearClosed (fun _ _ => id) hs ht,
    fun _ _ hs ht => step_keeps distinct_endClosed distinct_glassClosed distinct_resetClosed distinct_clearClosed (fun _ _ => id) hs ht,
    fun _ _ hs ht => step_keeps tableBounds_endClosed tableBounds_glassClosed tableBounds_resetClosed tableBounds_clearClosed (fun _ _ => id) hs ht⟩

theorem reset_lineBounds : LineBounds State.reset :=
  ⟨by simp [State.reset], by simp [State.reset, framesHeld], by simp [State.reset], by simp [State.reset],
    fun h => absurd rfl h, by simp [AnnouncementsHaveJobs, State.reset]⟩

/-- Settles O3: but for its frames, the state after reset is the blank one in what the invariants read. -/
theorem resetMeetsTheInvariants : Obligations.ResetMeetsTheInvariants := by
  refine ⟨reset_lineBounds, ⟨by simp [State.reset], by simp [State.reset], by simp [State.reset]⟩,
    MotionCore.fits (.idle rfl rfl rfl) (Nat.zero_le _), blank_releaseFits State.reset State.reset.power, List.nodup_nil, ?_⟩
  exact blank_figures State.reset (p := State.reset.power) rfl

end Sys2Proof.Proofs.Invariants
end

section
/-! Last-applied keys rise by higher keys: a command decides at most one intent. -/

namespace Sys2Proof.Proofs.Keys

open Sys2Proof Sys2Proof.Machine Sys2Proof.Proofs.Steps

/-! ## What keeps the last-applied keys -/

/-- Every last-applied key is the same. -/
def KeysKept (a b : State) : Prop := ∀ f, lastKey f b.intent = lastKey f a.intent

theorem keysKept_of_intent {a b : State} (h : b.intent = a.intent) : KeysKept a b := fun f => by rw [h]

theorem KeysKept.trans {a b c : State} (h : KeysKept a b) (k : KeysKept b c) : KeysKept a c := fun f =>
  (k f).trans (h f)

theorem keysKept_quiet {a b : State} (q : Quiet a b) : KeysKept a b := fun f => by
  have e : lastKey f b.intent.fixed = lastKey f a.intent.fixed := by rw [q.intent]
  cases f <;> exact e

theorem keysKept_latchClosed : LatchClosed KeysKept where
  refl _ := keysKept_of_intent rfl
  trans := .trans
  clock _ _ := keysKept_of_intent (by simp)
  quiet q _ _ := keysKept_quiet q
  pins _ _ _ := keysKept_of_intent rfl
  challenge _ := keysKept_of_intent rfl
  glass g := keysKept_of_intent (by rw [g.eq])
  keys _ _ _ _ := keysKept_of_intent rfl
  search _ e _ := e
  store _ _ _ := keysKept_of_intent rfl
  latch _ _ _ := keysKept_of_intent rfl
  input _ := keysKept_of_intent rfl

theorem keysKept_glassClosed : GlassClosed KeysKept :=
  keysKept_latchClosed.glassClosed_of_free fun g => keysKept_of_intent (by rw [g.eq])

theorem keysKept_closed : Closed KeysKept where
  toLatchClosed := keysKept_latchClosed
  line _ hs _ := hs
  census _ _ _ := keysKept_of_intent rfl
  power _ _ _ _ := keysKept_of_intent rfl
  intent _ _ hn := hn.lastKey
  childEngaged s := keysKept_latchClosed.childEngaged_of_free (fun _ _ => keysKept_of_intent rfl) s
  childReleased s := keysKept_latchClosed.childReleased_of_free (fun _ _ => keysKept_of_intent rfl) s
  awake _ _ _ _ := keysKept_of_intent rfl

/-! ## One decision -/

theorem lastKey_setLastKey (f g : Family) (k : OrderKey) (n : Intents) :
    lastKey f (setLastKey g k n) = if f = g then k else lastKey f n := by
  cases f <;> cases g <;> rfl

/-- The decision of one intent (R80). -/
theorem decideIntent_keys (k : IntentKind) (key : OrderKey) (s : State) (f : Family) :
    lastKey f (decideIntent k key s).2.2.intent = lastKey f s.intent
      ∨ (f = k.family ∧ lastKey f (decideIntent k key s).2.2.intent = key ∧ keyHigher key (lastKey f s.intent) = true) := by
  unfold decideIntent
  split
  · exact .inl rfl
  · split
    · rename_i hkey
      have applied := keysKept_closed.under_applyKind
        (keysKept_of_intent (a := { s with intent := setLastKey k.family key s.intent }) rfl) k f
      simp only [lastKey_setLastKey] at applied
      split at applied
      · rename_i hf
        exact .inr ⟨hf, applied, hf ▸ hkey⟩
      · exact .inl applied
    · split <;> exact .inl rfl

/-! ## At most one decision in a command -/

/-- No intent is held and no INTERIOR SEARCH waits to be queued, so that nothing is to be decided at the end of a
command. -/
def Unpending (s : State) : Prop := s.intent.held = none ∧ NoInterior s

/-- No intent has been decided, and none is to be that was not to be. -/
structure Undecided (a b : State) : Prop where
  keys : KeysKept a b
  held : a.intent.held = none → b.intent.held = none
  interior : NoInterior a → NoInterior b

/-- Each last-applied key is the same or has been raised. -/
def KeysRisen (a b : State) : Prop := ∀ f,
  lastKey f b.intent = lastKey f a.intent ∨ keyHigher (lastKey f b.intent) (lastKey f a.intent) = true

/-- At most one intent has been decided or is to be: one that is held or one whose INTERIOR SEARCH waits. -/
def Decided (a b : State) : Prop := Unpending a →
  (KeysKept a b ∧ (b.intent.held = none ∨ NoInterior b)) ∨ (KeysRisen a b ∧ Unpending b)

theorem undecided_of_same {a b : State} (hi : b.intent = a.intent) (hr : b.search.record = a.search.record) :
    Undecided a b := ⟨keysKept_of_intent hi, fun held => hi ▸ held, fun none => by simpa only [NoInterior, hr] using none⟩

theorem Undecided.trans {a b c : State} (h : Undecided a b) (k : Undecided b c) : Undecided a c :=
  ⟨h.keys.trans k.keys, k.held ∘ h.held, k.interior ∘ h.interior⟩

theorem undecided_latchClosed : LatchClosed Undecided where
  refl _ := undecided_of_same rfl rfl
  trans := .trans
  clock _ _ := undecided_of_same (by simp) (by simp)
  quiet q _ n := ⟨keysKept_quiet q, fun held => by rw [q.held, held], n⟩
  pins _ _ _ := undecided_of_same rfl rfl
  challenge _ := undecided_of_same rfl rfl
  glass g := undecided_of_same (by rw [g.eq]) (by rw [g.eq])
  keys _ _ _ _ := undecided_of_same rfl rfl
  search _ e n := ⟨e.keys, e.held, n⟩
  store _ _ _ := undecided_of_same rfl rfl
  latch _ _ _ := undecided_of_same rfl rfl
  input _ := undecided_of_same rfl rfl

theorem undecided_glassClosed : GlassClosed Undecided :=
  undecided_latchClosed.glassClosed_of_free fun g => undecided_of_same (by rw [g.eq]) (by rw [g.eq])

theorem undecided_closed : Closed Undecided where
  toLatchClosed := undecided_latchClosed
  line _ hs _ := hs.trans (undecided_of_same rfl rfl)
  census _ _ _ := undecided_of_same rfl rfl
  power _ _ _ _ := undecided_of_same rfl rfl
  intent _ _ hn := ⟨hn.lastKey, hn.held, id⟩
  childEngaged s := undecided_latchClosed.childEngaged_of_free (fun _ _ => undecided_of_same rfl rfl) s
  childReleased s := undecided_latchClosed.childReleased_of_free (fun _ _ => undecided_of_same rfl rfl) s
  awake _ _ _ _ := undecided_of_same rfl rfl

theorem Undecided.unpending {a b : State} (h : Undecided a b) (hu : Unpending a) : Unpending b :=
  ⟨h.held hu.1, h.interior hu.2⟩

/-- What is decided after no decision counts from the state before. -/
theorem decided_before {a b c : State} (h : KeysKept a b) (hb : Unpending b) (k : Decided b c) : Decided a c := by
  intro _
  rcases k hb with ⟨keys, waits⟩ | ⟨raised, done⟩
  · exact .inl ⟨h.trans keys, waits⟩
  · exact .inr ⟨fun f => h f ▸ raised f, done⟩

theorem decided_after {a b c : State} (h : Decided a b) (k : Undecided b c) : Decided a c := by
  intro pre
  rcases h pre with ⟨keys, waits⟩ | ⟨raised, mid⟩
  · exact .inl ⟨keys.trans k.keys, waits.imp k.held k.interior⟩
  · exact .inr ⟨fun f => by rw [k.keys f]; exact raised f, k.unpending mid⟩

theorem decided_decideClosed : DecideClosed Undecided Decided where
  toClosed := undecided_closed
  lift h := fun pre => .inl ⟨h.keys, .inl (h.held pre.1)⟩
  after := decided_after
  key {a s} f k h hk := by
    intro pre
    obtain ⟨held, interior⟩ := h.unpending pre
    refine .inr ⟨fun g => ?_, by cases f <;> exact held, interior⟩
    simp only [lastKey_setLastKey]
    split
    · rename_i hg
      rw [← h.keys g, hg]
      exact .inr hk
    · exact .inl (h.keys g)
  hold _ h := fun pre => .inl ⟨h.keys, .inr (h.interior pre.2)⟩
  wait _ h := fun pre => .inl ⟨h.keys, .inl (h.held pre.1)⟩
  freed {a s t} x h hn hx ht := by
    intro pre
    rcases h pre with ⟨keys, waits⟩ | ⟨-, -, hno⟩
    · exact decided_before (b := { s with search := x }) keys ⟨waits.resolve_right hn, hx⟩ ht pre
    · exact absurd hno hn
  unheld {a s t} h hh ht := by
    intro pre
    rcases h pre with ⟨keys, waits⟩ | ⟨-, hno, -⟩
    · exact decided_before (b := { s with intent := { s.intent with held := none } })
        (fun f => by rw [← keys f]; cases f <;> rfl) ⟨rfl, waits.resolve_left hh⟩ ht pre
    · exact absurd hno hh

theorem decided_endClosed : EndClosed Undecided Decided Decided where
  toDecideClosed := decided_decideClosed
  rest := id
  sleep h _ _ _ := decided_after h (undecided_of_same rfl rfl)

/-- Settles O9: one decision raises the key of its family directly; a command that finds nothing pending decides at most
once. -/
theorem lastAppliedKeysRiseByHigherKeys : Obligations.LastAppliedKeysRiseByHigherKeys := by
  refine ⟨decideIntent_keys, fun c s t f held interior ht hr => ?_⟩
  obtain ⟨u, hu, decided⟩ := decided_endClosed.ends_exec undecided_glassClosed c s (fun e => by simp [e] at hr)
    fun _ s => by
      unfold clearHaltOp
      split <;> exact undecided_of_same rfl rfl
  obtain rfl := Host.Outcome.next.inj (hu.symm.trans ht)
  rcases decided ⟨held, interior⟩ with ⟨keys, -⟩ | ⟨raised, -⟩
  · exact .inl (keys f)
  · exact raised f

end Sys2Proof.Proofs.Keys
end

section
/-! SLEEP is entered with nothing running, keeps so, and is left by wakes and resets. -/

namespace Sys2Proof.Proofs.Sleep

open Sys2Proof Sys2Proof.Machine Sys2Proof.Proofs.Steps Sys2Proof.Proofs.Invariants

/-! ## A station that is awake -/

/-- The jobs of the ANNOUNCEMENTs are kept, and SLEEP is not entered. -/
structure Wary (a b : State) : Prop where
  jobs : AnnouncementsHaveJobs a → AnnouncementsHaveJobs b
  awake : a.power.state ≠ .sleep → b.power.state ≠ .sleep

theorem wary_of_same {a b : State} (h : (b.line.tx, b.power.state) = (a.line.tx, a.power.state)) : Wary a b := by
  obtain ⟨htx, hstate⟩ := by simpa only [Prod.mk.injEq] using h
  exact ⟨fun jobs => by rw [AnnouncementsHaveJobs, htx]; exact jobs, fun up => hstate ▸ up⟩

theorem Wary.trans {a b c : State} (h : Wary a b) (k : Wary b c) : Wary a c := ⟨k.jobs ∘ h.jobs, k.awake ∘ h.awake⟩

theorem quiet_powerState {a b : State} (q : Quiet a b) : b.power.state = a.power.state := by
  have fixed : b.power.fixed.state = a.power.fixed.state := by rw [q.power]
  exact fixed

theorem wary_latchClosed : LatchClosed Wary where
  refl _ := wary_of_same rfl
  trans := .trans
  clock _ _ := wary_of_same (by simp)
  quiet q f _ := ⟨f.jobs, fun up => quiet_powerState q ▸ up⟩
  pins _ _ _ := wary_of_same rfl
  challenge _ := wary_of_same rfl
  glass g := by
    rw [g.eq]
    exact wary_of_same rfl
  keys _ _ _ _ := wary_of_same rfl
  search _ e _ := ⟨e.jobs, e.awake⟩
  store _ _ _ := wary_of_same rfl
  latch _ _ _ := wary_of_same rfl
  input _ := wary_of_same rfl

theorem wary_glassClosed : GlassClosed Wary :=
  wary_latchClosed.glassClosed_of_free fun g => by
    rw [g.eq]
    exact wary_of_same rfl

theorem wary_closed : Closed Wary where
  toLatchClosed := wary_latchClosed
  line _ hs hl := ⟨hl.jobs ∘ hs.jobs, hs.awake⟩
  census _ _ _ := wary_of_same rfl
  power _ _ hp _ := wary_of_same (by rw [hp])
  intent _ _ _ := wary_of_same rfl
  childEngaged s := wary_latchClosed.childEngaged_of_free (fun _ _ => wary_of_same rfl) s
  childReleased s := wary_latchClosed.childReleased_of_free (fun _ _ => wary_of_same rfl) s
  awake _ _ hp _ := ⟨id, fun _ => hp⟩

theorem wary_decideClosed : DecideClosed Wary Wary :=
  decideClosed_of_closed wary_closed (fun _ _ _ => wary_of_same rfl) fun _ _ => wary_of_same rfl

/-- A station that was awake has entered SLEEP only as R178 gives. -/
def Drowses (a b : State) : Prop :=
  AnnouncementsHaveJobs a → a.power.state ≠ .sleep → b.power.state = .sleep → SleepFits b

/-- A sleep-ready station with no ANNOUNCEMENT in transmission has nothing to send once those that wait are withdrawn
(R174, R178). -/
theorem enterSleep_fits {s : State} (hjobs : AnnouncementsHaveJobs s) (hready : sleepReady s = true)
    (hnone : announcementInTx s = false) : SleepFits (enterSleep s) := by
  simp only [sleepReady, storeIdle, crashHold, inLineFault, Bool.and_eq_true, Bool.or_eq_true, beq_iff_eq,
    List.isEmpty_iff, Option.isNone_iff_eq_none, List.all_eq_true, Bool.not_eq_true', bne_iff_ne, decide_eq_true_eq,
    Option.isSome_eq_false_iff] at hready
  obtain ⟨⟨⟨⟨⟨⟨⟨⟨⟨⟨idle, seq⟩, table⟩, held⟩, record⟩, touch⟩, own⟩, queue, writing⟩, crash⟩, -⟩, announced⟩ := hready
  have empty : (withdrawAnnouncement s).line.tx = [] := by
    refine List.filter_eq_nil_iff.2 fun e he => ?_
    have job := hjobs e he (own e he)
    have waits : e.inTx = false := by
      simp only [announcementInTx, List.any_eq_false, Bool.and_eq_true, not_and, Bool.not_eq_true] at hnone
      exact hnone e he (own e he)
    have kind : e.frame.payload.kind = 12 := by
      have := own e he
      unfold isAnnouncement at this
      split at this
      · rename_i hp
        rw [hp]
        rfl
      · exact absurd this Bool.false_ne_true
    simp [waits, kind, job]
  exact ⟨idle, seq, table, held, record, touch, queue, writing, crash, announced, empty, rfl⟩

theorem drowses_endClosed : EndClosed Wary Wary Drowses where
  toDecideClosed := wary_decideClosed
  rest h := fun _ up asleep => absurd asleep (h.awake up)
  sleep h _ hready hnone := fun jobs _ _ => enterSleep_fits (h.jobs jobs) hready hnone

theorem blank_wary (s : State) {p : Power} (hp : p.state = .run) : Wary s { blankState s with power := p } :=
  ⟨fun _ _ h => absurd h List.not_mem_nil, fun _ => by simp [hp]⟩

theorem wary_resetClosed : ResetClosed Wary where
  toClosed := wary_closed
  place := wary_glassClosed.place
  blank s _ hp _ := blank_wary s hp
  config _ _ _ _ _ := wary_of_same rfl
  child _ _ _ _ := wary_of_same rfl

theorem wary_clearClosed : ClearClosed Wary := fun s => by
  unfold clearHaltOp
  split <;> exact wary_of_same rfl

/-! ## A station in SLEEP -/

/-- The station sleeps on, with nothing running. -/
def Slumbers (s t : State) : Prop := t.power.state = .sleep ∧ (MotionFits s → SleepFits s → SleepFits t)

theorem slumbers_of_same {s t : State} (asleep : s.power.state = .sleep)
    (h : (t.power.state, t.win.motion, t.latch, t.intent, t.search, t.store, t.census)
      = (s.power.state, s.win.motion, s.latch, s.intent, s.search, s.store, s.census))
    (hn : (t.line.state, t.line.tx, t.line.rx) = (s.line.state, s.line.tx, s.line.rx)) : Slumbers s t := by
  obtain ⟨hs, hm, hl, hi, hx, hst, hc⟩ := by simpa only [Prod.mk.injEq] using h
  obtain ⟨hline, htx, hrx⟩ := by simpa only [Prod.mk.injEq] using hn
  exact ⟨hs.trans asleep, fun _ fits => by simpa only [SleepFits, hm, hl, hi, hx, hst, hc, hline, htx, hrx] using fits⟩

theorem slumbers_refl {s : State} (asleep : s.power.state = .sleep) : Slumbers s s := slumbers_of_same asleep rfl rfl

theorem slumbers_advanceTo {s : State} (asleep : s.power.state = .sleep) (t : Nat) : Slumbers s (advanceTo t s) :=
  slumbers_of_same asleep (by simp) (by simp)

/-- The station has woken, and what followed keeps the jobs of the ANNOUNCEMENTs. -/
def Woken (s t : State) : Prop :=
  ∃ u, u.power.state ≠ .sleep ∧ (AnnouncementsHaveJobs s → AnnouncementsHaveJobs u) ∧ Wary u t

theorem Woken.under {s t t' : State} (h : Woken s t) (k : ∀ {a}, Wary a t → Wary a t') : Woken s t' := by
  obtain ⟨u, up, jobs, wary⟩ := h
  exact ⟨u, up, jobs, k wary⟩

theorem woken_blank (s t : State) {p : Power} (hp : p.state = .run) : Woken s { blankState t with power := p } :=
  ⟨{ blankState t with power := p }, by simp [hp], fun _ _ h => absurd h List.not_mem_nil, wary_of_same rfl⟩

theorem woken_holdReset (s t : State) : Woken s (holdReset t) := woken_blank s t (by rfl)

theorem woken_boot (s t : State) : Woken s (boot t) :=
  (woken_blank s t (p := { firstSample t.pins.supplySense t.now State.reset.power with localAt := t.now }) (by rfl)).under
    fun woken => wary_resetClosed.under_loadedBoot woken

/-- The state whose power manager alone has woken. -/
theorem woken_power {s s' : State} (h : s'.line.tx = s.line.tx) {f : State → State}
    (k : Wary { s' with power := wokenPower s' } (f s')) : Woken s (f s') :=
  ⟨{ s' with power := wokenPower s' }, by simp [wokenPower],
    fun jobs => by show AnnouncementsHaveJobs s'; rw [AnnouncementsHaveJobs, h]; exact jobs, k⟩

theorem woken_localCause {s s' : State} (asleep : s'.power.state = .sleep) (h : s'.line.tx = s.line.tx) (c : WakeCause) :
    Woken s (localCause c s') := by
  refine woken_power (f := localCause c) h ?_
  simp only [localCause, asleep]
  exact wary_closed.under_localInput (wary_closed.under_wokenLocally (wary_closed.refl _) c)

theorem woken_wakeCause {s s' : State} (asleep : s'.power.state = .sleep) (h : s'.line.tx = s.line.tx) (c : WakeCause) :
    Woken s (wakeCause c s') := by
  refine woken_power (f := wakeCause c) h ?_
  simp only [wakeCause, asleep, if_true]
  exact wary_closed.under_wokenLocally (wary_closed.refl _) c

/-- A command at a sleeping station: it answers a state that has nothing running if it sleeps, and one that sleeps
unless the command is a reset or may wake. -/
def Dozes (c : Instr) (s : State) (o : Host.Outcome State Fault Refusal) : Prop :=
  ∃ t, o = .next t
    ∧ (AnnouncementsHaveJobs s → MotionFits s → SleepFits s → t.power.state = .sleep → SleepFits t)
    ∧ (isReset c = false → mayWake c = false → t.power.state = .sleep)

section
variable {c : Instr} {s : State}

theorem dozes_next {t : State} (h : Slumbers s t) : Dozes c s (.next t) :=
  ⟨t, rfl, fun _ moves fits _ => h.2 moves fits, fun _ _ => h.1⟩

theorem settle_slumbers {t : State} (h : Slumbers s t) : settle t = t := settle_asleep (by simp [awake, h.1])

theorem dozes_liveInput {pin f : State → State} (hpin : Slumbers s (pin s)) (hf : Slumbers s (f s)) :
    Dozes c s (liveInput pin f s) := by
  unfold liveInput
  split
  · exact dozes_next hpin
  · rw [settle_slumbers hf]
    exact dozes_next hf

/-- A command that may wake the station or reset it. -/
theorem dozes_stirred {pin f : State → State} (hc : isReset c = true ∨ mayWake c = true) (hpin : Slumbers s (pin s))
    (hf : Slumbers s (f s) ∨ Woken s (f s)) : Dozes c s (liveInput pin f s) := by
  rcases hf with rests | ⟨u, up, jobs, wary⟩
  · exact dozes_liveInput hpin rests
  · unfold liveInput
    split
    · exact dozes_next hpin
    · refine ⟨_, rfl, fun had _ _ => drowses_endClosed.under_settle wary (jobs had) up, fun hr hm => ?_⟩
      simp [hr, hm] at hc

end

section
variable {s : State}

theorem dozes_whileAwake {c : Instr} (asleep : s.power.state = .sleep) (f : State → State) :
    Dozes c s (whileAwake f s) :=
  dozes_liveInput (slumbers_of_same asleep rfl rfl) (by simpa [awake, asleep] using slumbers_of_same asleep rfl rfl)

/-- A driven pulse keeps the power state; a sleeping station that moves nothing only takes its time (R178). -/
def SameState (a b : State) : Prop := b.power.state = a.power.state

theorem sameState_latchClosed : LatchClosed SameState where
  refl _ := rfl
  trans h k := k.trans h
  clock _ _ := by simp [SameState]
  quiet q _ _ := quiet_powerState q
  pins _ _ _ := rfl
  challenge _ := rfl
  glass g := by
    rw [g.eq]
    exact rfl
  keys _ _ _ _ := rfl
  search _ e _ := e
  store _ _ _ := rfl
  latch _ _ _ := rfl
  input _ := rfl

theorem sameState_glassClosed : GlassClosed SameState :=
  sameState_latchClosed.glassClosed_of_free fun g => by
    rw [g.eq]
    exact rfl

theorem sameState_stationClosed : StationClosed SameState where
  toLatchClosed := sameState_latchClosed
  line _ hs _ := hs
  census _ _ _ := rfl
  power _ _ hp _ := hp

theorem slumbers_hallPulse (asleep : s.power.state = .sleep) {u : Nat} (hu : ¬ u < 4500) (t : Nat) :
    Slumbers s (hallPulseOp u t s) := by
  have later := slumbers_advanceTo asleep (s.win.lastPulseAt + t)
  unfold hallPulseOp
  simp only [hu, if_false]
  split
  · rename_i d hd
    refine ⟨?_, fun moves fits => ?_⟩
    · have pulsed := sameState_glassClosed.under_drivenPulse (sameState_stationClosed.clock (s.win.lastPulseAt + t) s) d u t
      generalize drivenPulse d u t (advanceTo (s.win.lastPulseAt + t) s) = v at pulsed ⊢
      exact (sameState_stationClosed.under_pulseSample
        (sameState_stationClosed.under_pins pulsed (p := { v.pins with supplySense := u }) rfl) u).trans asleep
    · obtain ⟨-, driven, -⟩ := moves
      obtain ⟨idle, -⟩ := fits
      simp [idle] at driven
      simp [driven] at hd
  · simpa [awake, asleep] using later

theorem slumbers_dropLostHold {s' : State} (h : Slumbers s s') (hreq : s'.win.req = s.win.req) :
    Slumbers s (dropLostHold s') := by
  refine ⟨(sameState_latchClosed.under_dropLostHold (sameState_latchClosed.refl s')).trans h.1, fun moves fits => ?_⟩
  have none : s'.win.req = .none := hreq.trans (moves.1.1 fits.1)
  unfold dropLostHold
  rw [none]
  exact h.2 moves fits

theorem slumbers_atTime (asleep : s.power.state = .sleep) {o : Option Nat} {f : State → State}
    (hf : ∀ e, Slumbers s (f (advanceTo e s))) : Slumbers s (atTime o f s) := by
  unfold atTime
  split
  · exact hf _
  · exact slumbers_of_same asleep rfl rfl

theorem slumbers_filterRun (asleep : s.power.state = .sleep) (us : Nat) : Slumbers s (filterRun us s) := by
  unfold filterRun
  split
  · exact slumbers_of_same asleep rfl rfl
  · simp only
    split
    · exact slumbers_of_same asleep (by simp [advance]) (by simp [advance])
    · exact slumbers_advanceTo asleep _

theorem slumbers_spuriousWake {s' : State} (h : Slumbers s s') :
    Slumbers s (spuriousWake s') := ⟨h.1, h.2⟩

theorem stirs_filterFrame (asleep : s.power.state = .sleep) (bits : List Bool) :
    Slumbers s (filterFrame bits s) ∨ Woken s (filterFrame bits s) := by
  have later := slumbers_advanceTo asleep (s.now + (12 + bitsRead bits) * 20)
  unfold filterFrame
  split
  · exact .inl (slumbers_of_same asleep rfl rfl)
  · split
    · exact .inl (slumbers_filterRun asleep _)
    · simp only
      split
      · exact .inl later
      · split
        · exact .inl later
        · split
          · exact .inr (woken_power (f := wakeByLine) (by simp [advance]) (wary_closed.under_wokenByLine (wary_closed.refl _)))
          · exact .inl (slumbers_spuriousWake later)

theorem stirs_buttonFrame (asleep : s.power.state = .sleep) (bytes : List Byte) :
    Slumbers s (buttonFrameOp bytes s) ∨ Woken s (buttonFrameOp bytes s) := by
  unfold buttonFrameOp
  split
  · refine .inr ((woken_wakeCause asleep rfl .receiver).under fun {a} woken => ?_)
    simp only
    split
    · rename_i f _
      have checked := wary_closed.under_checkButton woken f
      unfold takeButton
      split
      · rename_i e
        rw [e] at checked
        exact wary_decideClosed.under_mapButton (wary_closed.under_localCause checked _) _ _
      · rename_i e
        rw [e] at checked
        exact checked
    · exact woken
  · exact .inl (slumbers_of_same asleep rfl rfl)

theorem stirs_passiveReply (asleep : s.power.state = .sleep) (bytes : List Byte) :
    Slumbers s (passiveReplyOp bytes s) ∨ Woken s (passiveReplyOp bytes s) := by
  unfold passiveReplyOp
  split
  · refine .inr ((woken_wakeCause asleep rfl .receiver).under fun {a} woken => ?_)
    simp only
    split
    · exact wary_closed.under_routeReply woken _
    · exact woken
  · exact .inl (slumbers_of_same asleep rfl rfl)

theorem stirs_outerHandle (asleep : s.power.state = .sleep) (b : Bool) :
    Slumbers s (outerHandleOp b s) ∨ Woken s (outerHandleOp b s) := by
  unfold outerHandleOp
  split
  · exact .inl (slumbers_of_same asleep rfl rfl)
  · simp only
    split
    · exact .inr ((woken_localCause (by exact asleep) (by rfl) .handle).under fun woken => wary_closed.under_outerPull woken)
    · exact .inl (slumbers_of_same asleep rfl rfl)

theorem stirs_tailgateButton (asleep : s.power.state = .sleep) :
    Slumbers s (tailgateButtonOp s) ∨ Woken s (tailgateButtonOp s) := by
  unfold tailgateButtonOp
  split
  · refine .inr ((woken_localCause asleep rfl .button).under fun {a} woken => ?_)
    simp only
    split
    · exact wary_closed.under_releaseEntry woken
    · exact wary_closed.under_takeTouch woken _ _
  · exact .inl (slumbers_of_same asleep rfl rfl)

theorem stirs_touch (asleep : s.power.state = .sleep) (ar : Area) :
    Slumbers s (touchOp ar s) ∨ Woken s (touchOp ar s) := by
  unfold touchOp
  split
  · exact .inl (slumbers_of_same asleep rfl rfl)
  · exact .inr ((woken_localCause asleep rfl .touch).under fun woken => wary_closed.under_takeTouch woken _ _)

theorem woken_insideButton (asleep : s.power.state = .sleep) : Woken s (insideButtonOp s) := by
  refine (woken_localCause asleep rfl .button).under fun {a} woken => ?_
  unfold insideButtonOp
  simp only
  split
  · exact wary_closed.under_localLockChange woken
  · exact wary_decideClosed.under_mapInsideButton woken

theorem stirs_lockout (asleep : s.power.state = .sleep) : Slumbers s (lockoutOp s) ∨ Woken s (lockoutOp s) := by
  unfold lockoutOp
  split
  · exact .inr ((woken_localCause asleep rfl _).under wary_decideClosed.under_mapLockout)
  · exact .inl (slumbers_of_same asleep rfl rfl)

theorem woken_firstDetent (asleep : s.power.state = .sleep) (d : Direction) : Woken s (firstDetent d s) := by
  unfold firstDetent
  split
  · exact woken_localCause asleep rfl .switch
  · exact (woken_localCause (s' := setHold (some d) false s) asleep rfl .switch).under fun woken =>
      wary_closed.under_localPress woken d .manual

theorem woken_secondDetent (asleep : s.power.state = .sleep) (d : Direction) : Woken s (secondDetent d s) := by
  have woken := woken_localCause (s := s)
    (s' := setHold (some d) (s.pins.localHold == some d && s.pins.localSpent) s) asleep rfl .switch
  unfold secondDetent
  simp only
  split
  · exact woken
  · exact woken.under fun woken => wary_closed.under_localPress woken d .auto

theorem stirs_packChanged (asleep : s.power.state = .sleep) (p : Vector SwitchEntry 4) :
    Slumbers s (packChanged p s) ∨ Woken s (packChanged p s) := by
  unfold packChanged
  split
  · exact .inr ((woken_localCause asleep rfl .switch).under fun woken =>
      wary_closed.under_sendPack (wary_closed.under_withWin woken (by rfl)))
  · exact .inl (slumbers_of_same asleep rfl rfl)

theorem stirs_switchChanged (asleep : s.power.state = .sleep) (r : LatchPosition) :
    Slumbers s (switchChanged r s) ∨ Woken s (switchChanged r s) := by
  unfold switchChanged
  split
  · exact .inl (slumbers_of_same asleep rfl rfl)
  · simp only
    exact .inr (woken_localCause (by exact asleep) (by rfl) .latch)

theorem stirs_autoRelock (asleep : s.power.state = .sleep) (o : Option Nat) :
    Slumbers s (atTime o relockOver s) ∨ Woken s (atTime o relockOver s) := by
  unfold atTime
  split
  · refine .inr ?_
    unfold relockOver
    exact (woken_wakeCause (by simpa using asleep) (by simp) .relock).under fun woken =>
      wary_decideClosed.under_prepare woken _
  · exact .inl (slumbers_of_same asleep rfl rfl)

/-- What each command does at a sleeping station: most do nothing there (R172, R178). -/
theorem dozes_exec (c : Instr) (asleep : s.power.state = .sleep) : Dozes c s (exec c s) := by
  have still := slumbers_refl asleep
  cases c with unfold exec
  | hallPulse u t =>
      by_cases hu : u < 4500
      · refine dozes_stirred (.inl (decide_eq_true hu)) (slumbers_of_same asleep rfl rfl) (.inr ?_)
        unfold hallPulseOp
        simp only [hu, if_true]
        exact woken_holdReset _ _
      · exact dozes_liveInput (slumbers_of_same asleep rfl rfl) (slumbers_hallPulse asleep hu t)
  | supplySample u =>
      by_cases hu : u < 4500
      · refine dozes_stirred (.inl (decide_eq_true hu)) (slumbers_of_same asleep rfl rfl) (.inr ?_)
        unfold supplySampleOp
        simp only [hu, if_true]
        exact woken_holdReset _ _
      · refine dozes_liveInput (slumbers_of_same asleep rfl rfl) ?_
        unfold supplySampleOp
        simp only [hu, if_false, awake, asleep]
        exact slumbers_of_same asleep rfl rfl
  | localSwitchFirstDetent d =>
      exact dozes_stirred (.inr rfl) (slumbers_of_same asleep rfl rfl) (.inr (woken_firstDetent asleep d))
  | localSwitchSecondDetent d =>
      exact dozes_stirred (.inr rfl) (slumbers_of_same asleep rfl rfl) (.inr (woken_secondDetent asleep d))
  | localSwitchRelease =>
      exact dozes_liveInput (slumbers_of_same asleep rfl rfl) (slumbers_dropLostHold (slumbers_of_same asleep rfl rfl) rfl)
  | switchPackChange fl fr rl rr =>
      exact dozes_stirred (.inr rfl) (slumbers_of_same asleep rfl rfl) (stirs_packChanged asleep _)
  | switchPackValidityLapse =>
      exact dozes_liveInput still (slumbers_atTime asleep fun e =>
        slumbers_dropLostHold (slumbers_of_same asleep (by simp) (by simp)) (by simp))
  | pinchHoldTimerExpiry =>
      exact dozes_liveInput still (slumbers_atTime asleep fun e => slumbers_of_same asleep (by simp) (by simp))
  | latchSwitchChange r =>
      exact dozes_stirred (.inr rfl) (slumbers_of_same asleep rfl rfl) (stirs_switchChanged asleep r)
  | outerHandlePull b =>
      refine dozes_stirred (.inr rfl) ?_ (stirs_outerHandle asleep b)
      unfold outerHandlePin
      split
      · exact still
      · exact slumbers_of_same asleep rfl rfl
  | innerHandlePull =>
      have woken : Woken s (innerPull (localCause .handle s)) :=
        (woken_localCause asleep rfl .handle).under fun woken => wary_closed.under_innerPull woken
      exact dozes_stirred (f := fun t => innerPull (localCause .handle t)) (.inr rfl) still (.inr woken)
  | insideLockButton => exact dozes_stirred (.inr rfl) still (.inr (woken_insideButton asleep))
  | tailgateButton => exact dozes_stirred (.inr rfl) still (stirs_tailgateButton asleep)
  | driverLockoutSwitch => exact dozes_stirred (.inr rfl) still (stirs_lockout asleep)
  | autoRelockExpiry => exact dozes_stirred (.inr rfl) still (stirs_autoRelock asleep _)
  | buttonFrame bytes => exact dozes_stirred (.inr rfl) still (stirs_buttonFrame asleep bytes)
  | badCodeWindowEnd n =>
      exact dozes_liveInput still (slumbers_atTime asleep fun e => slumbers_of_same asleep (by simp [lapseBadCodes]) (by simp [lapseBadCodes]))
  | suspensionTimerExpiry n =>
      refine dozes_liveInput still (slumbers_atTime asleep fun e => ?_)
      unfold suspensionOver
      simp only
      split <;> exact slumbers_of_same asleep (by simp [writeSlot]) (by simp [writeSlot])
  | passiveReply bytes => exact dozes_stirred (.inr rfl) still (stirs_passiveReply asleep bytes)
  | unlockAreaTouch => exact dozes_stirred (.inr rfl) still (stirs_touch asleep _)
  | lockAreaTouch => exact dozes_stirred (.inr rfl) still (stirs_touch asleep _)
  | wakeFilterRun us => exact dozes_liveInput still (slumbers_filterRun asleep us)
  | wakeFilterTimeout =>
      exact dozes_liveInput still (slumbers_atTime asleep fun e =>
        slumbers_spuriousWake (slumbers_of_same asleep (by simp) (by simp)))
  | wakeFilterFrame bits => exact dozes_stirred (.inr rfl) still (stirs_filterFrame asleep bits)
  | powerOnReset =>
      exact ⟨_, rfl, fun _ _ _ h => by simp [holdReset, blankState, State.reset] at h, fun h => by simp [isReset] at h⟩
  | powerOnResetEnd u n =>
      refine ⟨_, rfl, fun jobs moves fits => ?_, fun h => by simp [isReset] at h⟩
      unfold atTime
      split
      · unfold resetOver
        simp only
        split
        · exact fun _ => (slumbers_of_same asleep (by simp) (by simp)).2 moves fits
        · obtain ⟨v, up, kept, wary⟩ := woken_boot s _
          exact drowses_endClosed.under_settle wary (kept jobs) up
      · exact fun _ => fits
  | serviceResetPerform =>
      refine dozes_stirred (.inl rfl) still ?_
      split
      · exact .inr (woken_boot _ _)
      · exact .inl still
  | flushTimeout =>
      refine dozes_stirred (.inl rfl) still ?_
      unfold atTime
      split
      · exact .inr (woken_boot _ _)
      · exact .inl still
  | _ => exact dozes_whileAwake asleep _

end

/-- Settles O8: a station that was awake enters SLEEP only as R178 gives, and what each command does at a sleeping one. -/
theorem sleepIsEnteredWhenReadyAndEndedByWakesAndResets :
    Obligations.SleepIsEnteredWhenReadyAndEndedByWakesAndResets := by
  refine ⟨fun c s t jobs ht => ⟨fun up asleep => ?_, fun asleep hr hm => ?_⟩, fun s t jobs moves fits ht asleep => ?_⟩
  · obtain ⟨u, hu, drowses⟩ := drowses_endClosed.ends_exec wary_glassClosed c s (fun _ => wary_resetClosed) (fun _ => wary_clearClosed)
    obtain rfl := Host.Outcome.next.inj (hu.symm.trans ht)
    exact drowses jobs up asleep
  · obtain ⟨u, hu, -, sleeps⟩ := dozes_exec c asleep
    obtain rfl := Host.Outcome.next.inj (hu.symm.trans ht)
    exact sleeps hr hm
  · unfold step at ht
    split at ht
    · obtain rfl := Host.Outcome.next.inj ht
      have same : s.power.state = .sleep := by simpa using asleep
      exact (slumbers_advanceTo same _).2 moves (fits same)
    · rename_i c rest _
      by_cases up : s.power.state = .sleep
      · obtain ⟨u, hu, keeps, -⟩ := dozes_exec (s := { s with pending := rest }) c up
        obtain rfl := Host.Outcome.next.inj (hu.symm.trans ht)
        exact keeps jobs moves (fits up) asleep
      · obtain ⟨u, hu, drowses⟩ := drowses_endClosed.ends_exec wary_glassClosed c { s with pending := rest }
          (fun _ => wary_resetClosed) (fun _ => wary_clearClosed)
        obtain rfl := Host.Outcome.next.inj (hu.symm.trans ht)
        exact drowses jobs up asleep

end Sys2Proof.Proofs.Sleep
end

section
/-! Layouts: what is written into octets and bits is read back. -/

namespace Sys2Proof.Proofs.Layouts

open Sys2Proof Sys2Proof.Machine

/-! ## Bits and octets -/

theorem bitsToByte_byteBits : ∀ b : Byte, bitsToByte (byteBits b) = b := by decide

@[simp] theorem readOctet_octetBits (b : Byte) (rest : List Bool) : readOctet (octetBits b ++ rest) = some (b, rest) := by
  show some (bitsToByte (byteBits b), rest) = _
  rw [bitsToByte_byteBits]

theorem readOctets_flatMap (l : List Byte) (rest : List Bool) :
    readOctets l.length (l.flatMap octetBits ++ rest) = some (l, rest) := by
  induction l with
  | nil => rfl
  | cons b l ih => simp [readOctets, List.append_assoc, ih]

@[simp] theorem word16_split (x : BitVec 16) : word16 (x.extractLsb' 8 8) (x.extractLsb' 0 8) = x := by
  unfold word16
  rw [BitVec.extractLsb'_append_extractLsb'_eq_extractLsb' (by rfl)]
  simp

@[simp] theorem word24_split (x : BitVec 24) :
    word24 (x.extractLsb' 16 8) (x.extractLsb' 8 8) (x.extractLsb' 0 8) = x := by
  unfold word24
  rw [BitVec.extractLsb'_append_extractLsb'_eq_extractLsb' (by rfl),
    BitVec.extractLsb'_append_extractLsb'_eq_extractLsb' (by rfl)]
  simp

@[simp] theorem word32_split (x : BitVec 32) :
    word32 (x.extractLsb' 24 8) (x.extractLsb' 16 8) (x.extractLsb' 8 8) (x.extractLsb' 0 8) = x := by
  unfold word32
  rw [BitVec.extractLsb'_append_extractLsb'_eq_extractLsb' (by rfl),
    BitVec.extractLsb'_append_extractLsb'_eq_extractLsb' (by rfl),
    BitVec.extractLsb'_append_extractLsb'_eq_extractLsb' (by rfl)]
  simp

/-- A field of an octet made from a number. -/
theorem field_byte {n : Nat} (h : n < 256) (lo w : Nat) : field (byte n) lo w = n / 2 ^ lo % 2 ^ w := by
  simp [field, byte, Nat.mod_eq_of_lt h]

theorem byte_toNat {n : Nat} (h : n < 256) : (byte n).toNat = n := by simp [byte, Nat.mod_eq_of_lt h]

/-! ## Codes -/

@[simp] theorem familyOf_code (f : Family) : familyOf f.code = some f := by cases f <;> rfl
@[simp] theorem intentKindOf_code (k : IntentKind) : intentKindOf k.family k.code = some k := by cases k <;> rfl
@[simp] theorem causeOf_code (c : Cause) : causeOf c.code = some c := by cases c <;> rfl
@[simp] theorem ackResultOf_code (r : AckResult) : ackResultOf r.code = r := by cases r <;> rfl
@[simp] theorem outcomeOf_code (o : Outcome) : outcomeOf o.code = some o := by cases o <;> rfl
@[simp] theorem switchEntryOf_code (e : SwitchEntry) : switchEntryOf (switchCode e) = some e := by cases e <;> rfl
@[simp] theorem stationFaultOf_code (f : StationFault) : stationFaultOf f.code = some f := by cases f <;> rfl
@[simp] theorem searchResultOf_code (r : SearchResult) : searchResultOf r.code = some r := by cases r <;> rfl
@[simp] theorem intentResultOf_code (r : IntentResult) : intentResultOf r.code = r := by cases r <;> rfl
@[simp] theorem refusalReasonOf_code (r : RefusalReason) : refusalReasonOf r.code = r := by cases r <;> rfl
@[simp] theorem wakeCauseOf_code (c : WakeCause) : wakeCauseOf c.code = some c := by cases c <;> rfl
@[simp] theorem serviceReasonOf_code (r : ServiceReason) : serviceReasonOf r.code = some r := by cases r <;> rfl

@[simp] theorem lockOf_code (l : Option LockState) : lockOf (lockCode l) = l := by
  cases l with
  | none => rfl
  | some l => cases l <;> rfl

@[simp] theorem childOf_code (c : Option ChildState) : childOf (childCode c) = c := by
  cases c with
  | none => rfl
  | some c => cases c <;> rfl

@[simp] theorem latchOf_code (p : Option LatchPosition) : latchOf (latchCode p) = some p := by
  cases p with
  | none => rfl
  | some p => cases p <;> rfl

@[simp] theorem flagOf_code (b : Option Bool) : flagOf (flagCode b) = some b := by
  cases b with
  | none => rfl
  | some b => cases b <;> rfl

@[simp] theorem wclassOf_code (c : Option WindowClass) : wclassOf (wclassCode c) = some c := by
  cases c with
  | none => rfl
  | some c => cases c <;> rfl

@[simp] theorem capabilitiesOf_code : ∀ c : Capabilities, capabilitiesOf c.code = c := by
  rintro ⟨a, b, c, d, e⟩
  revert a b c d e
  decide

/-- The window outcome byte of an ack, 15 for none (R201). -/
def outcomeCode (w : Option WindowOutcome) : Nat := match w with | some w => w.code | none => 15

@[simp] theorem windowOutcomeOf_code (w : Option WindowOutcome) : windowOutcomeOf (outcomeCode w) = some w := by
  cases w with
  | none => rfl
  | some w => cases w <;> rfl

theorem family_code_lt (f : Family) : f.code < 3 := by cases f <;> decide
theorem intentKind_code_lt (k : IntentKind) : k.code < 4 := by cases k <;> decide
theorem cause_code_lt (c : Cause) : c.code < 7 := by cases c <;> decide
theorem ackResult_code_lt (r : AckResult) : r.code < 4 := by cases r <;> decide
theorem outcome_code_lt (o : Outcome) : o.code < 7 := by cases o <;> decide
theorem switchCode_lt (e : SwitchEntry) : switchCode e < 5 := by cases e <;> decide
theorem stationFault_code_lt (f : StationFault) : f.code < 5 := by cases f <;> decide
theorem searchResult_code_lt (r : SearchResult) : r.code < 3 := by cases r <;> decide
theorem intentResult_code_lt (r : IntentResult) : r.code < 4 := by cases r <;> decide
theorem refusalReason_code_lt (r : RefusalReason) : r.code < 4 := by cases r <;> decide
theorem wakeCause_code_lt (c : WakeCause) : c.code < 7 := by cases c <;> decide
theorem serviceReason_code_lt (r : ServiceReason) : r.code < 7 := by cases r <;> decide

theorem lockCode_lt (l : Option LockState) : lockCode l < 4 := by
  cases l with
  | none => decide
  | some l => cases l <;> decide

theorem childCode_lt (c : Option ChildState) : childCode c < 4 := by
  cases c with
  | none => decide
  | some c => cases c <;> decide

theorem latchCode_lt (p : Option LatchPosition) : latchCode p < 4 := by
  cases p with
  | none => decide
  | some p => cases p <;> decide

theorem flagCode_lt (b : Option Bool) : flagCode b < 4 := by
  cases b with
  | none => decide
  | some b => cases b <;> decide

theorem wclassCode_lt (c : Option WindowClass) : wclassCode c < 8 := by
  cases c with
  | none => decide
  | some c => cases c <;> decide

theorem capabilities_code_lt : ∀ c : Capabilities, c.code < 32 := by
  rintro ⟨a, b, c, d, e⟩
  revert a b c d e
  decide

theorem outcomeCode_lt (w : Option WindowOutcome) : outcomeCode w < 16 := by
  cases w with
  | none => decide
  | some w => cases w <;> decide

/-! ## Packed fields -/

@[simp] theorem stationsOf_setWidth (x : Stations) : stationsOf (x.setWidth 8) = some x := by
  have hx : x.toNat < 32 := x.isLt
  have hw : (x.setWidth 8).toNat = x.toNat := by
    rw [BitVec.toNat_setWidth]
    exact Nat.mod_eq_of_lt (by omega)
  unfold stationsOf
  rw [if_pos (by omega)]
  congr 1
  exact BitVec.eq_of_toNat_eq (by rw [BitVec.toNat_setWidth, hw]; omega)

@[simp] theorem setWidth_back (x : BitVec 5) : (x.setWidth 8).setWidth 5 = x := by
  refine BitVec.eq_of_toNat_eq ?_
  have hx : x.toNat < 32 := x.isLt
  simp only [BitVec.toNat_setWidth]
  omega

/-! ## Frame data -/

theorem decode_intent (i : IntentFrame) (ht : i.tag.val ≤ 14) :
    decodeIntent i.kind.family (Payload.intent i).data = some (.intent i) := by
  have hk := intentKind_code_lt i.kind
  have hc := cause_code_lt i.cause
  have hs : i.targets.toNat < 32 := i.targets.isLt
  have kind : field (byte (i.kind.code * 16 + i.tag.val)) 4 4 = i.kind.code := by rw [field_byte (by omega)]; omega
  have tag : field (byte (i.kind.code * 16 + i.tag.val)) 0 4 = i.tag.val := by rw [field_byte (by omega)]; omega
  have cause : field (byte (i.cause.code * 32 + i.targets.toNat)) 5 3 = i.cause.code := by
    rw [field_byte (by omega)]; omega
  have targets : (byte (i.cause.code * 32 + i.targets.toNat)).setWidth 5 = i.targets :=
    BitVec.eq_of_toNat_eq (by rw [BitVec.toNat_setWidth, byte_toNat (by omega)]; omega)
  have head : ∀ n, decodeIntentHead i.kind.family (byte (i.kind.code * 16 + i.tag.val)) (i.epoch.extractLsb' 8 8)
      (i.epoch.extractLsb' 0 8) (byte (i.cause.code * 32 + i.targets.toNat)) n
      = some (.intent { i with notice := n }) := fun n => by
    simp [decodeIntentHead, kind, tag, cause, targets, ht]
  obtain ⟨k, tg, e, ts, c, n⟩ := i
  cases n with
  | none => exact head none
  | some n =>
      refine (head (some { identity := word32 _ _ _ _, counter := word24 _ _ _ })).trans ?_
      simp

theorem decode_ackState (k : IntentKind) (c : AckState)
    (h : Payload.defined (.intentAck { toAddr := 0, kind := k, tag := 0, epoch := 0, result := .applied, ownEpoch := 0
                                       current := c, wpos := 0, window := none, last := none }) = true) :
    ackStateOf k.family c.code = some c := by
  unfold Payload.defined at h
  simp only at h
  cases hf : k.family <;> cases c <;> simp [hf] at h
  case latch.latch l p =>
    have hl := lockCode_lt l
    have hp := latchCode_lt p
    have lock : field (byte (lockCode l * 64 + latchCode p * 16)) 6 2 = lockCode l := by
      rw [field_byte (by omega)]; omega
    have position : field (byte (lockCode l * 64 + latchCode p * 16)) 4 2 = latchCode p := by
      rw [field_byte (by omega)]; omega
    simp [ackStateOf, AckState.code, lock, position]
  case child.child c =>
    have hc := childCode_lt c
    have child : field (byte (childCode c * 64)) 6 2 = childCode c := by rw [field_byte (by omega)]; omega
    simp [ackStateOf, AckState.code, child]
  case window.window c =>
    have hc := wclassCode_lt c
    have wclass : field (byte (wclassCode c * 32)) 5 3 = wclassCode c := by rw [field_byte (by omega)]; omega
    simp [ackStateOf, AckState.code, wclass]

theorem decode_ack (a : AckFrame) (h : (Payload.intentAck a).defined = true) :
    decodeAck (Payload.intentAck a).data = some (.intentAck a) := by
  have current := decode_ackState a.kind a.current h
  have hto := a.toAddr.isLt
  have hf := family_code_lt a.kind.family
  have hr := ackResult_code_lt a.result
  have hk := intentKind_code_lt a.kind
  have ht := a.tag.isLt
  have hw := outcomeCode_lt a.window
  have addr : field (byte (a.toAddr.val * 32 + a.kind.family.code * 8 + a.result.code * 2)) 5 3 = a.toAddr.val := by
    rw [field_byte (by omega)]; omega
  have family : field (byte (a.toAddr.val * 32 + a.kind.family.code * 8 + a.result.code * 2)) 3 2
      = a.kind.family.code := by
    rw [field_byte (by omega)]; omega
  have result : field (byte (a.toAddr.val * 32 + a.kind.family.code * 8 + a.result.code * 2)) 1 2 = a.result.code := by
    rw [field_byte (by omega)]; omega
  have kind : field (byte (a.kind.code * 16 + a.tag.val)) 4 4 = a.kind.code := by rw [field_byte (by omega)]; omega
  have tag : field (byte (a.kind.code * 16 + a.tag.val)) 0 4 = a.tag.val := by rw [field_byte (by omega)]; omega
  have outcome : (byte (outcomeCode a.window)).toNat = outcomeCode a.window := byte_toNat (by omega)
  have head : ∀ last, decodeAckHead (byte (a.toAddr.val * 32 + a.kind.family.code * 8 + a.result.code * 2))
      (byte (a.kind.code * 16 + a.tag.val)) (a.epoch.extractLsb' 8 8) (a.epoch.extractLsb' 0 8)
      (a.ownEpoch.extractLsb' 8 8) (a.ownEpoch.extractLsb' 0 8) a.current.code a.wpos (byte (outcomeCode a.window)) last
      = some (.intentAck { a with last := last }) := fun last => by
    simp [decodeAckHead, addr, family, result, kind, tag, outcome, current, addrOf]
  obtain ⟨dst, k, tg, e, r, oe, cur, wp, w, last⟩ := a
  cases last with
  | none => exact head none
  | some key =>
      have origin : (byte key.origin.val).toNat = key.origin.val := byte_toNat (by omega)
      have lt : (byte key.origin.val).toNat < 8 := by rw [origin]; exact key.origin.isLt
      refine (if_pos lt).trans ((head _).trans ?_)
      simp [origin, addrOf]

theorem decode_announcement (a : Announced) : decodeAnnouncement (announcedBytes a) = some (.announcement a) := by
  have hl := lockCode_lt a.lock
  have hc := childCode_lt a.child
  have hp := latchCode_lt a.latch
  have hx := flagCode_lt a.crash
  have hw := wclassCode_lt a.wclass
  have hr := flagCode_lt a.ready
  have hg := flagCode_lt a.going
  have b0 : ∀ lo w, field (byte (lockCode a.lock * 64 + childCode a.child * 16 + latchCode a.latch * 4 + flagCode a.crash)) lo w
      = (lockCode a.lock * 64 + childCode a.child * 16 + latchCode a.latch * 4 + flagCode a.crash) / 2 ^ lo % 2 ^ w :=
    field_byte (by omega)
  have b1 : ∀ lo w, field (byte (wclassCode a.wclass * 32 + flagCode a.ready * 8 + flagCode a.going * 2)) lo w
      = (wclassCode a.wclass * 32 + flagCode a.ready * 8 + flagCode a.going * 2) / 2 ^ lo % 2 ^ w :=
    field_byte (by omega)
  have lock := (b0 6 2).trans (show _ = lockCode a.lock by omega)
  have child := (b0 4 2).trans (show _ = childCode a.child by omega)
  have latch := (b0 2 2).trans (show _ = latchCode a.latch by omega)
  have crash := (b0 0 2).trans (show _ = flagCode a.crash by omega)
  have wclass := (b1 5 3).trans (show _ = wclassCode a.wclass by omega)
  have ready := (b1 3 2).trans (show _ = flagCode a.ready by omega)
  have going := (b1 1 2).trans (show _ = flagCode a.going by omega)
  simp [announcedBytes, bytes16, decodeAnnouncement, lock, child, latch, crash, wclass, ready, going]

theorem decode_outcome (o : OutcomeFrame) : decodeOutcome (Payload.intentOutcome o).data = some (.intentOutcome o) := by
  have ht := o.tag.isLt
  have hf := family_code_lt o.kind.family
  have hk := intentKind_code_lt o.kind
  have ho := intentResult_code_lt o.outcome
  have hr := refusalReason_code_lt o.reason
  have hp := Bool.toNat_lt o.partialSearch
  have b0 : ∀ lo w, field (byte (o.tag.val * 16 + o.kind.family.code * 4 + o.kind.code)) lo w
      = (o.tag.val * 16 + o.kind.family.code * 4 + o.kind.code) / 2 ^ lo % 2 ^ w := field_byte (by omega)
  have b3 : ∀ lo w, field (byte (o.outcome.code * 64 + o.reason.code * 16 + o.partialSearch.toNat * 8)) lo w
      = (o.outcome.code * 64 + o.reason.code * 16 + o.partialSearch.toNat * 8) / 2 ^ lo % 2 ^ w := field_byte (by omega)
  have tag := (b0 4 4).trans (show _ = o.tag.val by omega)
  have family := (b0 2 2).trans (show _ = o.kind.family.code by omega)
  have kind := (b0 0 2).trans (show _ = o.kind.code by omega)
  have outcome := (b3 6 2).trans (show _ = o.outcome.code by omega)
  have reason := (b3 4 2).trans (show _ = o.reason.code by omega)
  have part := (b3 3 1).trans (show _ = o.partialSearch.toNat by omega)
  simp [Payload.data, bytes16, decodeOutcome, tag, family, kind, outcome, reason, part]

theorem decode_reply (n k : Byte) (r : ServiceResult) (h : (Payload.serviceReply n k r).defined = true) :
    decodeReply (Payload.serviceReply n k r).data = some (.serviceReply n k r) := by
  simp only [Payload.defined, Bool.and_eq_true, decide_eq_true_eq] at h
  obtain ⟨hk, hr⟩ := h
  have hk' : ¬ 8 < k.toNat := by omega
  cases r with
  | done => simp [Payload.data, serviceResultBytes, decodeReply, hk', byte]
  | refused r =>
      have code : (byte r.code).toNat = r.code := byte_toNat (by have := serviceReason_code_lt r; omega)
      simp [Payload.data, serviceResultBytes, decodeReply, hk', byte_toNat, code]
  | status part bytes =>
      simp only [Bool.and_eq_true, decide_eq_true_eq] at hr
      obtain ⟨hd, hl⟩ := hr
      have hl' : ¬ 9 < (part :: bytes).length := by simpa using Nat.lt_succ_of_le hl
      simp only [List.length_cons] at hl'
      simp [Payload.data, serviceResultBytes, decodeReply, hk', hl', byte_toNat, hd]
  | refusedBare => simp [Payload.data, serviceResultBytes, decodeReply, hk', byte_toNat]
  | statusBare => simp [Payload.data, serviceResultBytes, decodeReply, hk', byte_toNat]

theorem decode_census (p : Addr) (c : Capabilities) (iv : BitVec 16) (ep : Epoch) :
    decodePayload 13 (Payload.census p c iv ep).data = some (.census p c iv ep) := by
  have hp := p.isLt
  have hc := capabilities_code_lt c
  have position : field (byte (p.val * 32 + c.code)) 5 3 = p.val := by rw [field_byte (by omega)]; omega
  have caps : field (byte (p.val * 32 + c.code)) 0 5 = c.code := by rw [field_byte (by omega)]; omega
  show some (Payload.census (addrOf (field _ 5 3)) (capabilitiesOf (field _ 0 5)) (word16 _ _) (word16 _ _)) = _
  simp [position, caps, addrOf]

theorem decode_switchPack (w x y z : SwitchEntry) :
    decodePayload 9 (Payload.switchPack w x y z).data = some (.switchPack w x y z) := by
  have hw := switchCode_lt w
  have hx := switchCode_lt x
  have hy := switchCode_lt y
  have hz := switchCode_lt z
  have a4 : field (byte (switchCode w * 16 + switchCode x)) 4 4 = switchCode w := by rw [field_byte (by omega)]; omega
  have a0 : field (byte (switchCode w * 16 + switchCode x)) 0 4 = switchCode x := by rw [field_byte (by omega)]; omega
  have b4 : field (byte (switchCode y * 16 + switchCode z)) 4 4 = switchCode y := by rw [field_byte (by omega)]; omega
  have b0 : field (byte (switchCode y * 16 + switchCode z)) 0 4 = switchCode z := by rw [field_byte (by omega)]; omega
  show (match switchEntryOf (field (byte (switchCode w * 16 + switchCode x)) 4 4),
      switchEntryOf (field (byte (switchCode w * 16 + switchCode x)) 0 4),
      switchEntryOf (field (byte (switchCode y * 16 + switchCode z)) 4 4),
      switchEntryOf (field (byte (switchCode y * 16 + switchCode z)) 0 4) with
    | some w, some x, some y, some z => some (Payload.switchPack w x y z)
    | _, _, _, _ => none) = _
  simp only [a4, a0, b4, b0, switchEntryOf_code]

theorem decode_windowReport (rise unnorm : Bool) (o : Outcome) (p : BitVec 16) :
    decodePayload 10 (Payload.windowReport rise unnorm o p).data = some (.windowReport rise unnorm o p) := by
  have ho := outcome_code_lt o
  have hr := Bool.toNat_lt rise
  have hu := Bool.toNat_lt unnorm
  have b0 : ∀ lo w, field (byte (rise.toNat * 128 + unnorm.toNat * 64 + o.code)) lo w
      = (rise.toNat * 128 + unnorm.toNat * 64 + o.code) / 2 ^ lo % 2 ^ w := field_byte (by omega)
  have risen := (b0 7 1).trans (show _ = rise.toNat by omega)
  have unnormalised := (b0 6 1).trans (show _ = unnorm.toNat by omega)
  have outcome := (b0 0 3).trans (show _ = o.code by omega)
  show (outcomeOf (field (byte (rise.toNat * 128 + unnorm.toNat * 64 + o.code)) 0 3)).map (fun x =>
    Payload.windowReport (field (byte (rise.toNat * 128 + unnorm.toNat * 64 + o.code)) 7 1 == 1) _ x (word16 _ _)) = _
  simp [risen, unnormalised, outcome]

theorem decode_searchReport (q : Addr) (r : SearchResult) (n best : Byte) :
    decodePayload 8 (Payload.searchReport q r n best).data = some (.searchReport q r n best) := by
  have hq := q.isLt
  have hr := searchResult_code_lt r
  have requester : field (byte (q.val * 32 + r.code)) 5 3 = q.val := by rw [field_byte (by omega)]; omega
  have result : field (byte (q.val * 32 + r.code)) 0 2 = r.code := by rw [field_byte (by omega)]; omega
  show (searchResultOf (field (byte (q.val * 32 + r.code)) 0 2)).map (fun x =>
    Payload.searchReport (addrOf (field (byte (q.val * 32 + r.code)) 5 3)) x n best) = _
  simp [requester, result, addrOf]

theorem decode_serviceRequest (r : ServiceFrame) (h : (Payload.serviceRequest r).defined = true) :
    decodePayload 16 r.bytes = some (.serviceRequest r) := by
  obtain ⟨bytes⟩ := r
  match bytes with
  | [] => rfl
  | [_] => rfl
  | _ :: t :: _ =>
      have ht : t.toNat < 32 := by
        simp only [Payload.defined, Bool.and_eq_true, decide_eq_true_eq] at h
        exact h.2
      exact if_pos ht

theorem decodePayload_intent (f : Family) (d : List Byte) : decodePayload (1 + f.code) d = decodeIntent f d := by
  cases f <;> rfl

/-- The data of a frame is read back as what it stood for (R201). -/
theorem decode_payload (p : Payload) (h : p.defined = true) : decodePayload p.kind p.data = some p := by
  cases p with
  | crashNotice => rfl
  | intent i =>
      have ht : i.tag.val ≤ 14 := by simpa [Payload.defined] using h
      exact (decodePayload_intent i.kind.family _).trans (decode_intent i ht)
  | intentAck a => exact decode_ack a h
  | fobRelay r => 
      show some (Payload.fobRelay { identity := word32 _ _ _ _, echo := word24 _ _ _, strength := _, code := word24 _ _ _ }) = _
      simp
  | searchClaim => rfl
  | interiorSearch n ps =>
      show (stationsOf (ps.setWidth 8)).map (Payload.interiorSearch n) = _
      simp
  | searchReport q r n best => exact decode_searchReport q r n best
  | switchPack w x y z => exact decode_switchPack w x y z
  | windowReport rise unnorm o p => exact decode_windowReport rise unnorm o p
  | faultNotice f d =>
      have hd : faultDetailDefined f d = true := h
      have code : (byte f.code).toNat = f.code := byte_toNat (by have := stationFault_code_lt f; omega)
      show (match stationFaultOf (byte f.code).toNat with
        | some f => if faultDetailDefined f d then some (Payload.faultNotice f d) else none
        | none => none) = _
      simp only [code, stationFaultOf_code, hd, if_true]
  | announcement a => exact decode_announcement a
  | census p c iv ep => exact decode_census p c iv ep
  | intentOutcome o => exact decode_outcome o
  | wake a b c d cause =>
      have code : (byte cause.code).toNat = cause.code := byte_toNat (by have := wakeCause_code_lt cause; omega)
      show decodeWake [_, _, _, _, byte cause.code] = _
      simp [decodeWake, code]
  | serviceRequest r => exact decode_serviceRequest r h
  | serviceReply n k r => exact decode_reply n k r h

/-! ## Frames -/

theorem data_length (p : Payload) (h : p.defined = true) : p.data.length ≤ 12 := by
  cases p with
  | intent i => cases hn : i.notice <;> simp [Payload.data, hn, noticeBytes, bytes16, bytes32, bytes24]
  | intentAck a => cases hl : a.last <;> simp [Payload.data, hl, bytes16]
  | serviceRequest r =>
      simp only [Payload.defined, Bool.and_eq_true, decide_eq_true_eq] at h
      exact h.1
  | serviceReply n k r =>
      cases r with
      | status part bytes =>
          simp only [Payload.defined, Bool.and_eq_true, decide_eq_true_eq] at h
          simp only [Payload.data, serviceResultBytes, List.length_cons]
          omega
      | _ => simp [Payload.data, serviceResultBytes]
  | _ => simp [Payload.data, replyBytes, announcedBytes, bytes16, bytes32, bytes24]

theorem kind_lt (p : Payload) : p.kind < 32 := by
  cases p with
  | intent i => have := family_code_lt i.kind.family; simp only [Payload.kind]; omega
  | _ => simp [Payload.kind]

/-- The bits of a header, data of at most 12 octets and their check pass the reception checks (R143). -/
theorem readFrame_octets (cls : Fin 8) (origin : Addr) {kind : Nat} (hk : kind < 32) {d : List Byte} (hd : d.length ≤ 12) :
    readFrame ((headerOctets cls origin kind d.length ++ d
        ++ bytes16 (crc16 (headerOctets cls origin kind d.length ++ d))).flatMap octetBits ++ List.replicate 8 true)
      = some { cls := cls, origin := origin, kind := kind, data := d } := by
  have hc := cls.isLt
  have ho := origin.isLt
  have class_ : field (byte (cls.val * 32 + origin.val * 4)) 5 3 = cls.val := by rw [field_byte (by omega)]; omega
  have from_ : field (byte (cls.val * 32 + origin.val * 4)) 2 3 = origin.val := by rw [field_byte (by omega)]; omega
  have kind_ : field (byte (kind * 8)) 3 5 = kind := by rw [field_byte (by omega)]; omega
  have high : (d.length * 16 + d.length) / 2 ^ 4 = d.length := by omega
  have len : field (byte (d.length * 16 + d.length)) 4 4 = d.length := by rw [field_byte (by omega), high]; omega
  have len' : field (byte (d.length * 16 + d.length)) 0 4 = d.length := by rw [field_byte (by omega)]; omega
  have header : ∀ rest, readOctets 3 ((headerOctets cls origin kind d.length).flatMap octetBits ++ rest)
      = some (headerOctets cls origin kind d.length, rest) :=
    fun rest => readOctets_flatMap (headerOctets cls origin kind d.length) rest
  have check : ∀ (x : BitVec 16) rest, readOctets 2 ((bytes16 x).flatMap octetBits ++ rest) = some (bytes16 x, rest) :=
    fun x rest => readOctets_flatMap (bytes16 x) rest
  rw [List.append_assoc, List.flatMap_append, List.append_assoc, readFrame, header]
  simp only [headerOctets, len, len', readBody, List.flatMap_append, List.append_assoc, readOctets_flatMap]
  rw [check, if_neg (by omega), if_neg (not_not.2 rfl)]
  simp [bytes16, class_, from_, kind_, addrOf]

/-- Settles O10: the octets and the data are read back, layout by layout. -/
theorem frameBitsReadBack : Obligations.FrameBitsReadBack := fun f h =>
  ⟨readFrame_octets f.cls f.origin (kind_lt f.payload) (data_length f.payload h), decode_payload f.payload h⟩

end Sys2Proof.Proofs.Layouts
end

section
/-! Stored records: what is written to the store is read back. -/

namespace Sys2Proof.Proofs.Layouts

open Sys2Proof Sys2Proof.Machine

theorem goodContent_recordBytes (r : RecordId) (c : List Byte) (h : c.length = r.size) :
    goodContent r (some (recordBytes r c)) = some c := by
  have take : (c ++ bytes16 (crc16 (byte r.code :: c))).take r.size = c := by rw [← h, List.take_left]
  have drop : (c ++ bytes16 (crc16 (byte r.code :: c))).drop r.size = bytes16 (crc16 (byte r.code :: c)) := by
    rw [← h, List.drop_left]
  show (if byte r.code = byte r.code ∧ (c ++ bytes16 (crc16 (byte r.code :: c))).length = r.size + 2
      ∧ (c ++ bytes16 (crc16 (byte r.code :: c))).drop r.size
        = bytes16 (crc16 (byte r.code :: (c ++ bytes16 (crc16 (byte r.code :: c))).take r.size))
    then some ((c ++ bytes16 (crc16 (byte r.code :: c))).take r.size) else none) = some c
  rw [take, drop]
  exact if_pos ⟨rfl, by simp [bytes16, h], rfl⟩

/-! ## Numbers -/

theorem nat16_word (x : BitVec 16) : nat16 (x.extractLsb' 8 8) (x.extractLsb' 0 8) = x.toNat := by
  have h : (word16 (x.extractLsb' 8 8) (x.extractLsb' 0 8)).toNat = nat16 (x.extractLsb' 8 8) (x.extractLsb' 0 8) := by
    simp only [word16, nat16, BitVec.toNat_append]
    rw [← Nat.shiftLeft_add_eq_or_of_lt (BitVec.isLt _), Nat.shiftLeft_eq]
  rw [← h, word16_split]

theorem nat24_word (x : BitVec 24) :
    nat24 (x.extractLsb' 16 8) (x.extractLsb' 8 8) (x.extractLsb' 0 8) = x.toNat := by
  have h : (word24 (x.extractLsb' 16 8) (x.extractLsb' 8 8) (x.extractLsb' 0 8)).toNat
      = nat24 (x.extractLsb' 16 8) (x.extractLsb' 8 8) (x.extractLsb' 0 8) := by
    simp only [word24, nat24, BitVec.toNat_append]
    rw [← Nat.shiftLeft_add_eq_or_of_lt (BitVec.isLt _), ← Nat.shiftLeft_add_eq_or_of_lt (BitVec.isLt _),
      Nat.shiftLeft_eq, Nat.shiftLeft_eq]
  rw [← h, word24_split]

theorem nat16_ofNat {n : Nat} (h : n ≤ 65535) :
    nat16 ((BitVec.ofNat 16 n).extractLsb' 8 8) ((BitVec.ofNat 16 n).extractLsb' 0 8) = n := by
  rw [nat16_word, BitVec.toNat_ofNat, Nat.mod_eq_of_lt (by omega)]

theorem nat24_ofNat {n : Nat} (h : n ≤ 16777215) : nat24 ((BitVec.ofNat 24 n).extractLsb' 16 8)
    ((BitVec.ofNat 24 n).extractLsb' 8 8) ((BitVec.ofNat 24 n).extractLsb' 0 8) = n := by
  rw [nat24_word, BitVec.toNat_ofNat, Nat.mod_eq_of_lt (by omega)]

theorem word16_ofInt {p : Int} (hlow : -32768 ≤ p) (hhigh : p ≤ 32767) :
    (word16 ((BitVec.ofInt 16 p).extractLsb' 8 8) ((BitVec.ofInt 16 p).extractLsb' 0 8)).toInt = p := by
  rw [word16_split, BitVec.toInt_ofInt, Int.bmod_def]
  norm_num
  omega

/-! ## The records -/

/-- The flags octet of a CONFIG record (R187). -/
theorem config_flags (c : Settings) :
    (field ((configContent c).headD 0) 0 1 = 1 ↔ c.driveSide = .right)
      ∧ (field ((configContent c).headD 0) 1 1 == 1) = c.selective
      ∧ (field ((configContent c).headD 0) 2 1 == 1) = c.deadlockEn := by
  simp only [configContent, List.cons_append, List.headD_cons]
  generalize c.driveSide = side
  generalize c.selective = a
  generalize c.deadlockEn = b
  cases side <;> revert a b <;> decide

theorem decode_config (c : Settings) (h : (settingsRanges c).all id = true) :
    decodeConfig (configContent c) = some c := by
  simp only [settingsRanges, List.all_cons, List.all_nil, id, Bool.and_eq_true, decide_eq_true_eq, and_true] at h
  obtain ⟨travel, sealing, drop, rev, stall, kspeed, th, rfb, outer, inner, relock, interval⟩ := h
  have hc := capabilities_code_lt c.caps
  have caps : field (byte c.caps.code) 0 5 = c.caps.code := by rw [field_byte (by omega)]; omega
  obtain ⟨side, selective, deadlock⟩ := config_flags c
  simp only [configContent, num16, num24, bytes16, bytes24, List.cons_append, List.nil_append, List.headD_cons,
    decodeConfig] at side selective deadlock ⊢
  rw [nat16_ofNat (by omega), nat16_ofNat (by omega), nat16_ofNat (by omega), nat16_ofNat (by omega),
    nat16_ofNat (by omega), nat24_ofNat (by omega), byte_toNat (by omega), byte_toNat (by omega), byte_toNat (by omega),
    byte_toNat (by omega), byte_toNat (by omega), byte_toNat (by omega), caps, capabilitiesOf_code, selective,
    deadlock]
  simp only [side]
  obtain ⟨d⟩ := c
  cases d <;> rfl

theorem key_flags (n : Slot) (b : Bool) :
    field (byte (n.val * 32 + b.toNat)) 5 3 = n.val ∧ field (byte (n.val * 32 + b.toNat)) 0 2 = b.toNat := by
  revert n b
  decide

theorem decode_keyContent (n : Slot) (k : KeySlot) : decodeKey n (keyContent n k) =
    if storedPaired k then some (slotCover n { k with state := .paired })
    else some { slot := n, state := .empty, identity := 0#32, sHi := 0#32, sLo := 0#32, counter := 0#24 } := by
  obtain ⟨slot, stored⟩ := key_flags n (storedPaired k)
  simp only [keyContent, bytes32, bytes24, List.cons_append, List.nil_append, decodeKey, slot, if_true, stored]
  cases storedPaired k <;> simp [slotCover]

/-- The number whose bits below `n` are `f`. -/
def bitSum (f : Nat → Bool) (n : Nat) : Nat := (List.range n).foldl (fun a i => a + if f i then 2 ^ i else 0) 0

theorem bitSum_succ (f : Nat → Bool) (n : Nat) : bitSum f (n + 1) = bitSum f n + if f n then 2 ^ n else 0 := by
  simp [bitSum, List.range_succ]

theorem bitSum_lt (f : Nat → Bool) (n : Nat) : bitSum f n < 2 ^ n := by
  induction n with
  | zero => exact Nat.one_pos
  | succ n ih =>
      rw [bitSum_succ, Nat.pow_succ]
      split <;> omega

theorem testBit_bitSum (f : Nat → Bool) {z n : Nat} (h : z < n) : (bitSum f n).testBit z = f z := by
  induction n with
  | zero => exact absurd h (Nat.not_lt_zero z)
  | succ n ih =>
      rw [bitSum_succ]
      rcases Nat.lt_succ_iff_lt_or_eq.1 h with hz | rfl
      · split
        · rw [Nat.add_comm, Nat.testBit_two_pow_add_gt hz, ih hz]
        · exact ih hz
      · have low : (bitSum f z).testBit z = false := Nat.testBit_lt_two_pow (bitSum_lt f z)
        split
        · rename_i hf
          rw [Nat.add_comm, Nat.testBit_two_pow_add_eq, low, hf]
          rfl
        · rename_i hf
          rw [Nat.add_zero, low, Bool.eq_false_iff.2 hf]

theorem learnedFlags_getLsbD (profile : Vector ZoneEntry 32) (z : Zone) :
    (learnedFlags profile).getLsbD z.val = profile[z].learned := by
  have sum : (List.finRange 32).foldl (fun n z => n + (if profile[z].learned then 2 ^ z.val else 0)) 0
      = bitSum (fun i => if h : i < 32 then profile[i].learned else false) 32 := by
    rw [bitSum, ← List.map_coe_finRange_eq_range, List.foldl_map]
    simp
  rw [learnedFlags, sum, BitVec.getLsbD_ofNat, testBit_bitSum _ z.isLt]
  simp [z.isLt]

theorem octetAt_values (l : List ZoneEntry) (z : Nat) (h : z < l.length) :
    octetAt (l.flatMap fun e => num16 e.value) (2 * z) = (BitVec.ofNat 16 l[z].value).extractLsb' 8 8
      ∧ octetAt (l.flatMap fun e => num16 e.value) (2 * z + 1) = (BitVec.ofNat 16 l[z].value).extractLsb' 0 8 := by
  induction l generalizing z with
  | nil => exact absurd h (Nat.not_lt_zero z)
  | cons e l ih =>
      cases z with
      | zero => simp [octetAt, num16, bytes16]
      | succ z =>
          have := ih z (Nat.lt_of_succ_lt_succ h)
          simpa [octetAt, num16, bytes16, Nat.mul_succ] using this

theorem profileContent_length (travel : Nat) (profile : Vector ZoneEntry 32) :
    (profileContent travel profile).length = 70 := by
  simp [profileContent, num16, bytes16, bytes32, List.length_flatMap]

theorem decode_profile {travel : Nat} {profile : Vector ZoneEntry 32} (ht : travel ≤ 65535)
    (hv : ∀ z : Zone, profile[z].value ≤ 65535) : ∃ read, decodeProfile (profileContent travel profile) = some (travel, read)
      ∧ ∀ z : Zone, read z = (profile[z].learned, profile[z].value) := by
  have octet : ∀ n, octetAt (profileContent travel profile) (6 + n)
      = octetAt (profile.toList.flatMap fun e => num16 e.value) n := fun n => by
    simp [profileContent, octetAt, num16, bytes16, bytes32, Nat.add_comm 6 n]
  have travelRead : nat16 (octetAt (profileContent travel profile) 0) (octetAt (profileContent travel profile) 1) = travel :=
    nat16_ofNat ht
  have flagsRead : word32 (octetAt (profileContent travel profile) 2) (octetAt (profileContent travel profile) 3)
      (octetAt (profileContent travel profile) 4) (octetAt (profileContent travel profile) 5) = learnedFlags profile :=
    word32_split _
  rw [decodeProfile, if_pos (profileContent_length travel profile), travelRead, flagsRead]
  refine ⟨_, rfl, fun z => ?_⟩
  obtain ⟨first, second⟩ := octetAt_values profile.toList z.val (by simp)
  rw [show 7 + 2 * z.val = 6 + (2 * z.val + 1) by omega, octet, octet, first, second, learnedFlags_getLsbD,
    nat16_ofNat (by simpa using hv z)]
  simp

theorem decode_window (w : Window) (hlow : -32768 ≤ w.p) (hhigh : w.p ≤ 32767)
    (hq : ∀ q ∈ w.dropOwed, -32768 ≤ q ∧ q ≤ 32767) :
    decodeWindow (windowContent w) = some (!w.norm, w.recMoving, w.dropOwed.isSome, w.p, w.dropOwed.getD 0) := by
  have flags : ∀ a b c : Bool, let f := byte (a.toNat + 2 * b.toNat + 4 * c.toNat)
      (field f 0 1 == 1) = a ∧ (field f 1 1 == 1) = b ∧ (field f 2 1 == 1) = c := by decide
  obtain ⟨unnorm, moving, owed⟩ := flags (!w.norm) w.recMoving w.dropOwed.isSome
  have p0 : -32768 ≤ w.dropOwed.getD 0 ∧ w.dropOwed.getD 0 ≤ 32767 := by
    cases ho : w.dropOwed with
    | none => decide
    | some q => exact hq q ho
  simp only [windowContent, bytes16, List.cons_append, List.nil_append, decodeWindow, unnorm, moving, owed,
    word16_ofInt hlow hhigh, word16_ofInt p0.1 p0.2]

theorem decode_latch (l : Latch) : decodeLatch (latchContent l) = some (l.lock, l.child == .engaged) := by
  unfold latchContent decodeLatch
  generalize l.lock = lock
  generalize l.child = child
  cases lock <;> cases child <;> rfl

/-- Settles O11: record by record. -/
theorem storedRecordsReadBack : Obligations.StoredRecordsReadBack := by
  refine ⟨goodContent_recordBytes, fun c h => ⟨rfl, decode_config c h⟩, fun n k => ⟨rfl, fun paired => ?_, fun bare => ?_⟩,
    fun travel profile ht hv => ⟨profileContent_length travel profile, decode_profile ht hv⟩, decode_window, decode_latch⟩
  · have stored : storedPaired k = true := by rcases paired with e | e <;> simp [storedPaired, e]
    rw [decode_keyContent, if_pos stored]
  · have stored : ¬ storedPaired k = true := by rcases bare with e | e <;> simp [storedPaired, e]
    rw [decode_keyContent, if_neg stored]

end Sys2Proof.Proofs.Layouts
end

section
/-! What a command leaves when it has queued own frames: the state it was to reach, kept at the end of the command. -/

namespace Sys2Proof.Proofs.Ends

open Sys2Proof Sys2Proof.Machine Sys2Proof.Proofs.Steps Sys2Proof.Proofs.KeyFrames

/-- A frame whose report "not sent" no block acts on (R137). -/
def Reportless (p : Payload) : Prop := ∀ s, notSent p s = s

/-! ## Queuing a frame leaves the start hold -/

theorem notSent_startHold (p : Payload) (s : State) : (notSent p s).intent.startHold = s.intent.startHold := by
  have lost : (claimLost s).intent.startHold = s.intent.startHold := by
    unfold claimLost
    split
    · rfl
    · split
      · rfl
      · split <;> rfl
      · rfl
  unfold notSent
  split
  · rfl
  · split
    · exact lost
    · rfl
  · split
    · exact lost
    · rfl
  · rfl
  · rfl
  · split <;> rfl
  · rfl

theorem tell_startHold (e : TxEntry) (s : State) : (Machine.tell e s).intent.startHold = s.intent.startHold := by
  unfold Machine.tell
  split
  · rfl
  · exact notSent_startHold _ s

theorem queueEntry_startHold (e : TxEntry) (s : State) : (queueEntry e s).intent.startHold = s.intent.startHold := by
  unfold queueEntry
  split
  · exact tell_startHold e s
  · split
    · rfl
    · split
      · exact tell_startHold _ _
      · rfl

/-- `b` is `a` with the frames `ps` queued, whatever that evicts. -/
structure Adds (ps : List Payload) (a b : State) : Prop where
  quiet : Quiet a b
  hold : b.intent.startHold = a.intent.startHold
  unclaimed : Unclaimed a b
  stage : NoInterior a → NoInterior b
  gentle : a.line.tx.length + ps.length ≤ 6 → Gentle ps.length a b
  queued : a.line.state = .ok → a.line.tx.length + ps.length ≤ 6 → ∀ p ∈ ps, p.kind ≠ 12 → Queued p b

section
variable {a b c : State} {ps qs : List Payload} {p : Payload}

theorem Adds.refl (s : State) : Adds [] s s :=
  ⟨.refl s, rfl, .refl s, id, fun _ => .refl s, fun _ _ _ h => absurd h List.not_mem_nil⟩

theorem Adds.of_eq (h : b = a) : Adds [] a b := h ▸ .refl b

theorem isAnnouncement_false {e : TxEntry} (h : e.frame.payload.kind ≠ 12) : isAnnouncement e = false := by
  unfold isAnnouncement
  split
  · rename_i hp
    exact absurd (by rw [hp]; rfl) h
  · rfl

theorem queued_stays {n : Nat} (g : Gentle n a b) (hq : Queued p a) (hp : p.kind ≠ 12) (haddr : b.addr = a.addr) :
    Queued p b := by
  obtain ⟨e, he, rfl, ho⟩ := hq
  exact ⟨e, g.stays e he (isAnnouncement_false hp), rfl, ho.trans haddr.symm⟩

theorem Adds.trans (h : Adds ps a b) (k : Adds qs b c) : Adds (ps ++ qs) a c where
  quiet := h.quiet.trans k.quiet
  hold := k.hold.trans h.hold
  unclaimed := h.unclaimed.trans k.unclaimed
  stage := k.stage ∘ h.stage
  gentle room := by
    rw [List.length_append] at room ⊢
    have g := h.gentle (by omega)
    exact g.trans (k.gentle (by have := g.length; omega))
  queued ok room p hp hk := by
    rw [List.length_append] at room
    have g := h.gentle (by omega)
    have room' : b.line.tx.length + qs.length ≤ 6 := by have := g.length; omega
    rcases List.mem_append.1 hp with hp | hp
    · exact queued_stays (k.gentle room') (h.queued ok (by omega) p hp hk) hk k.quiet.addr
    · exact k.queued (g.state.trans ok) room' p hp hk

/-- Queuing a frame that is no own claim: one with a report only where the line is OK. -/
theorem adds_queueAs (cls : Fin 8) (s : State) (hc : isClaimPayload p = false) (hr : s.line.state ≠ .ok → Reportless p) :
    Adds [p] s (queueAs cls p s) where
  quiet := queueAs_quiet cls p s
  hold := queueEntry_startHold _ s
  unclaimed := queueAs_unclaimed cls p s hc
  stage := queueAs_stage cls p s
  gentle room := by
    by_cases ok : s.line.state = .ok
    · exact queueAs_gentle cls p s (Nat.lt_of_succ_le room) ok
    · have refused : queueAs cls p s = s := by
        have : admitted cls p s = false := by simp [admitted, inLineFault, ok]
        simp [queueAs, queueEntry, newEntry, this, Machine.tell, hr ok s]
      rw [refused]
      exact (Gentle.refl s).mono (Nat.zero_le _)
  queued ok room q hq _ := by
    obtain rfl := List.mem_singleton.1 hq
    rw [queueAs_room cls q s (Nat.lt_of_succ_le room) ok]
    exact ⟨newEntry cls q s, (mem_insertTx _ _ _).2 (.inl rfl), rfl, rfl⟩

theorem adds_queueFrame (s : State) (hc : isClaimPayload p = false) (hr : s.line.state ≠ .ok → Reportless p) :
    Adds [p] s (queueFrame p s) := adds_queueAs _ s hc hr

theorem reportless_windowReport (rise unnorm : Bool) (o : Outcome) (p : BitVec 16) :
    Reportless (.windowReport rise unnorm o p) := fun _ => rfl

theorem reportless_faultNotice (f : StationFault) (d : Byte) : Reportless (.faultNotice f d) := fun _ => rfl

theorem reportless_intentOutcome (o : OutcomeFrame) : Reportless (.intentOutcome o) := fun _ => rfl

theorem reportless_intentAck (a : AckFrame) : Reportless (.intentAck a) := fun _ => rfl

/-! ## Other changes on both sides -/

/-- The same parts that no frame touches put in on both sides. -/
theorem Adds.put (h : Adds ps a b) (now : Nat) (pins : Pins) (win : Window) (pinch : Pinch) (latch : Latch) (keys : Keys) :
    Adds ps { a with now := now, pins := pins, win := win, pinch := pinch, latch := latch, keys := keys }
      { b with now := now, pins := pins, win := win, pinch := pinch, latch := latch, keys := keys } where
  quiet := { h.quiet with now := rfl, pins := rfl, win := rfl, pinch := rfl, latch := rfl, keys := rfl }
  hold := h.hold
  unclaimed := h.unclaimed
  stage := h.stage
  gentle room := { h.gentle room with }
  queued := h.queued

/-- The write-back queue once a record is queued (R188). -/
def withRecordId (r : RecordId) (q : List RecordId) : List RecordId := if r ∈ q then q else q ++ [r]

theorem queueRecord_eq (r : RecordId) (s : State) :
    queueRecord r s = { s with store := { s.store with queue := withRecordId r s.store.queue } } := by
  unfold queueRecord withRecordId
  split <;> rfl

/-- The same record queued on both sides (R188). -/
theorem Adds.queueRecord (h : Adds ps a b) (r : RecordId) : Adds ps (queueRecord r a) (queueRecord r b) := by
  have queue := congrArg Store.queue h.quiet.store
  change b.store.queue = a.store.queue at queue
  have store : ({ b.store with queue := withRecordId r a.store.queue } : Store).fixed
      = ({ a.store with queue := withRecordId r a.store.queue } : Store).fixed :=
    congrArg (fun x : Store => { x with queue := withRecordId r a.store.queue }) h.quiet.store
  rw [queueRecord_eq, queueRecord_eq, queue]
  exact
    { quiet := { h.quiet with store := store }
      hold := h.hold
      unclaimed := h.unclaimed
      stage := h.stage
      gentle := fun room => { h.gentle room with store := by rw [(h.gentle room).store] }
      queued := h.queued }

end

/-! ## The end of a command -/

section
variable {s m : State} {ps : List Payload} {f pin : State → State}

theorem Adds.calm {t : State} (h : Adds ps m t) (hm : Calm m) : Calm t := by
  obtain ⟨hreset, hrun, hheld, hdrop, hrec⟩ := hm
  exact ⟨h.quiet.heldSince.trans hreset, h.quiet.powerState.trans hrun, h.quiet.held.trans hheld,
    by rw [h.quiet.win, hdrop], h.stage hrec⟩

theorem announcementWaits_of_mem {e : TxEntry} (h : e ∈ s.line.tx) (ha : isAnnouncement e = true) (hi : e.inTx = false) :
    announcementWaits s = true := List.any_eq_true.2 ⟨e, h, by simp [ha, hi]⟩

theorem queueAnnouncement_waits (room : s.line.tx.length < 6) (ok : s.line.state = .ok) :
    announcementWaits (queueAnnouncement s) = true := by
  let x : State := { s with census := { s.census with
    waitingChange := false, lastWatched := watchedFields (announcedNow s), statusOwed := false } }
  unfold queueAnnouncement
  simp only
  rw [if_neg (by simp [inLineFault, ok])]
  split
  · rename_i waits
    obtain ⟨old, hold⟩ : ∃ old, s.line.tx.find? (fun e => isAnnouncement e && !e.inTx) = some old := by
      rcases h : s.line.tx.find? (fun e => isAnnouncement e && !e.inTx) with _ | old
      · obtain ⟨y, hy, hw⟩ := List.any_eq_true.1 waits
        exact absurd hw (List.find?_eq_none.1 h y hy)
      · exact ⟨old, rfl⟩
    refine announcementWaits_of_mem (e := { newEntry (announcementClass s) (.announcement (announcedNow s)) x with age := old.age })
      ?_ rfl rfl
    unfold replaceAnnouncement
    simp only [hold]
    exact (mem_insertTx _ _ _).2 (.inl rfl)
  · rw [show queueAs (announcementClass s) (.announcement (announcedNow s)) x = _ from queueAs_room _ _ x room ok]
    exact announcementWaits_of_mem (e := newEntry (announcementClass s) (.announcement (announcedNow s)) x)
      ((mem_insertTx _ _ _).2 (.inl rfl)) rfl rfl

theorem settleDue_gentle (room : s.line.tx.length < 6) : Gentle 1 s (settleDue s) := by
  unfold settleDue
  split
  · exact queueAnnouncement_gentle s room
  · exact (Gentle.refl s).mono (Nat.zero_le _)

theorem settleDue_waits (h : announcementWaits s = true) : settleDue s = s := if_neg (by simp [h])

theorem settleDue_fault (h : s.line.state ≠ .ok) : settleDue s = s := if_neg (by simp [admitted, inLineFault, h])

/-- At most one of the own ANNOUNCEMENTs that may be due at the end of a command is queued. -/
theorem settleAnnouncement_gentle (room : s.line.tx.length < 6) : Gentle 1 s (settleDue (settleStatus s)) := by
  unfold settleStatus
  split
  · exact settleDue_gentle room
  · split
    · have own := queueAnnouncement_gentle s room
      by_cases ok : s.line.state = .ok
      · rwa [settleDue_waits (queueAnnouncement_waits room ok)]
      · rwa [settleDue_fault (own.state ▸ ok)]
    · refine Gentle.trans (n := 1) (m := 0) ?_ (settleDue_gentle ?_)
      · exact ⟨rfl, rfl, rfl, rfl, fun _ he _ => he, by simp, rfl⟩
      · exact room

/-- The end of a command in a calm state queues at most two own frames: the CENSUS and one ANNOUNCEMENT. -/
theorem settle_two (s : State) (h : Calm s) (room : s.line.tx.length + 2 ≤ 6) : Gentle 2 s (settle s) := by
  have census : Gentle 1 s (settleCensus s) := by
    unfold settleCensus
    split
    · exact Gentle.trans (n := 1) (m := 0) (b := { s with census := { s.census with censusOwed := false } })
        ⟨rfl, rfl, rfl, rfl, fun _ he _ => he, by simp, rfl⟩
        (queueCensus_gentle { s with census := { s.census with censusOwed := false } } (by simp only; omega))
    · exact (Gentle.refl s).mono (Nat.zero_le _)
  have hold : Gentle 0 (settleCensus s) (settleAgreement (settleStartHold (settleCensus s))) := by
    unfold settleStartHold
    split
    · exact ⟨rfl, rfl, rfl, rfl, fun _ he _ => he, by simp [settleAgreement], rfl⟩
    · exact ⟨rfl, rfl, rfl, rfl, fun _ he _ => he, by simp [settleAgreement], rfl⟩
  rw [settle_calm s h]
  exact (census.trans hold).trans (settleAnnouncement_gentle (by have := (census.trans hold).length; omega))

/-- A command whose effect is `m` with the frames `ps` queued, where the room that `Kept` speaks of is room for them. -/
theorem Adds.kept_roomy {t : State} (h : Adds ps m t) (hm : Calm m) (room : Roomy 4 m → Roomy (ps.length + 2) m) :
    Kept m (settle t) := by
  have q := h.quiet.trans (settle_quiet t (h.calm hm))
  have g : Roomy 4 m → Gentle (ps.length + 2) m (settle t) := fun hr => by
    have hlen : m.line.tx.length + (ps.length + 2) ≤ 6 := room hr
    have first := h.gentle (by omega)
    exact first.trans (settle_two t (h.calm hm) (by have := first.length; omega))
  have u := h.unclaimed.trans (settle_unclaimed t (h.calm hm))
  refine ⟨q.now, q.pending, q.freeCount, q.pins, q.addr, q.cfg, q.win, q.pinch, q.latch, q.keys, q.intent, q.table,
    q.startHold, q.claims, q.nextNumber, q.burst, fun hr => ?_, q.line, fun hr => (g hr).stays, q.census, q.power, q.store,
    q.flush, fun hr => by rw [(g hr).store]⟩
  have e : (settle t).search = m.search := hr.elim (fun hr => (g hr).search) (fun hn => (u hn).2)
  rw [e]
  exact ⟨rfl, rfl⟩

theorem Adds.queued_roomy {t : State} (h : Adds ps m t) (hm : Calm m) (ok : m.line.state = .ok)
    (room : Roomy (ps.length + 2) m) {p : Payload} (hp : p ∈ ps) (hk : p.kind ≠ 12) : Queued p (settle t) := by
  have hlen : m.line.tx.length + (ps.length + 2) ≤ 6 := room
  have first := h.gentle (by omega)
  have g := settle_two t (h.calm hm) (by have := first.length; omega)
  exact queued_stays g (h.queued ok (by omega) p hp hk) hk (settle_quiet t (h.calm hm)).addr

theorem roomy_of_few (hn : ps.length ≤ 2) (room : Roomy 4 m) : Roomy (ps.length + 2) m := by
  have : m.line.tx.length + 4 ≤ 6 := room
  show m.line.tx.length + (ps.length + 2) ≤ 6
  omega

theorem Adds.kept {t : State} (h : Adds ps m t) (hm : Calm m) (hn : ps.length ≤ 1) : Kept m (settle t) :=
  h.kept_roomy hm (roomy_of_few (by omega))

theorem Adds.queuedAtEnd {t : State} (h : Adds ps m t) (hm : Calm m) (hn : ps.length ≤ 1) (ok : m.line.state = .ok)
    (room : Roomy 4 m) {p : Payload} (hp : p ∈ ps) (hk : p.kind ≠ 12) : Queued p (settle t) :=
  h.queued_roomy hm ok (roomy_of_few (by omega) room) hp hk

/-- A command whose effect is `m` with at most one frame queued keeps `m` and queues the frame. -/
theorem liveInput_adds (hs : s.power.heldSince = none) (h : Adds ps m (f s)) (hm : Calm m) (hn : ps.length ≤ 1) :
    ∃ v, liveInput pin f s = .next v ∧ Kept m v
      ∧ (m.line.state = .ok → Roomy 4 m → ∀ p ∈ ps, p.kind ≠ 12 → Queued p v) :=
  ⟨settle (f s), by simp [liveInput, hs], h.kept hm hn, fun ok room _ hp hk => h.queuedAtEnd hm hn ok room hp hk⟩

theorem live_adds (hs : s.power.heldSince = none) (h : Adds ps m (f s)) (hm : Calm m) (hn : ps.length ≤ 1) :
    ∃ v, live f s = .next v ∧ Kept m v
      ∧ (m.line.state = .ok → Roomy 4 m → ∀ p ∈ ps, p.kind ≠ 12 → Queued p v) := liveInput_adds hs h hm hn

theorem whileAwake_adds (hs : Calm s) (h : Adds ps m (f s)) (hm : Calm m) (hn : ps.length ≤ 1) :
    ∃ v, whileAwake f s = .next v ∧ Kept m v
      ∧ (m.line.state = .ok → Roomy 4 m → ∀ p ∈ ps, p.kind ≠ 12 → Queued p v) := by
  refine live_adds hs.1 (f := fun t => if awake t then f t else t) ?_ hm hn
  have up : awake s = true := by simp [awake, hs.2.1]
  simpa only [up, if_true] using h

end

end Sys2Proof.Proofs.Ends
end

section
/-! The glass: what its operations come to in the terms of the statements (chapters 1 and 2). -/

namespace Sys2Proof.Proofs.Glass

open Sys2Proof Sys2Proof.Machine Sys2Proof.Proofs.Steps Sys2Proof.Proofs.Invariants Sys2Proof.Proofs.KeyFrames
open Sys2Proof.Proofs.Ends

/-! ## The place of the glass -/

/-- The count, the drift events and the normalisation are the same. -/
def PlaceKept (a b : State) : Prop := placeOf b.win = placeOf a.win

theorem placeKept_of_win {a b : State} (h : b.win = a.win) : PlaceKept a b := by rw [PlaceKept, h]

theorem PlaceKept.p {a b : State} (h : PlaceKept a b) : b.win.p = a.win.p := congrArg Prod.fst h

theorem placeKept_latchClosed : LatchClosed PlaceKept where
  refl _ := rfl
  trans h k := k.trans h
  clock _ _ := by simp [PlaceKept, placeOf]
  quiet q _ _ := placeKept_of_win q.win
  pins _ _ _ := rfl
  challenge _ := rfl
  glass g := g.place
  keys _ _ _ _ := rfl
  search _ e _ := e
  store _ _ _ := rfl
  latch _ _ _ := rfl
  input _ := rfl

theorem placeKept_closed : Closed PlaceKept where
  toLatchClosed := placeKept_latchClosed
  line _ hs _ := hs
  census _ _ _ := rfl
  power _ _ _ _ := rfl
  intent _ _ _ := rfl
  childEngaged s := placeKept_latchClosed.childEngaged_of_free (fun _ _ => rfl) s
  childReleased s := placeKept_latchClosed.childReleased_of_free (fun _ _ => rfl) s
  awake _ _ _ _ := rfl

theorem placeKept_endClosed : EndClosed PlaceKept PlaceKept PlaceKept :=
  endClosed_of_closed placeKept_closed (fun _ _ _ => rfl) (fun _ _ => rfl) fun _ => rfl

/-- The end of a command keeps the place. -/
theorem settle_place (s : State) : PlaceKept s (settle s) := placeKept_endClosed.under_settle rfl

/-- What follows once a driven pulse has been counted keeps the place. -/
theorem drivenPulse_place (d : Direction) (u t : Nat) (s : State) :
    PlaceKept (countPulse d (owedPulse s)) (drivenPulse d u t s) := by
  rw [drivenPulse_eq]
  split
  · rename_i hd
    have pulsed := placeKept_latchClosed.under_weighPulse_of_free (fun _ => id)
      (placeKept_latchClosed.refl (countPulse d (owedPulse s))) u t ⟨d, hd.1⟩
    rw [weighPulse_eq] at pulsed
    split
    · rename_i hc
      rwa [if_pos hc] at pulsed
    · rename_i hc
      rw [if_neg hc] at pulsed
      exact placeKept_latchClosed.under_afterPulse pulsed
  · exact rfl

theorem owedPulse_place (s : State) : PlaceKept s (owedPulse s) :=
  placeKept_latchClosed.under_oweDrop (placeKept_latchClosed.under_withWin (placeKept_latchClosed.refl s) (by rfl))

theorem owedPulse_cfg (s : State) : (owedPulse s).cfg = s.cfg := by
  unfold owedPulse oweDrop
  split
  · split <;> simp
  · simp

theorem unnormalise_p (s : State) : (unnormalise s).win.p = s.win.p := by
  have ended : PlaceKept (queueRecord .windowState (s.withWin { s.win with norm := false }))
      (endMotion .stopped (queueRecord .windowState (s.withWin { s.win with norm := false }))) :=
    placeKept_latchClosed.under_endMotion rfl _
  unfold unnormalise
  split
  · simp only
    split
    · split
      · simp
      · exact ended.p.trans (by simp)
    · simp
  · rfl

/-- The count after a pulse, clamped at its bounds (R1). -/
theorem countPulse_p (d : Direction) (s : State) : (countPulse d s).win.p =
    if -32 ≤ movedCount d s.win.p ∧ movedCount d s.win.p ≤ (s.cfg.travel : Int) + 32 then movedCount d s.win.p
    else s.win.p := by
  unfold countPulse countLow countHigh
  simp only
  split
  · rfl
  · split
    · rfl
    · rw [unnormalise_p]
      rfl

theorem calm_of_same {s t : State} (h : Calm s)
    (e : (t.power.heldSince, t.power.state, t.intent.held, t.win.dropAnswer, t.search.record)
      = (s.power.heldSince, s.power.state, s.intent.held, s.win.dropAnswer, s.search.record)) : Calm t := by
  obtain ⟨hh, hp, hi, hw, hr⟩ := by simpa only [Prod.mk.injEq] using e
  rw [Calm, hh, hp, hi, hw, hr]
  exact h

theorem movedCount_eq (d : Direction) (p : Int) : movedCount d p = if d = .up then p - 1 else p + 1 := by cases d <;> rfl

theorem countPulse_inside {d : Direction} {s : State} (hlow : -32 ≤ movedCount d s.win.p)
    (hhigh : movedCount d s.win.p ≤ (s.cfg.travel : Int) + 32) :
    countPulse d s = s.withWin { s.win with p := movedCount d s.win.p } := if_pos (And.intro hlow hhigh)

theorem coastPulse_late {s : State} {c : Nat × Direction} (hc : s.win.coast = some c) (h : c.1 < s.now) :
    coastPulse s = s := by
  unfold coastPulse
  rw [hc]
  exact if_neg (by omega)

theorem coastPulse_open {s : State} {c : Nat × Direction} (hc : s.win.coast = some c) (h : s.now ≤ c.1) :
    coastPulse s = countPulse c.2 (s.withWin { s.win with lastPulseAt := s.now }) := by
  unfold coastPulse
  rw [hc]
  exact if_pos h

theorem hallPulseOp_driven {s : State} {u : Nat} {d : Direction} (hu : 4500 ≤ u) (hd : s.win.motor = .driven d) (t : Nat) :
    let n := advanceTo (s.win.lastPulseAt + t) s
    let v := drivenPulse d u t n
    hallPulseOp u t s = pulseSample u { v with pins := { v.pins with supplySense := u } } := by
  have hlow : ¬ u < 4500 := by omega
  simp [hallPulseOp, hlow, hd]

theorem hallPulseOp_undriven {s : State} {u : Nat} (hs : Calm s) (hu : 4500 ≤ u) (hd : isDriven s.win.motor = false)
    (t : Nat) : hallPulseOp u t s = coastPulse (advanceTo (s.win.lastPulseAt + t) s) := by
  have hlow : ¬ u < 4500 := by omega
  cases hm : s.win.motor <;> simp [isDriven, hm] at hd <;> simp [hallPulseOp, hlow, hm, awake, hs.2.1]

/-- What a command with the effect `f` at a calm state comes to. -/
theorem exec_hallPulse_kept {s m : State} {u t : Nat} (hs : Calm s) (h : hallPulseOp u t s = m) (hm : Calm m) :
    ∃ v, exec (.hallPulse u t) s = .next v ∧ Kept m v := by
  subst h
  exact liveInput_kept hs.1 hm

theorem drivenHallPulse_p {s : State} {u : Nat} {d : Direction} (hu : 4500 ≤ u) (hd : s.win.motor = .driven d) (t : Nat) :
    (hallPulseOp u t s).win.p =
      if -32 ≤ movedCount d s.win.p ∧ movedCount d s.win.p ≤ (s.cfg.travel : Int) + 32 then movedCount d s.win.p
      else s.win.p := by
  have owed := (owedPulse_place (advanceTo (s.win.lastPulseAt + t) s)).p
  have pulsed := (drivenPulse_place d u t (advanceTo (s.win.lastPulseAt + t) s)).p
  rw [hallPulseOp_driven hu hd]
  generalize drivenPulse d u t (advanceTo (s.win.lastPulseAt + t) s) = v at pulsed ⊢
  rw [(placeKept_closed.under_pulseSample (a := v) (s := { v with pins := { v.pins with supplySense := u } }) rfl u).p, pulsed, countPulse_p, owed, owedPulse_cfg]
  simp

/-- Settles O12: a driven pulse moves the count and what follows keeps the place; a coast pulse moves nothing else. -/
theorem hallPulseMovesTheCount : Obligations.HallPulseMovesTheCount := by
  refine ⟨fun s u t d hheld hu hd => ?_, fun s u t hs hu hd => ⟨fun hc => ?_, fun c hc hlate => ?_, fun c hc hopen hlow hhigh => ?_⟩⟩
  · refine ⟨settle (hallPulseOp u t s), (if_neg (by simp [hheld])), ?_⟩
    rw [(settle_place _).p, drivenHallPulse_p hu hd]
    simp only [movedCount_eq]
  · refine exec_hallPulse_kept hs ?_ (calm_advanceTo hs)
    rw [hallPulseOp_undriven hs hu hd]
    simp [coastPulse, hc]
  · refine exec_hallPulse_kept hs ?_ (calm_advanceTo hs)
    rw [hallPulseOp_undriven hs hu hd]
    exact coastPulse_late (c := c) (by simpa using hc) hlate
  · refine exec_hallPulse_kept hs ?_ (calm_of_same (calm_advanceTo (t := s.win.lastPulseAt + t) hs) rfl)
    rw [hallPulseOp_undriven hs hu hd, coastPulse_open (c := c) (by simpa using hc) hopen, countPulse_inside]
    · simp only [withWin_win, advanceTo_win_p, movedCount_eq]
      rfl
    · simpa [movedCount_eq] using hlow
    · simpa [movedCount_eq] using hhigh

end Sys2Proof.Proofs.Glass
end

section
/-! Evaluated pulses and the pinch count (2.1 to 2.3). -/

namespace Sys2Proof.Proofs.Glass

open Sys2Proof Sys2Proof.Machine Sys2Proof.Proofs.Steps Sys2Proof.Proofs.Invariants Sys2Proof.Proofs.KeyFrames
open Sys2Proof.Proofs.Ends

/-- The rise measures after a sample (R171). -/
def measuredPower (u now : Nat) (p : Power) : Power :=
  { p with
    rise6300 := if 6300 ≤ u then some (p.rise6300.getD now) else none
    rise7800 := if 7800 ≤ u then some (p.rise7800.getD now) else none
    rise9300 := if 9300 ≤ u then some (p.rise9300.getD now) else none }

/-- A sample that lets the supply state not fall moves the rise measures alone (R170, R171). -/
theorem pulseSample_measures {u : Nat} {s : State} (h : ¬ (levelState u).rank < s.power.supply.rank) :
    pulseSample u s = { s with power := measuredPower u s.now s.power } := if_neg h

theorem pushHistory_eq (l : List Nat) (u : Nat) : pushHistory l u = (l ++ [u]).drop (l.length + 1 - 8) := by
  unfold pushHistory
  split
  · exact (List.drop_append_of_le_length (by omega)).symm
  · rw [show l.length + 1 - 8 = 0 by omega, List.drop_zero]

theorem loadFigure_eq (c : Settings) (u t : Nat) :
    loadFigure c u t = min 16383 (u - if u < c.kspeed / t then u else c.kspeed / t) := by
  unfold loadFigure backEmf
  congr 2
  split <;> omega

theorem modeFactor_eq {w : Window} {r : Request} (h : w.req = some r) :
    modeFactor w = if w.overrideMotion then 8 else if r.source = .localSwitch ∨ r.source = .remoteSwitch then 4 else 3 := by
  unfold modeFactor
  rw [h]
  obtain ⟨source, dir, mode⟩ := r
  cases source <;> simp

theorem supplyFactor_eq (v : Supply) : supplyFactor v = if v = .normal then 4 else 5 := by cases v <;> rfl

/-! ## The end of a motion -/

/-- The WINDOW REPORT of a motion's end, of a motion of source GLOBAL or RISE (R24). -/
def reportOf (r : Request) (o : Outcome) (w : Window) : List Payload :=
  if r.source = .global ∨ r.source = .rise then
    [.windowReport (r.source == .rise) (!w.norm) o (BitVec.ofInt 16 w.p)]
  else []

theorem reportOf_length (r : Request) (o : Outcome) (w : Window) : (reportOf r o w).length ≤ 1 := by
  unfold reportOf
  split <;> simp

theorem reportMotion_adds (r : Request) (o : Outcome) (s : State) : Adds (reportOf r o s.win) s (reportMotion r o s) := by
  unfold reportMotion reportOf
  split
  · exact adds_queueFrame s rfl fun _ => reportless_windowReport _ _ _ _
  · exact .refl s

theorem answerDrop_none {r : Request} {o : Outcome} {w : Window} (h : w.drop = none) : answerDrop r o w = w := by
  simp [answerDrop, h]

theorem motorTo_eq {m : Motor} {s : State} (h : s.win.drop = none) : motorTo m s = s.withWin { s.win with
    motor := m
    coast := match s.win.motor with
      | .driven d => some (s.now + 30000, d)
      | _ => s.win.coast } := by
  unfold motorTo
  split
  · rename_i d hd
    simp [h, hd]
  · rename_i hd
    cases hm : s.win.motor <;> simp [hm] at hd ⊢

/-- The bookkeeping of a motion's end with no drop outstanding (R13). -/
def closed (r : Request) (o : Outcome) (s : State) : State :=
  { s with
    win := { s.win with lastEnd := some (r.source, o), overrideMotion := false }
    pinch := if s.win.overrideMotion then endOverride s.pinch else s.pinch }

theorem closeMotion_eq {r : Request} {s : State} (o : Outcome) (hd : s.win.drop = none) :
    closeMotion r o s = closed r o (reportMotion r o s) := by
  have hw := (reportMotion_adds r o s).quiet.win
  unfold closeMotion
  simp only
  rw [answerDrop_none (by rw [hw, hd])]
  rfl

/-- A motion that ends with no drop outstanding ends as R8 and R13 give, once its report is queued. -/
theorem finishMotion_eq {r : Request} {s : State} (o : Outcome) (hr : s.win.req = some r) (hd : s.win.drop = none) :
    finishMotion o s = motionEnds r o (reportMotion r o s) := by
  have hw := (reportMotion_adds r o s).quiet.win
  have hd' : (closed r o (reportMotion r o s)).win.drop = none := (congrArg Window.drop hw).trans hd
  unfold finishMotion
  simp only [hr]
  rw [closeMotion_eq o hd, motorTo_eq hd']
  generalize reportMotion r o s = x
  unfold markRest motionEnds closed
  by_cases hrec : x.win.recMoving = true
  · rcases hm : x.win.motor with _ | d | _
    · cases x.win.coast <;> simp [hrec, State.withWin]
    · simp [hrec, State.withWin]
    · cases x.win.coast <;> simp [hrec, State.withWin]
  · simp [hrec, State.withWin] <;> rfl

/-- The coast window once the motor is not driven any more (R1, R8). -/
def coastLeft (s : State) : Option (Nat × Direction) :=
  match s.win.motor with
  | .driven d => some (s.now + 30000, d)
  | _ => s.win.coast

/-- The state a motion's end leaves but for the window record (R8, R13). -/
def rested (r : Request) (o : Outcome) (s : State) : State :=
  { s with
    win := { s.win with
      motion := .idle, req := none, motor := .off, pauseEnd := none, brakeEnd := none, pauseLimit := none
      coast := coastLeft s, recMoving := false, lastEnd := some (r.source, o), overrideMotion := false }
    pinch := if s.win.overrideMotion then endOverride s.pinch else s.pinch }

theorem motionEnds_eq (r : Request) (o : Outcome) (s : State) : motionEnds r o s =
    if s.win.recMoving && (coastLeft s).isNone then queueRecord .windowState (rested r o s) else rested r o s := rfl

theorem coastLeft_congr {a b : State} (hw : b.win = a.win) (hn : b.now = a.now) : coastLeft b = coastLeft a := by
  simp only [coastLeft, hw, hn]

theorem adds_rested {a b : State} {ps : List Payload} (h : Adds ps a b) (r : Request) (o : Outcome) :
    Adds ps (rested r o a) (rested r o b) := by
  have same := h.put a.now a.pins (Glass.rested r o a).win (Glass.rested r o a).pinch a.latch a.keys
  have moved : Glass.rested r o b = { b with
      now := a.now, pins := a.pins, win := (Glass.rested r o a).win, pinch := (Glass.rested r o a).pinch
      latch := a.latch, keys := a.keys } := by
    simp only [Glass.rested, coastLeft_congr h.quiet.win h.quiet.now, h.quiet.win, h.quiet.pinch, ← h.quiet.now,
      ← h.quiet.pins, ← h.quiet.latch, ← h.quiet.keys]
  rw [moved]
  exact same

/-- The motion ends on both sides (R8). -/
theorem adds_motionEnds {a b : State} {ps : List Payload} (h : Adds ps a b) (r : Request) (o : Outcome) :
    Adds ps (motionEnds r o a) (motionEnds r o b) := by
  have rested := adds_rested h r o
  rw [motionEnds_eq, motionEnds_eq, coastLeft_congr h.quiet.win h.quiet.now, h.quiet.win]
  split
  · exact rested.queueRecord _
  · exact rested

theorem motionEnds_win (r : Request) (o : Outcome) (s : State) : (motionEnds r o s).win = (rested r o s).win := by
  rw [motionEnds_eq]
  split
  · exact queueRecord_win _ _
  · rfl

theorem motionEnds_drop (r : Request) (o : Outcome) (s : State) : (motionEnds r o s).win.drop = s.win.drop := by
  rw [motionEnds_win]
  rfl

theorem serveWaitingDrop_none {s : State} (h : s.win.drop = none) : serveWaitingDrop s = s := by
  simp [serveWaitingDrop, h]

/-- A motion that ends with no drop outstanding: its report is queued, and nothing else differs from what R8 gives. -/
theorem endMotion_adds {r : Request} {s : State} (o : Outcome) (hr : s.win.req = some r) (hd : s.win.drop = none) :
    Adds (reportOf r o s.win) (motionEnds r o s) (endMotion o s) := by
  have report := reportMotion_adds r o s
  have ended : endMotion o s = motionEnds r o (reportMotion r o s) := by
    unfold endMotion
    rw [finishMotion_eq o hr hd, serveWaitingDrop_none]
    rw [motionEnds_drop, report.quiet.win, hd]
  rw [ended]
  exact adds_motionEnds report r o

theorem motionEnds_calm {r : Request} {o : Outcome} {s : State} (h : Calm s) : Calm (motionEnds r o s) := by
  have rested : Calm (rested r o s) := calm_of_same h rfl
  rw [motionEnds_eq]
  split
  · exact calm_queueRecord rested
  · exact rested

/-! ## The sample of a driven pulse (R171) -/

/-- The state with the supply sample `u` of a driven pulse, which lets the supply state not fall. -/
def sampled (u : Nat) (s : State) : State :=
  { s with pins := { s.pins with supplySense := u }, power := measuredPower u s.now s.power }

theorem adds_sampled {a b : State} {ps : List Payload} (h : Adds ps a b) (u : Nat) : Adds ps (sampled u a) (sampled u b) := by
  have same := h.put a.now { a.pins with supplySense := u } a.win a.pinch a.latch a.keys
  have power : (measuredPower u a.now b.power).fixed = (measuredPower u a.now a.power).fixed :=
    congrArg (measuredPower u a.now) h.quiet.power
  have moved : sampled u b = { b with
      now := a.now, pins := { a.pins with supplySense := u }, win := a.win, pinch := a.pinch, latch := a.latch
      keys := a.keys, power := measuredPower u a.now b.power } := by
    simp only [sampled, ← h.quiet.win, h.quiet.pins, ← h.quiet.pinch, ← h.quiet.now, ← h.quiet.latch, ← h.quiet.keys]
  rw [moved]
  exact
    { quiet := { same.quiet with power := power }
      hold := same.hold
      unclaimed := same.unclaimed
      stage := same.stage
      gentle := fun room => { same.gentle room with }
      queued := same.queued }

theorem sampled_queueRecord (u : Nat) (r : RecordId) (s : State) :
    sampled u (queueRecord r s) = queueRecord r (sampled u s) := by rw [queueRecord_eq, queueRecord_eq]; rfl

theorem sampled_motionEnds (u : Nat) (r : Request) (o : Outcome) (s : State) :
    sampled u (motionEnds r o s) = motionEnds r o (sampled u s) := by
  rw [motionEnds_eq, motionEnds_eq, apply_ite (sampled u), sampled_queueRecord]
  rfl

/-- A driven pulse that brings `w`, with the frames `ps` queued, leaves `w` with its sample. -/
theorem drivenHallPulse_adds {s w : State} {u t : Nat} {d : Direction} {ps : List Payload} (hs : Calm s) (hu : 4500 ≤ u)
    (hlevel : ¬ (levelState u).rank < s.power.supply.rank) (hd : s.win.motor = .driven d) (hpower : w.power = s.power)
    (h : Adds ps w (drivenPulse d u t (advanceTo (s.win.lastPulseAt + t) s))) (hw : Calm w) (hn : ps.length ≤ 1) :
    ∃ v, exec (.hallPulse u t) s = .next v ∧ Kept (sampled u w) v
      ∧ (w.line.state = .ok → Roomy 4 w → ∀ p ∈ ps, p.kind ≠ 12 → Queued p v) := by
  refine liveInput_adds (m := sampled u w) hs.1 ?_ (calm_of_same hw rfl) hn
  have supply := congrArg Power.supply h.quiet.power
  change (drivenPulse d u t (advanceTo (s.win.lastPulseAt + t) s)).power.supply = w.power.supply at supply
  rw [hallPulseOp_driven hu hd]
  generalize drivenPulse d u t (advanceTo (s.win.lastPulseAt + t) s) = x at h supply
  rw [pulseSample_measures]
  · exact adds_sampled h u
  · show ¬ (levelState u).rank < x.power.supply.rank
    rwa [supply, hpower]

/-! ## The count of a driven pulse inside the bounds -/

/-- The state with the count at `q` after one more driven pulse (R1). -/
def counted (q : Int) (s : State) : State :=
  s.withWin { s.win with p := q, pulses := s.win.pulses + 1, lastPulseAt := s.now }

theorem oweDrop_none {s : State} (h : s.win.drop = none ∨ ∀ r ∈ s.win.req, r.source ≠ .drop) : oweDrop s = s := by
  unfold oweDrop
  split
  · rename_i r j hr hj _
    rcases h with h | h
    · simp [h] at hj
    · exact if_neg (h r hr)
  · rfl

theorem drivenPulse_inside {d : Direction} {s : State} (u t : Nat) (hd : s.win.motor = .driven d)
    (hdrop : s.win.drop = none ∨ ∀ r ∈ s.win.req, r.source ≠ .drop) (hlow : -32 ≤ movedCount d s.win.p)
    (hhigh : movedCount d s.win.p ≤ (s.cfg.travel : Int) + 32) :
    drivenPulse d u t s =
      if (weighedPulse u t (counted (movedCount d s.win.p) s)).pinch.count = 3 then
        declarePinch (weighedPulse u t (counted (movedCount d s.win.p) s))
      else afterPulse (weighedPulse u t (counted (movedCount d s.win.p) s)) := by
  have owed : owedPulse s = s.withWin { s.win with pulses := s.win.pulses + 1, lastPulseAt := s.now } :=
    oweDrop_none (s := s.withWin { s.win with pulses := s.win.pulses + 1, lastPulseAt := s.now }) hdrop
  have count : countPulse d (owedPulse s) = counted (movedCount d s.win.p) s := by
    rw [owed]
    exact countPulse_inside hlow hhigh
  rw [drivenPulse_eq, count, owed, if_pos ⟨hd, rfl⟩]

theorem afterPulse_target {r : Request} {d : Direction} {s : State} (hr : s.win.req = some r) (hd : s.win.motor = .driven d)
    (h : satisfied r s.win.p = true) : afterPulse s = endMotion (reached r.dir) s := by
  simp [afterPulse, hr, hd, h]

theorem afterPulse_frameless {r : Request} {d : Direction} {s : State} (hr : s.win.req = some r)
    (hd : s.win.motor = .driven d) (h : satisfied r s.win.p = false) (hf : framelessStops d s = true) :
    afterPulse s = endMotion .stopped s := by
  simp [afterPulse, hr, hd, h, hf]

theorem afterPulse_runs {r : Request} {d : Direction} {s : State} (hr : s.win.req = some r)
    (hd : s.win.motor = .driven d) (h : satisfied r s.win.p = false) (hf : framelessStops d s = false) :
    afterPulse s = s := by
  simp [afterPulse, hr, hd, h, hf]

/-- The mark a driven UP pulse leaves at its zone where it is not evaluated (R44). -/
def marked (z : Zone) (s : State) : State :=
  { s with pinch := { s.pinch with sums := s.pinch.sums.set z { s.pinch.sums[z] with mark := true } } }

theorem passStart_eq (w : Window) : passStart w = { w with
    motion := if w.motion = .starting ∧ 16 ≤ w.pulses then .moving else w.motion
    startStalls := if w.motion = .starting ∧ 16 ≤ w.pulses then 0 else w.startStalls } := by
  unfold passStart
  split <;> rfl

/-- A pulse that is not weighed joins the supply history and marks its zone when UP (R27, R44). -/
theorem weighedPulse_unweighed {u t : Nat} {q : Int} {s : State} (h : weighed (counted q s) = false) :
    sampled u (weighedPulse u t (counted q s))
      = if s.win.motor = .driven .up then marked (zoneOf s.cfg q) (pulseCounts u q s) else pulseCounts u q s := by
  have pulses : ∀ n : Nat, 16 ≤ n + 1 ↔ 15 ≤ n := fun n => by omega
  unfold weighedPulse pinchPulse
  simp only [h, Bool.false_eq_true, if_false, passStart_eq, pushHistory_eq]
  by_cases hd : s.win.motor = .driven .up
  · rw [if_pos hd, if_pos (show (counted q s).win.motor = .driven .up from hd)]
    simp only [counted, withWin_win, pulses]
    rfl
  · rw [if_neg hd, if_neg (show ¬ (counted q s).win.motor = .driven .up from hd)]
    simp only [counted, withWin_win, pulses]
    rfl

/-- `w` is `c` with its pulse weighed: another start, another pinch monitor and write-back queue (R7, R26). -/
structure PulseOf (c w : State) : Prop where
  win : w.win = passStart c.win
  rest : { w with win := c.win, pinch := c.pinch, store := c.store } = c

theorem weighedPulse_of (u t : Nat) (c : State) : PulseOf c (weighedPulse u t c) := by
  refine ⟨congrArg passStart (demanded_win c), ?_⟩
  have rest : { demanded c with win := c.win, pinch := c.pinch, store := c.store } = c := by
    unfold demanded demandZone unlearnZone
    split
    · split
      · rw [queueRecord_eq]
      · rfl
    · rfl
  exact rest

section
variable {c w : State}

theorem PulseOf.line (h : PulseOf c w) : w.line = c.line := (congrArg State.line h.rest :)
theorem PulseOf.power (h : PulseOf c w) : w.power = c.power := (congrArg State.power h.rest :)
theorem PulseOf.cfg (h : PulseOf c w) : w.cfg = c.cfg := (congrArg State.cfg h.rest :)
theorem PulseOf.latch (h : PulseOf c w) : w.latch = c.latch := (congrArg State.latch h.rest :)
theorem PulseOf.intent (h : PulseOf c w) : w.intent = c.intent := (congrArg State.intent h.rest :)
theorem PulseOf.search (h : PulseOf c w) : w.search = c.search := (congrArg State.search h.rest :)
theorem PulseOf.now (h : PulseOf c w) : w.now = c.now := (congrArg State.now h.rest :)

theorem PulseOf.p (h : PulseOf c w) : w.win.p = c.win.p := by rw [h.win, passStart_eq]
theorem PulseOf.norm (h : PulseOf c w) : w.win.norm = c.win.norm := by rw [h.win, passStart_eq]
theorem PulseOf.req (h : PulseOf c w) : w.win.req = c.win.req := by rw [h.win, passStart_eq]
theorem PulseOf.motor (h : PulseOf c w) : w.win.motor = c.win.motor := by rw [h.win, passStart_eq]
theorem PulseOf.drop (h : PulseOf c w) : w.win.drop = c.win.drop := by rw [h.win, passStart_eq]
theorem PulseOf.dropAnswer (h : PulseOf c w) : w.win.dropAnswer = c.win.dropAnswer := by rw [h.win, passStart_eq]

theorem PulseOf.calm (h : PulseOf c w) (hc : Calm c) : Calm w :=
  calm_of_same hc (by rw [h.power, h.intent, h.dropAnswer, h.search])

end

theorem roomy_congr {k : Nat} {a b : State} (h : b.line.tx = a.line.tx) : Roomy k b ↔ Roomy k a := by
  rw [Roomy, Roomy, h]

/-- The WINDOW REPORT of an ended motion stands among the frames its end queues. -/
theorem mem_reportOf {r : Request} {o : Outcome} {w : Window} (h : r.source = .global ∨ r.source = .rise) :
    .windowReport (r.source == .rise) (!w.norm) o (BitVec.ofInt 16 w.p) ∈ reportOf r o w := by
  simp [reportOf, h]

/-- What the end of a motion with outcome `o` at `m`, judged by `w`, brings to the command `c`. -/
def EndsBy (c : Instr) (s : State) (r : Request) (o : Outcome) (w m : State) : Prop :=
  ∃ v, exec c s = .next v ∧ Kept (motionEnds r o m) v
    ∧ (r.source = .global ∨ r.source = .rise → s.line.state = .ok → Roomy 4 s →
      Queued (.windowReport (r.source == .rise) (!w.win.norm) o (BitVec.ofInt 16 w.win.p)) v)

section
variable {s w : State} {r : Request} {u t : Nat} {d : Direction}

/-- A driven pulse that ends the motion at `w` (R9, R18). -/
theorem drivenHallPulse_ends (o : Outcome) (hs : Calm s) (hu : 4500 ≤ u)
    (hlevel : ¬ (levelState u).rank < s.power.supply.rank) (hd : s.win.motor = .driven d) (hpower : w.power = s.power)
    (htx : w.line.tx = s.line.tx) (hstate : w.line.state = s.line.state) (hw : Calm w) (hr : w.win.req = some r)
    (hdrop : w.win.drop = none)
    (h : drivenPulse d u t (advanceTo (s.win.lastPulseAt + t) s) = endMotion o w) :
    EndsBy (.hallPulse u t) s r o w (sampled u w) := by
  have adds := endMotion_adds o hr hdrop
  rw [← h] at adds
  have line : (motionEnds r o w).line = w.line := by
    rw [motionEnds_eq]
    split
    · exact queueRecord_line _ _
    · rfl
  have power : (motionEnds r o w).power = s.power := by
    rw [motionEnds_eq, ← hpower]
    split
    · exact queueRecord_power _ _
    · rfl
  obtain ⟨v, hv, hk, hq⟩ := drivenHallPulse_adds hs hu hlevel hd power adds (motionEnds_calm hw) (reportOf_length _ _ _)
  refine ⟨v, hv, by rwa [sampled_motionEnds] at hk, fun hsrc ok room => hq ?_ ?_ _ (mem_reportOf hsrc) (by simp [Payload.kind])⟩
  · rw [line, hstate, ok]
  · rwa [roomy_congr (a := s) (by rw [line, htx])]

theorem drivenHallPulse_runs (hs : Calm s) (hu : 4500 ≤ u)
    (hlevel : ¬ (levelState u).rank < s.power.supply.rank) (hd : s.win.motor = .driven d) (hpower : w.power = s.power)
    (hw : Calm w) (h : drivenPulse d u t (advanceTo (s.win.lastPulseAt + t) s) = w) :
    ∃ v, exec (.hallPulse u t) s = .next v ∧ Kept (sampled u w) v := by
  obtain ⟨v, hv, hk, -⟩ := drivenHallPulse_adds hs hu hlevel hd hpower (.of_eq h) hw (Nat.zero_le _)
  exact ⟨v, hv, hk⟩

end

theorem weighed_counted {q : Int} {s : State} : weighed (counted q s) = true ↔
    s.cfg.caps.window = true ∧ s.win.norm = true ∧ s.win.motor = .driven .up
      ∧ (s.win.motion = .starting ∨ s.win.motion = .moving) ∧ 16 ≤ s.win.pulses ∧ (s.cfg.sealZone : Int) < q := by
  show (s.cfg.caps.window && s.win.norm && s.win.motor == .driven .up && (s.win.motion == .starting || s.win.motion == .moving)
    && decide (17 ≤ s.win.pulses + 1) && decide ((s.cfg.sealZone : Int) < q)) = true ↔ _
  simp [and_assoc]

theorem satisfied_eq_true {r : Request} {p : Int} : satisfied r p = true ↔
    ∃ x, r.mode = .toPosition x ∧ if r.dir = .up then p ≤ x else x ≤ p := by
  obtain ⟨source, dir, mode⟩ := r
  cases mode <;> cases dir <;> simp [satisfied]

/-- The frameless rule at a count (R18). -/
theorem framelessStops_eq {d : Direction} {s : State} : framelessStops d s = true ↔
    s.latch.position = .opened ∧ s.win.norm = true ∧ d = .up ∧ s.win.p ≤ s.cfg.dropDist := by
  simp [framelessStops, and_assoc]

theorem owedPulse_none {s : State} (h : s.win.drop = none ∨ ∀ r ∈ s.win.req, r.source ≠ .drop) :
    owedPulse s = s.withWin { s.win with pulses := s.win.pulses + 1, lastPulseAt := s.now } :=
  oweDrop_none (s := s.withWin { s.win with pulses := s.win.pulses + 1, lastPulseAt := s.now }) h

/-- What a driven pulse that leaves the count at `q` and declares no pinch brings: the motion's end at its target or the
frameless bound, or its weighed state (R9, R18). Here `x` is the state the count finds. -/
theorem pulse_outcomes {s x : State} {r : Request} {u t : Nat} {q : Int} (hs : Calm s) (hu : 4500 ≤ u)
    (hlevel : ¬ (levelState u).rank < s.power.supply.rank) (hd : s.win.motor = .driven r.dir)
    (count : countPulse r.dir (owedPulse (advanceTo (s.win.lastPulseAt + t) s)) = counted q x) (hx : Calm x)
    (hr : x.win.req = some r) (hdx : x.win.motor = .driven r.dir) (hdrop : x.win.drop = none)
    (hpulses : x.win.pulses + 1 = (owedPulse (advanceTo (s.win.lastPulseAt + t) s)).win.pulses)
    (hpower : x.power = s.power) (htx : x.line.tx = s.line.tx) (hstate : x.line.state = s.line.state)
    (hcount : (weighedPulse u t (counted q x)).pinch.count ≠ 3) :
    let m := sampled u (weighedPulse u t (counted q x))
    let frameless := x.latch.position = .opened ∧ x.win.norm = true ∧ r.dir = .up ∧ q ≤ x.cfg.dropDist
    (satisfied r q = true → EndsBy (.hallPulse u t) s r (reached r.dir) m m)
      ∧ (satisfied r q = false → frameless → EndsBy (.hallPulse u t) s r .stopped m m)
      ∧ (satisfied r q = false → ¬ frameless → ∃ v, exec (.hallPulse u t) s = .next v ∧ Kept m v) := by
  intro m frameless
  have pulse : drivenPulse r.dir u t (advanceTo (s.win.lastPulseAt + t) s) = afterPulse (weighedPulse u t (counted q x)) := by
    rw [drivenPulse_eq, count, if_pos ⟨hdx, hpulses⟩, if_neg hcount]
  have of := weighedPulse_of u t (counted q x)
  have calm : Calm (counted q x) := calm_of_same hx rfl
  subst m
  generalize weighedPulse u t (counted q x) = w at pulse of
  have hwr : w.win.req = some r := of.req.trans hr
  have hwd : w.win.motor = .driven r.dir := of.motor.trans hdx
  have hwp : w.win.p = q := of.p
  have hframeless : framelessStops r.dir w = true ↔ frameless := by
    rw [framelessStops_eq, of.latch, of.norm, of.cfg, hwp]
    rfl
  have ends : ∀ o, afterPulse w = endMotion o w → EndsBy (.hallPulse u t) s r o (sampled u w) (sampled u w) := fun o h =>
    drivenHallPulse_ends o hs hu hlevel hd (of.power.trans hpower) ((congrArg Line.tx of.line).trans htx)
      ((congrArg Line.state of.line).trans hstate) (of.calm calm) hwr (of.drop.trans hdrop) (pulse.trans h)
  refine ⟨fun h => ends _ (afterPulse_target hwr hwd (hwp ▸ h)), fun h hf => ends _ ?_, fun h hf => ?_⟩
  · exact afterPulse_frameless hwr hwd (hwp ▸ h) (hframeless.2 hf)
  · refine drivenHallPulse_runs hs hu hlevel hd (of.power.trans hpower) (of.calm calm) (pulse.trans ?_)
    exact afterPulse_runs hwr hwd (hwp ▸ h) (by simpa using mt hframeless.1 hf)

/-- What a driven pulse inside the bounds that declares no pinch brings. -/
theorem insidePulse_outcomes {s : State} {r : Request} {u t : Nat} {q : Int} (hs : Calm s) (hu : 4500 ≤ u)
    (hlevel : ¬ (levelState u).rank < s.power.supply.rank) (hr : s.win.req = some r) (hd : s.win.motor = .driven r.dir)
    (hdrop : s.win.drop = none) (hq : movedCount r.dir s.win.p = q) (hlow : -32 ≤ q) (hhigh : q ≤ (s.cfg.travel : Int) + 32)
    (hcount : (weighedPulse u t (counted q (advanceTo (s.win.lastPulseAt + t) s))).pinch.count ≠ 3) :
    let m := sampled u (weighedPulse u t (counted q (advanceTo (s.win.lastPulseAt + t) s)))
    let frameless := s.latch.position = .opened ∧ s.win.norm = true ∧ r.dir = .up ∧ q ≤ s.cfg.dropDist
    (satisfied r q = true → EndsBy (.hallPulse u t) s r (reached r.dir) m m)
      ∧ (satisfied r q = false → frameless → EndsBy (.hallPulse u t) s r .stopped m m)
      ∧ (satisfied r q = false → ¬ frameless → ∃ v, exec (.hallPulse u t) s = .next v ∧ Kept m v) := by
  have owed := owedPulse_none (s := advanceTo (s.win.lastPulseAt + t) s) (.inl (by simpa using hdrop))
  have count : countPulse r.dir (owedPulse (advanceTo (s.win.lastPulseAt + t) s))
      = counted q (advanceTo (s.win.lastPulseAt + t) s) := by
    rw [owed, countPulse_inside (by simpa [hq] using hlow) (by simpa [hq] using hhigh)]
    simp [counted, State.withWin, hq]
  have outcomes := pulse_outcomes hs hu hlevel hd count (calm_advanceTo hs) (by simpa using hr) (by simpa using hd)
    (by simpa using hdrop) (by simp [owed]) (by simp) (by simp) (by simp) hcount
  simpa only [advanceTo_latch, advanceTo_win_norm, advanceTo_cfg] using outcomes

theorem markZone_eq (z : Zone) (q : Pinch) :
    markZone z q = { q with sums := q.sums.set z { q.sums[z] with mark := true } } := rfl

/-- The state in which a weighed pulse finds its zone: a learned zone that fails its check is unlearned (R31, R42). -/
def zoneChecked (z : Zone) (s : State) : State :=
  if s.pinch.profile[z].learned = true ∧ zoneGood z s.pinch.profile[z] = false then
    queueRecord .profile { s with pinch := { s.pinch with profile := s.pinch.profile.set z (zoneEntry z false 0) } }
  else s

theorem demanded_counted {q : Int} {s : State} (h : weighed (counted q s) = true) :
    demanded (counted q s) = counted q (zoneChecked (zoneOf s.cfg q) s) := by
  unfold demanded zoneChecked
  rw [if_pos h]
  unfold demandZone
  by_cases hz : s.pinch.profile[zoneOf s.cfg q].learned = true ∧ zoneGood (zoneOf s.cfg q) s.pinch.profile[zoneOf s.cfg q] = false
  · rw [if_pos hz, if_pos (by simpa [counted, State.withWin] using hz), unlearnZone, queueRecord_eq, queueRecord_eq]
    rfl
  · rw [if_neg hz, if_neg (by simpa [counted, State.withWin] using hz)]

theorem weighedPulse_weighed {u t : Nat} {q : Int} {s : State} (h : weighed (counted q s) = true) :
    weighedPulse u t (counted q s) =
      let x := counted q (zoneChecked (zoneOf s.cfg q) s)
      let stages := pinchStages (pulseU u) (pulseT t) (zoneOf s.cfg q) x
      { x with
        win := passStart x.win
        pinch := { stages with
          history := pushHistory s.pinch.history (pulseU u), offNormal := stages.offNormal || s.power.supply != .normal } } := by
  have checked : demandZone (zoneOf (counted q s).cfg (counted q s).win.p) (counted q s)
      = counted q (zoneChecked (zoneOf s.cfg q) s) := by rw [← demanded_counted h, demanded, if_pos h]
  unfold weighedPulse pinchPulse
  simp only [h, if_true, checked]
  rfl

theorem zoneChecked_eq (z : Zone) (s : State) : zoneChecked z s =
    { s with
      pinch := { s.pinch with profile := (zoneChecked z s).pinch.profile }
      store := { s.store with queue := (zoneChecked z s).store.queue } } := by
  unfold zoneChecked
  split
  · rw [queueRecord_eq]
  · rfl

/-- A pulse that the transient guard stops: its zone and the motion are marked, after the demand check (R31, R34). -/
theorem weighedPulse_transient {u t : Nat} {q : Int} {s : State} (h : weighed (counted q s) = true)
    (htr : transientAt s.pinch.history (pulseU u) = true) :
    let m := marked (zoneOf s.cfg q) (pulseCounts u q s)
    sampled u (weighedPulse u t (counted q s)) =
      zoneChecked (zoneOf s.cfg q) { m with pinch := { m.pinch with transient := true } } := by
  intro m
  have pulses : ∀ n : Nat, 16 ≤ n + 1 ↔ 15 ≤ n := fun n => by omega
  have stages : pinchStages (pulseU u) (pulseT t) (zoneOf s.cfg q) (counted q (zoneChecked (zoneOf s.cfg q) s))
      = markZone (zoneOf s.cfg q) { (zoneChecked (zoneOf s.cfg q) s).pinch with transient := true } := by
    unfold pinchStages
    refine if_pos ?_
    rw [zoneChecked_eq]
    exact htr
  rw [weighedPulse_weighed h]
  simp only [stages, passStart_eq, pushHistory_eq]
  unfold zoneChecked
  by_cases hz : s.pinch.profile[zoneOf s.cfg q].learned = true ∧ zoneGood (zoneOf s.cfg q) s.pinch.profile[zoneOf s.cfg q] = false
  · refine Eq.trans ?_ (if_pos hz).symm
    simp only [if_pos hz, queueRecord_eq, counted, withWin_win, pulses]
    rfl
  · refine Eq.trans ?_ (if_neg hz).symm
    simp only [if_neg hz, counted, withWin_win, pulses]
    rfl

/-- A pulse that is not weighed leaves the pinch count (R35). -/
theorem unweighed_count {u t : Nat} {q : Int} {s : State} (h : weighed (counted q s) = false) :
    (weighedPulse u t (counted q s)).pinch.count = s.pinch.count := by
  have e := congrArg (fun x : State => x.pinch.count) (weighedPulse_unweighed (u := u) (t := t) h)
  refine Eq.trans e ?_
  split <;> rfl

/-! ## Pulses at a bound of the count (R1, R2) -/

/-- The first pulse at a bound since the last grant, with the window NORMALISED (R1, R2). -/
def pastBound (s : State) : State :=
  queueRecord .windowState { s with win := { s.win with
    clamped := true, drift := min 65535 (s.win.drift + 1), norm := false } }

/-- The first pulse at a bound since the last grant: a drift event (R1). -/
def drifted (s : State) : State :=
  s.withWin { s.win with clamped := true, drift := min 65535 (s.win.drift + 1) }

theorem countPulse_outside {d : Direction} {s : State} (h : ¬ (-32 ≤ movedCount d s.win.p ∧ movedCount d s.win.p ≤ (s.cfg.travel : Int) + 32))
    (hc : s.win.clamped = false) :
    countPulse d s = unnormalise (drifted s) := by
  unfold countPulse
  rw [if_neg (by exact h), if_neg (by simp [hc])]
  rfl

theorem countPulse_clamped {d : Direction} {s : State} (h : ¬ (-32 ≤ movedCount d s.win.p ∧ movedCount d s.win.p ≤ (s.cfg.travel : Int) + 32))
    (hc : s.win.clamped = true) : countPulse d s = s := by
  unfold countPulse
  rw [if_neg (by exact h), if_pos hc]

theorem unnormalise_runs {s : State} (hn : s.win.norm = true)
    (hr : ∀ r ∈ s.win.req, r.source = .localSwitch ∧ r.mode = .manual) :
    unnormalise s = queueRecord .windowState (s.withWin { s.win with norm := false }) := by
  unfold unnormalise
  rw [if_pos hn]
  simp only [queueRecord_win, withWin_win]
  split
  · rename_i r hreq
    exact if_pos (hr r hreq)
  · rfl

theorem unnormalise_ends {s : State} {r : Request} (hn : s.win.norm = true) (hr : s.win.req = some r)
    (h : ¬ (r.source = .localSwitch ∧ r.mode = .manual)) :
    unnormalise s = endMotion .stopped (queueRecord .windowState (s.withWin { s.win with norm := false })) := by
  unfold unnormalise
  rw [if_pos hn]
  simp only [queueRecord_win, withWin_win, hr]
  exact if_neg h

theorem counted_pastBound (s : State) : counted s.win.p (pastBound s)
    = pastBound (s.withWin { s.win with pulses := s.win.pulses + 1, lastPulseAt := s.now }) := by
  rw [pastBound, pastBound, queueRecord_eq, queueRecord_eq]
  rfl

theorem endMotion_motor {r : Request} {s : State} (o : Outcome) (hr : s.win.req = some r) (hd : s.win.drop = none) :
    (endMotion o s).win.motor = .off := by
  rw [(endMotion_adds o hr hd).quiet.win, motionEnds_win]
  rfl

theorem pastBound_win (s : State) : (pastBound s).win =
    { s.win with clamped := true, drift := min 65535 (s.win.drift + 1), norm := false } := queueRecord_win _ _

theorem pastBound_cfg (s : State) : (pastBound s).cfg = s.cfg := queueRecord_cfg _ _
theorem pastBound_pinch (s : State) : (pastBound s).pinch = s.pinch := queueRecord_pinch _ _
theorem pastBound_line (s : State) : (pastBound s).line = s.line := queueRecord_line _ _
theorem pastBound_power (s : State) : (pastBound s).power = s.power := queueRecord_power _ _
theorem pastBound_calm {s : State} (h : Calm s) : Calm (pastBound s) := calm_queueRecord (calm_of_same h rfl)

section
variable {s : State} {r : Request} {u t : Nat}

/-- A pulse past a bound that leaves the motion running (R2). -/
theorem boundPulse_runs (hs : Calm s) (hu : 4500 ≤ u) (hlevel : ¬ (levelState u).rank < s.power.supply.rank)
    (hr : s.win.req = some r) (hd : s.win.motor = .driven r.dir) (hdrop : s.win.drop = none)
    (hlocal : r.source = .localSwitch ∧ r.mode = .manual) (hcount : s.pinch.count ≤ 2)
    (hout : ¬ (-32 ≤ movedCount r.dir s.win.p ∧ movedCount r.dir s.win.p ≤ (s.cfg.travel : Int) + 32))
    (hn : s.win.norm = true) (hc : s.win.clamped = false) :
    let m := pastBound (pulseCounts u s.win.p (advanceTo (s.win.lastPulseAt + t) s))
    ∃ v, exec (.hallPulse u t) s = .next v ∧ Kept (if r.dir = .up then marked (zoneOf s.cfg s.win.p) m else m) v := by
  intro m
  have hcalm : Calm (advanceTo (s.win.lastPulseAt + t) s) := calm_advanceTo hs
  have hun : weighed (counted s.win.p (pastBound (advanceTo (s.win.lastPulseAt + t) s))) = false := by
    have := (weighed_counted (q := s.win.p) (s := pastBound (advanceTo (s.win.lastPulseAt + t) s))).not
    simpa [pastBound_win] using this
  have owed := owedPulse_none (s := advanceTo (s.win.lastPulseAt + t) s) (.inl (by simpa using hdrop))
  have count : countPulse r.dir (owedPulse (advanceTo (s.win.lastPulseAt + t) s))
      = counted s.win.p (pastBound (advanceTo (s.win.lastPulseAt + t) s)) := by
    rw [owed, countPulse_outside (by simpa using hout) (by simpa using hc),
      unnormalise_runs (by simpa [drifted] using hn) (by simpa [drifted, hr] using hlocal), queueRecord_eq, pastBound, queueRecord_eq]
    simp [counted, drifted, State.withWin]
  obtain ⟨-, -, runs⟩ := pulse_outcomes hs hu hlevel hd count (pastBound_calm hcalm) (by simpa [pastBound_win] using hr)
    (by simpa [pastBound_win] using hd) (by simpa [pastBound_win] using hdrop) (by simp [owed, pastBound_win])
    (by simp [pastBound_power]) (by simp [pastBound_line]) (by simp [pastBound_line])
    (by rw [unweighed_count hun, pastBound_pinch, advanceTo_pinch]; omega)
  have result := runs (by simp [satisfied, hlocal.2]) (by simp [pastBound_win])
  rw [weighedPulse_unweighed hun, pastBound_win, advanceTo_win_motor, hd] at result
  have same : pulseCounts u s.win.p (pastBound (advanceTo (s.win.lastPulseAt + t) s)) = m := by
    simp only [m, pastBound, queueRecord_eq]
    rfl
  rw [same] at result
  simpa [pastBound_cfg] using result

/-- A pulse past a bound that ends the motion: it joins no supply history (R2, log 58). -/
theorem boundPulse_ends (hs : Calm s) (hu : 4500 ≤ u) (hlevel : ¬ (levelState u).rank < s.power.supply.rank)
    (hr : s.win.req = some r) (hd : s.win.motor = .driven r.dir) (hdrop : s.win.drop = none)
    (hlocal : ¬ (r.source = .localSwitch ∧ r.mode = .manual))
    (hout : ¬ (-32 ≤ movedCount r.dir s.win.p ∧ movedCount r.dir s.win.p ≤ (s.cfg.travel : Int) + 32))
    (hn : s.win.norm = true) (hc : s.win.clamped = false) :
    let m := sampled u (counted s.win.p (pastBound (advanceTo (s.win.lastPulseAt + t) s)))
    EndsBy (.hallPulse u t) s r .stopped m m := by
  intro m
  have hcalm : Calm (advanceTo (s.win.lastPulseAt + t) s) := calm_advanceTo hs
  have owed := owedPulse_none (s := advanceTo (s.win.lastPulseAt + t) s) (.inl (by simpa using hdrop))
  have count : countPulse r.dir (owedPulse (advanceTo (s.win.lastPulseAt + t) s))
      = endMotion .stopped (counted s.win.p (pastBound (advanceTo (s.win.lastPulseAt + t) s))) := by
    rw [owed, countPulse_outside (by simpa using hout) (by simpa using hc),
      unnormalise_ends (by simpa [drifted] using hn) (by simpa [drifted] using hr) hlocal, queueRecord_eq, pastBound, queueRecord_eq]
    simp [counted, drifted, State.withWin]
  have hx : (counted s.win.p (pastBound (advanceTo (s.win.lastPulseAt + t) s))).win.req = some r := by
    simpa [counted, pastBound_win] using hr
  have hxd : (counted s.win.p (pastBound (advanceTo (s.win.lastPulseAt + t) s))).win.drop = none := by
    simpa [counted, pastBound_win] using hdrop
  refine drivenHallPulse_ends .stopped hs hu hlevel hd ?_ ?_ ?_ (calm_of_same (pastBound_calm hcalm) rfl) hx hxd ?_
  · simp [counted, pastBound_power]
  · simp [counted, pastBound_line]
  · simp [counted, pastBound_line]
  · rw [drivenPulse_eq, count, if_neg]
    rw [endMotion_motor .stopped hx hxd]
    simp

end

end Sys2Proof.Proofs.Glass
end

section
/-! The pulses that are not evaluated: at a target, guarded, or at a bound (1.1, 1.3, 1.4, 1.6, 2.1 to 2.3). -/

namespace Sys2Proof.Proofs.Glass

open Sys2Proof Sys2Proof.Machine Sys2Proof.Proofs.Steps Sys2Proof.Proofs.Invariants Sys2Proof.Proofs.KeyFrames
open Sys2Proof.Proofs.Ends

section
variable {s : State} {r : Request} {u t : Nat} {q : Int}

theorem satisfied_to {x : Int} (h : r.mode = .toPosition x) (p : Int) :
    satisfied r p = true ↔ if r.dir = .up then p ≤ x else x ≤ p := by
  rw [satisfied_eq_true, h]
  simp

theorem satisfied_eq_false {r : Request} {p : Int} : satisfied r p = false ↔
    ∀ x, r.mode = .toPosition x → if r.dir = .up then x < p else p < x := by
  rw [← Bool.not_eq_true, satisfied_eq_true]
  push Not
  refine forall₂_congr fun x hx => ?_
  split <;> simp

/-- A pulse of a DOWN motion (R8, R9). -/
theorem downPulse (hs : Calm s) (hu : 4500 ≤ u) (hlevel : ¬ (levelState u).rank < s.power.supply.rank)
    (hr : s.win.req = some r) (hd : s.win.motor = .driven r.dir) (hdrop : s.win.drop = none) (hcount : s.pinch.count ≤ 2)
    (hdown : r.dir = .down) (hq : movedCount r.dir s.win.p = q) (hlow : -32 ≤ q) (hhigh : q ≤ (s.cfg.travel : Int) + 32) :
    let m := pulseCounts u q (advanceTo (s.win.lastPulseAt + t) s)
    (∀ x, r.mode = .toPosition x → x ≤ q → EndsBy (.hallPulse u t) s r .opened m m)
      ∧ ((∀ x, r.mode = .toPosition x → q < x) → ∃ v, exec (.hallPulse u t) s = .next v ∧ Kept m v) := by
  intro m
  have hun : weighed (counted q (advanceTo (s.win.lastPulseAt + t) s)) = false := by
    have := (weighed_counted (q := q) (s := advanceTo (s.win.lastPulseAt + t) s)).not
    simpa [hd, hdown] using this
  have outcomes := insidePulse_outcomes (u := u) (t := t) hs hu hlevel hr hd hdrop hq hlow hhigh
    (by rw [unweighed_count hun, advanceTo_pinch]; omega)
  have state := weighedPulse_unweighed (u := u) (t := t) hun
  rw [advanceTo_win_motor, hd, hdown, if_neg (by simp)] at state
  simp only [state, hdown, reached] at outcomes
  obtain ⟨atTarget, -, runs⟩ := outcomes
  refine ⟨fun x hx hle => atTarget ((satisfied_to hx q).2 (by simpa [hdown] using hle)), fun h => runs ?_ (by simp)⟩
  exact satisfied_eq_false.2 fun x hx => by simpa [hdown] using h x hx

/-- A pulse of an UP motion in the first 16 of its drive, in the seal zone or while UNNORMALISED (R9, R18, R26, R44). -/
theorem upPulse (hs : Calm s) (hu : 4500 ≤ u) (hlevel : ¬ (levelState u).rank < s.power.supply.rank)
    (hr : s.win.req = some r) (hd : s.win.motor = .driven r.dir) (hdrop : s.win.drop = none) (hcount : s.pinch.count ≤ 2)
    (hup : r.dir = .up) (hq : movedCount r.dir s.win.p = q) (hlow : -32 ≤ q) (hhigh : q ≤ (s.cfg.travel : Int) + 32)
    (hout : s.win.pulses < 16 ∨ q ≤ s.cfg.sealZone ∨ s.win.norm = false) :
    let m := marked (zoneOf s.cfg q) (pulseCounts u q (advanceTo (s.win.lastPulseAt + t) s))
    let frameless := s.latch.position = .opened ∧ s.win.norm = true ∧ q ≤ s.cfg.dropDist
    (∀ x, r.mode = .toPosition x → q ≤ x → EndsBy (.hallPulse u t) s r .closed m m)
      ∧ ((∀ x, r.mode = .toPosition x → x < q) → frameless → EndsBy (.hallPulse u t) s r .stopped m m)
      ∧ ((∀ x, r.mode = .toPosition x → x < q) → ¬ frameless → ∃ v, exec (.hallPulse u t) s = .next v ∧ Kept m v) := by
  intro m frameless
  have hun : weighed (counted q (advanceTo (s.win.lastPulseAt + t) s)) = false := by
    rw [← Bool.not_eq_true, weighed_counted]
    simp only [advanceTo_cfg, advanceTo_win_norm, advanceTo_win_pulses]
    rintro ⟨-, hn, -, -, hpulses, hseal⟩
    rcases hout with h | h | h
    · omega
    · omega
    · simp [hn] at h
  have outcomes := insidePulse_outcomes (u := u) (t := t) hs hu hlevel hr hd hdrop hq hlow hhigh
    (by rw [unweighed_count hun, advanceTo_pinch]; omega)
  have state := weighedPulse_unweighed (u := u) (t := t) hun
  rw [advanceTo_win_motor, advanceTo_cfg, hd, hup, if_pos rfl] at state
  simp only [state, hup, reached, true_and] at outcomes
  obtain ⟨atTarget, stops, runs⟩ := outcomes
  have missed (h : ∀ x, r.mode = .toPosition x → x < q) : satisfied r q = false :=
    satisfied_eq_false.2 fun x hx => by simpa [hup] using h x hx
  exact ⟨fun x hx hle => atTarget ((satisfied_to hx q).2 (by simpa [hup] using hle)), fun h => stops (missed h),
    fun h => runs (missed h)⟩

/-- The marks of a pulse that the transient guard stops (R34, R44). -/
def guarded (z : Zone) (s : State) : State :=
  let m := marked z s
  { m with pinch := { m.pinch with transient := true } }

/-- A pulse the transient guard stops leaves the motion running (R34). -/
theorem guardedPulse (hs : Calm s) (hu : 4500 ≤ u) (hlevel : ¬ (levelState u).rank < s.power.supply.rank)
    (hr : s.win.req = some r) (hd : s.win.motor = .driven r.dir) (hdrop : s.win.drop = none) (hcount : s.pinch.count ≤ 2)
    (hup : r.dir = .up) (hq : movedCount r.dir s.win.p = q) (hlow : -32 ≤ q) (hhigh : q ≤ (s.cfg.travel : Int) + 32)
    (hcaps : s.cfg.caps.window = true) (hnorm : s.win.norm = true) (hmoving : s.win.motion = .moving)
    (hpulses : 16 ≤ s.win.pulses) (hseal : (s.cfg.sealZone : Int) < q)
    (hmode : ∀ x, r.mode = .toPosition x → x < q) (hlatch : s.latch.position = .closed)
    (hlen : s.pinch.history.length = 8)
    (hfar : ∀ o ∈ s.pinch.history.head?, o + 600 < pulseU u ∨ pulseU u + 600 < o) :
    ∃ v, exec (.hallPulse u t) s = .next v ∧ Kept (zoneChecked (zoneOf s.cfg q)
      (guarded (zoneOf s.cfg q) (pulseCounts u q (advanceTo (s.win.lastPulseAt + t) s)))) v := by
  have htr : transientAt (advanceTo (s.win.lastPulseAt + t) s).pinch.history (pulseU u) = true := by
    rw [advanceTo_pinch]
    rcases hh : s.pinch.history with _ | ⟨old, rest⟩
    · simp [hh] at hlen
    · have far := hfar old (by simp [hh])
      rw [hh, List.length_cons] at hlen
      simpa [transientAt, hlen] using far
  have hw : weighed (counted q (advanceTo (s.win.lastPulseAt + t) s)) = true :=
    weighed_counted.2 (by simpa [hd, hup, hcaps, hnorm, hmoving, hpulses] using hseal)
  have state := weighedPulse_transient (u := u) (t := t) hw htr
  rw [advanceTo_cfg] at state
  have count := congrArg (fun x : State => x.pinch.count) state
  have outcomes := insidePulse_outcomes (u := u) (t := t) hs hu hlevel hr hd hdrop hq hlow hhigh ?_
  · rw [state] at outcomes
    refine outcomes.2.2 (satisfied_eq_false.2 fun x hx => by simpa [hup] using hmode x hx) ?_
    simp [hlatch]
  · have kept : (weighedPulse u t (counted q (advanceTo (s.win.lastPulseAt + t) s))).pinch.count
        = (advanceTo (s.win.lastPulseAt + t) s).pinch.count := count.trans (by rw [zoneChecked_eq]; rfl)
    rw [kept, advanceTo_pinch]
    omega

/-- A further pulse at a bound leaves the place (R1). -/
theorem clampedPulse (hs : Calm s) (hu : 4500 ≤ u) (hd : s.win.motor = .driven r.dir)
    (hq : movedCount r.dir s.win.p = q) (hout : ¬ (-32 ≤ q ∧ q ≤ (s.cfg.travel : Int) + 32)) (hc : s.win.clamped = true)
    (hdrop : s.win.drop = none) :
    ∃ v, exec (.hallPulse u t) s = .next v ∧ v.win.p = s.win.p ∧ v.win.drift = s.win.drift ∧ v.win.norm = s.win.norm := by
  refine ⟨settle (hallPulseOp u t s), if_neg (by simp [hs.1]), ?_⟩
  have owed := owedPulse_none (s := advanceTo (s.win.lastPulseAt + t) s) (.inl (by simpa using hdrop))
  have count : countPulse r.dir (owedPulse (advanceTo (s.win.lastPulseAt + t) s))
      = owedPulse (advanceTo (s.win.lastPulseAt + t) s) := by
    refine countPulse_clamped ?_ ?_
    · simpa [owed, hq] using hout
    · simpa [owed] using hc
  have pulsed := drivenPulse_place r.dir u t (advanceTo (s.win.lastPulseAt + t) s)
  rw [count] at pulsed
  have place : placeOf (settle (hallPulseOp u t s)).win = placeOf s.win := by
    refine (settle_place _).trans ?_
    rw [hallPulseOp_driven hu hd]
    refine (placeKept_closed.under_pulseSample rfl u).trans (pulsed.trans ((owedPulse_place _).trans ?_))
    simp [placeOf]
  simpa [placeOf] using place

end

/-! ## The coast window at a bound (log 68) -/

section
variable {s : State} {u t : Nat} {c : Nat × Direction}

/-- The state a pulse of the coast window finds. -/
def coasted (t : Nat) (s : State) : State :=
  let n := advanceTo (s.win.lastPulseAt + t) s
  n.withWin { n.win with lastPulseAt := n.now }

theorem coastPulse_outside (hs : Calm s) (hu : 4500 ≤ u) (hd : isDriven s.win.motor = false) (hc : s.win.coast = some c)
    (hopen : (advanceTo (s.win.lastPulseAt + t) s).now ≤ c.1) : hallPulseOp u t s = countPulse c.2 (coasted t s) := by
  rw [hallPulseOp_undriven hs hu hd, coastPulse_open (c := c) (by simpa using hc) hopen]
  rfl

theorem coasted_calm (hs : Calm s) : Calm (coasted t s) := calm_of_same (calm_advanceTo (t := s.win.lastPulseAt + t) hs) rfl

theorem coasted_counts {m : State} (hs : Calm s) (hu : 4500 ≤ u) (hd : isDriven s.win.motor = false)
    (hc : s.win.coast = some c) (hopen : (advanceTo (s.win.lastPulseAt + t) s).now ≤ c.1)
    (hm : countPulse c.2 (coasted t s) = m) (calm : Calm m) : ∃ v, exec (.hallPulse u t) s = .next v ∧ Kept m v :=
  exec_hallPulse_kept hs ((coastPulse_outside hs hu hd hc hopen).trans hm) calm

theorem endMotion_settles {w : State} {r : Request} (o : Outcome) (hr : w.win.req = some r) (hd : w.win.drop = none)
    (hw : Calm w) : Kept (motionEnds r o w) (settle (endMotion o w))
      ∧ (r.source = .global ∨ r.source = .rise → w.line.state = .ok → Roomy 4 w →
        Queued (.windowReport (r.source == .rise) (!w.win.norm) o (BitVec.ofInt 16 w.win.p)) (settle (endMotion o w))) := by
  have adds := endMotion_adds o hr hd
  have calm := motionEnds_calm (r := r) (o := o) hw
  have line : (motionEnds r o w).line = w.line := by
    rw [motionEnds_eq]
    split
    · exact queueRecord_line _ _
    · rfl
  refine ⟨adds.kept calm (reportOf_length _ _ _), fun hsrc ok room => ?_⟩
  refine adds.queuedAtEnd calm (reportOf_length _ _ _) ?_ ?_ (mem_reportOf hsrc) (by simp [Payload.kind])
  · rw [line, ok]
  · rwa [roomy_congr (a := w) (by rw [line])]

end

theorem zoneChecked_at {z : Zone} {s : State} {profile : Vector ZoneEntry 32} (h : s.pinch.profile = profile) :
    zoneChecked z s = if profile[z].learned = true ∧ zoneGood z profile[z] = false then
      queueRecord .profile { s with pinch := { s.pinch with profile := profile.set z (zoneEntry z false 0) } }
    else s := h ▸ rfl

theorem pastBound_at {s : State} {n : Nat} (h : s.win.drift = n) : pastBound s =
    queueRecord .windowState { s with win := { s.win with clamped := true, drift := min 65535 (n + 1), norm := false } } :=
  h ▸ rfl

theorem drifted_at {s : State} {n : Nat} (h : s.win.drift = n) : drifted s =
    { s with win := { s.win with clamped := true, drift := min 65535 (n + 1) } } := h ▸ rfl

theorem unnormalise_of {s : State} (h : s.win.norm = false) : unnormalise s = s := if_neg (by simp [h])

/-- The state in which a pulse past a bound ends the motion, beside the one that a motion which runs on would leave. -/
theorem sampled_counted_bound (u : Nat) {s : State} {motion : MotionState} {stalls : Nat} {pinch : Pinch}
    (hm : s.win.motion = motion) (hst : s.win.startStalls = stalls) (hp : s.pinch = pinch) (d : Nat) (p : Int) :
    let m := queueRecord .windowState { pulseCounts u p s with win := { (pulseCounts u p s).win with
      clamped := true, drift := d, norm := false } }
    sampled u (counted p (queueRecord .windowState { s with win := { s.win with clamped := true, drift := d, norm := false } }))
      = { m with win := { m.win with motion := motion, startStalls := stalls }, pinch := pinch } := by
  subst hm hst hp
  simp only [queueRecord_eq]
  rfl

/-- Settles O14: the pulses of a motion by direction and place, then those at a bound, driven or in the coast window. -/
theorem pulseEndsGuardsOrClampsAMotion : Obligations.PulseEndsGuardsOrClampsAMotion := by
  constructor
  · intro s r u t hs hu hlevel hr hd hdrop hcount n q inside runs ends mark
    have level : ¬ (levelState u).rank < s.power.supply.rank := Nat.not_lt.2 hlevel
    have hq : movedCount r.dir s.win.p = q := movedCount_eq _ _
    refine ⟨fun hdown _ hin => ?_, fun hup hin hout => ?_, fun hup hin hcaps hn hmov hp hseal hmode hl hlen hfar => ?_,
      fun hout hn hc _ => ⟨fun hsrc hman => ?_, fun hloc => ?_⟩, fun hout hc => ?_⟩
    · exact downPulse hs hu level hr hd hdrop hcount hdown hq hin.1 hin.2
    · exact upPulse hs hu level hr hd hdrop hcount hup hq hin.1 hin.2 hout
    · have stays := guardedPulse (t := t) hs hu level hr hd hdrop hcount hup hq hin.1 hin.2 hcaps hn hmov hp hseal hmode hl
        hlen hfar
      rw [zoneChecked_at (s := guarded _ (pulseCounts u q n)) (profile := s.pinch.profile)
        (by exact (congrArg Pinch.profile (advanceTo_pinch (s.win.lastPulseAt + t) s) :))] at stays
      exact stays
    · have bounded := boundPulse_runs (u := u) (t := t) hs hu level hr hd hdrop ⟨hsrc, hman⟩ hcount (by rw [hq]; exact hout) hn hc
      rw [pastBound_at (s := pulseCounts u s.win.p n) (advanceTo_win_drift _ s)] at bounded
      exact bounded
    · have ended := boundPulse_ends (u := u) (t := t) hs hu level hr hd hdrop hloc (by rw [hq]; exact hout) hn hc
      rw [pastBound_at (s := n) (advanceTo_win_drift _ s)] at ended
      have same := sampled_counted_bound u (s := n) (advanceTo_win_motion _ s) (advanceTo_win_startStalls _ s)
        (advanceTo_pinch _ s) (min 65535 (s.win.drift + 1)) s.win.p
      rw [same] at ended
      exact ended
    · exact clampedPulse hs hu hd hq hout hc hdrop
  · intro s u t hs hu hd n c hc hopen q hout passed drift lost
    have hq : movedCount c.2 s.win.p = q := movedCount_eq _ _
    have out : ¬ (-32 ≤ movedCount c.2 (coasted t s).win.p
        ∧ movedCount c.2 (coasted t s).win.p ≤ ((coasted t s).cfg.travel : Int) + 32) := by
      simp only [coasted, withWin_win, withWin_cfg, advanceTo_win_p, advanceTo_cfg, hq]
      omega
    have norm : (coasted t s).win.norm = s.win.norm := by simp [coasted]
    have clamped : (coasted t s).win.clamped = s.win.clamped := by simp [coasted]
    have drifts : drifted (coasted t s) = drift := drifted_at (by simp [coasted])
    have calm : Calm (drifted (coasted t s)) := calm_of_same (coasted_calm (t := t) hs) rfl
    have loses : queueRecord .windowState ((drifted (coasted t s)).withWin
        { (drifted (coasted t s)).win with norm := false }) = lost := by
      rw [drifts]
      rfl
    have lostWin : lost.win = { drift.win with norm := false } := queueRecord_win _ _
    have req : (drifted (coasted t s)).win.req = s.win.req := advanceTo_win_req _ s
    refine ⟨fun hcl => ?_, fun hcl hn => ?_, fun hcl hn => ⟨fun hr => ?_, fun r hr hloc hdrop => ?_⟩⟩
    · exact coasted_counts hs hu hd hc hopen (countPulse_clamped out (clamped.trans hcl)) (coasted_calm hs)
    · refine coasted_counts hs hu hd hc hopen ?_ (drifts ▸ calm)
      rw [countPulse_outside out (clamped.trans hcl), unnormalise_of (s := drifted (coasted t s)) (norm.trans hn)]
      exact drifts
    · refine coasted_counts hs hu hd hc hopen ?_ ?_
      · rw [countPulse_outside out (clamped.trans hcl), unnormalise_runs (s := drifted (coasted t s)) (norm.trans hn)]
        · exact loses
        · rwa [req]
      · rw [← loses]
        exact calm_queueRecord (calm_of_same calm rfl)
    · have hr' : lost.win.req = some r := by
        rw [lostWin]
        exact (advanceTo_win_req _ s).trans hr
      have hd' : lost.win.drop = none := by
        rw [lostWin]
        exact (advanceTo_win_drop _ s).trans hdrop
      have calm' : Calm lost := loses ▸ calm_queueRecord (calm_of_same calm rfl)
      have effect : hallPulseOp u t s = endMotion .stopped lost := by
        rw [coastPulse_outside hs hu hd hc hopen, countPulse_outside out (clamped.trans hcl),
          unnormalise_ends (s := drifted (coasted t s)) (norm.trans hn) (req.trans hr) hloc, loses]
      obtain ⟨kept, reported⟩ := endMotion_settles .stopped hr' hd' calm'
      refine ⟨settle (hallPulseOp u t s), if_neg (by simp [hs.1]), effect ▸ kept, fun hsrc ok room => ?_⟩
      have lostLine : lost.line = n.line := queueRecord_line _ _
      have queued := reported hsrc (by rw [lostLine]; simpa [n] using ok) (by rw [Roomy, lostLine]; simpa [n] using room)
      have p : lost.win.p = s.win.p := by
        rw [lostWin]
        exact advanceTo_win_p _ s
      have lostNorm : lost.win.norm = false := by rw [lostWin]
      rw [lostNorm, p] at queued
      rw [effect]
      exact queued

end Sys2Proof.Proofs.Glass
end

section
/-! Evaluated pulses: the pinch count and the declaration of a pinch (2.1 to 2.4). -/

namespace Sys2Proof.Proofs.Glass

open Sys2Proof Sys2Proof.Machine Sys2Proof.Proofs.Steps Sys2Proof.Proofs.Invariants Sys2Proof.Proofs.KeyFrames
open Sys2Proof.Proofs.Ends

/-! ## The declaration of a pinch (R36, R37, R39) -/

/-- The REVERSAL that a pinch brings (R37). -/
def reversal (s : State) : Request :=
  { source := .reversal, dir := .down, mode := .toPosition (min (s.win.p + s.cfg.revDist) s.cfg.travel) }

/-- The state once a pinch of the motion of request `r` is declared. -/
def pinched (r : Request) (s : State) : State :=
  brakes (reversal s) (requestRuns (reversal s) { s with
    win := { s.win with lastEnd := some (r.source, .pinched), pinchAt := s.win.p }
    pinch := enterPinch s.now s.pinch })

theorem takesOverride_source {r : Request} {s : State} (h : r.source ≠ .localSwitch) (k : r.source ≠ .remoteSwitch) :
    takesOverride r s = false := by
  simp [takesOverride, h, k]

theorem motionStart_eq {r : Request} {s : State} (h : takesOverride r s = false) : motionStart r s = requestRuns r s := by
  simp [motionStart, h, pinchMotionStart, requestRuns]

theorem brake_eq {r : Request} {s : State} (hd : s.win.drop = none) (hr : s.win.req = some r) : brake s = brakes r s := by
  unfold brake brakes
  rw [motorTo_eq hd]
  simp only [State.withWin, hr] <;> rfl

theorem declarePinch_eq {r : Request} {s : State} (hr : s.win.req = some r) (hd : s.win.drop = none)
    (ho : s.win.overrideMotion = false) :
    declarePinch s = { reportMotion r .pinched s with win := (pinched r s).win, pinch := (pinched r s).pinch } := by
  have q := (reportMotion_adds r .pinched s).quiet
  unfold declarePinch
  simp only [hr]
  rw [closeMotion_eq _ hd, motionStart_eq (takesOverride_source (by simp) (by simp)), brake_eq (r := reversal s)]
  · unfold closed
    simp only [pinched, brakes, requestRuns, reversal, q.win, q.pinch, q.now, ho]
    rfl
  · rw [← hd, ← q.win]
    rfl
  · rfl

theorem declarePinch_adds {r : Request} {s : State} (hr : s.win.req = some r) (hd : s.win.drop = none)
    (ho : s.win.overrideMotion = false) : Adds (reportOf r .pinched s.win) (pinched r s) (declarePinch s) := by
  have report := reportMotion_adds r .pinched s
  have put := report.put s.now s.pins (pinched r s).win (pinched r s).pinch s.latch s.keys
  rw [declarePinch_eq hr hd ho]
  have q := report.quiet
  have same : { reportMotion r .pinched s with win := (pinched r s).win, pinch := (pinched r s).pinch }
      = { reportMotion r .pinched s with
          now := s.now, pins := s.pins, win := (pinched r s).win, pinch := (pinched r s).pinch, latch := s.latch
          keys := s.keys } := by
    rw [← q.now, ← q.pins, ← q.latch, ← q.keys]
  rw [same]
  exact put

theorem pinched_calm {r : Request} {s : State} (h : Calm s) : Calm (pinched r s) := calm_of_same h rfl

/-! ## The evaluation (R26 to R35) -/

/-- The state that an evaluated pulse with the load `l` and the pinch count `c` leaves, but for its demand check. -/
def evaluated (u l c : Nat) (q : Int) (s : State) : State :=
  let n := sampled u (counted q s)
  let z := zoneOf s.cfg q
  { n with pinch := { s.pinch with
      count := c
      sums := s.pinch.sums.set z { s.pinch.sums[z] with sum := s.pinch.sums[z].sum + l, count := s.pinch.sums[z].count + 1 }
      history := (s.pinch.history ++ [pulseU u]).drop (s.pinch.history.length + 1 - 8)
      offNormal := s.pinch.offNormal || s.power.supply != .normal } }

/-- The reference of a zone at its demand check (R31, R42). -/
def demandReference (z : Zone) (s : State) : Nat :=
  if s.pinch.profile[z].learned = true ∧ zoneGood z s.pinch.profile[z] = true then s.pinch.profile[z].value else s.cfg.rfb

theorem referenceOf_zoneChecked (z : Zone) (s : State) : referenceOf z (zoneChecked z s) = demandReference z s := by
  by_cases hz : s.pinch.profile[z].learned = true ∧ zoneGood z s.pinch.profile[z] = false
  · have spoilt : zoneChecked z s = _ := if_pos hz
    have bare : (zoneChecked z s).pinch.profile[z] = zoneEntry z false 0 := by
      rw [spoilt, queueRecord_eq]
      exact Vector.getElem_set_self _
    have cfg : (zoneChecked z s).cfg = s.cfg := by rw [zoneChecked_eq]
    rw [referenceOf, demandReference, bare, cfg, if_neg (by simp [zoneEntry]), if_neg (by rw [hz.2]; simp)]
  · have sound : zoneChecked z s = s := if_neg hz
    have good : s.pinch.profile[z].learned = true → zoneGood z s.pinch.profile[z] = true := fun hl =>
      Bool.not_eq_false _ ▸ fun hg => hz ⟨hl, hg⟩
    rw [sound, referenceOf, demandReference]
    exact if_congr ⟨fun hl => ⟨hl, good hl⟩, And.left⟩ rfl rfl

/-- The pinch count after an evaluated pulse (R32, R33, R35). -/
def countAfter (u t : Nat) (q : Int) (s : State) : Nat :=
  if (threshold s : Int) < (loadFigure s.cfg (pulseU u) (pulseT t) : Int) - demandReference (zoneOf s.cfg q) s then
    s.pinch.count + 1
  else 0

theorem pinchStages_evaluated {u t : Nat} {q : Int} {s : State} (htr : transientAt s.pinch.history (pulseU u) = false) :
    let x := counted q (zoneChecked (zoneOf s.cfg q) s)
    pinchStages (pulseU u) (pulseT t) (zoneOf s.cfg q) x =
      addLoad (zoneOf s.cfg q) (loadFigure s.cfg (pulseU u) (pulseT t)) { x.pinch with count := countAfter u t q s } := by
  intro x
  have reference : referenceOf (zoneOf s.cfg q) x = demandReference (zoneOf s.cfg q) s := referenceOf_zoneChecked _ s
  have parts := zoneChecked_eq (zoneOf s.cfg q) s
  have history : x.pinch.history = s.pinch.history := by
    show (zoneChecked (zoneOf s.cfg q) s).pinch.history = _
    rw [parts]
  have count : x.pinch.count = s.pinch.count := by
    show (zoneChecked (zoneOf s.cfg q) s).pinch.count = _
    rw [parts]
  have cfg : x.cfg = s.cfg := by
    show (zoneChecked (zoneOf s.cfg q) s).cfg = _
    rw [parts]
  have thr : threshold x = threshold s := by
    show threshold (counted q (zoneChecked (zoneOf s.cfg q) s)) = _
    rw [parts]
    rfl
  unfold pinchStages
  simp only [history, htr, Bool.false_eq_true, if_false, cfg, thr, reference, count]
  rfl

/-- An evaluated pulse (R26 to R35). -/
theorem weighedPulse_evaluated {u t : Nat} {q : Int} {s : State} (h : weighed (counted q s) = true)
    (htr : transientAt s.pinch.history (pulseU u) = false) (hmoving : s.win.motion = .moving) :
    sampled u (weighedPulse u t (counted q s)) =
      zoneChecked (zoneOf s.cfg q) (evaluated u (loadFigure s.cfg (pulseU u) (pulseT t)) (countAfter u t q s) q s) := by
  rw [weighedPulse_weighed h]
  simp only [pinchStages_evaluated htr, pushHistory_eq]
  have started : passStart (counted q (zoneChecked (zoneOf s.cfg q) s)).win = (counted q s).win := by
    rw [zoneChecked_eq]
    exact if_neg (by simp [counted, State.withWin, hmoving])
  rw [started]
  unfold zoneChecked
  by_cases hz : s.pinch.profile[zoneOf s.cfg q].learned = true ∧ zoneGood (zoneOf s.cfg q) s.pinch.profile[zoneOf s.cfg q] = false
  · refine Eq.trans ?_ (if_pos hz).symm
    simp only [if_pos hz, queueRecord_eq]
    rfl
  · refine Eq.trans ?_ (if_neg hz).symm
    simp only [if_neg hz]
    rfl

theorem evaluated_at {s : State} {pulses : Nat} {pins : Pins} {pinch : Pinch} {power : Power} {cfg : Settings}
    (hpulses : s.win.pulses = pulses) (hpins : s.pins = pins) (hpinch : s.pinch = pinch) (hpower : s.power = power)
    (hcfg : s.cfg = cfg) (u l c : Nat) (q : Int) :
    evaluated u l c q s =
      { s with
        win := { s.win with p := q, pulses := pulses + 1, lastPulseAt := s.now }
        pins := { pins with supplySense := u }
        pinch := { pinch with
          count := c
          sums := pinch.sums.set (zoneOf cfg q)
            { pinch.sums[zoneOf cfg q] with
              sum := pinch.sums[zoneOf cfg q].sum + l, count := pinch.sums[zoneOf cfg q].count + 1 }
          history := (pinch.history ++ [pulseU u]).drop (pinch.history.length + 1 - 8)
          offNormal := pinch.offNormal || power.supply != .normal }
        power := { power with
          rise6300 := if 6300 ≤ u then some (power.rise6300.getD s.now) else none
          rise7800 := if 7800 ≤ u then some (power.rise7800.getD s.now) else none
          rise9300 := if 9300 ≤ u then some (power.rise9300.getD s.now) else none } } := by
  subst hpulses hpins hpinch hpower hcfg
  rfl

theorem countAfter_at {s n : State} {r : Request} (hr : s.win.req = some r) (hreq : n.win.req = s.win.req)
    (ho : n.win.overrideMotion = s.win.overrideMotion) (hcfg : n.cfg = s.cfg) (hpower : n.power = s.power)
    (hpinch : n.pinch = s.pinch) (u t : Nat) (q : Int) :
    let z := zoneOf s.cfg q
    let B := if pulseU u < s.cfg.kspeed / pulseT t then pulseU u else s.cfg.kspeed / pulseT t
    let R := if s.pinch.profile[z].learned = true ∧ zoneGood z s.pinch.profile[z] = true then s.pinch.profile[z].value
      else s.cfg.rfb
    let m := if s.win.overrideMotion then 8 else if r.source = .localSwitch ∨ r.source = .remoteSwitch then 4 else 3
    let f := if s.power.supply = .normal then 4 else 5
    countAfter u t q n = if ((s.cfg.th * m * f / 16 : Nat) : Int) < (min 16383 (pulseU u - B) : Nat) - (R : Int) then
      s.pinch.count + 1 else 0 := by
  intro z B R m f
  unfold countAfter threshold demandReference
  rw [modeFactor_eq (hreq.trans hr), supplyFactor_eq, ho, hcfg, hpower, hpinch, loadFigure_eq]

section
variable {s : State} {r : Request} {u t : Nat} {q : Int}

/-- An evaluated pulse that declares no pinch leaves its evaluated state. -/
theorem evaluatedPulse_runs (hs : Calm s) (hu : 4500 ≤ u) (hlevel : ¬ (levelState u).rank < s.power.supply.rank)
    (hr : s.win.req = some r) (hsource : r.source ≠ .drop) (hd : s.win.motor = .driven .up) (hq : s.win.p - 1 = q)
    (hlow : -32 ≤ q) (hhigh : q ≤ (s.cfg.travel : Int) + 32) (hsat : satisfied r q = false)
    (hlatch : s.latch.position = .closed)
    (hcount : (weighedPulse u t (counted q (advanceTo (s.win.lastPulseAt + t) s))).pinch.count ≠ 3) :
    ∃ v, exec (.hallPulse u t) s = .next v
      ∧ Kept (sampled u (weighedPulse u t (counted q (advanceTo (s.win.lastPulseAt + t) s)))) v := by
  have pulse := drivenPulse_inside (s := advanceTo (s.win.lastPulseAt + t) s) u t (d := .up) (by simpa using hd)
    (.inr (by simpa [hr] using hsource)) (by simpa [movedCount, hq] using hlow) (by simpa [movedCount, hq] using hhigh)
  simp only [movedCount, advanceTo_win_p, hq] at pulse
  rw [if_neg hcount] at pulse
  have of := weighedPulse_of u t (counted q (advanceTo (s.win.lastPulseAt + t) s))
  have calm : Calm (counted q (advanceTo (s.win.lastPulseAt + t) s)) :=
    calm_of_same (calm_advanceTo (t := s.win.lastPulseAt + t) hs) rfl
  generalize weighedPulse u t (counted q (advanceTo (s.win.lastPulseAt + t) s)) = w at pulse of
  refine drivenHallPulse_runs hs hu hlevel hd ?_ (of.calm calm) (pulse.trans ?_)
  · rw [of.power]
    exact advanceTo_power _ s
  · have hwp : w.win.p = q := of.p
    refine afterPulse_runs (r := r) (d := .up) ?_ ?_ (hwp ▸ hsat) ?_
    · rw [of.req]
      exact (advanceTo_win_req _ s).trans hr
    · rw [of.motor]
      exact (advanceTo_win_motor _ s).trans hd
    · have position : w.latch.position = .closed := by
        rw [of.latch]
        exact (congrArg Latch.position (advanceTo_latch _ s)).trans hlatch
      simp [framelessStops, position]

/-- An evaluated pulse that declares a pinch. -/
theorem evaluatedPulse_pinches (hs : Calm s) (hu : 4500 ≤ u) (hlevel : ¬ (levelState u).rank < s.power.supply.rank)
    (hr : s.win.req = some r) (hdrop : s.win.drop = none) (ho : s.win.overrideMotion = false)
    (hd : s.win.motor = .driven .up) (hq : s.win.p - 1 = q) (hlow : -32 ≤ q) (hhigh : q ≤ (s.cfg.travel : Int) + 32)
    (hcount : (weighedPulse u t (counted q (advanceTo (s.win.lastPulseAt + t) s))).pinch.count = 3) :
    let w := sampled u (weighedPulse u t (counted q (advanceTo (s.win.lastPulseAt + t) s)))
    ∃ v, exec (.hallPulse u t) s = .next v ∧ Kept (pinched r w) v
      ∧ (r.source = .global ∨ r.source = .rise → s.line.state = .ok → Roomy 4 s →
        Queued (.windowReport (r.source == .rise) (!s.win.norm) .pinched (BitVec.ofInt 16 q)) v) := by
  have pulse := drivenPulse_inside (s := advanceTo (s.win.lastPulseAt + t) s) u t (d := .up) (by simpa using hd)
    (.inl (by simpa using hdrop)) (by simpa [movedCount, hq] using hlow) (by simpa [movedCount, hq] using hhigh)
  simp only [movedCount, advanceTo_win_p, hq] at pulse
  rw [if_pos hcount] at pulse
  have of := weighedPulse_of u t (counted q (advanceTo (s.win.lastPulseAt + t) s))
  have calm : Calm (counted q (advanceTo (s.win.lastPulseAt + t) s)) :=
    calm_of_same (calm_advanceTo (t := s.win.lastPulseAt + t) hs) rfl
  have override : (weighedPulse u t (counted q (advanceTo (s.win.lastPulseAt + t) s))).win.overrideMotion = false := by
    rw [of.win, passStart_eq]
    exact (advanceTo_win_overrideMotion _ s).trans ho
  generalize weighedPulse u t (counted q (advanceTo (s.win.lastPulseAt + t) s)) = w at pulse of override
  have hwr : w.win.req = some r := of.req.trans ((advanceTo_win_req _ s).trans hr)
  have adds := declarePinch_adds hwr (of.drop.trans ((advanceTo_win_drop _ s).trans hdrop)) override
  rw [← pulse] at adds
  obtain ⟨v, hv, hk, hqueued⟩ := drivenHallPulse_adds hs hu hlevel hd (w := pinched r w)
    (of.power.trans (advanceTo_power _ s)) adds (pinched_calm (of.calm calm)) (reportOf_length _ _ _)
  refine ⟨v, hv, hk, fun hsrc ok room => ?_⟩
  have line : w.line = (advanceTo (s.win.lastPulseAt + t) s).line := of.line
  have report := hqueued (by rw [← ok]; simp [pinched, brakes, requestRuns, line])
    (by simpa [Roomy, pinched, brakes, requestRuns, line] using room) _ (mem_reportOf hsrc) (by simp [Payload.kind])
  have norm : w.win.norm = s.win.norm := of.norm.trans (advanceTo_win_norm _ s)
  have p : w.win.p = q := of.p
  rwa [norm, p] at report

end

theorem pinched_at (r : Request) {s : State} {p : Int} {cfg : Settings} {now : Nat} (hp : s.win.p = p) (hcfg : s.cfg = cfg)
    (hnow : s.now = now) :
    let rev : Request := { source := .reversal, dir := .down, mode := .toPosition (min (p + cfg.revDist) cfg.travel) }
    pinched r s = brakes rev (requestRuns rev { s with
      win := { s.win with lastEnd := some (r.source, .pinched), pinchAt := p }, pinch := enterPinch now s.pinch }) := by
  subst hp hcfg hnow
  rfl

/-- Settles O13: the evaluated pulse leaves its evaluated state, or declares a pinch from it at the third count. -/
theorem evaluatedPulseMovesThePinchCount : Obligations.EvaluatedPulseMovesThePinchCount := by
  intro s r u t hs hu hcaps hn hd hmov hr hsource hsat hpulses hseal hhigh hlatch hlevel htr z spoilt n B L R m f c
  have hw : weighed (counted (s.win.p - 1) n) = true :=
    weighed_counted.2 (by simpa [n, hd, hcaps, hn, hmov, hpulses] using hseal)
  have htr' : transientAt n.pinch.history (pulseU u) = false := by simpa [n] using htr
  have state := weighedPulse_evaluated (u := u) (t := t) hw htr' ((advanceTo_win_motion _ s).trans hmov)
  have count : countAfter u t (s.win.p - 1) n = c := countAfter_at hr (advanceTo_win_req _ s)
    (advanceTo_win_overrideMotion _ s) (advanceTo_cfg _ s) (advanceTo_power _ s) (advanceTo_pinch _ s) u t _
  have hlow : (-32 : Int) ≤ s.win.p - 1 := by omega
  intro sampled_ weighed_
  have plain : evaluated u L c (s.win.p - 1) n = sampled_ := evaluated_at (advanceTo_win_pulses _ s) (advanceTo_pins _ s)
    (advanceTo_pinch _ s) (advanceTo_power _ s) (advanceTo_cfg _ s) u L c _
  have cfg : n.cfg = s.cfg := advanceTo_cfg _ s
  rw [count, loadFigure_eq, cfg, plain, zoneChecked_at (s := sampled_) (profile := s.pinch.profile) rfl] at state
  have checked : weighed_ = zoneChecked z sampled_ :=
    (zoneChecked_at (z := z) (s := sampled_) (profile := s.pinch.profile) rfl).symm
  change _ = weighed_ at state
  have three : (weighedPulse u t (counted (s.win.p - 1) n)).pinch.count = c := by
    refine (congrArg (fun x : State => x.pinch.count) state).trans ?_
    rw [checked, zoneChecked_eq]
  refine ⟨fun hc => ?_, fun hc ho hdrop => ?_⟩
  · have runs := evaluatedPulse_runs hs hu hlevel hr hsource hd rfl hlow hhigh hsat hlatch (by rw [three]; exact hc)
    rwa [state] at runs
  · have pinches := evaluatedPulse_pinches hs hu hlevel hr hdrop ho hd rfl hlow hhigh (three.trans hc)
    simp only [hn] at pinches
    rw [state] at pinches
    have parts : weighed_.win = sampled_.win ∧ weighed_.cfg = sampled_.cfg ∧ weighed_.now = sampled_.now := by
      rw [checked, zoneChecked_eq]
      exact ⟨rfl, rfl, rfl⟩
    rw [pinched_at r (congrArg Window.p parts.1) (parts.2.1.trans cfg) parts.2.2] at pinches
    exact pinches

end Sys2Proof.Proofs.Glass
end

section
/-! Stalls (1.2, 1.3, 2.3, 2.4). -/

namespace Sys2Proof.Proofs.Glass

open Sys2Proof Sys2Proof.Machine Sys2Proof.Proofs.Steps Sys2Proof.Proofs.Invariants Sys2Proof.Proofs.KeyFrames
open Sys2Proof.Proofs.Ends

theorem whileAwake_next {s : State} (hs : Calm s) (f : State → State) : whileAwake f s = .next (settle (f s)) := by
  simp [whileAwake, live, liveInput, awake, hs.1, hs.2.1]

/-- A command whose effect is `m` keeps it. -/
theorem kept_of {c : Instr} {s m : State} (h : exec c s = .next (settle m)) (hm : Calm m) :
    ∃ v, exec c s = .next v ∧ Kept m v := ⟨_, h, settle_kept m hm⟩

/-- A command whose effect is the end of a motion at `w`. -/
theorem endsBy_of {c : Instr} {s w : State} {r : Request} {o : Outcome} (h : exec c s = .next (settle (endMotion o w)))
    (hr : w.win.req = some r) (hd : w.win.drop = none) (hw : Calm w) (htx : w.line.tx = s.line.tx)
    (hstate : w.line.state = s.line.state) : EndsBy c s r o w w := by
  obtain ⟨kept, reported⟩ := endMotion_settles o hr hd hw
  exact ⟨_, h, kept, fun hsrc ok room => reported hsrc (hstate.trans ok) ((roomy_congr htx).2 room)⟩

section
variable {s : State} {r : Request}

/-- The moment of a stall (R5). -/
def stallAt (s : State) : State := advanceTo (stallFrom s.win + s.cfg.stallMs * 1000) s

theorem exec_stall (hs : Calm s) {d : Direction} (hd : s.win.motor = .driven d) :
    exec .stall s = .next (settle (stalled (stallAt s))) := by
  refine (whileAwake_next hs _).trans ?_
  simp [isDriven, hd, stallAt]

theorem stalled_pinch {s : State} (hd : s.win.motor = .driven .up) (hr : s.win.req = some r) (hn : s.win.norm = true)
    (hp : (s.cfg.sealZone : Int) < s.win.p) : stalled s = declarePinch s := by
  unfold stalled
  simp [hd, hr, hn, hp]

end

/-- The third pinch within less than 10 s brings PINCH HOLD (R39). -/
theorem enterPinch_third {now : Nat} {p : Pinch} (hm : p.mode = .normal) (hl : p.reversals.length = 2)
    (hx : ∀ x ∈ p.reversals.head?, now - x < 10000000) :
    (enterPinch now p).mode = .pinchHold ∧ (enterPinch now p).holdEnd = some (now + 10000000) := by
  obtain ⟨a, b, hab⟩ := List.length_eq_two.1 hl
  have close : now - a < 10000000 := hx a (by simp [hab])
  simp [enterPinch, hab, hm, close]

theorem enterPinch_early {now : Nat} {p : Pinch} (hm : p.mode = .normal) (hl : p.reversals.length ≤ 1) :
    (enterPinch now p).mode = .normal := by
  rcases hr : p.reversals with _ | ⟨a, _ | ⟨b, rest⟩⟩
  · simp [enterPinch, hr, hm]
  · simp [enterPinch, hr, hm]
  · simp [hr] at hl

/-- Settles O15: the stall declares a pinch at its moment. -/
theorem stallAboveTheSealZoneIsAPinch : Obligations.StallAboveTheSealZoneIsAPinch := by
  intro s r hs hn hd hr hdrop hp ho n rev
  have hnr : n.win.req = some r := (advanceTo_win_req _ s).trans hr
  have adds := declarePinch_adds hnr ((advanceTo_win_drop _ s).trans hdrop) ((advanceTo_win_overrideMotion _ s).trans ho)
  have stall : stalled n = declarePinch n := stalled_pinch ((advanceTo_win_motor _ s).trans hd) hnr
    ((advanceTo_win_norm _ s).trans hn) (by simpa [n] using hp)
  have calm : Calm (pinched r n) := pinched_calm (calm_advanceTo hs)
  have kept := adds.kept calm (reportOf_length _ _ _)
  have pinch := kept.pinch
  rw [pinched_at r (s := n) (advanceTo_win_p _ s) (advanceTo_cfg _ s) rfl, advanceTo_pinch] at kept
  refine ⟨_, (exec_stall hs hd).trans (by rw [← stall]; rfl), kept, fun hm hl hx => ?_, fun hm hl => ?_, fun hsrc ok room => ?_⟩
  · have third := enterPinch_third (now := n.now) hm hl hx
    rw [← advanceTo_pinch (stallFrom s.win + s.cfg.stallMs * 1000) s] at third
    exact ⟨(congrArg Pinch.mode pinch).trans third.1, (congrArg Pinch.holdEnd pinch).trans third.2⟩
  · have early := enterPinch_early (now := n.now) hm hl
    rw [← advanceTo_pinch (stallFrom s.win + s.cfg.stallMs * 1000) s] at early
    exact (congrArg Pinch.mode pinch).trans early
  · have report := adds.queuedAtEnd calm (reportOf_length _ _ _) (by simpa [pinched, brakes, requestRuns, n] using ok)
      (by simpa [pinched, brakes, requestRuns, Roomy, n] using room) (mem_reportOf hsrc) (by simp [Payload.kind])
    simpa [n, hn] using report

/-! ## End stops (R5, R6) -/

/-- The place after an end stop at `q` (R6). -/
def stoppedAt (q : Int) (s : State) : State :=
  queueRecord .windowState { s with win := { s.win with
    p := q
    drift := if 4 < (s.win.p - q).natAbs then min 65535 (s.win.drift + 1) else s.win.drift
    norm := s.win.norm && decide ((s.win.p - q).natAbs ≤ 64) } }

theorem endStop_eq (q : Int) (o : Outcome) (s : State) : endStop q o s = endMotion o (stoppedAt q s) := rfl

theorem stoppedAt_at {s : State} {p : Int} {drift : Nat} {norm : Bool} (hp : s.win.p = p) (hdrift : s.win.drift = drift)
    (hnorm : s.win.norm = norm) (q : Int) : stoppedAt q s =
      queueRecord .windowState { s with win := { s.win with
        p := q
        drift := if 4 < (p - q).natAbs then min 65535 (drift + 1) else drift
        norm := norm && decide ((p - q).natAbs ≤ 64) } } := by
  subst hp hdrift hnorm
  rfl

theorem stoppedAt_win (q : Int) (s : State) : (stoppedAt q s).win = { s.win with
    p := q
    drift := if 4 < (s.win.p - q).natAbs then min 65535 (s.win.drift + 1) else s.win.drift
    norm := s.win.norm && decide ((s.win.p - q).natAbs ≤ 64) } := queueRecord_win _ _

theorem stoppedAt_line (q : Int) (s : State) : (stoppedAt q s).line = s.line := queueRecord_line _ _

theorem stoppedAt_calm {q : Int} {s : State} (h : Calm s) : Calm (stoppedAt q s) := calm_queueRecord (calm_of_same h rfl)

/-- A stall whose effect is an end stop at `q` from `x`, which is the state at the stall but for its profile. -/
theorem stall_endStop {s x : State} {r : Request} {d : Direction} {q : Int} {o : Outcome} (hs : Calm s)
    (hd : s.win.motor = .driven d) (hr : s.win.req = some r) (hdrop : s.win.drop = none)
    (hx : stalled (stallAt s) = endStop q o x) (hwin : x.win = (stallAt s).win) (hline : x.line = (stallAt s).line)
    (hcalm : Calm x) : EndsBy .stall s r o (stoppedAt q x) (stoppedAt q x) := by
  refine endsBy_of ((exec_stall hs hd).trans (by rw [hx, endStop_eq])) ?_ ?_ (stoppedAt_calm hcalm) ?_ ?_
  · rw [stoppedAt_win, hwin]
    exact (advanceTo_win_req _ s).trans hr
  · rw [stoppedAt_win, hwin]
    exact (advanceTo_win_drop _ s).trans hdrop
  · rw [stoppedAt_line, hline]
    simp [stallAt]
  · rw [stoppedAt_line, hline]
    simp [stallAt]

theorem stalled_closed {s : State} {r : Request} (hd : s.win.motor = .driven .up) (hr : s.win.req = some r)
    (hn : s.win.norm = true) (hp : s.win.p ≤ s.cfg.sealZone) : stalled s = endStop 0 .closed (learn s) := by
  unfold stalled
  simp [hd, hr, hn, hp]

theorem stalled_open {s : State} {r : Request} (hd : s.win.motor = .driven .down) (hr : s.win.req = some r)
    (hsource : r.source ≠ .drop) (hp : (s.cfg.travel : Int) - 24 ≤ s.win.p) :
    stalled s = endStop s.cfg.travel .opened s := by
  unfold stalled
  simp only [hd, hr, hsource, false_and, if_false, decide_eq_true hp, if_true, ite_self]

theorem stalled_unnormalised {s : State} (hd : s.win.motor = .driven .up) (hn : s.win.norm = false) : stalled s = s := by
  unfold stalled
  cases hr : s.win.req <;> simp [hd, hn]

theorem stalled_start {s : State} {r : Request} (hd : s.win.motor = .driven .down) (hr : s.win.req = some r)
    (hsource : r.source ≠ .drop) (hp : s.win.p < (s.cfg.travel : Int) - 24) (hm : s.win.motion = .starting) :
    stalled s = startStall s := by
  have near : ¬ (s.cfg.travel : Int) - 24 ≤ s.win.p := by omega
  unfold stalled
  simp [hd, hr, hsource, near, hm]

theorem stalled_blocked {s : State} {r : Request} (hd : s.win.motor = .driven .down) (hr : s.win.req = some r)
    (hsource : r.source ≠ .drop) (hp : s.win.p < (s.cfg.travel : Int) - 24) (hm : s.win.motion ≠ .starting) :
    stalled s = endMotion .blocked s := by
  have near : ¬ (s.cfg.travel : Int) - 24 ≤ s.win.p := by omega
  unfold stalled
  simp [hd, hr, hsource, near, hm]

theorem learn_none {s : State} (h : s.pinch.sums.toList.any teaches = false) : learn s = s := by simp [learn, h]

/-- The profile that a clean close has taught (R44, R45). -/
theorem learn_clean {s : State} (ho : s.win.overrideMotion = false) (ht : s.pinch.transient = false)
    (hn : s.pinch.offNormal = false) {z : Zone} (hz : teaches s.pinch.sums[z] = true) :
    learn s = queueRecord .profile
      { s with pinch := { s.pinch with profile := Vector.ofFn (learnZone s.pinch.sums s.pinch.profile) } } := by
  have some : s.pinch.sums.toList.any teaches = true :=
    List.any_eq_true.2 ⟨s.pinch.sums[z], by simp, hz⟩
  simp [learn, ho, ht, hn, some]

theorem mem_queueRecord (r : RecordId) (s : State) : r ∈ (queueRecord r s).store.queue := by
  rw [queueRecord_eq]
  show r ∈ withRecordId r s.store.queue
  unfold withRecordId
  split
  · assumption
  · simp

theorem mem_queueRecord_of_mem {x : RecordId} (r : RecordId) {s : State} (h : x ∈ s.store.queue) :
    x ∈ (queueRecord r s).store.queue := by
  rw [queueRecord_eq]
  show x ∈ withRecordId r s.store.queue
  unfold withRecordId
  split
  · assumption
  · exact List.mem_append_left _ h

/-! ## Start stalls (R7) -/

/-- The motor is off for 300 ms with one more start stall (R7). -/
theorem startStall_eq {s : State} {d : Direction} (hd : s.win.motor = .driven d) (hdrop : s.win.drop = none)
    (h : s.win.startStalls < 2) : startStall s = { s with win := { s.win with
      motor := .off, coast := some (s.now + 30000, d), startStalls := s.win.startStalls + 1
      pauseEnd := some (s.now + 300000) } } := by
  unfold startStall
  rw [if_neg (by omega), motorTo_eq hdrop]
  simp only [hd, State.withWin]

theorem startStall_third {s : State} (h : 2 ≤ s.win.startStalls) : startStall s = endMotion .blocked s := if_pos h

theorem motionEnds_pinch (r : Request) (o : Outcome) (s : State) : (motionEnds r o s).pinch = (rested r o s).pinch := by
  rw [motionEnds_eq]
  split
  · exact queueRecord_pinch _ _
  · rfl

theorem mem_motionEnds_queue {x : RecordId} {s : State} (r : Request) (o : Outcome) (h : x ∈ s.store.queue) :
    x ∈ (motionEnds r o s).store.queue := by
  rw [motionEnds_eq]
  split
  · exact mem_queueRecord_of_mem (s := rested r o s) _ h
  · exact h

theorem kept_queue {a b : State} (h : Kept a b) : b.store.queue = a.store.queue := (congrArg Store.queue h.store :)

/-- What a zone that teaches has learned at the close (R45). -/
theorem learnZone_teaches {sums : Vector ZoneSum 32} {profile : Vector ZoneEntry 32} {z : Zone} (h : teaches sums[z] = true) :
    (Vector.ofFn (learnZone sums profile))[z] = zoneEntry z true (learnedValue z profile[z] sums[z]) := by
  rw [Fin.getElem_fin, Vector.getElem_ofFn]
  exact if_pos h

theorem learnedValue_eq (z : Zone) (g : ZoneEntry) (q : ZoneSum) : learnedValue z g q =
    if g.learned = true ∧ zoneGood z g = true then
      (max 0 (min 16383 ((g.value : Int) + (((q.sum / q.count : Nat) : Int) - g.value).tdiv 8))).toNat
    else min 16383 (q.sum / q.count) := by
  unfold learnedValue
  simp only [Bool.and_eq_true]

section
variable {s : State} {r : Request}

/-- A clean close teaches the zones with evaluated pulses and no mark (R44, R45). -/
theorem stall_teaches (hs : Calm s) (hr : s.win.req = some r) (hdrop : s.win.drop = none) (hd : s.win.motor = .driven .up)
    (hn : s.win.norm = true) (hp : s.win.p ≤ s.cfg.sealZone) (ho : s.win.overrideMotion = false)
    (ht : s.pinch.transient = false) (hoff : s.pinch.offNormal = false) {z : Zone} (hz : teaches s.pinch.sums[z] = true) :
    ∃ v, exec .stall s = .next v ∧ v.win.req = none ∧ v.win.p = 0 ∧ .profile ∈ v.store.queue
      ∧ v.pinch.profile[z] = zoneEntry z true (learnedValue z s.pinch.profile[z] s.pinch.sums[z]) := by
  have hpinch : (stallAt s).pinch = s.pinch := advanceTo_pinch _ s
  have override : (stallAt s).win.overrideMotion = false := (advanceTo_win_overrideMotion _ s).trans ho
  have learned := learn_clean (s := stallAt s) override (by rw [hpinch, ht])
    (by rw [hpinch, hoff]) (z := z) (by rw [hpinch, hz])
  have stall : stalled (stallAt s) = endStop 0 .closed (learn (stallAt s)) := stalled_closed
    ((advanceTo_win_motor _ s).trans hd) ((advanceTo_win_req _ s).trans hr) ((advanceTo_win_norm _ s).trans hn)
    (by simpa [stallAt] using hp)
  have win : (learn (stallAt s)).win = (stallAt s).win := by rw [learned, queueRecord_win]
  obtain ⟨v, hv, kept, -⟩ := stall_endStop hs hd hr hdrop stall win (by rw [learned, queueRecord_line])
    (by rw [learned]; exact calm_queueRecord (calm_of_same (s := stallAt s) (calm_advanceTo hs) (by rfl)))
  have ended : v.win = (rested r .closed (stoppedAt 0 (learn (stallAt s)))).win := kept.win.trans (motionEnds_win _ _ _)
  refine ⟨v, hv, congrArg Window.req ended, ?_, ?_, ?_⟩
  · rw [ended]
    show (stoppedAt 0 (learn (stallAt s))).win.p = 0
    rw [stoppedAt_win]
  · rw [kept_queue kept]
    refine mem_motionEnds_queue _ _ (mem_queueRecord_of_mem _ ?_)
    rw [learned]
    exact mem_queueRecord _ _
  · have taught : (stoppedAt 0 (learn (stallAt s))).pinch.profile
        = Vector.ofFn (learnZone s.pinch.sums s.pinch.profile) := by
      show (queueRecord _ _).pinch.profile = _
      rw [queueRecord_pinch]
      show (learn (stallAt s)).pinch.profile = _
      rw [learned, queueRecord_pinch, hpinch]
    have plain : (rested r .closed (stoppedAt 0 (learn (stallAt s)))).pinch = (stoppedAt 0 (learn (stallAt s))).pinch := by
      refine if_neg ?_
      rw [stoppedAt_win, win]
      simp [override]
    rw [kept.pinch, motionEnds_pinch, plain, taught, learnZone_teaches hz]

end

/-! ## The close hold (R4) -/

/-- The place once the close hold is complete (R4). -/
def normalised (s : State) : State :=
  queueRecord .windowState { s with win := { s.win with p := 0, norm := true, dropOwed := none } }

theorem closeHold_eq (s : State) : closeHold s = endMotion .closed (normalised s) := rfl

theorem exec_closeHoldComplete {s : State} (hs : Calm s) (hn : s.win.norm = false) (hd : s.win.motor = .driven .up)
    (hr : s.win.req = some { source := .localSwitch, dir := .up, mode := .manual }) :
    exec .closeHoldComplete s = .next (settle (endMotion .closed (normalised (advanceTo (stallFrom s.win + 500000) s)))) := by
  have held : inCloseHold s = true := by simp [inCloseHold, hn, hd, hr]
  have next : exec .closeHoldComplete s
      = .next (settle (if inCloseHold s then closeHold (advanceTo (stallFrom s.win + 500000) s) else s)) :=
    whileAwake_next hs fun t => if inCloseHold t then closeHold (advanceTo (stallFrom t.win + 500000) t) else t
  rw [next, if_pos held, closeHold_eq]

theorem normalised_win (s : State) : (normalised s).win = { s.win with p := 0, norm := true, dropOwed := none } :=
  queueRecord_win _ _

/-- Settles O16: stalls by direction and place, and the close hold. -/
theorem stallIsJudgedByPlaceAndCloseHold : Obligations.StallIsJudgedByPlaceAndCloseHold := by
  refine ⟨fun s r hs hr hdrop hsource => ?_, fun s r hs hr hdrop hsource hd hp => ?_, fun s hs hn hd hdrop => ?_⟩
  · intro n corrected reported
    have hnr : n.win.req = some r := (advanceTo_win_req _ s).trans hr
    have place (q : Int) : stoppedAt q n = corrected q :=
      stoppedAt_at (advanceTo_win_p _ s) (advanceTo_win_drift _ s) (advanceTo_win_norm _ s) q
    have ends (d : Direction) (q : Int) (o : Outcome) (hd : s.win.motor = .driven d) (hx : stalled n = endStop q o n) :
        ∃ v, exec .stall s = .next v ∧ Kept (motionEnds r o (corrected q)) v ∧ reported o q v := by
      obtain ⟨v, hv, kept, report⟩ := stall_endStop hs hd hr hdrop hx rfl rfl (calm_advanceTo hs)
      rw [stoppedAt_win, advanceTo_win_norm, advanceTo_win_p] at report
      exact ⟨v, hv, place q ▸ kept, report⟩
    refine ⟨fun hd hn hp hl => ends .up 0 .closed hd ?_, fun hd hn hp ho ht hoff z hz => ?_, fun hd hp => ?_⟩
    · rw [stalled_closed ((advanceTo_win_motor _ s).trans hd) hnr ((advanceTo_win_norm _ s).trans hn) (by simpa [n] using hp),
        learn_none (by simpa [n] using hl)]
    · have taught := stall_teaches hs hr hdrop hd hn hp ho ht hoff hz
      rw [learnedValue_eq] at taught
      exact taught
    · refine ends .down s.cfg.travel .opened hd ?_
      rw [stalled_open ((advanceTo_win_motor _ s).trans hd) hnr hsource (by simpa [n] using hp), advanceTo_cfg]
  · intro n
    have hnd : n.win.motor = .driven .down := (advanceTo_win_motor _ s).trans hd
    have hnr : n.win.req = some r := (advanceTo_win_req _ s).trans hr
    have hndrop : n.win.drop = none := (advanceTo_win_drop _ s).trans hdrop
    have hnp : n.win.p < (n.cfg.travel : Int) - 24 := by simpa [n] using hp
    have hcalm : Calm n := calm_advanceTo hs
    have stall := exec_stall hs hd
    refine ⟨fun hm hstalls => ?_, fun h => ?_⟩
    · have paused := startStall_eq hnd hndrop (by simpa [n] using hstalls)
      rw [advanceTo_win_startStalls] at paused
      refine kept_of (stall.trans ?_) (calm_of_same hcalm (by rfl))
      rw [← paused, ← stalled_start hnd hnr hsource hnp ((advanceTo_win_motion _ s).trans hm)]
      rfl
    · have blocked : stalled n = endMotion .blocked n := by
        by_cases hm : s.win.motion = .starting
        · rw [stalled_start hnd hnr hsource hnp ((advanceTo_win_motion _ s).trans hm)]
          refine startStall_third ?_
          simpa [hm, n] using h
        · exact stalled_blocked hnd hnr hsource hnp (by simpa [n] using hm)
      have ended := endsBy_of (o := .blocked) (stall.trans (by rw [← blocked]; rfl)) hnr hndrop hcalm (by simp [n]) (by simp [n])
      simpa only [EndsBy, n, advanceTo_win_norm, advanceTo_win_p] using ended
  · intro r hr
    refine ⟨kept_of ((exec_stall hs hd).trans ?_) (calm_advanceTo hs), ?_⟩
    · have still : stalled (stallAt s) = stallAt s :=
        stalled_unnormalised ((advanceTo_win_motor _ s).trans hd) ((advanceTo_win_norm _ s).trans hn)
      rw [still]
      rfl
    · intro n
      have nwin := normalised_win n
      obtain ⟨v, hv, kept, -⟩ := endsBy_of (w := normalised n) (r := r) (exec_closeHoldComplete hs hn hd hr)
        (by rw [nwin]; exact (advanceTo_win_req _ s).trans hr) (by rw [nwin]; exact (advanceTo_win_drop _ s).trans hdrop)
        (calm_queueRecord (calm_of_same (s := n) (calm_advanceTo hs) (by rfl)))
        (by rw [normalised, queueRecord_line]; simp [n]) (by rw [normalised, queueRecord_line]; simp [n])
      exact ⟨v, hv, kept⟩

end Sys2Proof.Proofs.Glass
end

section
/-! Motor starts, waits and timers of the window controller (1.3, 1.4, 1.8, 1.9, 2.4, 2.5). -/

namespace Sys2Proof.Proofs.Glass

open Sys2Proof Sys2Proof.Machine Sys2Proof.Proofs.Steps Sys2Proof.Proofs.Invariants Sys2Proof.Proofs.KeyFrames
open Sys2Proof.Proofs.Ends

/-- A timer that runs to `e` has its effect there. -/
theorem timer_next {s : State} {e : Nat} (hs : Calm s) (g : State → Option Nat) (f : State → State) (h : g s = some e) :
    whileAwake (fun t => atTime (g t) f t) s = .next (settle (f (advanceTo e s))) := by
  rw [whileAwake_next hs, h]
  rfl

theorem liveTimer_next {s : State} {e : Nat} (hs : Calm s) (g : State → Option Nat) (f : State → State) (h : g s = some e) :
    live (fun t => atTime (g t) f t) s = .next (settle (f (advanceTo e s))) := by
  rw [live_next hs.1, h]
  rfl

/-! ## Starting the motor (R8, R26) -/

theorem drive_eq {s : State} (d : Direction) (m : MotionState) (h : s.win.drop = none) : drive d m s = motorRuns d m s := by
  unfold drive markMoving motorRuns
  simp only [withWin_win, h, Option.map_none]
  by_cases hrec : s.win.recMoving = true
  · rw [if_pos hrec, if_pos hrec]
    simp only [State.withWin, hrec]
  · rw [if_neg hrec, if_neg hrec]
    simp only [State.withWin]

theorem motorStart_eq {s : State} (d : Direction) (h : s.win.drop = none) : motorStart d s = motorStarts d s :=
  drive_eq d .starting (s := { s with pinch := pinchMotorStart s.pinch }) h

theorem startRequest_motor {r : Request} {s : State} (h : s.win.drop = none) (hr : r.source ≠ .reversal)
    (hl : s.latch.position = .closed) : startRequest r s = motorStarts r.dir s := by
  have free : framelessStops r.dir s = false := by simp [framelessStops, hl]
  unfold startRequest
  rw [if_neg hr, free, ← motorStart_eq r.dir h]
  rfl

theorem startRequest_nowhere {r : Request} {s : State} (hr : r.source = .reversal)
    (h : satisfied r s.win.pinchAt = true) : startRequest r s = finishMotion (reached r.dir) s := by
  unfold startRequest
  rw [if_pos hr, if_pos (by simp [h])]

theorem startRequest_reverses {r : Request} {s : State} (h : s.win.drop = none) (hr : r.source = .reversal)
    (h1 : satisfied r s.win.pinchAt = false) (h2 : satisfied r s.win.p = false) :
    startRequest r s = motorRuns r.dir .reversing { s with pinch := { s.pinch with count := 0 } } := by
  unfold startRequest
  rw [if_pos hr, if_neg (by simp [h1, h2])]
  exact drive_eq _ _ h

theorem resume_eq {r : Request} {s : State} (hr : s.win.req = some r) : resume s = serveWaitingDrop (startRequest r s) := by
  simp only [resume, hr]

theorem motorRuns_drop (d : Direction) (m : MotionState) (s : State) : (motorRuns d m s).win.drop = s.win.drop := by
  unfold motorRuns
  simp only
  split
  · rfl
  · rw [queueRecord_win]

theorem motorRuns_calm {d : Direction} {m : MotionState} {s : State} (h : Calm s) : Calm (motorRuns d m s) := by
  unfold motorRuns
  simp only
  split
  · exact calm_of_same h (by rfl)
  · exact calm_queueRecord (calm_of_same h (by rfl))

theorem motorStarts_calm {d : Direction} {s : State} (h : Calm s) : Calm (motorStarts d s) :=
  motorRuns_calm (calm_of_same h (by rfl))

/-! ## Holds (R9, R16) -/

theorem holds_congr {r : Request} {a b : State} (hpins : b.pins = a.pins) (hentry : b.win.packEntry = a.win.packEntry)
    (ho : b.win.overrideMotion = a.win.overrideMotion) : holds r b = holds r a := by
  simp only [holds, hpins, hentry, ho]

theorem holds_advanceTo (r : Request) (t : Nat) (s : State) : holds r (advanceTo t s) = holds r s :=
  holds_congr (advanceTo_pins t s) (advanceTo_win_packEntry t s) (advanceTo_win_overrideMotion t s)

theorem endBrake_lost {r : Request} {s : State} (hr : s.win.req = some r) (h : holds r s = false) :
    endBrake s = endMotion .stopped s := by
  simp [endBrake, hr, h]

theorem endBrake_resumes {r : Request} {s : State} (hr : s.win.req = some r) (h : holds r s = true)
    (hc : s.power.supply ≠ .crank) :
    endBrake s = serveWaitingDrop (startRequest r (s.withWin { s.win with startStalls := 0 })) := by
  have waits : (s.withWin { s.win with startStalls := 0 }).win.req = some r := hr
  rw [← resume_eq waits]
  simp [endBrake, hr, h, hc]

theorem exec_brakeEnd {s : State} {e : Nat} (hs : Calm s) (h : s.win.brakeEnd = some e) :
    exec .brakeEnd s = .next (settle (endBrake (advanceTo e s))) :=
  timer_next hs (fun t => t.win.brakeEnd) endBrake h

/-- Settles O17: what the waiting request does at the end of the brake and of the start-stall pause. -/
theorem waitingRequestTakesTheMotor : Obligations.WaitingRequestTakesTheMotor := by
  intro s r hs hr hdrop hl
  have req (e : Nat) : (advanceTo e s).win.req = some r := (advanceTo_win_req e s).trans hr
  have drop (e : Nat) : (advanceTo e s).win.drop = none := (advanceTo_win_drop e s).trans hdrop
  have latch (e : Nat) : (advanceTo e s).latch.position = .closed := (congrArg Latch.position (advanceTo_latch e s)).trans hl
  refine ⟨fun e he _ _ hc => ?_, fun e he hsource => ?_⟩
  · intro n
    have brake := exec_brakeEnd hs he
    have supply : n.power.supply ≠ .crank := by rwa [advanceTo_power]
    have hcalm : Calm n := calm_advanceTo hs
    have resumes (h : holds r s = true) := endBrake_resumes (req e) ((holds_advanceTo r e s).trans h) supply
    let x := n.withWin { n.win with startStalls := 0 }
    have calm0 : Calm x := calm_of_same hcalm (by rfl)
    refine ⟨fun hsource hh => ?_, fun q hq hle => ?_, fun hsource hh h1 h2 => ?_, fun _ hh => ?_⟩
    · refine kept_of (brake.trans ?_) (motorStarts_calm calm0)
      rw [resumes hh, startRequest_motor (s := x) (drop e) hsource (latch e), serveWaitingDrop_none]
      · rfl
      · exact (motorRuns_drop _ _ _).trans (drop e)
    · have hh : holds r s = true := by rw [hq]; rfl
      have at_ : satisfied r x.win.pinchAt = true := by simp [satisfied, hq, x, n, hle]
      have ended := endsBy_of (o := .opened) (brake.trans (by rw [resumes hh, startRequest_nowhere (by rw [hq]) at_]; subst hq; rfl))
        (w := x) (req e) (drop e) calm0 (by simp [x, n]) (by simp [x, n])
      obtain ⟨v, hv, kept, -⟩ := ended
      exact ⟨v, hv, kept⟩
    · refine kept_of (brake.trans ?_) (motorRuns_calm (calm_of_same calm0 (by rfl)))
      rw [resumes hh, startRequest_reverses (s := x) (drop e) hsource (by simpa [x, n] using h1) (by simpa [x, n] using h2),
        serveWaitingDrop_none]
      · rfl
      · exact (motorRuns_drop _ _ _).trans (drop e)
    · obtain ⟨v, hv, kept, -⟩ := endsBy_of (o := .stopped)
        (brake.trans (by rw [endBrake_lost (req e) ((holds_advanceTo r e s).trans hh)])) (req e) (drop e) hcalm (by simp)
        (by simp)
      exact ⟨v, hv, kept⟩
  · have pause : exec .startStallPauseEnd s = .next (settle (endStallPause (advanceTo e s))) :=
      timer_next hs (fun t => t.win.pauseEnd) endStallPause he
    refine kept_of (pause.trans ?_) (motorStarts_calm (calm_advanceTo hs))
    rw [← startRequest_motor (drop e) hsource (latch e)]
    simp only [endStallPause, req e]

theorem endBy_kept {c : Instr} {s w m : State} {r : Request} {o : Outcome} (h : EndsBy c s r o w m) :
    ∃ v, exec c s = .next v ∧ Kept (motionEnds r o m) v := by
  obtain ⟨v, hv, kept, -⟩ := h
  exact ⟨v, hv, kept⟩

/-- Settles O18: the pause limit, the thermal limit, the coast window and the hold timer. -/
theorem timersOfMotionCoastAndPinchHoldExpire : Obligations.TimersOfMotionCoastAndPinchHoldExpire := by
  refine ⟨fun s hs hdrop => ⟨fun r hr _ e he => ?_, fun r hr _ hd hm => ?_, fun c hc => ?_⟩, fun s hs e he => ?_⟩
  · have limit : exec .pauseLimitExpiry s = .next (settle (endMotion .stopped (advanceTo e s))) :=
      timer_next hs (fun t => t.win.pauseLimit) (endMotion .stopped) he
    exact endBy_kept (endsBy_of limit ((advanceTo_win_req e s).trans hr) ((advanceTo_win_drop e s).trans hdrop)
      (calm_advanceTo hs) (by simp) (by simp))
  · let n := advanceTo (s.now + ((80000 - s.win.heat) * 1000 - s.win.heatUs)) s
    have limit : exec .thermalHardLimit s = .next (settle (endMotion .thermal n)) := by
      have next : exec .thermalHardLimit s
          = .next (settle (if isDriven s.win.motor then hardLimit (advance (thermalLeft s.win) s) else s)) :=
        whileAwake_next hs fun t => if isDriven t.win.motor then hardLimit (advance (thermalLeft t.win) t) else t
      have moves : (advance (thermalLeft s.win) s).win.motion ≠ .reversing := by rwa [advance, advanceTo_win_motion]
      rw [next, if_pos hd, hardLimit, if_neg moves]
      rfl
    exact endBy_kept (endsBy_of limit ((advanceTo_win_req _ s).trans hr) ((advanceTo_win_drop _ s).trans hdrop)
      (calm_advanceTo hs) (by simp) (by simp))
  · intro n t
    have next : exec .coastWindowEnd s = .next (settle (closeCoast n)) :=
      timer_next (e := c.1) hs (fun t => t.win.coast.map fun w : Nat × Direction => w.1) closeCoast (by rw [hc]; rfl)
    have rests : closeCoast n = if s.win.recMoving then t else queueRecord .windowState t := by
      rw [← advanceTo_win_recMoving c.1 s]
      rfl
    have calm : Calm t := calm_of_same (calm_advanceTo (t := c.1) hs) (by rfl)
    refine kept_of (next.trans (by rw [rests])) ?_
    split
    · exact calm
    · exact calm_queueRecord calm
  · intro n
    have next : exec .pinchHoldTimerExpiry s = .next (settle { n with pinch := holdTimerEnds n.pinch }) :=
      liveTimer_next hs (fun t => t.pinch.holdEnd) (fun u => { u with pinch := holdTimerEnds u.pinch }) he
    have pinch : n.pinch = s.pinch := advanceTo_pinch e s
    have calm (p : Pinch) : Calm { n with pinch := p } := calm_of_same (calm_advanceTo (t := e) hs) (by rfl)
    rw [pinch] at next
    refine ⟨fun hm => kept_of (next.trans ?_) (calm _), fun hm => kept_of (next.trans ?_) (calm _)⟩
    · rw [holdTimerEnds, if_neg (by simp [hm])]
      rfl
    · rw [holdTimerEnds, if_pos hm]

end Sys2Proof.Proofs.Glass
end

section
/-! The delivery of a frame (7.4, 8.5). -/

namespace Sys2Proof.Proofs.Delivery

open Sys2Proof Sys2Proof.Machine Sys2Proof.Proofs.Steps Sys2Proof.Proofs.Invariants Sys2Proof.Proofs.KeyFrames
open Sys2Proof.Proofs.Ends Sys2Proof.Proofs.Glass

section
variable {s a b : State} {ps : List Payload} {fr : Frame} {e : Nat} {rest : List RxItem}

/-- The peer table once a frame of `o` is heard at `now` (R163). -/
def heardPeers (o own : Addr) (now : Nat) (peers : Vector Peer 8) : Vector Peer 8 :=
  if o = own then peers else peers.set o { peers[o] with presence := .present, since := now }

theorem heard_eq (o : Addr) (s : State) : heard o s =
    { s with census := { s.census with peers := heardPeers o s.addr s.now s.census.peers } } := by
  unfold heard heardPeers
  split <;> rfl

/-- The state in which a block takes the frame: it has left the receive queue, and its epochs are raised (R73, R145). -/
def received (fr : Frame) (rest : List RxItem) (s : State) : State :=
  raiseFrom fr.payload { s with line := { s.line with rx := rest } }

theorem afterHearing_eq (fr : Frame) (rest : List RxItem) (s : State) :
    afterHearing fr rest s = heard fr.origin (received fr rest s) := rfl

theorem raiseEpoch_eq (e : Epoch) (s : State) :
    raiseEpoch e s = { s with intent := { s.intent with epoch := (raiseEpoch e s).intent.epoch } } := by
  unfold raiseEpoch
  split <;> rfl

/-- Receiving a frame raises the epoch alone (R73). -/
theorem raiseFrom_eq (p : Payload) (s : State) :
    raiseFrom p s = { s with intent := { s.intent with epoch := (raiseFrom p s).intent.epoch } } := by
  unfold raiseFrom
  split
  · exact raiseEpoch_eq _ s
  · rw [raiseEpoch_eq, raiseEpoch_eq]
  · exact raiseEpoch_eq _ s
  · exact raiseEpoch_eq _ s
  · rfl

theorem received_eq (fr : Frame) (rest : List RxItem) (s : State) : received fr rest s =
    { s with line := { s.line with rx := rest }, intent := { s.intent with epoch := (received fr rest s).intent.epoch } } :=
  raiseFrom_eq _ _

@[simp] theorem received_now : (received fr rest s).now = s.now := by rw [received_eq]
@[simp] theorem received_pins : (received fr rest s).pins = s.pins := by rw [received_eq]
@[simp] theorem received_addr : (received fr rest s).addr = s.addr := by rw [received_eq]
@[simp] theorem received_cfg : (received fr rest s).cfg = s.cfg := by rw [received_eq]
@[simp] theorem received_win : (received fr rest s).win = s.win := by rw [received_eq]
@[simp] theorem received_pinch : (received fr rest s).pinch = s.pinch := by rw [received_eq]
@[simp] theorem received_latch : (received fr rest s).latch = s.latch := by rw [received_eq]
@[simp] theorem received_keys : (received fr rest s).keys = s.keys := by rw [received_eq]
@[simp] theorem received_search : (received fr rest s).search = s.search := by rw [received_eq]
@[simp] theorem received_census : (received fr rest s).census = s.census := by rw [received_eq]
@[simp] theorem received_power : (received fr rest s).power = s.power := by rw [received_eq]
@[simp] theorem received_store : (received fr rest s).store = s.store := by rw [received_eq]
@[simp] theorem received_line : (received fr rest s).line = { s.line with rx := rest } := by rw [received_eq]
theorem received_rx : (received fr rest s).line.rx = rest := by rw [received_eq]

/-- The same frame heard on both sides (R163). -/
theorem adds_heard (h : Adds ps a b) (o : Addr) : Adds ps (heard o a) (heard o b) := by
  have peers : heardPeers o b.addr b.now b.census.peers = heardPeers o a.addr a.now a.census.peers := by
    have same : b.census.peers = a.census.peers := (congrArg Census.peers h.quiet.census :)
    rw [h.quiet.addr, h.quiet.now, same]
  rw [heard_eq, heard_eq, peers]
  have census : ({ b.census with peers := heardPeers o a.addr a.now a.census.peers } : Census).fixed
      = ({ a.census with peers := heardPeers o a.addr a.now a.census.peers } : Census).fixed :=
    congrArg (fun c : Census => { c with peers := heardPeers o a.addr a.now a.census.peers }) h.quiet.census
  exact
    { quiet := { h.quiet with census := census, startHold := .inl h.hold }
      hold := h.hold
      unclaimed := h.unclaimed
      stage := h.stage
      gentle := fun room => { h.gentle room with }
      queued := h.queued }

theorem drainReports_frames {s : State} (h : s.line.rx.all fun x => match x with
    | .frame _ _ => true
    | .sent _ _ => false) : drainReports s = s := by
  unfold drainReports
  rcases hr : s.line.rx with _ | ⟨x, xs⟩
  · rfl
  · rw [hr] at h
    cases x with
    | frame => rfl
    | sent => simp at h

theorem received_calm (hs : Calm s) : Calm (received fr rest s) := by
  rw [received_eq]
  exact calm_of_same hs rfl

theorem heard_calm {o : Addr} (hs : Calm s) : Calm (heard o s) := by
  rw [heard_eq]
  exact calm_of_same hs rfl

/-- What a command that takes the head frame comes to, once its block has taken the frame. -/
theorem delivery_next {c : Instr} {is : Payload → Bool} {g : Frame → Nat → State → State} (hs : Calm s)
    (hh : Head fr e rest s) (hc : exec c s = onDelivery is g s) (hk : is fr.payload = true) :
    exec c s = .next (settle (drainReports (heard fr.origin (g fr e (received fr rest s))))) := by
  have run : (received fr rest s).power.state = .run := (received_calm (fr := fr) (rest := rest) hs).2.1
  have awake_ : abortSleep none (received fr rest s) = received fr rest s := if_neg (by rw [run]; decide)
  rw [hc, onDelivery, whileAwake_next hs, takeHead, hh.1]
  simp only [hk, if_true, deliver]
  split
  · rw [show raiseFrom fr.payload { s with line := { s.line with rx := rest } } = received fr rest s from rfl, awake_]
  · rfl

/-- A delivery whose block leaves `m` with the frames `ps` queued, with room for them. -/
theorem delivery_roomy {c : Instr} {is : Payload → Bool} {g : Frame → Nat → State → State} {m : State} (hs : Calm s)
    (hh : Head fr e rest s) (hc : exec c s = onDelivery is g s) (hk : is fr.payload = true)
    (h : Adds ps m (g fr e (received fr rest s))) (hrx : m.line.rx = rest) (hm : Calm m)
    (room : Roomy 4 m → Roomy (ps.length + 2) m) : ∃ v, exec c s = .next v ∧ Kept (heard fr.origin m) v
      ∧ (m.line.state = .ok → Roomy (ps.length + 2) m → ∀ p ∈ ps, p.kind ≠ 12 → Queued p v) := by
  have rx : (g fr e (received fr rest s)).line.rx = m.line.rx := (congrArg Line.rx h.quiet.line :)
  have drained : drainReports (heard fr.origin (g fr e (received fr rest s))) = heard fr.origin (g fr e (received fr rest s)) := by
    refine drainReports_frames ?_
    rw [heard_line, rx, hrx]
    exact hh.2
  have heardAdds := adds_heard h fr.origin
  have line : (heard fr.origin m).line = m.line := heard_line _ _
  have same (n : Nat) : Roomy n (heard fr.origin m) ↔ Roomy n m := roomy_congr (congrArg Line.tx line)
  have next := delivery_next hs hh hc hk
  rw [drained] at next
  refine ⟨_, next, heardAdds.kept_roomy (heard_calm hm) fun hr => (same _).2 (room ((same _).1 hr)), fun ok hr p hp hp12 => ?_⟩
  exact heardAdds.queued_roomy (heard_calm hm) (line ▸ ok) ((same _).2 hr) hp hp12

/-- A delivery whose block leaves `m` with the frames `ps` queued. -/
theorem delivery_adds {c : Instr} {is : Payload → Bool} {g : Frame → Nat → State → State} {m : State} (hs : Calm s)
    (hh : Head fr e rest s) (hc : exec c s = onDelivery is g s) (hk : is fr.payload = true)
    (h : Adds ps m (g fr e (received fr rest s))) (hrx : m.line.rx = rest) (hm : Calm m) (hn : ps.length ≤ 1) :
    ∃ v, exec c s = .next v ∧ Kept (heard fr.origin m) v
      ∧ (m.line.state = .ok → Roomy 4 m → ∀ p ∈ ps, p.kind ≠ 12 → Queued p v) := by
  obtain ⟨v, hv, kept, queued⟩ := delivery_roomy hs hh hc hk h hrx hm (roomy_of_few (by omega))
  exact ⟨v, hv, kept, fun ok room => queued ok (roomy_of_few (by omega) room)⟩

end

end Sys2Proof.Proofs.Delivery
end

section
/-! Motion requests: the checks, the arbiter, and the local switch (1.4, 1.5). -/

namespace Sys2Proof.Proofs.Glass

open Sys2Proof Sys2Proof.Machine Sys2Proof.Proofs.Steps Sys2Proof.Proofs.Invariants Sys2Proof.Proofs.KeyFrames
open Sys2Proof.Proofs.Ends

/-! ## The checks (R10) -/

section
variable {r : Request} {s : State}

/-- What the checks before the arbiter ask of a request, each in turn (R10). -/
structure Passes (r : Request) (s : State) : Prop where
  window : s.cfg.caps.window = true
  supply : s.power.supply ≠ .under
  norm : s.win.norm = true ∨ (r.source = .localSwitch ∧ r.mode = .manual)
  crash : s.latch.crashEnd = none
  heat : s.win.heat < 60000 ∨ (s.win.heat < 80000 ∧ r.dir = .up)
  latch : s.latch.position = .closed
  hold : s.pinch.mode = .normal ∨ r.dir ≠ .up ∨ (r.mode ≠ .auto ∧ r.source ≠ .global ∧ r.source ≠ .rise)

theorem Passes.check (h : Passes r s) : checkRequest r s = none := by
  have norm : (!s.win.norm && !(r.source == .localSwitch && r.mode == .manual)) = false := by
    rcases h.norm with hn | ⟨hs, hm⟩
    · simp [hn]
    · simp [hs, hm]
  have heat : ¬ (80000 ≤ s.win.heat ∨ (60000 ≤ s.win.heat ∧ r.dir = .down)) := by
    rcases h.heat with hh | ⟨hh, hd⟩
    · omega
    · rintro (k | ⟨-, k⟩)
      · omega
      · simp [hd] at k
  have hold : (s.pinch.mode != .normal && r.dir == .up && (r.mode == .auto || r.source == .global || r.source == .rise)) = false := by
    rcases h.hold with hp | hd | ⟨hm, hg, hr⟩
    · simp [hp]
    · simp [hd]
    · simp [hm, hg, hr]
  unfold checkRequest
  rw [if_neg (by simp [h.window]), if_neg h.supply, if_neg (by rw [norm]; simp), if_neg (by simp [crashHold, h.crash]),
    if_neg heat, if_neg (by simp [h.latch]), if_neg (by rw [hold]; simp)]

theorem request_passed (h : Passes r s) : request r s = arbiter r s := by simp [request, h.check]

theorem satisfied_held {m : Mode} (h : r.mode = m) (hm : m = .manual ∨ m = .auto) (p : Int) : satisfied r p = false := by
  rcases hm with rfl | rfl <;> simp [satisfied, h]

theorem arbiter_idle (h : s.win.req = none) (hsat : satisfied r s.win.p = false) : arbiter r s = (.started, grantIdle r s) := by
  simp [arbiter, h, hsat]

/-- A request granted with no motion running drives the motor (R8). -/
theorem grantIdle_starts (hd : s.win.drop = none) (ho : takesOverride r s = false) (hc : s.power.supply ≠ .crank) :
    grantIdle r s = motionStarts r s := by
  have start : motionStart r (s.withWin { s.win with startStalls := 0 })
      = requestRuns r { s with win := { s.win with startStalls := 0 } } := motionStart_eq ho
  unfold grantIdle
  rw [start, if_neg hc]
  exact motorStart_eq _ hd

theorem pauseMotion_eq (hd : s.win.drop = none) : pauseMotion s = pauses s := by
  unfold pauseMotion pauses
  rw [motorTo_eq hd]
  rfl

theorem grantIdle_waits (hd : s.win.drop = none) (ho : takesOverride r s = false) (hc : s.power.supply = .crank) :
    grantIdle r s = pauses (requestRuns r { s with win := { s.win with startStalls := 0 } }) := by
  have start : motionStart r (s.withWin { s.win with startStalls := 0 })
      = requestRuns r { s with win := { s.win with startStalls := 0 } } := motionStart_eq ho
  unfold grantIdle
  rw [start, if_pos hc]
  exact pauseMotion_eq hd

/-- The grant of a request that takes the override (R40). -/
def overrides (r : Request) (s : State) : State :=
  let runs := requestRuns r { s with win := { s.win with startStalls := 0 } }
  { runs with
    win := { runs.win with overrideMotion := true }
    pinch := { runs.pinch with mode := .override, overrideUsed := true } }

theorem grantIdle_overrides (hd : s.win.drop = none) (ho : takesOverride r s = true) (hc : s.power.supply ≠ .crank) :
    grantIdle r s = motorStarts r.dir (overrides r s) := by
  have start : motionStart r (s.withWin { s.win with startStalls := 0 }) = overrides r s := by
    have same : takesOverride r (s.withWin { s.win with startStalls := 0 }) = true := ho
    unfold motionStart
    simp only [same, if_true]
    rfl
  unfold grantIdle
  rw [start, if_neg hc]
  exact motorStart_eq _ hd

theorem takesOverride_mode (h : s.pinch.mode = .normal) : takesOverride r s = false := by simp [takesOverride, h]

theorem takesOverride_used (h : s.pinch.overrideUsed = true) : takesOverride r s = false := by simp [takesOverride, h]

theorem takesOverride_norm (h : s.win.norm = false) : takesOverride r s = false := by simp [takesOverride, h]

end

/-! ## The local switch (R14) -/

section
variable {s x : State} {d : Direction} {m : Mode}

/-- The request of a press of the local switch. -/
def switchRequest (d : Direction) (m : Mode) : Request := { source := .localSwitch, dir := d, mode := m }

/-- The local switch stands at a detent, which is local input (R173). -/
def pressed (d : Direction) (b : Bool) (s : State) : State :=
  { s with pins := { s.pins with localHold := some d, localSpent := b }, power := { s.power with localAt := s.now } }

theorem pressed_calm {b : Bool} (h : Calm s) : Calm (pressed d b s) := calm_of_same h rfl

theorem markSpent_false (s : State) : markSpent false s = s := by simp [markSpent]

theorem dropLostHold_kept (h : ∀ r ∈ s.win.req, holds r s = true) : dropLostHold s = s := by
  unfold dropLostHold
  split
  · rename_i r hr
    simp [h r hr]
  · rfl

/-- A press whose request is granted, or refused, leaves what the request brings, if what runs is still held (R14). -/
theorem localPress_of {o : WindowOutcome} (hc : s.latch.child ≠ .engaged) (h : request (switchRequest d m) s = (o, x))
    (ho : o ≠ .stopped) (hold : ∀ r ∈ x.win.req, holds r x = true) : localPress d m s = x := by
  have rear : (isRear s && s.latch.child == .engaged) = false := by simp [hc]
  unfold localPress
  rw [rear]
  simp only [Bool.false_eq_true, if_false]
  rw [show request { source := .localSwitch, dir := d, mode := m } s = (o, x) from h]
  have spent : (o == .stopped) = false := by simp [ho]
  simp only [spent, markSpent_false]
  exact dropLostHold_kept hold

theorem localPress_child (hr : isRear s = true) (hc : s.latch.child = .engaged) : localPress d m s = s := by
  simp [localPress, hr, hc]

/-- A press that stops an AUTO motion is spent (R14). -/
theorem localPress_stops (hc : s.latch.child ≠ .engaged) (h : request (switchRequest d m) s = (.stopped, x))
    (hx : x.win.req = none) : localPress d m s = markSpent true x := by
  have rear : (isRear s && s.latch.child == .engaged) = false := by simp [hc]
  unfold localPress
  rw [rear]
  simp only [Bool.false_eq_true, if_false]
  rw [show request { source := .localSwitch, dir := d, mode := m } s = (.stopped, x) from h]
  exact dropLostHold_kept (by simp [markSpent, hx])

theorem firstDetent_eq (hs : Calm s) (hp : s.pins.localHold ≠ some d) :
    firstDetent d s = localPress d .manual (pressed d false s) := by
  have run : (setHold (some d) false s).power.state = .run := hs.2.1
  unfold firstDetent
  rw [if_neg hp, localCause_run run]
  rfl

theorem secondDetent_eq (hs : Calm s) (hp : s.pins.localHold = some d → s.pins.localSpent = false) :
    secondDetent d s = localPress d .auto (pressed d false s) := by
  have spent : (s.pins.localHold == some d && s.pins.localSpent) = false := by
    by_cases h : s.pins.localHold = some d
    · simp [hp h]
    · simp [h]
  have run : (setHold (some d) false s).power.state = .run := hs.2.1
  unfold secondDetent
  simp only [spent]
  rw [localCause_run run]
  rfl

theorem exec_firstDetent (hs : Calm s) : exec (.localSwitchFirstDetent d) s = .next (settle (firstDetent d s)) :=
  if_neg (by simp [hs.1])

theorem exec_secondDetent (hs : Calm s) : exec (.localSwitchSecondDetent d) s = .next (settle (secondDetent d s)) :=
  if_neg (by simp [hs.1])

end

/-! ## What a press brings -/

theorem motorRuns_eq (d : Direction) (m : MotionState) (s : State) : motorRuns d m s = { s with
    win := { s.win with
      motor := .driven d, motion := m, motorStartAt := s.now, coast := none, pulses := 0, pauseEnd := none
      brakeEnd := none, pauseLimit := none, recMoving := true }
    store := { s.store with queue :=
      if s.win.recMoving then s.store.queue else withRecordId .windowState s.store.queue } } := by
  unfold motorRuns
  by_cases h : s.win.recMoving = true
  · simp only [h, if_true]
  · rw [if_neg h, if_neg h, queueRecord_eq]

theorem motorRuns_win (d : Direction) (m : MotionState) (s : State) : (motorRuns d m s).win = { s.win with
      motor := .driven d, motion := m, motorStartAt := s.now, coast := none, pulses := 0, pauseEnd := none
      brakeEnd := none, pauseLimit := none, recMoving := true } := by rw [motorRuns_eq]

theorem motorRuns_pins (d : Direction) (m : MotionState) (s : State) : (motorRuns d m s).pins = s.pins := by
  rw [motorRuns_eq]

/-- The request of a press is held while it stands (R9). -/
theorem holds_pressed {d : Direction} {m : Mode} {x : State} (h : x.pins.localHold = some d) :
    holds (switchRequest d m) x = true := by
  cases m <;> simp [holds, switchRequest, h]

section
variable {s : State} {d : Direction} {m : Mode}

/-- A press whose request is granted with no motion running (R8, R14). -/
theorem localPress_granted (hc : s.latch.child ≠ .engaged) (hm : m = .manual ∨ m = .auto)
    (hp : Passes (switchRequest d m) s) (hr : s.win.req = none) (hold : s.pins.localHold = some d) {x : State}
    (hx : grantIdle (switchRequest d m) s = x) (hreq : x.win.req = some (switchRequest d m)) (hpins : x.pins = s.pins) :
    localPress d m s = x := by
  refine localPress_of (o := .started) hc ?_ (by decide) ?_
  · rw [request_passed hp, arbiter_idle hr (satisfied_held rfl hm _), hx]
  · rw [hreq]
    rintro _ ⟨⟩
    exact holds_pressed (by rw [hpins, hold])

theorem localPress_refused {o : WindowOutcome} (hc : s.latch.child ≠ .engaged) (hr : s.win.req = none)
    (ho : checkRequest (switchRequest d m) s = some o) (hs : o ≠ .stopped) : localPress d m s = s := by
  refine localPress_of (o := o) hc ?_ hs (by simp [hr])
  simp [request, ho]

/-- A press with no motion running starts its motion (R8). -/
theorem localPress_starts (hc : s.latch.child ≠ .engaged) (hm : m = .manual ∨ m = .auto)
    (hp : Passes (switchRequest d m) s) (hr : s.win.req = none) (hold : s.pins.localHold = some d)
    (hd : s.win.drop = none) (ho : takesOverride (switchRequest d m) s = false) (hcrank : s.power.supply ≠ .crank) :
    localPress d m s = motionStarts (switchRequest d m) s :=
  localPress_granted hc hm hp hr hold (grantIdle_starts hd ho hcrank) (congrArg Window.req (motorRuns_win _ _ _))
    (motorRuns_pins _ _ _)

theorem localPress_waits (hc : s.latch.child ≠ .engaged) (hm : m = .manual ∨ m = .auto)
    (hp : Passes (switchRequest d m) s) (hr : s.win.req = none) (hold : s.pins.localHold = some d)
    (hd : s.win.drop = none) (ho : takesOverride (switchRequest d m) s = false) (hcrank : s.power.supply = .crank) :
    localPress d m s = pauses (requestRuns (switchRequest d m) { s with win := { s.win with startStalls := 0 } }) :=
  localPress_granted hc hm hp hr hold (grantIdle_waits hd ho hcrank) rfl rfl

theorem localPress_overrides (hc : s.latch.child ≠ .engaged) (hm : m = .manual ∨ m = .auto)
    (hp : Passes (switchRequest d m) s) (hr : s.win.req = none) (hold : s.pins.localHold = some d)
    (hd : s.win.drop = none) (ho : takesOverride (switchRequest d m) s = true) (hcrank : s.power.supply ≠ .crank) :
    localPress d m s = motorStarts d (overrides (switchRequest d m) s) :=
  localPress_granted hc hm hp hr hold (grantIdle_overrides hd ho hcrank) (congrArg Window.req (motorRuns_win _ _ _))
    (motorRuns_pins _ _ _)

end

theorem checkRequest_unnormalised {r : Request} {s : State} (hw : s.cfg.caps.window = true) (hs : s.power.supply ≠ .under)
    (hn : s.win.norm = false) (hr : ¬ (r.source = .localSwitch ∧ r.mode = .manual)) :
    checkRequest r s = some .unnormalised := by
  unfold checkRequest
  rw [if_neg (by simp [hw]), if_neg hs, if_pos]
  simp only [hn, Bool.not_false, Bool.true_and, Bool.not_eq_true', Bool.and_eq_false_iff, beq_eq_false_iff_ne]
  exact not_and_or.1 hr

/-- In PINCH HOLD an AUTO request up is refused (R40). -/
theorem checkRequest_pinchHold {r : Request} {s : State} (hw : s.cfg.caps.window = true) (hs : s.power.supply ≠ .under)
    (hn : s.win.norm = true) (hcr : s.latch.crashEnd = none) (hh : s.win.heat < 60000) (hl : s.latch.position = .closed)
    (hp : s.pinch.mode ≠ .normal) (hd : r.dir = .up) (hm : r.mode = .auto) : checkRequest r s = some .pinchHold := by
  unfold checkRequest
  rw [if_neg (by simp [hw]), if_neg hs, if_neg (by simp [hn]), if_neg (by simp [crashHold, hcr]), if_neg (by omega),
    if_neg (by simp [hl]), if_pos (by simp [hp, hd, hm])]

theorem goodSupply_ne {s : State} (h : GoodSupply s) : s.power.supply ≠ .crank ∧ s.power.supply ≠ .under := by
  constructor <;> intro e <;> simp [GoodSupply, e, Supply.poor] at h

/-- With the motor off on both sides, a WINDOW REPORT is not due of a LOCAL SWITCH motion (R24). -/
theorem finishMotion_local {r : Request} {s : State} (o : Outcome) (hr : s.win.req = some r) (hd : s.win.drop = none)
    (hs : r.source = .localSwitch) : finishMotion o s = motionEnds r o s := by
  rw [finishMotion_eq o hr hd]
  simp [reportMotion, hs]

theorem markSpent_motionEnds (r : Request) (o : Outcome) (d : Direction) (s : State) :
    markSpent true (motionEnds r o (pressed d false s)) = motionEnds r o (pressed d true s) := by
  rw [motionEnds_eq, motionEnds_eq, apply_ite (markSpent true), queueRecord_eq, queueRecord_eq]
  rfl

theorem arbiter_replaces {r x : Request} {s : State} (h : s.win.req = some x) (hs : x.source = r.source)
    (hd : x.dir = r.dir) (hsat : satisfied r s.win.p = false) : arbiter r s = (.started, replaceRequest r s) := by
  simp [arbiter, h, hs, hd, hsat]

theorem arbiter_stops {r x : Request} {s : State} (h : s.win.req = some x) (hs : x.source = r.source)
    (hd : x.dir ≠ r.dir) (hm : x.mode ≠ .manual) : arbiter r s = (.stopped, finishMotion .stopped s) := by
  simp [arbiter, h, hs, hd, hm]

/-- Settles O19: presses with no motion running, the press that takes the override, and those that start nothing. -/
theorem localSwitchPressStartsOrStopsAMotion : Obligations.LocalSwitchPressStartsOrStopsAMotion := by
  refine ⟨fun s d hs hdrop hreq hcaps hsup hcrash hheat hlatch hchild hhold => ?_,
    fun s m hs hreq hcaps hsup hn hcrash hheat hlatch hchild hhold hmode hused => ?_,
    fun s d hs hdrop hhold => ?_⟩
  · intro press mine held first second
    have first_of {t : State} (h : localPress d .manual (pressed d false s) = t) (ht : Calm t) : first t :=
      kept_of ((exec_firstDetent hs).trans (by rw [firstDetent_eq hs (by simp [hhold]), h])) ht
    have second_of {t : State} (h : localPress d .auto (pressed d false s) = t) (ht : Calm t) : second t :=
      kept_of ((exec_secondDetent hs).trans (by rw [secondDetent_eq hs (by simp [hhold]), h])) ht
    have calm : Calm (pressed d false s) := pressed_calm hs
    have passes (m : Mode) (hn : s.win.norm = true ∨ m = .manual)
        (hp : s.pinch.mode = .normal ∨ m = .manual) (hm : m = .manual ∨ m = .auto) :
        Passes (switchRequest d m) (pressed d false s) :=
      { window := hcaps, supply := hsup, norm := hn.imp id fun h => ⟨rfl, h⟩, crash := hcrash, heat := .inl hheat
        latch := hlatch
        hold := hp.imp id fun h => .inr (by subst h; simp [switchRequest]) }
    refine ⟨fun hg hn hp => ?_, fun hg hn hp => ?_, fun hg hn => ?_, fun hg hn hp hup => ⟨fun hu => ?_, fun hu => ?_, ?_⟩⟩
    · have starts (m : Mode) (hm : m = .manual ∨ m = .auto) := localPress_starts (s := pressed d false s) hchild hm (passes m (.inl hn) (.inl hp) hm)
        hreq rfl hdrop (takesOverride_mode hp) (goodSupply_ne hg).1
      exact ⟨first_of (starts .manual (.inl rfl)) (motorStarts_calm (calm_of_same calm (by rfl))),
        second_of (starts .auto (.inr rfl)) (motorStarts_calm (calm_of_same calm (by rfl)))⟩
    · have waits (m : Mode) (hm : m = .manual ∨ m = .auto) := localPress_waits (s := pressed d false s) hchild hm (passes m (.inl hn) (.inl hp) hm)
        hreq rfl hdrop (takesOverride_mode hp) hg
      exact ⟨first_of (waits .manual (.inl rfl)) (calm_of_same calm (by rfl)),
        second_of (waits .auto (.inr rfl)) (calm_of_same calm (by rfl))⟩
    · refine ⟨first_of (localPress_starts (s := pressed d false s) hchild (.inl rfl) (passes .manual (.inr rfl) (.inr rfl) (.inl rfl)) hreq rfl hdrop
        (takesOverride_norm hn) (goodSupply_ne hg).1) (motorStarts_calm (calm_of_same calm (by rfl))), second_of ?_ calm⟩
      exact localPress_refused (s := pressed d false s) hchild hreq (checkRequest_unnormalised (s := pressed d false s) hcaps hsup hn (by simp [switchRequest])) (by decide)
    · have takes : takesOverride (switchRequest d .manual) (pressed d false s) = true := by
        simp [takesOverride, switchRequest, pressed, hp, hu, hn, hup]
      have press := localPress_overrides (s := pressed d false s) hchild (.inl rfl) (passes .manual (.inr rfl) (.inr rfl) (.inl rfl)) hreq rfl hdrop
        takes (goodSupply_ne hg).1
      subst hup
      exact first_of press (motorStarts_calm (calm_of_same calm (by rfl)))
    · exact first_of (localPress_starts (s := pressed d false s) hchild (.inl rfl) (passes .manual (.inr rfl) (.inr rfl) (.inl rfl)) hreq rfl hdrop
        (takesOverride_used hu) (goodSupply_ne hg).1) (motorStarts_calm (calm_of_same calm (by rfl)))
    · refine second_of (localPress_refused (s := pressed d false s) (o := .pinchHold) hchild hreq ?_ (by decide)) calm
      exact checkRequest_pinchHold (s := pressed d false s) hcaps hsup hn hcrash hheat hlatch (by simp [pressed, hp]) hup rfl
  · have passes : Passes (switchRequest .up .manual) (pressed .up false s) :=
      { window := hcaps, supply := hsup, norm := .inl hn, crash := hcrash, heat := .inr ⟨hheat, rfl⟩, latch := hlatch
        hold := .inr (.inr (by simp [switchRequest])) }
    have takes : takesOverride (switchRequest .up .manual) (pressed .up false s) = true := by
      simp [takesOverride, switchRequest, pressed, hmode, hused, hn]
    refine kept_of ((exec_firstDetent hs).trans ?_) (calm_of_same hs (by rfl))
    rw [firstDetent_eq hs hhold]
    have press : localPress .up .manual (pressed .up false s) = replaceRequest (switchRequest .up .manual) (pressed .up false s) := by
      refine localPress_of (s := pressed .up false s) (o := .started) hchild ?_ (by decide) ?_
      · rw [request_passed passes]
        exact arbiter_replaces (s := pressed .up false s) hreq rfl rfl (satisfied_held (m := .manual) rfl (.inl rfl) _)
      · rw [replaceRequest, if_pos takes]
        rintro _ ⟨⟩
        exact holds_pressed rfl
    rw [press, replaceRequest, if_pos takes]
    rfl
  · intro press
    refine ⟨fun hrear hchild => kept_of ((exec_firstDetent hs).trans ?_) (pressed_calm hs),
      fun x hx hsrc hauto hdir hchild hcaps hg hn hcrash hheat hlatch hmode => ?_⟩
    · rw [firstDetent_eq hs (by simp [hhold]), localPress_child (s := pressed d false s) hrear hchild]
      rfl
    · have passes : Passes (switchRequest d .manual) (pressed d false s) :=
        { window := hcaps, supply := (goodSupply_ne hg).2, norm := .inl hn, crash := hcrash, heat := .inl hheat
          latch := hlatch, hold := .inl hmode }
      have hreq : (pressed d false s).win.req = some x := hx
      have stops := localPress_stops (s := pressed d false s) (d := d) (m := .manual)
        (x := motionEnds x .stopped (pressed d false s)) hchild (by
        rw [request_passed passes, arbiter_stops hreq hsrc hdir (by simp [hauto]), finishMotion_local .stopped hreq hdrop hsrc])
        (by rw [motionEnds_win]; rfl)
      refine kept_of ((exec_firstDetent hs).trans ?_) (motionEnds_calm (pressed_calm hs))
      rw [firstDetent_eq hs (by simp [hhold]), stops, markSpent_motionEnds]
      rfl

end Sys2Proof.Proofs.Glass
end

section
/-! Holds and the switch pack (1.5). -/

namespace Sys2Proof.Proofs.Glass

open Sys2Proof Sys2Proof.Machine Sys2Proof.Proofs.Steps Sys2Proof.Proofs.Invariants Sys2Proof.Proofs.KeyFrames
open Sys2Proof.Proofs.Ends Sys2Proof.Proofs.Delivery

theorem dropLostHold_ends {r : Request} {s : State} (hr : s.win.req = some r) (hm : s.win.motion ≠ .braking)
    (h : holds r s = false) : dropLostHold s = endMotion .stopped s := by
  simp [dropLostHold, hr, hm, h]

theorem holds_auto {r : Request} {s : State} (h : r.mode ≠ .manual) : holds r s = true := by
  unfold holds
  split
  · contradiction
  · rfl

/-- A REMOTE SWITCH MANUAL motion has lost its hold once the entry taken is NONE (R16). -/
theorem holds_remote_rest {r : Request} {s : State} (hs : r.source = .remoteSwitch) (hm : r.mode = .manual)
    (he : s.win.packEntry = .rest) : holds r s = false := by
  obtain ⟨source, dir, mode⟩ := r
  subst hs hm
  cases dir <;> simp [holds, he, manualEntry, entryDir]

theorem heard_queueRecord (o : Addr) (r : RecordId) (s : State) : heard o (queueRecord r s) = queueRecord r (heard o s) := by
  rw [heard_eq, heard_eq, queueRecord_eq, queueRecord_eq]

theorem heard_motionEnds (o : Addr) (r : Request) (out : Outcome) (s : State) :
    heard o (motionEnds r out s) = motionEnds r out (heard o s) := by
  rw [motionEnds_eq, motionEnds_eq, apply_ite (heard o), heard_queueRecord, heard_win]
  rw [heard_eq, heard_eq]
  rfl

/-! ## Taking an entry (R16) -/

section
variable {s : State} {fr : Frame} {e : Nat} {rest : List RxItem} {a b c d : SwitchEntry}

/-- The own entry of a SWITCH PACK. -/
theorem entryFor_eq (own : Addr) (a b c d : SwitchEntry) :
    entryFor own a b c d = if own = 0 then a else if own = 1 then b else if own = 2 then c else d := by
  unfold entryFor
  simp only [Fin.ext_iff]
  rfl

/-- The entry `x`, which ended at `e`, is the last one taken. -/
def entryTaken (x : SwitchEntry) (e : Nat) (s : State) : State :=
  s.withWin { s.win with packEntry := x, packAt := some e }

theorem judgeEntry_same (h : s.win.packEntry = x) : judgeEntry x e s = entryTaken x e s := if_pos h.symm

theorem judgeEntry_rest (h : s.win.packEntry ≠ .rest) : judgeEntry .rest e s = dropLostHold (entryTaken .rest e s) :=
  if_neg h.symm

theorem judgeEntry_request {x : SwitchEntry} {r : Request} (h : s.win.packEntry ≠ x) (hr : remoteRequest x = some r) :
    judgeEntry x e s = dropLostHold (request r (entryTaken x e s)).2 := by
  unfold judgeEntry
  simp only [if_neg h.symm, hr]
  rfl

/-- A side station takes its own entry of a SWITCH PACK from the driver's address (R16). -/
theorem takePack_eq (hp : fr.payload = .switchPack a b c d) (ho : fr.origin = driverAddr s.cfg)
    (hside : s.addr.val < 4) (hown : s.addr ≠ driverAddr s.cfg) (hvalid : ∀ q ∈ s.win.packAt, s.now < q + 250000) :
    takePack fr e s = judgeEntry (if s.addr = 0 then a else if s.addr = 1 then b else if s.addr = 2 then c else d) e s := by
  have expired : packExpired s = false := by
    unfold packExpired
    split
    · rename_i q hq
      simpa using hvalid q hq
    · rfl
  unfold takePack
  simp [hp, isSide, hside, isDriver, hown, ho, expired, entryFor_eq]

theorem received_fields (fr : Frame) (rest : List RxItem) (s : State) :
    (received fr rest s).addr = s.addr ∧ (received fr rest s).cfg = s.cfg ∧ (received fr rest s).win = s.win
      ∧ (received fr rest s).now = s.now ∧ (received fr rest s).line = { s.line with rx := rest } := by
  rw [received_eq]
  exact ⟨rfl, rfl, rfl, rfl, rfl⟩

theorem takePack_received (hp : fr.payload = .switchPack a b c d) (ho : fr.origin = driverAddr s.cfg)
    (hside : s.addr.val < 4) (hown : s.addr ≠ driverAddr s.cfg) (hvalid : ∀ q ∈ s.win.packAt, s.now < q + 250000) :
    takePack fr e (received fr rest s) =
      judgeEntry (if s.addr = 0 then a else if s.addr = 1 then b else if s.addr = 2 then c else d) e (received fr rest s) := by
  obtain ⟨haddr, hcfg, hwin, hnow, -⟩ := received_fields fr rest s
  have taken := takePack_eq (s := received fr rest s) (e := e) hp (by rw [hcfg, ho]) (by rw [haddr]; exact hside)
    (by rw [haddr, hcfg]; exact hown) (by rw [hwin, hnow]; exact hvalid)
  rwa [haddr] at taken

/-- A SWITCH PACK whose own entry leaves `m`. -/
theorem switchPack_kept {m : State} (hs : Calm s) (hh : Head fr e rest s) (hp : fr.payload = .switchPack a b c d)
    (h : takePack fr e (received fr rest s) = m) (hrx : m.line.rx = rest) (hm : Calm m) :
    ∃ v, exec .switchPack s = .next v ∧ Kept (heard fr.origin m) v := by
  obtain ⟨v, hv, kept, -⟩ := delivery_adds (c := .switchPack) (is := fun p => p.kind == 9) (g := takePack) hs hh rfl
    (by rw [hp]; rfl) (.of_eq h) hrx hm (Nat.zero_le _)
  exact ⟨v, hv, kept⟩

theorem heard_entryTaken (o : Addr) (x : SwitchEntry) (s : State) :
    heard o (entryTaken x e s) = entryTaken x e (heard o s) := by
  rw [heard_eq, heard_eq]
  rfl

end

theorem endMotion_quiet {r : Request} {s : State} (o : Outcome) (hr : s.win.req = some r) (hd : s.win.drop = none)
    (hs : r.source ≠ .global) (hrise : r.source ≠ .rise) : endMotion o s = motionEnds r o s := by
  have report : reportMotion r o s = s := by simp [reportMotion, hs, hrise]
  unfold endMotion
  rw [finishMotion_eq o hr hd, report, serveWaitingDrop_none]
  rw [motionEnds_drop, hd]

theorem motionEnds_line (r : Request) (o : Outcome) (s : State) : (motionEnds r o s).line = s.line := by
  rw [motionEnds_eq]
  split
  · exact queueRecord_line _ _
  · rfl

/-- Settles O21: the hold is lost by the switch let go, the lapse of the entry, or NONE in it. -/
theorem lostHoldEndsAManualMotion : Obligations.LostHoldEndsAManualMotion := by
  intro s r f at_ rest a b c d hs hdrop hr hm freed
  have release : exec .localSwitchRelease s = .next (settle (dropLostHold freed)) := if_neg (by simp [hs.1])
  have calmFreed : Calm freed := calm_of_same hs (by rfl)
  refine ⟨fun hsrc hman => ?_, fun hman => kept_of (release.trans ?_) calmFreed, fun p hp => ?_,
    fun hh hpay horig hown hside hvalid hentry hrest => ?_⟩
  · have lost : holds r freed = false := by simp [holds, hman, hsrc, freed]
    exact endBy_kept (endsBy_of (release.trans (by rw [dropLostHold_ends (s := freed) hr hm lost])) hr hdrop calmFreed rfl rfl)
  · rw [dropLostHold_kept]
    rintro x hx
    obtain rfl : r = x := Option.some.inj (hr.symm.trans hx)
    exact holds_auto hman
  · intro n lapsed
    have lapse : exec .switchPackValidityLapse s = .next (settle (dropLostHold lapsed)) :=
      liveTimer_next (e := p + 250000) hs (fun t => t.win.packAt.map (· + 250000)) lapsePack (by rw [hp]; rfl)
    have hlr : lapsed.win.req = some r := (advanceTo_win_req _ s).trans hr
    have calm : Calm lapsed := calm_of_same (calm_advanceTo (t := p + 250000) hs) (by rfl)
    refine ⟨fun hsrc hman => ?_, fun hman => kept_of (lapse.trans ?_) calm⟩
    · have moving : lapsed.win.motion ≠ .braking := by
        show n.win.motion ≠ .braking
        rwa [advanceTo_win_motion]
      exact endBy_kept (endsBy_of (lapse.trans (by rw [dropLostHold_ends hlr moving (holds_remote_rest hsrc hman rfl)])) hlr
        ((advanceTo_win_drop _ s).trans hdrop) calm (by simp [lapsed, n]) (by simp [lapsed, n]))
    · rw [dropLostHold_kept]
      rintro x hx
      obtain rfl : r = x := Option.some.inj (hlr.symm.trans hx)
      exact holds_auto hman
  · intro t taken
    obtain ⟨-, -, hwin, -, hline⟩ := received_fields f rest s
    have takes := takePack_received (e := at_) (rest := rest) hpay horig hside hown hvalid
    rw [hrest, judgeEntry_rest (by rw [hwin]; exact hentry)] at takes
    have hx : (entryTaken .rest at_ (received f rest s)).win.req = some r := by rw [entryTaken, withWin_win, hwin]; exact hr
    have same : heard f.origin (entryTaken .rest at_ (received f rest s)) = taken := heard_entryTaken _ _ _
    have calm : Calm (entryTaken .rest at_ (received f rest s)) := calm_of_same (received_calm hs) (by rfl)
    refine ⟨fun hsrc hman => ?_, fun hman => ?_⟩
    · have ended : dropLostHold (entryTaken .rest at_ (received f rest s))
          = motionEnds r .stopped (entryTaken .rest at_ (received f rest s)) := by
        rw [dropLostHold_ends hx (by rw [entryTaken, withWin_win, hwin]; exact hm) (holds_remote_rest hsrc hman rfl)]
        exact endMotion_quiet .stopped hx (by rw [entryTaken, withWin_win, hwin]; exact hdrop) (by simp [hsrc]) (by simp [hsrc])
      have kept := switchPack_kept hs hh hpay (takes.trans ended) (by rw [motionEnds_line, entryTaken, withWin_line, hline])
        (motionEnds_calm calm)
      rwa [heard_motionEnds, same] at kept
    · have stays : dropLostHold (entryTaken .rest at_ (received f rest s)) = entryTaken .rest at_ (received f rest s) := by
        refine dropLostHold_kept ?_
        rintro x hx'
        obtain rfl : r = x := Option.some.inj (hx.symm.trans hx')
        exact holds_auto hman
      have kept := switchPack_kept hs hh hpay (takes.trans stays) (by rw [entryTaken, withWin_line, hline]) calm
      rwa [same] at kept

/-! ## The switch pack (R15, R16) -/

section
variable {s : State}

theorem sendPack_adds (s : State) :
    Adds [packFrame s.win] (s.withWin { s.win with packQueuedAt := some s.now }) (sendPack s) :=
  adds_queueFrame _ rfl fun _ _ => rfl

/-- A change of the switch pack at the driver station (R15). -/
theorem packChanged_adds (hs : Calm s) (hd : isDriver s = true) {p : Vector SwitchEntry 4} (hp : s.win.pack ≠ p) :
    Adds [.switchPack p[0] p[1] p[2] p[3]]
      { s with win := { s.win with pack := p, packQueuedAt := some s.now }, power := { s.power with localAt := s.now } }
      (packChanged p s) := by
  unfold packChanged
  rw [if_pos (by simp [hd, hp]), localCause_run hs.2.1]
  exact sendPack_adds ((localInput s).withWin { (localInput s).win with pack := p })

/-- A request that finds no motion running is granted (R8, R16). -/
theorem remoteRequest_starts {r : Request} (hp : Passes r s) (hm : r.mode = .manual ∨ r.mode = .auto)
    (hr : s.win.req = none) (hd : s.win.drop = none) (ho : takesOverride r s = false) (hc : s.power.supply ≠ .crank)
    (hold : holds r (motionStarts r s) = true) : dropLostHold (request r s).2 = motionStarts r s := by
  rw [request_passed hp, arbiter_idle hr (satisfied_held rfl hm _), grantIdle_starts hd ho hc]
  refine dropLostHold_kept ?_
  rw [show (motionStarts r s).win.req = some r from congrArg Window.req (motorRuns_win _ _ _)]
  rintro _ ⟨⟩
  exact hold

theorem remoteRequest_overrides {r : Request} (hp : Passes r s) (hm : r.mode = .manual ∨ r.mode = .auto)
    (hr : s.win.req = none) (hd : s.win.drop = none) (ho : takesOverride r s = true) (hc : s.power.supply ≠ .crank)
    (hold : holds r (motorStarts r.dir (overrides r s)) = true) :
    dropLostHold (request r s).2 = motorStarts r.dir (overrides r s) := by
  rw [request_passed hp, arbiter_idle hr (satisfied_held rfl hm _), grantIdle_overrides hd ho hc]
  refine dropLostHold_kept ?_
  rw [show (motorStarts r.dir (overrides r s)).win.req = some r from congrArg Window.req (motorRuns_win _ _ _)]
  rintro _ ⟨⟩
  exact hold

theorem remoteRequest_refused {r : Request} {o : WindowOutcome} (h : checkRequest r s = some o) (hr : s.win.req = none) :
    dropLostHold (request r s).2 = s := by
  simp only [request, h]
  exact dropLostHold_kept (by simp [hr])

theorem heard_motorRuns (o : Addr) (d : Direction) (m : MotionState) (s : State) :
    heard o (motorRuns d m s) = motorRuns d m (heard o s) := by
  rw [motorRuns_eq, motorRuns_eq, heard_eq, heard_eq]

theorem heard_motionStarts (o : Addr) (r : Request) (s : State) :
    heard o (motionStarts r s) = motionStarts r (heard o s) := by
  unfold motionStarts motorStarts
  rw [heard_motorRuns, heard_eq, heard_eq]
  rfl

/-- The REMOTE SWITCH request of an entry other than NONE (R16). -/
def entryRequest (x : SwitchEntry) : Request :=
  { source := .remoteSwitch, dir := if x = .upManual ∨ x = .upAuto then .up else .down
    mode := if x = .upManual ∨ x = .downManual then .manual else .auto }

theorem remoteRequest_eq {x : SwitchEntry} (h : x ≠ .rest) : remoteRequest x = some (entryRequest x) := by
  cases x <;> first | contradiction | rfl

theorem entryRequest_mode (x : SwitchEntry) : (entryRequest x).mode = .manual ∨ (entryRequest x).mode = .auto := by
  cases x <;> simp [entryRequest]

theorem holds_entry {x : SwitchEntry} (hx : x ≠ .rest) (h : s.win.packEntry = x) : holds (entryRequest x) s = true := by
  subst h
  cases hx' : s.win.packEntry <;> simp_all [holds, entryRequest, manualEntry]

/-! ### Judging an entry with no motion running -/

section
variable {x : SwitchEntry} {e : Nat}

theorem Passes.congr {r : Request} {a b : State} (h : Passes r a) (hcfg : b.cfg = a.cfg) (hpower : b.power = a.power)
    (hlatch : b.latch = a.latch) (hpinch : b.pinch = a.pinch) (hnorm : b.win.norm = a.win.norm)
    (hheat : b.win.heat = a.win.heat) : Passes r b where
  window := hcfg ▸ h.window
  supply := hpower ▸ h.supply
  norm := hnorm ▸ h.norm
  crash := hlatch ▸ h.crash
  heat := hheat ▸ h.heat
  latch := hlatch ▸ h.latch
  hold := hpinch ▸ h.hold

theorem judgeEntry_none (h : x = s.win.packEntry ∨ x = .rest) (hr : s.win.req = none) :
    judgeEntry x e s = entryTaken x e s := by
  by_cases hx : s.win.packEntry = x
  · exact judgeEntry_same hx
  · obtain rfl := h.resolve_left (Ne.symm hx)
    rw [judgeEntry_rest hx]
    exact dropLostHold_kept (by simp [entryTaken, hr])

theorem judgeEntry_refused {o : WindowOutcome} (hr : s.win.req = none)
    (ho : x ≠ .rest → checkRequest (entryRequest x) (entryTaken x e s) = some o) :
    judgeEntry x e s = entryTaken x e s := by
  by_cases h : x = s.win.packEntry ∨ x = .rest
  · exact judgeEntry_none h hr
  · obtain ⟨hx, hrest⟩ := not_or.1 h
    rw [judgeEntry_request (Ne.symm hx) (remoteRequest_eq hrest)]
    exact remoteRequest_refused (ho hrest) hr

theorem judgeEntry_starts (hx : x ≠ s.win.packEntry) (hrest : x ≠ .rest) (hp : Passes (entryRequest x) s)
    (hr : s.win.req = none) (hd : s.win.drop = none) (ho : takesOverride (entryRequest x) s = false)
    (hc : s.power.supply ≠ .crank) : judgeEntry x e s = motionStarts (entryRequest x) (entryTaken x e s) := by
  rw [judgeEntry_request hx.symm (remoteRequest_eq hrest)]
  refine remoteRequest_starts (hp.congr rfl rfl rfl rfl rfl rfl) (entryRequest_mode x) hr hd ho hc (holds_entry hrest ?_)
  rw [motionStarts, motorStarts, motorRuns_win]
  rfl

theorem judgeEntry_overrides (hx : x ≠ s.win.packEntry) (hrest : x ≠ .rest) (hp : Passes (entryRequest x) s)
    (hr : s.win.req = none) (hd : s.win.drop = none) (ho : takesOverride (entryRequest x) s = true)
    (hc : s.power.supply ≠ .crank) :
    judgeEntry x e s = motorStarts (entryRequest x).dir (overrides (entryRequest x) (entryTaken x e s)) := by
  rw [judgeEntry_request hx.symm (remoteRequest_eq hrest)]
  refine remoteRequest_overrides (hp.congr rfl rfl rfl rfl rfl rfl) (entryRequest_mode x) hr hd ho hc (holds_entry hrest ?_)
  rw [motorStarts, motorRuns_win]
  rfl

theorem heard_motorStarts_overrides (o : Addr) (d : Direction) (r : Request) (s : State) :
    heard o (motorStarts d (overrides r s)) = motorStarts d (overrides r (heard o s)) := by
  unfold motorStarts
  rw [heard_motorRuns, heard_eq, heard_eq]
  rfl

theorem overrides_calm {r : Request} (h : Calm s) : Calm (overrides r s) := calm_of_same h rfl

theorem motionStarts_calm {r : Request} (h : Calm s) : Calm (motionStarts r s) := motorStarts_calm (calm_of_same h rfl)

theorem motorStarts_rx (d : Direction) (s : State) : (motorStarts d s).line.rx = s.line.rx := by
  rw [motorStarts, motorRuns_eq]

end

end

/-- Settles O22: the driver station's reports, and what a side station does with its entry. -/
theorem switchPackIsReportedAndActedOn : Obligations.SwitchPackIsReportedAndActedOn := by
  refine ⟨fun s fl fr rl rr hs room ok hd => ⟨fun hp => ?_, fun hp hact q hq => ?_⟩,
    fun s f e rest a b c d hs hh hpay horig hown hside hdrop hreq hcaps hg hcrash hheat hlatch hvalid => ?_⟩
  · obtain ⟨v, hv, kept, queued⟩ := liveInput_adds (pin := fun t => t.withWin { t.win with pack := #v[fl, fr, rl, rr] }) hs.1
      (packChanged_adds hs hd hp) (calm_of_same hs (by rfl)) (Nat.le_refl 1)
    exact ⟨v, hv, kept, queued ok room _ (List.mem_singleton_self _) (by simp [Payload.kind])⟩
  · intro n
    have active : packActive s.win = true := by
      rw [packActive, hp]
      simpa [or_assoc] using hact
    have next : exec .switchPackRefresh s = .next (settle (sendPack n)) := by
      refine (whileAwake_next hs fun t => if isDriver t && packActive t.win then
        atTime (t.win.packQueuedAt.map (· + 100000)) sendPack t else t).trans ?_
      rw [hd, active, hq]
      rfl
    have adds := sendPack_adds n
    have frame : packFrame n.win = .switchPack fl fr rl rr := by
      rw [packFrame, advanceTo_win_pack, hp]
      rfl
    have calm : Calm (n.withWin { n.win with packQueuedAt := some n.now }) := calm_of_same (calm_advanceTo hs) (by rfl)
    rw [frame] at adds
    exact ⟨_, next, adds.kept calm (Nat.le_refl 1), adds.queuedAtEnd calm (Nat.le_refl 1) (by simpa [n] using ok)
      (by simpa [Roomy, n] using room) (List.mem_singleton_self _) (by simp [Payload.kind])⟩
  · intro x t taken
    have takes := takePack_received (e := e) (rest := rest) hpay horig hside hown hvalid
    change _ = judgeEntry x e (received f rest s) at takes
    have same : heard f.origin (entryTaken x e (received f rest s)) = taken := heard_entryTaken _ _ _
    have calm : Calm (entryTaken x e (received f rest s)) := calm_of_same (received_calm hs) (by rfl)
    have rx : (entryTaken x e (received f rest s)).line.rx = rest := received_rx
    have yreq : (received f rest s).win.req = none := by rw [received_win, hreq]
    have ydrop : (received f rest s).win.drop = none := by rw [received_win, hdrop]
    have good := goodSupply_ne hg
    have ysupply : (received f rest s).power.supply ≠ .crank := by rw [received_power]; exact good.1
    have passes (hn : s.win.norm = true) (hp : s.pinch.mode = .normal ∨ x = .upManual) :
        Passes (entryRequest x) (received f rest s) :=
      Passes.congr (a := s)
        { window := hcaps, supply := good.2, norm := .inl hn, crash := hcrash, heat := .inl hheat, latch := hlatch
          hold := hp.imp id fun h => .inr (by simp [entryRequest, h]) }
        received_cfg received_power received_latch received_pinch (by rw [received_win]) (by rw [received_win])
    have still (h : judgeEntry x e (received f rest s) = entryTaken x e (received f rest s)) :
        ∃ v, exec .switchPack s = .next v ∧ Kept taken v :=
      same ▸ switchPack_kept hs hh hpay (takes.trans h) rx calm
    refine ⟨fun hx => still ?_, fun hn => still ?_, fun hx hn hp => ⟨fun hman hu => ?_, fun hauto => still ?_⟩,
      fun hx hrest hn hp => ?_⟩
    · exact judgeEntry_none (by rwa [received_win]) yreq
    · refine judgeEntry_refused (o := .unnormalised) yreq fun _ => checkRequest_unnormalised ?_ ?_ ?_ (by simp [entryRequest])
      · exact (congrArg (fun c : Settings => c.caps.window) received_cfg).trans hcaps
      · show (received f rest s).power.supply ≠ .under
        rw [received_power]
        exact good.2
      · exact (congrArg Window.norm received_win).trans hn
    · intro runs
      have takesOver : takesOverride (entryRequest x) (received f rest s) = true := by
        simp [takesOverride, hp, hu, hn, entryRequest, hman]
      have run := judgeEntry_overrides (e := e) (by rwa [received_win]) (by simp [hman]) (passes hn (.inr hman)) yreq ydrop
        takesOver ysupply
      have kept := switchPack_kept hs hh hpay (takes.trans run) ((motorStarts_rx _ _).trans rx)
        (motorStarts_calm (overrides_calm calm))
      have mine : entryRequest x = { source := .remoteSwitch, dir := .up, mode := .manual } := by simp [entryRequest, hman]
      rw [heard_motorStarts_overrides, same, mine] at kept
      exact kept
    · refine judgeEntry_refused (o := .pinchHold) yreq fun _ => checkRequest_pinchHold ?_ ?_ ?_ ?_ ?_ ?_ ?_
        (by simp [entryRequest, hauto]) (by simp [entryRequest, hauto])
      · exact (congrArg (fun c : Settings => c.caps.window) received_cfg).trans hcaps
      · show (received f rest s).power.supply ≠ .under
        rw [received_power]
        exact good.2
      · exact (congrArg Window.norm received_win).trans hn
      · exact (congrArg Latch.crashEnd received_latch).trans hcrash
      · exact (congrArg Window.heat received_win).trans_lt hheat
      · exact (congrArg Latch.position received_latch).trans hlatch
      · show (received f rest s).pinch.mode ≠ .normal
        rw [received_pinch, hp]
        decide
    · intro r
      have run := judgeEntry_starts (e := e) (by rwa [received_win]) hrest (passes hn (.inl hp)) yreq ydrop
        (takesOverride_mode (by rw [received_pinch, hp])) ysupply
      have kept := switchPack_kept hs hh hpay (takes.trans run) ((motorStarts_rx _ _).trans rx) (motionStarts_calm calm)
      rwa [heard_motionStarts, same] at kept

end Sys2Proof.Proofs.Glass
end

section
/-! Drops (1.7, 3.5). -/

namespace Sys2Proof.Proofs.Glass

open Sys2Proof Sys2Proof.Machine Sys2Proof.Proofs.Steps Sys2Proof.Proofs.Invariants Sys2Proof.Proofs.KeyFrames
open Sys2Proof.Proofs.Ends Sys2Proof.Proofs.Delivery

/-! ## The answer of a drop at the release sequence (R60) -/

/-- The latch once its drop has failed (R60). -/
def dropFailed (now : Nat) (l : Latch) : Latch :=
  if l.kind = some .egress then l.pulsed now
  else if l.retryUsed then l.ended .glassBlocked
  else { l with dropOut := false, retryUsed := true, retryDelay := some (now + 300000) }

section
variable {s x y : State}

theorem enterReleasing_pulses (h : GoodSupply s) : enterReleasing s = { s with latch := s.latch.pulsed s.now } :=
  if_neg (by simp [h])

theorem takeDropAnswer_none (h : s.win.dropAnswer = none) : takeDropAnswer s = s := by simp [takeDropAnswer, h]

theorem takeDropAnswer_done (ha : s.win.dropAnswer = some .done) (hseq : s.latch.seq = .dropping)
    (hout : s.latch.dropOut = true) (hg : GoodSupply s) :
    takeDropAnswer s = { s with win := { s.win with dropAnswer := none }, latch := s.latch.pulsed s.now } := by
  unfold takeDropAnswer
  rw [ha]
  simp only
  rw [if_pos ⟨hseq, hout⟩, if_pos (.inl trivial)]
  exact enterReleasing_pulses hg

theorem takeDropAnswer_failed {a : DropAnswer} (ha : s.win.dropAnswer = some a) (hdone : a ≠ .done)
    (hseq : s.latch.seq = .dropping) (hout : s.latch.dropOut = true) (hg : GoodSupply s) :
    takeDropAnswer s = { s with win := { s.win with dropAnswer := none }, latch := dropFailed s.now s.latch } := by
  unfold takeDropAnswer dropFailed
  rw [ha]
  simp only
  rw [if_pos ⟨hseq, hout⟩]
  by_cases hk : s.latch.kind = some .egress
  · rw [if_pos (.inr hk), if_pos hk]
    exact enterReleasing_pulses hg
  · rw [if_neg (not_or.2 ⟨hdone, hk⟩), if_neg hk]
    by_cases hr : s.latch.retryUsed = true
    · rw [if_pos hr, if_pos hr]
      rfl
    · rw [if_neg hr, if_neg hr]
      rfl

/-- The end of a command takes the answer of a drop first (log 8). -/
theorem settle_answer (h : takeDropAnswer x = y) (hp : y.power = x.power) (hy : Calm y) : settle x = settle y := by
  obtain ⟨hheld, hrun, -, hanswer, -⟩ := hy
  have again : takeDropAnswer y = y := takeDropAnswer_none hanswer
  have up : (awake y && y.power.heldSince.isNone) = true := by simp [awake, hrun, hheld]
  have up' : (awake x && x.power.heldSince.isNone) = true := by simpa [awake, ← hp] using up
  unfold settle
  simp only [up, up', if_true, again, h]

/-- Parts put in after a motion's end stand as if put in before. -/
theorem motionEnds_put (r : Request) (o : Outcome) (s : State) (a : Option DropAnswer) (l : Latch) :
    { motionEnds r o s with win := { (motionEnds r o s).win with dropAnswer := a }, latch := l }
      = { motionEnds r o { s with win := { s.win with dropAnswer := a } } with latch := l } := by
  by_cases h : (s.win.recMoving && (coastLeft s).isNone) = true
  · have before : motionEnds r o s = queueRecord .windowState (rested r o s) := if_pos h
    have after : motionEnds r o { s with win := { s.win with dropAnswer := a } }
        = queueRecord .windowState (rested r o { s with win := { s.win with dropAnswer := a } }) := if_pos h
    rw [before, after, queueRecord_eq, queueRecord_eq]
    rfl
  · have before : motionEnds r o s = rested r o s := if_neg h
    have after : motionEnds r o { s with win := { s.win with dropAnswer := a } }
        = rested r o { s with win := { s.win with dropAnswer := a } } := if_neg h
    rw [before, after]
    rfl

end

/-! ## The end of a DROP motion (R19) -/

section
variable {s n w : State} {r : Request} {j : DropJob} {o : Outcome} {a : DropAnswer} {c : Instr}

/-- The drop is answered `a`. -/
def answered (a : DropAnswer) (s : State) : State := { s with win := { s.win with drop := none, dropAnswer := some a } }

/-- A DROP motion that ends at its job's answer is ended there, with the drop withdrawn (R19). -/
theorem finishMotion_drop (hr : s.win.req = some r) (hs : r.source = .drop) (hd : s.win.drop = some j)
    (hw : j.waiting = false) : endMotion o s = motionEnds r o (answered (if o = .opened then .done else .blocked) s) := by
  have report : reportMotion r o s = s := by simp [reportMotion, hs]
  have answer : answerDrop r o s.win = (answered (if o = .opened then .done else .blocked) s).win := by
    simp [answerDrop, hd, hs, hw, answered]
  have close : closeMotion r o s = closed r o (answered (if o = .opened then .done else .blocked) s) := by
    unfold closeMotion
    simp only [report, answer]
    rfl
  have ended : finishMotion o s = finishMotion o (answered (if o = .opened then .done else .blocked) s) := by
    unfold finishMotion
    have close' : closeMotion r o (answered (if o = .opened then .done else .blocked) s)
        = closed r o (answered (if o = .opened then .done else .blocked) s) := by
      rw [closeMotion_eq o rfl]
      simp [reportMotion, hs]
    have hr' : (answered (if o = .opened then .done else .blocked) s).win.req = some r := hr
    simp only [hr, hr', close, close']
  unfold endMotion
  rw [ended]
  exact endMotion_quiet (s := answered (if o = .opened then .done else .blocked) s) o hr rfl (by simp [hs]) (by simp [hs])

/-- The state a DROP motion's end leaves once its answer is taken, with the latch `l` (R60). -/
def dropEnds (r : Request) (o : Outcome) (l : Latch) (s : State) : State :=
  { motionEnds r o { s with win := { s.win with drop := none } } with latch := l }

theorem dropEnds_calm {l : Latch} (h : Calm s) : Calm (dropEnds r o l s) := by
  have ended : Calm (motionEnds r o { s with win := { s.win with drop := none } }) := motionEnds_calm (calm_of_same h (by rfl))
  exact calm_of_same ended rfl

theorem motionEnds_answered (hn : s.win.dropAnswer = none) (l : Latch) :
    { motionEnds r o (answered a s) with win := { (motionEnds r o (answered a s)).win with dropAnswer := none }, latch := l }
      = dropEnds r o l s := by
  rw [motionEnds_put]
  unfold dropEnds
  rw [← hn]
  rfl

theorem motionEnds_latch (r : Request) (o : Outcome) (s : State) : (motionEnds r o s).latch = s.latch := by
  rw [motionEnds_eq]
  split
  · exact queueRecord_latch _ _
  · rfl

theorem motionEnds_now (r : Request) (o : Outcome) (s : State) : (motionEnds r o s).now = s.now := by
  rw [motionEnds_eq]
  split
  · exact queueRecord_now _ _
  · rfl

theorem motionEnds_power (r : Request) (o : Outcome) (s : State) : (motionEnds r o s).power = s.power := by
  rw [motionEnds_eq]
  split
  · exact queueRecord_power _ _
  · rfl

theorem motionEnds_dropAnswer (r : Request) (o : Outcome) (s : State) :
    (motionEnds r o s).win.dropAnswer = s.win.dropAnswer := by
  rw [motionEnds_win]
  rfl

/-- A command that ends the DROP motion of a sequence in DROPPING, with the answer `a` (R60). -/
theorem dropEnds_kept (hn : Calm n) (hseq : n.latch.seq = .dropping) (hout : n.latch.dropOut = true) (hg : GoodSupply n)
    (h : exec c s = .next (settle (motionEnds r o (answered a n)))) :
    ∃ v, exec c s = .next v
      ∧ Kept (dropEnds r o (if a = .done then n.latch.pulsed n.now else dropFailed n.now n.latch) n) v := by
  have latch : (motionEnds r o (answered a n)).latch = n.latch := motionEnds_latch _ _ _
  have now : (motionEnds r o (answered a n)).now = n.now := motionEnds_now _ _ _
  have power : (motionEnds r o (answered a n)).power = n.power := motionEnds_power _ _ _
  have answer : (motionEnds r o (answered a n)).win.dropAnswer = some a := motionEnds_dropAnswer _ _ _
  have taken : takeDropAnswer (motionEnds r o (answered a n))
      = dropEnds r o (if a = .done then n.latch.pulsed n.now else dropFailed n.now n.latch) n := by
    by_cases ha : a = .done
    · subst ha
      refine (takeDropAnswer_done answer (by rw [latch, hseq]) (by rw [latch, hout]) (by rw [GoodSupply, power]; exact hg)).trans
        ((motionEnds_answered hn.2.2.2.1 _).trans ?_)
      rw [latch, now, if_pos rfl]
    · refine (takeDropAnswer_failed answer ha (by rw [latch, hseq]) (by rw [latch, hout])
        (by rw [GoodSupply, power]; exact hg)).trans ((motionEnds_answered hn.2.2.2.1 _).trans ?_)
      rw [latch, now, if_neg ha]
  refine kept_of (h.trans ?_) (dropEnds_calm hn)
  rw [settle_answer taken (by rw [power, dropEnds, motionEnds_power]) (dropEnds_calm hn)]

end

/-! ## What ends a drop -/

section
variable {s n : State} {r : Request} {j : DropJob}

theorem stalled_drop (hd : s.win.motor = .driven .down) (hr : s.win.req = some r) (hs : r.source = .drop)
    (h : (r.mode = .manual ∧ s.win.motion ≠ .reversing)
      ∨ (s.win.p < (s.cfg.travel : Int) - 24
        ∧ (s.win.motion = .moving ∨ (s.win.motion = .starting ∧ 2 ≤ s.win.startStalls)))) :
    stalled s = endMotion .blocked s := by
  unfold stalled
  simp only [hd, hr]
  by_cases hm : r.mode = .manual ∧ s.win.motion ≠ .reversing
  · rw [if_neg hm.2, if_pos ⟨hs, hm.1⟩]
  · obtain ⟨hp, hm'⟩ := h.resolve_left hm
    have near : ¬ (s.cfg.travel : Int) - 24 ≤ s.win.p := by omega
    have not_reversing : s.win.motion ≠ .reversing := by rcases hm' with h | ⟨h, -⟩ <;> simp [h]
    have not_manual : ¬ (r.source = .drop ∧ r.mode = .manual) := fun h => hm ⟨h.2, not_reversing⟩
    rw [if_neg not_reversing, if_neg not_manual, if_neg (by simp [near])]
    rcases hm' with h | ⟨h, hstalls⟩
    · rw [if_neg (by simp [h])]
    · rw [if_pos h, startStall_third hstalls]

theorem dropTimeout_drop (hr : s.win.req = some r) (hs : r.source = .drop) :
    dropTimeout s = endMotion .stopped (answered .timeout s) := by
  unfold dropTimeout
  rw [hr]
  exact if_pos hs

/-- Drop owed is set by the first pulse that a DROP motion counts (R20). -/
def owed (j : DropJob) (s : State) : State :=
  if s.win.dropOwed.isSome then s else queueRecord .windowState { s with win := { s.win with dropOwed := some j.grantP } }

theorem oweDrop_drop (hr : s.win.req = some r) (hs : r.source = .drop) (hd : s.win.drop = some j) :
    oweDrop s = owed j s := by
  unfold oweDrop owed
  rcases ho : s.win.dropOwed with _ | q
  · simp only [hr, hd, hs, if_true, Option.isSome_none, Bool.false_eq_true, if_false]
    rfl
  · simp [hr, hd]

theorem owed_eq (j : DropJob) (s : State) : owed j s = { s with
    win := { s.win with dropOwed := some (s.win.dropOwed.getD j.grantP) }
    store := { s.store with queue :=
      if s.win.dropOwed.isSome then s.store.queue else withRecordId .windowState s.store.queue } } := by
  unfold owed
  rcases ho : s.win.dropOwed with _ | q
  · rw [if_neg (by simp), queueRecord_eq]
    rfl
  · rw [if_pos (by simp), if_pos (by simp), Option.getD_some, ← ho]

end

section
variable {s : State} {r : Request} {j : DropJob} {u t : Nat} {q : Int}

theorem sampled_pulse (u : Nat) (q : Int) {x : State} (t : Nat) (hd : x.win.motor = .driven .down) :
    sampled u (weighedPulse u t (counted q x)) = pulseCounts u q x := by
  have hun : weighed (counted q x) = false := by
    have := (weighed_counted (q := q) (s := x)).not
    simpa [hd] using this
  have state := weighedPulse_unweighed (u := u) (t := t) hun
  rwa [hd, if_neg (by simp)] at state

theorem pulseCounts_owed (u : Nat) (q : Int) (j : DropJob) (s : State) :
    pulseCounts u q (owed j s) = owed j (pulseCounts u q s) := by
  rw [owed_eq, owed_eq]
  rfl

/-- A pulse that a DROP motion counts (R1, R20). -/
theorem dropPulse (hd : s.win.motor = .driven .down) (hr : s.win.req = some r) (hs : r.source = .drop) (hj : s.win.drop = some j) (hcount : s.pinch.count ≤ 2) (hlow : -32 ≤ s.win.p + 1)
    (hhigh : s.win.p + 1 ≤ (s.cfg.travel : Int) + 32) (u t : Nat) :
    drivenPulse .down u t s = afterPulse (weighedPulse u t (counted (s.win.p + 1) (owed j s))) := by
  have owes : owedPulse s = owed j (s.withWin { s.win with pulses := s.win.pulses + 1, lastPulseAt := s.now }) :=
    oweDrop_drop (s := s.withWin { s.win with pulses := s.win.pulses + 1, lastPulseAt := s.now }) hr hs hj
  have count : countPulse .down (owedPulse s) = counted (s.win.p + 1) (owed j s) := by
    rw [owes, owed_eq, owed_eq]
    exact countPulse_inside hlow hhigh
  have motor : (owed j s).win.motor = .driven .down := by rw [owed_eq]; exact hd
  have hun : weighed (counted (s.win.p + 1) (owed j s)) = false := by
    have := (weighed_counted (q := s.win.p + 1) (s := owed j s)).not
    simpa [motor] using this
  have few : (weighedPulse u t (counted (s.win.p + 1) (owed j s))).pinch.count ≠ 3 := by
    rw [unweighed_count hun, owed_eq]
    show s.pinch.count ≠ 3
    omega
  rw [drivenPulse_eq, count, if_pos ⟨motor, by rw [owes, owed_eq, owed_eq]; rfl⟩, if_neg few]

end

theorem owed_at {s : State} {o : Option Int} (h : s.win.dropOwed = o) (j : DropJob) : owed j s =
    if o.isSome then s else queueRecord .windowState { s with win := { s.win with dropOwed := some j.grantP } } := h ▸ rfl

theorem hallPulseOp_sampled {s x : State} {u t : Nat} {d : Direction} (hu : 4500 ≤ u)
    (hlevel : ¬ (levelState u).rank < s.power.supply.rank) (hd : s.win.motor = .driven d)
    (h : drivenPulse d u t (advanceTo (s.win.lastPulseAt + t) s) = x) (hpower : x.power = s.power) :
    hallPulseOp u t s = sampled u x := by
  rw [hallPulseOp_driven hu hd, h, pulseSample_measures]
  · rfl
  · show ¬ (levelState u).rank < x.power.supply.rank
    rwa [hpower]

/-- Settles O23: the limit, the stall, the timed end and the pulses of a DROP motion. -/
theorem dropIsRunEndedAndAnswered : Obligations.DropIsRunEndedAndAnswered := by
  intro s r j u t hs hr hsource hj hw _ hseq hout _ hg dropped failed
  have moment (e : Nat) : (advanceTo e s).latch = s.latch ∧ GoodSupply (advanceTo e s) ∧ (advanceTo e s).win.req = some r
      ∧ (advanceTo e s).win.drop = some j := by
    refine ⟨advanceTo_latch e s, ?_, (advanceTo_win_req e s).trans hr, (advanceTo_win_drop e s).trans hj⟩
    rw [GoodSupply, advanceTo_power]
    exact hg
  have ends (e : Nat) (o : Outcome) (a : DropAnswer) (c : Instr)
      (h : exec c s = .next (settle (endMotion o (answered a (advanceTo e s))))) :
      ∃ v, exec c s = .next v ∧ Kept { dropped o (advanceTo e s) with
        latch := if a = .done then s.latch.pulsed (advanceTo e s).now else failed (advanceTo e s) } v := by
    obtain ⟨latch, good, req, drop⟩ := moment e
    have quiet := endMotion_quiet (s := answered a (advanceTo e s)) o req rfl (by simp [hsource]) (by simp [hsource])
    have kept := dropEnds_kept (r := r) (o := o) (a := a) (calm_advanceTo (t := e) hs) (by rw [latch, hseq]) (by rw [latch, hout])
      good (h.trans (by rw [quiet]))
    rw [latch] at kept
    exact kept
  refine ⟨?_, fun hd h => ?_, fun ht f hf => ?_, fun hd hdir hu hlevel hcount hlow hhigh => ?_⟩
  · intro n
    refine ends j.limitAt .stopped .timeout .dropLimitExpiry ?_
    have next : exec .dropLimitExpiry s = .next (settle (dropTimeout n)) :=
      timer_next (e := j.limitAt) hs (fun t => t.win.drop.map fun j : DropJob => j.limitAt) dropTimeout (by rw [hj]; rfl)
    rw [next, dropTimeout_drop (moment _).2.2.1 hsource]
  · intro n
    obtain ⟨latch, good, req, drop⟩ := moment (stallFrom s.win + s.cfg.stallMs * 1000)
    have stall : stalled n = endMotion .blocked n := stalled_drop ((advanceTo_win_motor _ s).trans hd) req hsource
      (by simpa [n] using h)
    have kept := dropEnds_kept (r := r) (o := .blocked) (a := .blocked) (c := .stall) (n := n) (calm_advanceTo hs)
      (by rw [latch, hseq]) (by rw [latch, hout]) good ((exec_stall hs hd).trans (by
        rw [show stallAt s = n from rfl, stall, finishMotion_drop req hsource drop hw]
        rfl))
    rw [latch] at kept
    exact kept
  · intro n
    refine ends (f + j.timedLeft) .stopped .done .timedDropEnd ?_
    exact timer_next hs (fun t => t.win.drop.bind timedEnd) timedDone (by rw [hj]; simp [timedEnd, ht, Option.mem_def.1 hf])
  · intro n moved counted_
    obtain ⟨latch, good, req, drop⟩ := moment (s.win.lastPulseAt + t)
    have nd : n.win.motor = .driven .down := (advanceTo_win_motor _ s).trans hd
    have pulse := dropPulse (s := n) nd req hsource drop (by simpa [n] using hcount) (by simpa [n] using hlow)
      (by simpa [n] using hhigh) u t
    rw [advanceTo_win_p] at pulse
    have od : (owed j n).win.motor = .driven .down := by rw [owed_eq]; exact nd
    have state := sampled_pulse u (s.win.p + 1) t od
    have of := weighedPulse_of u t (counted (s.win.p + 1) (owed j n))
    have owedStill : (owed j n).power = s.power ∧ (owed j n).latch = s.latch ∧ (owed j n).win.req = some r
        ∧ (owed j n).win.drop = some j ∧ Calm (owed j n) ∧ (owed j n).win.dropAnswer = none := by
      rw [owed_eq]
      exact ⟨advanceTo_power _ s, latch, req, drop, calm_of_same (s := n) (calm_advanceTo hs) (by rfl),
        (advanceTo_win_dropAnswer _ s).trans hs.2.2.2.1⟩
    obtain ⟨opower, olatch, oreq, odrop, ocalm, -⟩ := owedStill
    have bare : pulseCounts u (s.win.p + 1) (owed j n) = counted_ := by
      rw [pulseCounts_owed]
      exact owed_at (s := pulseCounts u (s.win.p + 1) n) (advanceTo_win_dropOwed _ s) j
    rw [bare] at state
    generalize weighedPulse u t (counted (s.win.p + 1) (owed j n)) = w at pulse state of
    have wp : w.win.p = s.win.p + 1 := of.p
    have wreq : w.win.req = some r := of.req.trans oreq
    have wmotor : w.win.motor = .driven .down := of.motor.trans od
    have wpower : w.power = s.power := of.power.trans opower
    have wcalm : Calm w := of.calm (calm_of_same ocalm (by rfl))
    have level : ¬ (levelState u).rank < s.power.supply.rank := Nat.not_lt.2 hlevel
    have exec_ : exec (.hallPulse u t) s = .next (settle (hallPulseOp u t s)) := if_neg (by simp [hs.1])
    refine ⟨fun x hx hle => ?_, fun hx => ?_⟩
    · have target : satisfied r w.win.p = true := by
        rw [wp]
        exact (satisfied_to hx _).2 (by simpa [hdir] using hle)
      have ended : afterPulse w = motionEnds r .opened (answered .done w) := by
        rw [afterPulse_target wreq wmotor target, hdir]
        exact finishMotion_drop wreq hsource (of.drop.trans odrop) hw
      have effect : hallPulseOp u t s = motionEnds r .opened (answered .done counted_) := by
        rw [hallPulseOp_sampled hu level hd (pulse.trans ended) ((motionEnds_power _ _ _).trans wpower),
          sampled_motionEnds, ← state]
        rfl
      have clatch : counted_.latch = s.latch := by
        rw [← state]
        exact of.latch.trans olatch
      have cnow : counted_.now = n.now := by
        rw [← state]
        refine of.now.trans ?_
        show (owed j n).now = _
        rw [owed_eq]
      have kept := dropEnds_kept (r := r) (o := .opened) (a := .done) (c := .hallPulse u t) (n := counted_)
        (by rw [← state]; exact calm_of_same wcalm (by rfl)) (by rw [clatch, hseq]) (by rw [clatch, hout])
        (by rw [← state]; show w.power.supply.poor = false; rw [wpower]; exact hg) (exec_.trans (by rw [effect]))
      rw [clatch, cnow] at kept
      exact kept
    · have missed : satisfied r w.win.p = false := by
        rw [wp]
        exact satisfied_eq_false.2 fun x h => by simpa [hdir] using hx x h
      have runs := afterPulse_runs wreq wmotor missed (by simp [framelessStops])
      have effect := hallPulseOp_sampled hu level hd (pulse.trans runs) wpower
      rw [state] at effect
      exact kept_of (exec_.trans (by rw [effect])) (by rw [← state]; exact calm_of_same wcalm (by rfl))

end Sys2Proof.Proofs.Glass
end

section
/-! Release requests and the release sequence (3.3 to 3.5). -/

namespace Sys2Proof.Proofs.Release

open Sys2Proof Sys2Proof.Machine Sys2Proof.Proofs.Steps Sys2Proof.Proofs.Invariants Sys2Proof.Proofs.KeyFrames
open Sys2Proof.Proofs.Ends Sys2Proof.Proofs.Glass Sys2Proof.Proofs.Delivery

section
variable {s : State} {k : ReleaseKind}

/-! ## A drop asked for (R19, R60) -/

/-- No drop is needed: no window, or the glass NORMALISED at or beyond the drop position (R19). -/
abbrev NoDropNeeded (s : State) : Prop :=
  s.cfg.caps.window = false ∨ (s.win.norm = true ∧ (s.cfg.dropDist : Int) ≤ s.win.p)

/-- The latch in DROPPING with its drop asked for (R60). -/
def askedDrop (l : Latch) : Latch := { l with seq := .dropping, dropOut := true, retryDelay := none }

/-- The state in which a drop is weighed. -/
def asksDrop (s : State) : State := { s with latch := askedDrop s.latch, win := { s.win with dropAnswer := none } }

theorem startDrop_eq (s : State) : startDrop s = takeDropAnswer (weighDrop (s.now + 800000) (asksDrop s)) := rfl

/-- The parts of a state with its drop answered as none is outstanding any more. -/
theorem withWin_answered (ha : s.win.dropAnswer = none) (l : Latch) :
    { s with win := { s.win with drop := none, dropAnswer := none }, latch := l }
      = { s with win := { s.win with drop := none }, latch := l } := by
  rw [← ha]

theorem weighDrop_done {t : Nat} (h : NoDropNeeded s) :
    weighDrop t s = s.withWin { s.win with drop := none, dropAnswer := some .done } := by
  refine if_pos ?_
  rcases h with h | ⟨hn, hp⟩
  · simp [h]
  · simp [hn, hp]

theorem weighDrop_blocked {t : Nat} (h : ¬ NoDropNeeded s) (hh : 80000 ≤ s.win.heat) :
    weighDrop t s = s.withWin { s.win with drop := none, dropAnswer := some .blocked } := by
  have needed : ¬ (!s.cfg.caps.window || (s.win.norm && decide ((s.cfg.dropDist : Int) ≤ s.win.p))) = true := by
    simpa [NoDropNeeded] using h
  unfold weighDrop
  rw [if_neg needed, if_pos (.inl hh)]

/-- A drop that needs no motion is DONE at once, and the next pulse begins (R19, R60). -/
theorem startDrop_done (h : NoDropNeeded s) (hg : GoodSupply s) (hd : s.win.drop = none) (ha : s.win.dropAnswer = none) :
    startDrop s = { s with latch := s.latch.pulsed s.now } := by
  have weighed := weighDrop_done (s := asksDrop s) (t := s.now + 800000) h
  rw [startDrop_eq, weighed, takeDropAnswer_done (by rfl) (by rfl) (by rfl) (by exact hg)]
  show { s with win := { s.win with drop := none, dropAnswer := none }, latch := s.latch.pulsed s.now } = _
  rw [withWin_answered ha, ← hd]

/-- At the hard thermal limit a drop is BLOCKED at once (R19). -/
theorem startDrop_blocked (h : ¬ NoDropNeeded s) (hh : 80000 ≤ s.win.heat) (hg : GoodSupply s)
    (ha : s.win.dropAnswer = none) : startDrop s
      = { s with win := { s.win with drop := none }, latch := dropFailed s.now (askedDrop s.latch) } := by
  have weighed := weighDrop_blocked (s := asksDrop s) (t := s.now + 800000) h hh
  rw [startDrop_eq, weighed, takeDropAnswer_failed (a := .blocked) (by rfl) (by decide) (by rfl) (by rfl) (by exact hg)]
  exact withWin_answered ha _

/-! ## A drop that runs (R19) -/

/-- The DROP motion's job from its grant (R19). -/
def grantedJob (s : State) : DropJob :=
  { limitAt := s.now + 800000, grantP := s.win.p, waiting := false, timed := !s.win.norm, timedLeft := 150000
    timedFrom := if s.win.norm then none else some s.now }

theorem drive_drop (d : Direction) (m : MotionState) (s : State) : drive d m s = motorRuns d m (s.withWin { s.win with
    drop := s.win.drop.map fun j => if j.timed && !j.waiting then { j with timedFrom := some s.now } else j }) := by
  unfold drive markMoving motorRuns
  simp only [withWin_win]
  by_cases hrec : s.win.recMoving = true
  · simp only [hrec, if_true, State.withWin]
  · simp only [hrec, if_false, State.withWin, Bool.false_eq_true]

theorem dropRequest_eq (s : State) : dropRequest s =
    { source := .drop, dir := .down, mode := if s.win.norm then .toPosition s.cfg.dropDist else .manual } := rfl

theorem arbiter_drop (hr : s.win.req = none) (h : ¬ NoDropNeeded s) (hc : s.power.supply ≠ .crank) (j : DropJob)
    (hj : (if j.timed && !j.waiting then { j with timedFrom := some s.now } else j) = grantedJob s) :
    (arbiter (dropRequest s) (s.withWin { s.win with drop := some j })).2
      = motionStarts (dropRequest s) (s.withWin { s.win with drop := some (grantedJob s) }) := by
  have missed : satisfied (dropRequest s) s.win.p = false := by
    by_cases hn : s.win.norm = true
    · have above : ¬ (s.cfg.dropDist : Int) ≤ s.win.p := fun hp => h (.inr ⟨hn, hp⟩)
      simp [satisfied, dropRequest_eq, hn, above]
    · simp [satisfied, dropRequest_eq, hn]
  have grants := arbiter_idle (r := dropRequest s) (s := s.withWin { s.win with drop := some j }) hr missed
  have plain : takesOverride (dropRequest s) (s.withWin { s.win with drop := some j, startStalls := 0 }) = false :=
    takesOverride_source (by simp [dropRequest]) (by simp [dropRequest])
  have start : motionStart (dropRequest s) (s.withWin { s.win with drop := some j, startStalls := 0 })
      = requestRuns (dropRequest s) (s.withWin { s.win with drop := some j, startStalls := 0 }) := motionStart_eq plain
  rw [grants]
  show grantIdle (dropRequest s) (s.withWin { s.win with drop := some j }) = _
  unfold grantIdle
  show (if s.power.supply = .crank then _ else motorStart .down (motionStart (dropRequest s)
    (s.withWin { s.win with drop := some j, startStalls := 0 }))) = _
  rw [if_neg hc, start]
  unfold motorStart
  rw [drive_drop]
  simp only [requestRuns, Option.map_some, State.withWin, hj]
  rfl

end

section
variable {s t x : State} {k : ReleaseKind} {c : Instr}

/-! ## A release request (R57, R60) -/

/-- The latch of a release request that has just been taken (R57). -/
def takenRequest (k : ReleaseKind) (l : Latch) : Latch := { l with kind := some k, attempts := 0, retryUsed := false }

theorem releaseRequest_eq (hseq : s.latch.seq = .idle) (hl : s.latch.position = .closed) : releaseRequest k s
    = if crashHold s then enterReleasing { s with latch := takenRequest k s.latch }
      else startDrop { s with latch := takenRequest k s.latch } := if_pos ⟨hseq, hl⟩

/-- Without a drop the first pulse begins at once (R59, R60, R68). -/
theorem releaseRequest_pulses (hseq : s.latch.seq = .idle) (hl : s.latch.position = .closed) (hg : GoodSupply s)
    (h : NoDropNeeded s ∨ s.latch.crashEnd.isSome = true) (hd : s.win.drop = none) (ha : s.win.dropAnswer = none) :
    releaseRequest k s = { s with latch := (takenRequest k s.latch).pulsed s.now } := by
  rw [releaseRequest_eq hseq hl]
  by_cases hc : crashHold s = true
  · rw [if_pos hc]
    exact enterReleasing_pulses (s := { s with latch := takenRequest k s.latch }) hg
  · rw [if_neg hc]
    exact startDrop_done (s := { s with latch := takenRequest k s.latch }) (h.resolve_right hc) hg hd ha

/-- The sequence in DROPPING with a drop job, or before its second drop (R60). -/
def dropping (now : Nat) (k : ReleaseKind) (j : Option DropJob) (retry : Bool) (s : State) : State :=
  { s with
    latch := { s.latch with
      seq := .dropping, kind := some k, attempts := 0, retryUsed := retry, dropOut := !retry
      retryDelay := if retry then some (now + 300000) else none }
    win := { s.win with drop := j } }

/-- What a drop that is BLOCKED at once leaves (R60). -/
def dropBlocked (now : Nat) (k : ReleaseKind) (s : State) : State :=
  match k with
  | .entry => dropping now .entry none true s
  | .egress => { s with latch := (takenRequest .egress s.latch).pulsed now, win := { s.win with drop := none } }

theorem releaseRequest_blocked (hseq : s.latch.seq = .idle) (hl : s.latch.position = .closed) (hg : GoodSupply s)
    (hc : s.latch.crashEnd = none) (h : ¬ NoDropNeeded s) (hh : 80000 ≤ s.win.heat) (ha : s.win.dropAnswer = none) :
    releaseRequest k s = dropBlocked s.now k s := by
  rw [releaseRequest_eq hseq hl, if_neg (by simp [crashHold, hc]),
    startDrop_blocked (s := { s with latch := takenRequest k s.latch }) h hh hg ha]
  cases k <;> rfl

/-- A release request starts the DROP motion (R19, R60). -/
theorem releaseRequest_drops (hseq : s.latch.seq = .idle) (hl : s.latch.position = .closed) (hg : GoodSupply s)
    (hc : s.latch.crashEnd = none) (h : ¬ NoDropNeeded s) (hh : s.win.heat < 80000) (ha : s.win.dropAnswer = none)
    (hr : s.win.req = none) (hm : s.win.motor = .off) : releaseRequest k s
      = motionStarts (dropRequest s) (dropping s.now k (some (grantedJob s)) false s) := by
  have needed : ¬ (!s.cfg.caps.window || (s.win.norm && decide ((s.cfg.dropDist : Int) ≤ s.win.p))) = true := by
    simpa [NoDropNeeded] using h
  have supply := goodSupply_ne hg
  have cold : ¬ (80000 ≤ s.win.heat ∨ s.power.supply = .under) := by
    rintro (h | h)
    · omega
    · exact supply.2 h
  let x : State := { s with
    latch := askedDrop (takenRequest k s.latch), win := { s.win with dropAnswer := none } }
  let job : DropJob := { limitAt := s.now + 800000, grantP := s.win.p, waiting := false, timed := !s.win.norm
                         timedLeft := 150000, timedFrom := none }
  have weighed : weighDrop (s.now + 800000) x = (arbiter (dropRequest x) (x.withWin { x.win with drop := some job })).2 := by
    have off : (if s.win.motor = .driven .down then some s.now else none) = none := if_neg (by simp [hm])
    unfold weighDrop
    simp only [x]
    rw [if_neg needed, if_neg cold]
    simp only [hr]
    rw [off]
  have granted := arbiter_drop (s := x) hr h supply.1 job (by
    cases hn : s.win.norm <;> simp [job, grantedJob, x, hn])
  rw [releaseRequest_eq hseq hl, if_neg (by simp [crashHold, hc])]
  show takeDropAnswer (weighDrop (s.now + 800000) x) = _
  rw [weighed, granted, takeDropAnswer_none (by
    show (motionStarts _ _).win.dropAnswer = none
    rw [show (motionStarts (dropRequest x) (x.withWin { x.win with drop := some (grantedJob x) })).win = _ from motorRuns_win _ _ _]
    rfl)]
  show motionStarts (dropRequest s) { s with
    latch := askedDrop (takenRequest k s.latch), win := { s.win with dropAnswer := none, drop := some (grantedJob s) } } = _
  unfold dropping
  rw [← ha]
  rfl

end

/-! ## The lock state (R50, R51) -/

section
variable {s : State} {k : ReleaseKind} {l : LockState}

/-- The lock state set, its record queued on a change (R50). -/
def locked (l : LockState) (s : State) : State :=
  if s.latch.lock = l then s else queueRecord .latchState { s with latch := { s.latch with lock := l } }

theorem locked_eq (l : LockState) (s : State) : locked l s = { s with
    latch := { s.latch with lock := l }
    store := { s.store with queue :=
      if s.latch.lock = l then s.store.queue else withRecordId .latchState s.store.queue } } := by
  unfold locked
  by_cases h : s.latch.lock = l
  · rw [if_pos h, if_pos h, ← h]
  · rw [if_neg h, if_neg h, queueRecord_eq]

theorem locked_calm (h : Calm s) : Calm (locked l s) := by
  rw [locked_eq]
  exact calm_of_same h (by rfl)

/-- A lock change that no sequence waits under, and that no held handle follows (R50, R51, R61). -/
theorem setLock_locked (hseq : s.latch.seq ≠ .dropping) (ho : s.pins.outerHandle = false ∨ isTailgate s = true) :
    setLock l s = locked l s := by
  have quiet (t : State) (ht : t.latch.seq ≠ .dropping) : lockChangeOnSequence t = t := if_neg fun h => ht h.1
  unfold setLock locked
  by_cases h : s.latch.lock = l
  · rw [if_pos h, if_pos h]
  · rw [if_neg h, if_neg h, quiet _ (by rw [queueRecord_latch]; exact hseq)]
    refine if_neg ?_
    rintro ⟨-, hp, ht⟩
    rcases ho with ho | ho
    · simp [ho] at hp
    · exact ht ho

theorem outerPull_unlocked (h : s.latch.lock = .unlocked) : outerPull s = releaseRequest .entry s := if_pos h

theorem outerPull_locked (h : s.latch.lock ≠ .unlocked) : outerPull s = s := if_neg h

theorem innerPull_kept (h : s.latch.lock = .deadlocked ∨ s.latch.child = .engaged) : innerPull s = s := if_pos h

theorem innerPull_requests (h : s.latch.lock ≠ .deadlocked) (hc : s.latch.child ≠ .engaged) (hseq : s.latch.seq = .idle)
    (ho : s.pins.outerHandle = false) : innerPull s = releaseRequest .egress (locked .unlocked s) := by
  rw [← setLock_locked (by simp [hseq]) (.inl ho)]
  exact if_neg fun h' => h'.elim h hc

/-- A local input while the station runs (R173). -/
def handled (s : State) : State := { s with power := { s.power with localAt := s.now } }

theorem handled_calm (h : Calm s) : Calm (handled s) := calm_of_same h rfl

theorem localCause_handled {c : WakeCause} (h : s.power.state = .run) : localCause c s = handled s := localCause_run h

/-- The outer handle's switch at `b`. -/
def handle (b : Bool) (s : State) : State := { s with pins := { s.pins with outerHandle := b } }

theorem exec_outerHandlePull (b : Bool) (hs : Calm s) :
    exec (.outerHandlePull b) s = .next (settle (outerHandleOp b s)) := if_neg (by simp [hs.1])

theorem exec_innerHandlePull (hs : Calm s) : exec .innerHandlePull s = .next (settle (innerPull (handled s))) := by
  have next : exec .innerHandlePull s = .next (settle (innerPull (localCause .handle s))) := if_neg (by simp [hs.1])
  rw [next, localCause_handled hs.2.1]

theorem exec_tailgateButton (hs : Calm s) : exec .tailgateButton s = .next (settle (tailgateButtonOp s)) :=
  if_neg (by simp [hs.1])

theorem outerHandleOp_pulled (ht : isTailgate s = false) (hp : s.pins.outerHandle = false) (hr : s.power.state = .run) :
    outerHandleOp true s = outerPull (handle true (handled s)) := by
  have moved : ¬ (isTailgate s || s.pins.outerHandle == true) = true := by simp [ht, hp]
  unfold outerHandleOp
  rw [if_neg moved, if_pos rfl, localCause_handled (s := { s with pins := { s.pins with outerHandle := true } }) hr]
  rfl

theorem outerHandleOp_released (ht : isTailgate s = false) (hp : s.pins.outerHandle = true) :
    outerHandleOp false s = handle false s := by
  have moved : ¬ (isTailgate s || s.pins.outerHandle == false) = true := by simp [ht, hp]
  unfold outerHandleOp
  rw [if_neg moved, if_neg (by decide)]
  rfl

theorem tailgateButtonOp_unlocked (ht : isTailgate s = true) (hl : s.latch.lock = .unlocked) (hr : s.power.state = .run) :
    tailgateButtonOp s = releaseRequest .entry (handled s) := by
  unfold tailgateButtonOp
  rw [if_pos ht, localCause_handled hr]
  exact if_pos hl

end

theorem locked_unlocked_put (s : State) (f : Latch → Latch) :
    { locked .unlocked s with latch := f (locked .unlocked s).latch }
      = if s.latch.lock = .unlocked then { s with latch := f { s.latch with lock := .unlocked } }
        else queueRecord .latchState { s with latch := f { s.latch with lock := .unlocked } } := by
  rw [locked_eq]
  by_cases h : s.latch.lock = .unlocked
  · rw [if_pos h, if_pos h]
  · rw [if_neg h, if_neg h, queueRecord_eq]

/-- Settles O25: pulls that release at once, and pulls that are local input alone. -/
theorem pullReleasesTheLatchOrIsLocalInputAlone : Obligations.PullReleasesTheLatchOrIsLocalInputAlone := by
  refine ⟨fun s hs hseq hl hg hno hd => ?_, fun s hs => ?_⟩
  · intro released
    have none_needed (x : State) (hcfg : x.cfg = s.cfg) (hwin : x.win = s.win) (hcrash : x.latch.crashEnd = s.latch.crashEnd) :
        NoDropNeeded x ∨ x.latch.crashEnd.isSome = true := by
      rw [NoDropNeeded, hcfg, hwin, hcrash]
      exact or_assoc.2 hno
    have pulses (k : ReleaseKind) (x : State) (hx : x.latch.seq = .idle) (hxl : x.latch.position = .closed)
        (hpower : x.power.supply = s.power.supply) (hcfg : x.cfg = s.cfg) (hwin : x.win = s.win)
        (hcrash : x.latch.crashEnd = s.latch.crashEnd) :
        releaseRequest k x = { x with latch := (takenRequest k x.latch).pulsed x.now } :=
      releaseRequest_pulses hx hxl (by rw [GoodSupply, hpower]; exact hg) (none_needed x hcfg hwin hcrash) (by rw [hwin, hd])
        (by rw [hwin, hs.2.2.2.1])
    have calm (k : ReleaseKind) (p : Pins) : Calm { released k with pins := p } := calm_of_same hs (by rfl)
    refine ⟨fun hlock ht hp => kept_of ((exec_outerHandlePull true hs).trans ?_) (calm _ _),
      fun hlock ht => kept_of ((exec_tailgateButton hs).trans ?_) (calm _ s.pins),
      fun hlock hchild hp => kept_of ((exec_innerHandlePull hs).trans ?_) ?_⟩
    · rw [outerHandleOp_pulled ht hp hs.2.1, outerPull_unlocked (by exact hlock),
        pulses .entry (handle true (handled s)) hseq hl rfl rfl rfl rfl]
      simp only [released, ← hlock]
      rfl
    · rw [tailgateButtonOp_unlocked ht hlock hs.2.1, pulses .entry (handled s) hseq hl rfl rfl rfl rfl]
      simp only [released, ← hlock]
      rfl
    · have latch : (locked .unlocked (handled s)).latch = { s.latch with lock := .unlocked } := by rw [locked_eq]; rfl
      have put := locked_unlocked_put (handled s) fun l => (takenRequest .egress l).pulsed (locked .unlocked (handled s)).now
      rw [innerPull_requests (s := handled s) hlock hchild hseq hp, pulses .egress (locked .unlocked (handled s))
        (by rw [latch]; exact hseq) (by rw [latch]; exact hl) (by rw [locked_eq]; rfl) (by rw [locked_eq]; rfl)
        (by rw [locked_eq]; rfl) (by rw [latch])]
      rw [put, show (locked .unlocked (handled s)).now = s.now by rw [locked_eq]; rfl]
      rfl
    · split
      · exact calm .egress s.pins
      · exact calm_queueRecord (calm .egress s.pins)
  · intro input
    have calm (p : Pins) : Calm { input with pins := p } := calm_of_same hs (by rfl)
    refine ⟨fun hlock ht hp => kept_of ((exec_outerHandlePull true hs).trans ?_) (calm _),
      fun ht hp => kept_of ((exec_outerHandlePull false hs).trans ?_) (calm_of_same hs (by rfl)),
      fun h => kept_of ((exec_innerHandlePull hs).trans ?_) (calm s.pins)⟩
    · rw [outerHandleOp_pulled ht hp hs.2.1, outerPull_locked (by exact hlock)]
      rfl
    · rw [outerHandleOp_released ht hp]
      rfl
    · rw [innerPull_kept (by exact h)]
      rfl

end Sys2Proof.Proofs.Release
end

section
/-! The waits of the release sequence and the latch edges (3.1, 3.5). -/

namespace Sys2Proof.Proofs.Release

open Sys2Proof Sys2Proof.Machine Sys2Proof.Proofs.Steps Sys2Proof.Proofs.Invariants Sys2Proof.Proofs.KeyFrames
open Sys2Proof.Proofs.Ends Sys2Proof.Proofs.Glass Sys2Proof.Proofs.Delivery

section
variable {s n m : State} {c : Instr}

/-! ## Failed pulses and waits (R59 to R65) -/

theorem pulseFailed_waits (h : s.latch.attempts < 3) : pulseFailed s = { s with
    latch := { s.latch with seq := .retryWait, pulseEnd := none, waitEnd := some (s.now + 300000) } } := if_pos h

/-- The cause detail of LATCH HALT after the third pulse (R63). -/
def haltDetail (l : Latch) : Byte := if l.kind = some .egress then 131#8 else 3#8

/-- The sequence HALTED with its fault (R63). -/
def halted (s : State) : State :=
  setFault .latchHalt (some (haltDetail s.latch))
    { s with latch := { s.latch with seq := .halted, kind := none, pulseEnd := none, lastRelease := .halted } }

/-- What a command keeps of the census unit leaves out its debts. -/
theorem kept_census {x : Census} {v : State} (h : Kept m v) (e : m.census.fixed = x.fixed) : Kept { m with census := x } v :=
  { h with census := h.census.trans e }

theorem pulseFailed_halts (h : s.latch.attempts = 3) :
    pulseFailed s = queueFrame (.faultNotice .latchHalt (haltDetail s.latch)) (halted s) := by
  have detail : byte ((if s.latch.kind = some .egress then 128 else 0) + s.latch.attempts % 4) = haltDetail s.latch := by
    rw [h, haltDetail]
    split <;> rfl
  unfold pulseFailed
  rw [if_neg (by omega)]
  simp only [detail]
  rfl

theorem pulseFailed_adds (h : s.latch.attempts = 3) :
    Adds [.faultNotice .latchHalt (haltDetail s.latch)] (halted s) (pulseFailed s) := by
  rw [pulseFailed_halts h]
  exact adds_queueFrame _ rfl fun _ => reportless_faultNotice _ _

theorem enterReleasing_waits (h : s.power.supply.poor = true) (hseq : s.latch.seq ≠ .idle)
    (hw : s.latch.supplyWait = none) : enterReleasing s = { s with latch := { s.latch with
      dropOut := false, retryDelay := none, waitEnd := none, supplyWait := some (s.now + 2000000) } } := by
  unfold enterReleasing
  rw [if_pos h, if_neg hseq, hw]
  rfl

/-- A timer command whose effect is a state it keeps. -/
theorem timer_kept {g : State → Option Nat} {f : State → State} {e : Nat} (hs : Calm s)
    (hc : exec c s = whileAwake (fun t => atTime (g t) f t) s) (hg : g s = some e) (hf : f (advanceTo e s) = m)
    (hm : Calm m) : ∃ v, exec c s = .next v ∧ Kept m v :=
  kept_of (hc.trans ((timer_next hs g f hg).trans (by rw [hf]))) hm

/-- A timer command that queues a frame. -/
theorem timer_adds {g : State → Option Nat} {f : State → State} {e : Nat} {ps : List Payload} (hs : Calm s)
    (hc : exec c s = whileAwake (fun t => atTime (g t) f t) s) (hg : g s = some e) (h : Adds ps m (f (advanceTo e s)))
    (hm : Calm m) (hn : ps.length ≤ 1) : ∃ v, exec c s = .next v ∧ Kept m v
      ∧ (m.line.state = .ok → Roomy 4 m → ∀ p ∈ ps, p.kind ≠ 12 → Queued p v) :=
  ⟨_, hc.trans (timer_next hs g f hg), h.kept hm hn, fun ok room _ hp hk => h.queuedAtEnd hm hn ok room hp hk⟩

end

/-- Settles O27: the end of a failed pulse, and of the sequence's waits. -/
theorem failedPulseAndWaitsOfTheSequenceEnd : Obligations.FailedPulseAndWaitsOfTheSequenceEnd := by
  refine ⟨fun s hs e he => ?_, fun s hs hd => ?_⟩
  · intro n detail
    have latch : n.latch = s.latch := advanceTo_latch e s
    have calm : Calm n := calm_advanceTo hs
    refine ⟨fun h => timer_kept hs (c := .releasePulseEnd) (g := fun t => t.latch.pulseEnd) (f := pulseFailed) rfl he ?_
      (calm_of_same calm rfl), fun h room ok => ?_⟩
    · rw [pulseFailed_waits (by rwa [latch]), latch]
    · have third : n.latch.attempts = 3 := by rw [latch, h]
      have ended := timer_adds (c := .releasePulseEnd) hs (g := fun t => t.latch.pulseEnd) (f := pulseFailed) rfl he (pulseFailed_adds third)
        (calm_of_same calm rfl) (by simp)
      obtain ⟨v, hv, kept, queued⟩ := ended
      have notice := queued ((advanceTo_line_state e s).trans ok) ((roomy_congr (advanceTo_line_tx e s)).2 room) _
        (List.mem_singleton.2 rfl) (by simp [Payload.kind])
      have state := kept_census (x := { s.census with faults := s.census.faults.set 0 (some detail) }) kept (by
        simp only [halted, setFault, advanceTo_latch, advanceTo_census]
        rfl)
      rw [latch] at notice
      rw [halted, latch] at state
      exact ⟨v, hv, state, notice⟩
  · have latch (e : Nat) : (advanceTo e s).latch = s.latch := advanceTo_latch e s
    have power (e : Nat) : (advanceTo e s).power = s.power := advanceTo_power e s
    have calm (e : Nat) (l : Latch) : Calm { advanceTo e s with latch := l } := calm_of_same (calm_advanceTo (t := e) hs) rfl
    have good (e : Nat) (h : GoodSupply s) : GoodSupply (advanceTo e s) := by rwa [GoodSupply, power]
    intro pulse
    refine ⟨fun e he hg => timer_kept hs (c := .retryWaitEnd) (g := fun t => t.latch.waitEnd) (f := enterReleasing) rfl he ?_
      (calm e _), fun e he hp hseq hw => timer_kept hs (c := .retryWaitEnd) (g := fun t => t.latch.waitEnd)
      (f := enterReleasing) rfl he ?_ (calm e _), fun e he hg hno => timer_kept hs (c := .dropRetryDelayEnd)
      (g := fun t => t.latch.retryDelay) (f := startDrop) rfl he ?_ (calm e _), fun e he => timer_kept hs
      (c := .supplyWaitExpiry) (g := fun t => t.latch.supplyWait) (f := endSequence .supply) rfl he ?_ (calm e _)⟩
    · rw [enterReleasing_pulses (good e hg), latch]
    · rw [enterReleasing_waits (by rw [power, hp]) (by simp [hseq]) (by rw [latch, hw]), latch]
    · have done := startDrop_done (s := advanceTo e s) (by simpa [NoDropNeeded] using hno) (good e hg) (by simpa using hd)
        (by simpa using hs.2.2.2.1)
      rw [done, latch]
    · show { advanceTo e s with latch := (advanceTo e s).latch.ended .supply } = _
      rw [latch]

/-! ## A CLOSED edge with drop owed set (R20, R49) -/

section
variable {s : State}

/-- The state at a filtered edge, before the sequence and the glass act on it (R49, R173). -/
def edged (p : LatchPosition) (s : State) : State :=
  { s with latch := { s.latch with position := p, filterEnd := none }, power := { s.power with localAt := s.now } }

theorem edged_calm {p : LatchPosition} (h : Calm s) : Calm (edged p s) := calm_of_same h (by rfl)

theorem latchEdge_closed (hs : Calm s) (hp : s.pins.latchSwitch = .closed) :
    latchEdge s = windowLatchClosed (edged .closed s) := by
  have run : ({ s with latch := { s.latch with position := .closed, filterEnd := none } } : State).power.state = .run := hs.2.1
  unfold latchEdge
  simp only [hp]
  rw [localCause_run run]
  rfl

/-- The request of a RISE to the position before the drop (R20). -/
def riseRequest (p0 : Int) : Request := { source := .rise, dir := .up, mode := .toPosition p0 }

/-- A RISE that the checks refuse leaves drop owed set (R20). -/
theorem windowLatchClosed_refused {p0 : Int} {o : WindowOutcome} (h : s.win.dropOwed = some p0)
    (hp : s.win.p ≤ s.cfg.dropDist) (hc : checkRequest (riseRequest p0) s = some o) (ho : o.granted = false) :
    windowLatchClosed s = s := by
  have refused : request (riseRequest p0) s = (o, s) := by simp [request, hc]
  unfold windowLatchClosed
  simp only [h]
  rw [if_pos hp, show request { source := .rise, dir := .up, mode := .toPosition p0 } s = _ from refused]
  simp [ho]

end

/-- A station with drop owed set, no request, and the motor driven all the same: the thermal figure is 1 below the hard
limit now, and past it when the 10 ms of the latch filter have run. -/
def heatedByEdge : State :=
  { State.reset with
    win := { State.reset.win with p := 20, norm := true, motor := .driven .up, heat := 79999, dropOwed := some 0 }
    latch := { State.reset.latch with filterEnd := some 10000 } }

/-- Refutes O24: nothing in it says that the motor is off at the CLOSED edge. With it driven, H may pass the hard limit
between the state it speaks of and the edge; the checks then refuse the RISE, and drop owed stays set (R20, R21). -/
theorem not_latchEdgesActOnSequenceAndGlass : ¬ Obligations.LatchEdgesActOnSequenceAndGlass := by
  rintro ⟨-, -, closedEdge⟩
  have hs : Calm heatedByEdge := ⟨rfl, rfl, rfl, rfl, by rintro _ ⟨⟩⟩
  have rises := (closedEdge heatedByEdge hs rfl rfl rfl rfl rfl (by decide) rfl rfl 10000 rfl).2 0 rfl rfl
  obtain ⟨v, hv, kept⟩ := rises.1 (by decide) (by decide)
  let n := advanceTo 10000 heatedByEdge
  have effect : latchEdge n = edged .closed n := by
    rw [latchEdge_closed (calm_advanceTo hs) rfl]
    exact windowLatchClosed_refused (p0 := 0) (o := .thermal) rfl (by decide) (by decide) rfl
  obtain ⟨w, hw, unmoved⟩ := timer_kept (c := .latchEdge) hs (g := fun t => t.latch.filterEnd) (f := latchEdge) (e := 10000) rfl rfl
    effect (edged_calm (calm_advanceTo hs))
  obtain rfl : v = w := Host.Outcome.next.inj (hv.symm.trans hw)
  have cleared : v.win.dropOwed = none := by
    rw [kept.win, queueRecord_win]
    exact congrArg Window.dropOwed (motorRuns_win _ _ _)
  have owed : v.win.dropOwed = some 0 := congrArg Window.dropOwed unmoved.win
  exact absurd (cleared.symm.trans owed) (by decide)

end Sys2Proof.Proofs.Release
end

section
/-! The delivery of an intent (4.4). -/

namespace Sys2Proof.Proofs.Intents

open Sys2Proof Sys2Proof.Machine Sys2Proof.Proofs.Steps Sys2Proof.Proofs.Invariants Sys2Proof.Proofs.KeyFrames
open Sys2Proof.Proofs.Ends Sys2Proof.Proofs.Glass Sys2Proof.Proofs.Delivery Sys2Proof.Proofs.Release

section
variable {s m : State} {fr : Frame} {e : Nat} {rest : List RxItem} {i : IntentFrame} {ps : List Payload} {k : OrderKey}

/-! ## Hearing and deciding (R79, R80) -/

/-- The command by which an intent of a family is delivered. -/
def intentCommand : Family → Instr
  | .latch => .latchIntent
  | .child => .childIntent
  | .window => .windowIntent

/-- The order key of a received intent (R74). -/
abbrev keyOf (fr : Frame) (i : IntentFrame) : OrderKey := { epoch := i.epoch, origin := fr.origin }

/-- An intent's delivery whose block leaves `m` with the frames `ps` queued, with room for them. -/
theorem intent_roomy (hs : Calm s) (hh : Head fr e rest s) (hp : fr.payload = .intent i)
    (h : Adds ps m (receiveIntent fr.origin i (received fr rest s))) (hrx : m.line.rx = rest) (hm : Calm m)
    (room : Roomy 4 m → Roomy (ps.length + 2) m) :
    ∃ v, exec (intentCommand i.kind.family) s = .next v ∧ Kept (heard fr.origin m) v
      ∧ (m.line.state = .ok → Roomy (ps.length + 2) m → ∀ p ∈ ps, p.kind ≠ 12 → Queued p v) := by
  have taken : takeIntent fr e (received fr rest s) = receiveIntent fr.origin i (received fr rest s) := by simp [takeIntent, hp]
  have kind : fr.payload.kind = 1 + i.kind.family.code := by rw [hp]; rfl
  rw [← taken] at h
  rcases hf : i.kind.family with _ | _ | _ <;> rw [hf] at kind
  · exact delivery_roomy (c := .latchIntent) (is := fun p => p.kind == 1) (g := takeIntent) hs hh rfl (by rw [kind]; rfl) h hrx hm room
  · exact delivery_roomy (c := .childIntent) (is := fun p => p.kind == 2) (g := takeIntent) hs hh rfl (by rw [kind]; rfl) h hrx hm room
  · exact delivery_roomy (c := .windowIntent) (is := fun p => p.kind == 3) (g := takeIntent) hs hh rfl (by rw [kind]; rfl) h hrx hm room

/-- No auto-relock timer runs or has expired with its LOCK held (R94). -/
abbrev RelockOff (s : State) : Prop := s.intent.relock = none ∧ s.intent.relockSpent = none ∧ s.intent.held = none

theorem cancelRelock_idle (h : RelockOff s) : cancelRelock s = s := by
  have same (n : Intents) (hr : n.relock = none) (hp : n.relockSpent = none) (hh : n.held = none) :
      { n with relock := none, relockSpent := none, held := none } = n := by
    rcases n
    cases hr
    cases hp
    cases hh
    rfl
  unfold cancelRelock
  rw [h.2.2]
  exact congrArg (fun n => { s with intent := n }) (same _ h.1 h.2.1 h.2.2)

/-- The window press once an intent of this kind is seen (R92). -/
def followedPress (k : IntentKind) (p : Option Press) : Option Press :=
  if k = .windowsStop then p.map (fun q => { q with followed := true }) else p

theorem followPress_eq (k : IntentKind) (s : State) : followPress k s =
    { s with intent := { s.intent with pressWindow := followedPress k s.intent.pressWindow } } := by
  unfold followPress followedPress
  split <;> rfl

/-- An intent without a notice marks a window press as followed, and does no more where auto-relock is off. -/
theorem hearIntent_plain (o : Addr) (hn : i.notice = none) (h : i.kind.family = .latch → RelockOff s) :
    hearIntent o i s = followPress i.kind s := by
  unfold hearIntent seePress rememberPress relockSees
  simp only [hn]
  split
  · rename_i hf
    have off : RelockOff (followPress i.kind s) := by
      rw [followPress_eq]
      exact h hf
    rw [show armingUnlock (followPress i.kind s).intent = none by simp [armingUnlock, off.1, off.2.1]]
    exact cancelRelock_idle off
  · rfl

theorem receiveIntent_other (o : Addr) (h : inSet (hearIntent o i s).addr i.targets = false) (ha : s.addr = (hearIntent o i s).addr) :
    receiveIntent o i s = hearIntent o i s := by
  unfold receiveIntent
  rw [ha]
  exact if_neg (by simp [h])

/-- A target queues one INTENT ACK with its decision (R80, R82). -/
theorem receiveIntent_target {o : Addr} {h x : State} {r : AckResult} {w : Option WindowOutcome} (hh : hearIntent o i s = h)
    (ht : inSet s.addr i.targets = true) (hd : decideIntent i.kind { epoch := i.epoch, origin := o } h = (r, w, x)) :
    receiveIntent o i s = queueFrame (ackOf o i r w x) x := by
  unfold receiveIntent
  rw [hh]
  simp only [ht, hd, if_true]


theorem keyHigher_self (k : OrderKey) : keyHigher k k = false := by simp [keyHigher, epochLater]

/-- Crash hold bars a LOCK and a DEADLOCK (R80). -/
abbrev CrashBars (c : IntentKind) (s : State) : Prop := crashHold s = true ∧ (c = .lock ∨ c = .deadlock)

/-- The state in which an applied intent acts: its key is the last applied of its family (R80). -/
def keyed (f : Family) (k : OrderKey) (s : State) : State := { s with intent := setLastKey f k s.intent }

theorem keyed_calm {f : Family} (h : Calm s) : Calm (keyed f k s) := by
  cases f <;> exact calm_of_same h (by rfl)

section
variable {c : IntentKind}

theorem decide_crash (hc : CrashBars c s) : decideIntent c k s = (.crashHold, none, s) := if_pos hc

theorem decide_applied {w : Option WindowOutcome} {x : State} (hc : ¬ CrashBars c s)
    (hk : keyHigher k (lastKey c.family s.intent) = true) (ha : applyKind c (keyed c.family k s) = (w, x)) :
    decideIntent c k s = (.applied, w, x) := by
  unfold decideIntent
  rw [if_neg hc, if_pos hk]
  simp only [show applyKind c { s with intent := setLastKey c.family k s.intent } = (w, x) from ha]

theorem decide_already (hc : ¬ CrashBars c s)
    (hk : k = lastKey c.family s.intent) : decideIntent c k s = (.alreadyApplied, none, s) := by
  unfold decideIntent
  rw [if_neg hc, if_neg (by simp [← hk, keyHigher_self]), if_pos hk]

theorem decide_superseded (hc : ¬ CrashBars c s)
    (hk : k ≠ lastKey c.family s.intent) (hl : keyHigher k (lastKey c.family s.intent) = false) :
    decideIntent c k s = (.superseded, none, s) := by
  unfold decideIntent
  rw [if_neg hc, if_neg (by simp [hl]), if_neg hk]

end

/-! ## An intent without a notice, with auto-relock off -/

/-- The state in which a plain intent is decided: received, and its press followed (R79). -/
def heardPlain (fr : Frame) (rest : List RxItem) (k : IntentKind) (s : State) : State := followPress k (received fr rest s)

theorem heardPlain_eq (fr : Frame) (rest : List RxItem) (c : IntentKind) (s : State) : heardPlain fr rest c s =
    { received fr rest s with intent := { (received fr rest s).intent with
      pressWindow := followedPress c s.intent.pressWindow } } := by
  rw [heardPlain, followPress_eq, received_eq]

theorem received_relock (h : RelockOff s) : RelockOff (received fr rest s) := by
  rw [received_eq]
  exact h

theorem hearIntent_received (hn : i.notice = none) (h : i.kind.family = .latch → RelockOff s) :
    hearIntent fr.origin i (received fr rest s) = heardPlain fr rest i.kind s :=
  hearIntent_plain fr.origin hn fun hf => received_relock (h hf)

theorem heardPlain_calm {c : IntentKind} (hs : Calm s) : Calm (heardPlain fr rest c s) := by
  rw [heardPlain, followPress_eq]
  exact calm_of_same (received_calm (fr := fr) (rest := rest) hs) (by rfl)

theorem lastKey_heardPlain (c : IntentKind) (f : Family) : lastKey f (heardPlain fr rest c s).intent = lastKey f s.intent := by
  rw [heardPlain_eq, received_eq]
  cases f <;> rfl

/-- A plain intent decided at a target with the result `r`, which leaves `m`. -/
theorem decided_kept {r : AckResult} {w : Option WindowOutcome} (hs : Calm s) (hh : Head fr e rest s)
    (hp : fr.payload = .intent i) (hn : i.notice = none) (ho : i.kind.family = .latch → RelockOff s) (ht : inSet s.addr i.targets = true)
    (hd : decideIntent i.kind (keyOf fr i) (heardPlain fr rest i.kind s) = (r, w, m)) (hm : Calm m)
    (hline : m.line = { s.line with rx := rest }) :
    ∃ v, exec (intentCommand i.kind.family) s = .next v ∧ Kept (heard fr.origin m) v
      ∧ (s.line.state = .ok → Roomy 4 s → Queued (ackOf fr.origin i r w m) v) := by
  have effect := receiveIntent_target (s := received fr rest s) (hearIntent_received hn ho) (by rwa [received_addr]) hd
  have adds : Adds [ackOf fr.origin i r w m] m (receiveIntent fr.origin i (received fr rest s)) := by
    rw [effect]
    exact adds_queueFrame m rfl fun _ => reportless_intentAck _
  obtain ⟨v, hv, kept, queued⟩ := intent_roomy hs hh hp adds (by rw [hline]) hm (roomy_of_few (by simp))
  refine ⟨v, hv, kept, fun ok room => queued (by rw [hline]; exact ok) (roomy_of_few (by simp) ?_) _ (List.mem_singleton.2 rfl) (by simp [ackOf, Payload.kind])⟩
  rw [roomy_congr (a := s) (by rw [hline])]
  exact room

/-- A plain intent applied at a target (R80). -/
theorem applied_kept {w : Option WindowOutcome} (hs : Calm s) (hh : Head fr e rest s)
    (hp : fr.payload = .intent i) (hn : i.notice = none) (ho : i.kind.family = .latch → RelockOff s) (ht : inSet s.addr i.targets = true)
    (hc : ¬ CrashBars i.kind s)
    (hk : keyHigher (keyOf fr i) (lastKey i.kind.family s.intent) = true)
    (ha : applyKind i.kind (keyed i.kind.family (keyOf fr i) (heardPlain fr rest i.kind s)) = (w, m)) (hm : Calm m)
    (hline : m.line = { s.line with rx := rest }) :
    ∃ v, exec (intentCommand i.kind.family) s = .next v ∧ Kept (heard fr.origin m) v
      ∧ (s.line.state = .ok → Roomy 4 s → Queued (ackOf fr.origin i .applied w m) v) := by
  have crash : crashHold (heardPlain fr rest i.kind s) = crashHold s := by rw [crashHold, heardPlain_eq, received_eq]; rfl
  exact decided_kept hs hh hp hn ho ht (decide_applied (by rwa [CrashBars, crash]) (by rwa [lastKey_heardPlain]) ha) hm hline

end

end Sys2Proof.Proofs.Intents
end

section
/-! Plain intents: the decision, and what an applied one does (3.3, 4.4). -/

namespace Sys2Proof.Proofs.Intents

open Sys2Proof Sys2Proof.Machine Sys2Proof.Proofs.Steps Sys2Proof.Proofs.Invariants Sys2Proof.Proofs.KeyFrames
open Sys2Proof.Proofs.Ends Sys2Proof.Proofs.Glass Sys2Proof.Proofs.Delivery Sys2Proof.Proofs.Release

section
variable {s x : State} {fr : Frame} {rest : List RxItem} {k : OrderKey} {l : LockState} {c : IntentKind}

/-! ## What an applied intent does (R50, R55, R17) -/

theorem heard_keyed (o : Addr) (f : Family) (s : State) : heard o (keyed f k s) = keyed f k (heard o s) := by
  rw [heard_eq, heard_eq]
  cases f <;> rfl

theorem heard_locked (o : Addr) (s : State) : heard o (locked l s) = locked l (heard o s) := by
  rw [locked_eq, locked_eq, heard_eq, heard_eq]

theorem received_pressWindow : (received fr rest s).intent.pressWindow = s.intent.pressWindow := by rw [received_eq]

theorem heard_heardPlain (fr : Frame) (rest : List RxItem) (c : IntentKind) (s : State) :
    heard fr.origin (heardPlain fr rest c s) = if c = .windowsStop then
      { afterHearing fr rest s with intent := { (afterHearing fr rest s).intent with
        pressWindow := s.intent.pressWindow.map (fun p => { p with followed := true }) } }
    else afterHearing fr rest s := by
  unfold heardPlain followPress
  split
  · rw [received_pressWindow, afterHearing_eq, heard_eq, heard_eq]
  · rfl

theorem heardPlain_other (h : c ≠ .windowsStop) : heardPlain fr rest c s = received fr rest s := if_neg h

theorem locked_line : (locked l s).line = s.line := by rw [locked_eq]

theorem keyed_line (f : Family) : (keyed f k s).line = s.line := rfl

theorem heardPlain_line : (heardPlain fr rest c s).line = { s.line with rx := rest } := by rw [heardPlain_eq, received_line]

/-- A lock intent at a station whose sequence does not wait, with the latch CLOSED (R50). -/
theorem applyKind_locks (hc : c = .lock ∨ c = .unlock ∨ c = .deadlock) (hseq : s.latch.seq ≠ .dropping)
    (hl : s.latch.position = .closed) (ho : s.pins.outerHandle = false) : applyKind c s
      = (none, locked (if c = .lock then .locked else if c = .unlock then .unlocked else .deadlocked) s) := by
  have sets (l : LockState) : setLock l s = locked l s := setLock_locked hseq (.inl ho)
  rcases hc with rfl | rfl | rfl
  · exact congrArg (Prod.mk none) (sets .locked)
  · exact congrArg (Prod.mk none) (sets .unlocked)
  · show (none, setLock (if s.latch.position = .closed then .deadlocked else .locked) s) = _
    rw [if_pos hl, sets]
    rfl

theorem applyChild_kept (h : isRear s = false) : applyChild c s = s := if_pos (by simp [h])

theorem applyKind_child (hf : c.family = .child) : applyKind c s = (none, applyChild c s) := by simp [applyKind, hf]

theorem applyKind_window (hf : c.family = .window) :
    applyKind c s = (some (windowIntentApplied c s).1, (windowIntentApplied c s).2) := by simp [applyKind, hf]

theorem windowIntentApplied_stop (h : ∀ r ∈ s.win.req, r.source ≠ .global) :
    windowIntentApplied .windowsStop s = (.stopped, s) := by
  unfold windowIntentApplied
  rcases hr : s.win.req with _ | r
  · rfl
  · simp [h r hr]

end

/-- Settles O32: the rows of the decision on a plain intent, each with its ack. -/
theorem targetDecidesByOrderKeyAndAcks : Obligations.TargetDecidesByOrderKeyAndAcks := by
  intro s f e rest i hs hh hp hn hr hsp c h t K last higher crash ack
  have off : i.kind.family = .latch → RelockOff s := fun _ => ⟨hr, hsp, hs.2.2.1⟩
  have command : c = intentCommand i.kind.family := by
    simp only [c]
    cases i.kind.family <;> rfl
  let x := heardPlain f rest i.kind s
  have xcalm : Calm x := heardPlain_calm hs
  have xt : heard f.origin x = t := heard_heardPlain f rest i.kind s
  have xline : x.line = { s.line with rx := rest } := heardPlain_line
  have higher_eq : higher = keyHigher K last := by simp [higher, keyHigher, Bool.beq_eq_decide_eq]
  have xfields : x.latch = s.latch ∧ x.win = s.win ∧ x.cfg = s.cfg ∧ x.pins = s.pins ∧ x.addr = s.addr := by
    simp only [x]
    rw [heardPlain_eq, received_eq]
    exact ⟨rfl, rfl, rfl, rfl, rfl⟩
  obtain ⟨xlatch, xwin, xcfg, xpins, xaddr⟩ := xfields
  have xlast : lastKey i.kind.family x.intent = last := lastKey_heardPlain i.kind i.kind.family
  have epoch : x.intent.epoch = t.intent.epoch := by rw [← xt, heard_intent]
  have bars : CrashBars i.kind x ↔ crash = true := by
    simp only [CrashBars, crashHold, xlatch, crash, Bool.and_eq_true, Bool.or_eq_true, beq_iff_eq]
  have acks (r : AckResult) (w : Option WindowOutcome) (l : Option OrderKey) (u m : State) (hu : u.latch = m.latch)
      (hm : m.win = s.win ∧ m.cfg = s.cfg ∧ m.intent.epoch = x.intent.epoch)
      (hl : l = if r = .superseded then some (lastKey i.kind.family m.intent) else none) :
      ackOf f.origin i r w m = ack r w l u := by
    obtain ⟨hw, hc, he⟩ := hm
    simp only [ackOf, ack, hu, hw, hc, he, hl, epoch]
    cases hf : i.kind.family <;> simp only [ackState, hw, hc]
  rw [command]
  refine ⟨fun ht => ?_, fun ht ok room => ⟨fun hc => ?_, fun hc hk => ?_, fun hc hk hl => ?_, fun hc hk => ?_⟩⟩
  · have effect : receiveIntent f.origin i (received f rest s) = x := by
      have plain : hearIntent f.origin i (received f rest s) = x := hearIntent_received hn off
      rw [receiveIntent_other _ (by rwa [plain, xaddr]) (by rw [plain, xaddr, received_addr]), plain]
    obtain ⟨v, hv, kept, -⟩ := intent_roomy hs hh hp (.of_eq effect) (by rw [xline]) xcalm (roomy_of_few (by simp))
    exact ⟨v, hv, xt ▸ kept⟩
  · obtain ⟨v, hv, kept, queued⟩ := decided_kept hs hh hp hn off ht (decide_crash (bars.2 hc)) xcalm xline
    exact ⟨v, hv, xt ▸ kept, acks .crashHold none none t x (by rw [← xt, heard_latch]) ⟨xwin, xcfg, rfl⟩ rfl ▸ queued ok room⟩
  · have free : ¬ CrashBars i.kind x := by simp [bars, hc]
    obtain ⟨v, hv, kept, queued⟩ := decided_kept hs hh hp hn off ht (decide_already free (by rw [xlast]; exact hk)) xcalm xline
    exact ⟨v, hv, xt ▸ kept, acks .alreadyApplied none none t x (by rw [← xt, heard_latch]) ⟨xwin, xcfg, rfl⟩ rfl ▸ queued ok room⟩
  · have free : ¬ CrashBars i.kind x := by simp [bars, hc]
    have lower : keyHigher (keyOf f i) (lastKey i.kind.family x.intent) = false := by rw [xlast, ← hl, higher_eq]
    obtain ⟨v, hv, kept, queued⟩ := decided_kept hs hh hp hn off ht (decide_superseded free (by rw [xlast]; exact hk) lower) xcalm xline
    exact ⟨v, hv, xt ▸ kept, acks .superseded none (some last) t x (by rw [← xt, heard_latch]) ⟨xwin, xcfg, rfl⟩ (by
      rw [if_pos rfl, xlast]) ▸ queued ok room⟩
  · intro applied lock
    have free : ¬ CrashBars i.kind s := by
      have same : CrashBars i.kind x ↔ CrashBars i.kind s := by simp only [CrashBars, crashHold, xlatch]
      rw [← same, bars, hc]
      simp
    have above : keyHigher (keyOf f i) (lastKey i.kind.family s.intent) = true := by rw [← hk, higher_eq]
    let y := keyed i.kind.family (keyOf f i) x
    have yt : heard f.origin y = applied := by
      rw [heard_keyed, xt]
      simp only [applied, keyed, setLastKey]
      cases i.kind.family <;> rfl
    have applies {w : Option WindowOutcome} {m : State} (ha : applyKind i.kind y = (w, m)) (hm : Calm m)
        (hline : m.line = { s.line with rx := rest }) := applied_kept hs hh hp hn off ht free above ha hm hline
    have ycalm : Calm y := keyed_calm xcalm
    have yepoch : y.intent.epoch = x.intent.epoch := by
      simp only [y, keyed, setLastKey]
      cases i.kind.family <;> rfl
    refine ⟨fun hseq hpos ho hkind => ?_, fun hf hrear => ?_, fun hkind hreq => ?_⟩
    · intro l
      have locks : applyKind i.kind y = (none, locked l y) := applyKind_locks hkind (by
        show x.latch.seq ≠ _; rw [xlatch, hseq]; decide) (by show x.latch.position = _; rw [xlatch, hpos]) (by
        show x.pins.outerHandle = _; rw [xpins, ho])
      have state : heard f.origin (locked l y) = lock l := by
        have latch : applied.latch = s.latch := by rw [← yt, heard_latch, ← xlatch]; rfl
        rw [heard_locked, yt, locked, latch]
      obtain ⟨v, hv, kept, queued⟩ := applies locks (locked_calm ycalm) (by rw [locked_line]; exact xline)
      refine ⟨v, hv, state ▸ kept, acks .applied none none (lock l) (locked l y) ?_ ?_ rfl ▸ queued ok room⟩
      · rw [← state, heard_latch]
      · rw [locked_eq]
        exact ⟨xwin, xcfg, yepoch⟩
    · have stays : applyKind i.kind y = (none, y) := by
        rw [applyKind_child hf, applyChild_kept (by simpa [isRear, y, keyed, xaddr] using hrear)]
      obtain ⟨v, hv, kept, queued⟩ := applies stays ycalm xline
      exact ⟨v, hv, yt ▸ kept, acks .applied none none applied y (by rw [← yt, heard_latch]) ⟨xwin, xcfg, yepoch⟩ rfl ▸ queued ok room⟩
    · have stays : applyKind i.kind y = (some .stopped, y) := by
        rw [applyKind_window (by rw [hkind]; rfl), hkind, windowIntentApplied_stop (by
          show ∀ r ∈ x.win.req, _
          rwa [xwin])]
      obtain ⟨v, hv, kept, queued⟩ := applies stays ycalm xline
      exact ⟨v, hv, yt ▸ kept, acks .applied (some .stopped) none applied y (by rw [← yt, heard_latch]) ⟨xwin, xcfg, yepoch⟩ rfl ▸
        queued ok room⟩

end Sys2Proof.Proofs.Intents
end

section
/-! Applied intents at the glass, the child safety and the latch (3.3 to 3.5, 4.4). -/

namespace Sys2Proof.Proofs.Intents

open Sys2Proof Sys2Proof.Machine Sys2Proof.Proofs.Steps Sys2Proof.Proofs.Invariants Sys2Proof.Proofs.KeyFrames
open Sys2Proof.Proofs.Ends Sys2Proof.Proofs.Glass Sys2Proof.Proofs.Delivery Sys2Proof.Proofs.Release

section
variable {s x : State} {k : ReleaseKind}

/-! ## A release request that needs a drop (R59, R60) -/

theorem motorStarts_line (d : Direction) (s : State) : (motorStarts d s).line = s.line := by rw [motorStarts, motorRuns_eq]

theorem notNeeded_congr (hw : x.win = s.win) (hc : x.cfg = s.cfg) : NoDropNeeded x ↔ NoDropNeeded s := by
  rw [NoDropNeeded, NoDropNeeded, hw, hc]

/-- What a release request at a glass that needs a drop may bring, said of the state `x` it is taken in, whose glass,
time and settings are those of `s`. -/
theorem releaseRequest_asks {P : State → Prop} (hwin : x.win = s.win) (hcfg : x.cfg = s.cfg) (hnow : x.now = s.now)
    (hx : Calm x) (hseq : x.latch.seq = .idle) (hl : x.latch.position = .closed) (hg : GoodSupply x)
    (hc : x.latch.crashEnd = none) (hw : s.cfg.caps.window = true) (hr : s.win.req = none) (hm : s.win.motor = .off)
    (h : ∀ m, releaseRequest k x = m → Calm m → m.line = x.line → P m) :
    (s.win.norm = true → s.win.p < (s.cfg.dropDist : Int) → s.win.heat < 80000 →
        P (motionStarts { source := .drop, dir := .down, mode := .toPosition s.cfg.dropDist }
          (dropping s.now k (some (grantedJob s)) false x)))
      ∧ (s.win.norm = false → s.win.heat < 80000 →
        P (motionStarts { source := .drop, dir := .down, mode := .manual }
          (dropping s.now k (some (grantedJob s)) false x)))
      ∧ (s.win.norm = false ∨ s.win.p < (s.cfg.dropDist : Int) → 80000 ≤ s.win.heat → P (dropBlocked s.now k x)) := by
  have needed (h : s.win.norm = false ∨ s.win.p < (s.cfg.dropDist : Int)) : ¬ NoDropNeeded x := by
    rw [notNeeded_congr hwin hcfg]
    rintro (hw' | ⟨hn, hp⟩)
    · simp [hw] at hw'
    · rcases h with h | h
      · simp [h] at hn
      · omega
  have answer : x.win.dropAnswer = none := hx.2.2.2.1
  have drops (hneed : ¬ NoDropNeeded x) (hh : s.win.heat < 80000) :
      P (motionStarts (dropRequest s) (dropping s.now k (some (grantedJob s)) false x)) := by
    have starts := releaseRequest_drops (k := k) hseq hl hg hc hneed (by rwa [hwin]) answer (by rwa [hwin]) (by rwa [hwin])
    have job : grantedJob x = grantedJob s := by rw [grantedJob, grantedJob, hnow, hwin]
    have request : dropRequest x = dropRequest s := by rw [dropRequest_eq, dropRequest_eq, hwin, hcfg]
    rw [job, request, hnow] at starts
    refine h _ starts (motionStarts_calm (calm_of_same hx (by rfl))) ?_
    exact motorStarts_line _ _
  refine ⟨fun hn hp hh => ?_, fun hn hh => ?_, fun hp hh => ?_⟩
  · have starts := drops (needed (.inr hp)) hh
    rwa [dropRequest_eq, if_pos hn] at starts
  · have starts := drops (needed (.inl hn)) hh
    rwa [dropRequest_eq, if_neg (by simp [hn])] at starts
  · have blocked := releaseRequest_blocked (k := k) hseq hl hg hc (needed hp) (by rwa [hwin]) answer
    rw [hnow] at blocked
    refine h _ blocked ?_ ?_
    · cases k <;> exact calm_of_same hx (by rfl)
    · cases k <;> rfl

end

section
variable {s : State} {fr : Frame} {e : Nat} {rest : List RxItem} {i : IntentFrame} {m : State}

/-- A plain intent that a target applies, as a command of its family. -/
theorem applies_kept {c : Instr} {w : Option WindowOutcome} (hs : Calm s) (hh : Head fr e rest s)
    (hp : fr.payload = .intent i) (hn : i.notice = none) (ho : i.kind.family = .latch → RelockOff s) (ht : inSet s.addr i.targets = true)
    (hb : ¬ CrashBars i.kind s) (hk : keyHigher (keyOf fr i) (lastKey i.kind.family s.intent) = true)
    (hstop : i.kind ≠ .windowsStop) (hc : c = intentCommand i.kind.family)
    (ha : applyKind i.kind (keyed i.kind.family (keyOf fr i) (received fr rest s)) = (w, m)) (hm : Calm m)
    (hline : m.line = { s.line with rx := rest }) : ∃ v, exec c s = .next v ∧ Kept (heard fr.origin m) v := by
  rw [← heardPlain_other hstop] at ha
  obtain ⟨v, hv, kept, -⟩ := applied_kept hs hh hp hn ho ht hb hk ha hm hline
  exact ⟨v, hc ▸ hv, kept⟩

theorem keyed_received_fields (f : Family) (k : OrderKey) (fr : Frame) (rest : List RxItem) (s : State) :
    let y := keyed f k (received fr rest s)
    y.win = s.win ∧ y.cfg = s.cfg ∧ y.now = s.now ∧ y.latch = s.latch ∧ y.pins = s.pins ∧ y.power = s.power
      ∧ y.addr = s.addr ∧ y.pinch = s.pinch ∧ y.line = { s.line with rx := rest } := by
  intro y
  have fields : (received fr rest s).win = s.win ∧ (received fr rest s).cfg = s.cfg ∧ (received fr rest s).now = s.now
      ∧ (received fr rest s).latch = s.latch ∧ (received fr rest s).pins = s.pins ∧ (received fr rest s).power = s.power
      ∧ (received fr rest s).addr = s.addr ∧ (received fr rest s).pinch = s.pinch
      ∧ (received fr rest s).line = { s.line with rx := rest } := by simp
  exact fields

theorem locked_fields (l : LockState) (s : State) :
    (locked l s).win = s.win ∧ (locked l s).cfg = s.cfg ∧ (locked l s).now = s.now ∧ (locked l s).power = s.power
      ∧ (locked l s).latch = { s.latch with lock := l } := by
  rw [locked_eq]
  exact ⟨rfl, rfl, rfl, rfl, rfl⟩

theorem applyKind_unlockAndOpen (hseq : s.latch.seq ≠ .dropping) (ho : s.pins.outerHandle = false) :
    applyKind .unlockAndOpen s = (none, releaseRequest .entry (locked .unlocked s)) := by
  rw [← setLock_locked hseq (.inl ho)]
  rfl

theorem heard_dropping (o : Addr) (now : Nat) (k : ReleaseKind) (j : Option DropJob) (b : Bool) (s : State) :
    heard o (dropping now k j b s) = dropping now k j b (heard o s) := by rw [heard_eq, heard_eq]; rfl

theorem heard_dropBlocked (o : Addr) (now : Nat) (k : ReleaseKind) (s : State) :
    heard o (dropBlocked now k s) = dropBlocked now k (heard o s) := by
  cases k
  · exact heard_dropping _ _ _ _ _ _
  · rw [heard_eq, heard_eq]
    rfl

end

/-- Settles O26: the four requests that ask for a drop first. -/
theorem pullDropsTheGlassFirst : Obligations.PullDropsTheGlassFirst := by
  intro s f e rest i hs hseq hl hg hw hcrash hr hm ho job dropping_ blocked asks input unlocked
  have pulls (c : Instr) (k : ReleaseKind) (x : State) (hwin : x.win = s.win) (hcfg : x.cfg = s.cfg) (hnow : x.now = s.now)
      (hpower : x.power.supply = s.power.supply) (hlatch : x.latch = { s.latch with lock := x.latch.lock }) (hx : Calm x)
      (h : exec c s = .next (settle (releaseRequest k x))) : asks c k x := by
    have asked := releaseRequest_asks (s := s) (x := x) (k := k) (P := fun m => ∃ v, exec c s = .next v ∧ Kept m v) hwin hcfg
      hnow hx (by rw [hlatch]; exact hseq) (by rw [hlatch]; exact hl) (by rw [GoodSupply, hpower]; exact hg)
      (by rw [hlatch]; exact hcrash) hw hr hm fun m hm hcalm _ => kept_of (h.trans (by rw [hm])) hcalm
    cases k <;> exact asked
  refine ⟨fun hlock ht => ?_, fun hlock ht => ?_, fun hlock hchild => ?_, ?_⟩
  · refine pulls _ _ _ rfl rfl rfl rfl rfl (calm_of_same hs (by rfl)) ((exec_outerHandlePull true hs).trans ?_)
    rw [outerHandleOp_pulled ht ho hs.2.1, outerPull_unlocked (by exact hlock)]
    rfl
  · refine pulls _ _ _ rfl rfl rfl rfl rfl (calm_of_same hs (by rfl)) ((exec_tailgateButton hs).trans ?_)
    rw [tailgateButtonOp_unlocked ht hlock hs.2.1]
    rfl
  · obtain ⟨hwin, hcfg, hnow, hpower, hlatch⟩ := locked_fields .unlocked (handled s)
    refine pulls _ _ (locked .unlocked (handled s)) hwin hcfg hnow (by rw [hpower]; rfl) (by rw [hlatch]; rfl)
      (locked_calm (handled_calm hs)) ((exec_innerHandlePull hs).trans ?_)
    rw [innerPull_requests (s := handled s) hlock hchild hseq ho]
  · intro hh hp hkind hn hrel hsp htarget K hk t
    let y := keyed .latch K (received f rest s)
    obtain ⟨ywin, ycfg, ynow, ylatch, ypins, ypower, -, -, yline⟩ := keyed_received_fields .latch K f rest s
    obtain ⟨hwin, hcfg, hnow, hpower, hlatch⟩ := locked_fields .unlocked y
    have family : i.kind.family = .latch := by rw [hkind]; rfl
    have applied (m : State) (hm : releaseRequest .entry (locked .unlocked y) = m) :
        applyKind i.kind (keyed i.kind.family (keyOf f i) (received f rest s)) = (none, m) := by
      rw [family, hkind, ← hm, ← applyKind_unlockAndOpen (s := y) (by rw [ylatch, hseq]; decide) (by rw [ypins, ho])]
    have asked := releaseRequest_asks (s := s) (x := locked .unlocked y) (k := .entry)
      (P := fun m => ∃ v, exec .latchIntent s = .next v ∧ Kept (heard f.origin m) v) (hwin.trans ywin) (hcfg.trans ycfg)
      (hnow.trans ynow) (locked_calm (keyed_calm (received_calm hs))) (by rw [hlatch, ylatch]; exact hseq)
      (by rw [hlatch, ylatch]; exact hl) (by rw [GoodSupply, hpower, ypower]; exact hg) (by rw [hlatch, ylatch]; exact hcrash)
      hw hr hm fun m hm hcalm hline => applies_kept hs hh hp hn (fun _ => ⟨hrel, hsp, hs.2.2.1⟩) htarget (by simp [CrashBars, hkind])
        (by rw [family]; exact hk) (by simp [hkind]) (by rw [family]; rfl) (applied m hm) hcalm
        (hline.trans (locked_line.trans yline))
    have state : heard f.origin (locked .unlocked y) = unlocked { t with intent := { t.intent with keyLatch := K } } := by
      rw [heard_locked, heard_keyed]
      have lock : (heard f.origin (received f rest s)).latch.lock = s.latch.lock := by rw [heard_latch, received_latch]
      unfold locked
      show (if (heard f.origin (received f rest s)).latch.lock = _ then _ else _) = _
      rw [lock]
      rfl
    simp only [heard_motionStarts, heard_dropping, heard_dropBlocked, state] at asked
    exact asked

end Sys2Proof.Proofs.Intents
end

section
/-! Applied intents at the glass, the child safety and the latch (3.3 to 3.5, 4.4). -/

namespace Sys2Proof.Proofs.Intents

open Sys2Proof Sys2Proof.Machine Sys2Proof.Proofs.Steps Sys2Proof.Proofs.Invariants Sys2Proof.Proofs.KeyFrames
open Sys2Proof.Proofs.Ends Sys2Proof.Proofs.Glass Sys2Proof.Proofs.Delivery Sys2Proof.Proofs.Release

section
variable {s x : State} {c : IntentKind} {r : Request}

/-! ## The child safety (R55, R14, R56) -/

/-- The child safety set, with its record queued (R55). -/
def childSet (c : ChildState) (s : State) : State :=
  queueRecord .latchState { s with latch := { s.latch with child := c } }

theorem childSet_eq (c : ChildState) (s : State) : childSet c s = { s with
    latch := { s.latch with child := c }
    store := { s.store with queue := withRecordId .latchState s.store.queue } } := queueRecord_eq _ _

theorem childSet_calm {c : ChildState} (h : Calm s) : Calm (childSet c s) := calm_queueRecord (calm_of_same h (by rfl))

theorem heard_childSet (o : Addr) (c : ChildState) (s : State) : heard o (childSet c s) = childSet c (heard o s) := by
  rw [childSet_eq, childSet_eq, heard_eq, heard_eq]

theorem applyChild_on (hr : isRear s = true) (hc : s.latch.child ≠ .engaged) :
    applyChild .childOn s = windowChild (childOnSequence (childSet .engaged s)) := by
  have acts : ¬ ((!isRear s || s.latch.child == .engaged) = true) := by simp [hr, hc]
  unfold applyChild
  exact (if_neg acts).trans (if_pos rfl)

theorem applyChild_off (hr : isRear s = true) (hc : s.latch.child ≠ .released) :
    applyChild .childOff s = childSet .released s := by
  have acts : ¬ ((!isRear s || s.latch.child == .released) = true) := by simp [hr, hc]
  unfold applyChild
  exact (if_neg acts).trans (if_neg (by decide))

theorem childOnSequence_kept (h : ¬ (s.latch.kind = some .egress
    ∧ (s.latch.seq = .dropping ∨ s.latch.seq = .releasing ∨ s.latch.seq = .retryWait))) : childOnSequence s = s := if_neg h

theorem windowChild_kept (h : ∀ r ∈ s.win.req, r.source ≠ .localSwitch) : windowChild s = s := by
  unfold windowChild
  rcases hr : s.win.req with _ | r
  · rfl
  · exact if_neg (h r hr)

theorem windowChild_ends (hr : s.win.req = some r) (hs : r.source = .localSwitch) (hd : s.win.drop = none) :
    windowChild s = motionEnds r .stopped s := by
  have ends : windowChild s = endMotion .stopped s := by
    unfold windowChild
    rw [hr]
    exact if_pos hs
  rw [ends]
  exact endMotion_quiet .stopped hr hd (by simp [hs]) (by simp [hs])

/-- The GLOBAL request of a window intent (R17). -/
def globalRequest (c : IntentKind) : Request :=
  { source := .global, dir := if c = .windowsClose then .up else .down, mode := .auto }

theorem windowIntentApplied_request (hc : c = .windowsClose ∨ c = .windowsOpen) :
    windowIntentApplied c s = request (globalRequest c) s := by
  rcases hc with rfl | rfl <;> rfl

end

/-- Settles O33: what an applied intent does to the child safety, the glass and the latch. -/
theorem appliedIntentActsOnTheClosure : Obligations.AppliedIntentActsOnTheClosure := by
  intro s f e rest i hs hh hp hn hrel hsp htarget hd hk t K
  have off : i.kind.family = .latch → RelockOff s := fun _ => ⟨hrel, hsp, hs.2.2.1⟩
  have calm (fam : Family) : Calm (keyed fam K (received f rest s)) := keyed_calm (received_calm hs)
  have applies {c : Instr} {fam : Family} {w : Option WindowOutcome} {m : State} (hf : i.kind.family = fam)
      (hb : ¬ CrashBars i.kind s) (hstop : i.kind ≠ .windowsStop) (hc : c = intentCommand fam)
      (ha : applyKind i.kind (keyed fam K (received f rest s)) = (w, m)) (hm : Calm m)
      (hline : m.line = { s.line with rx := rest }) : ∃ v, exec c s = .next v ∧ Kept (heard f.origin m) v := by
    subst hf
    exact applies_kept hs hh hp hn off htarget hb hk hstop hc ha hm hline
  refine ⟨fun hkind hrear hchild hseq => ?_, fun hkind hrear hchild => ?_,
    fun hkind hr hcaps hg hnorm hcrash hheat hl hmode => ?_, fun hkind hseq hl hg ho hno => ?_⟩
  · intro on
    let y := keyed .child K (received f rest s)
    obtain ⟨ywin, -, -, ylatch, -, -, yaddr, -, yline⟩ := keyed_received_fields .child K f rest s
    have fam : i.kind.family = .child := by rw [hkind]; rfl
    have state : heard f.origin (childSet .engaged y) = on := by
      rw [heard_childSet, heard_keyed]
      have latch : (heard f.origin (received f rest s)).latch = s.latch := by rw [heard_latch, received_latch]
      rw [childSet, keyed, latch]
      rfl
    have sets : applyChild .childOn y = windowChild (childSet .engaged y) := by
      rw [applyChild_on (by rw [isRear, yaddr]; exact hrear) (by rw [ylatch, hchild]; decide), childOnSequence_kept]
      rw [childSet_eq]
      show ¬ (y.latch.kind = _ ∧ _)
      rintro ⟨-, h⟩
      have idle : y.latch.seq = .idle := by rw [ylatch, hseq]
      simp [idle] at h
    have line : (childSet .engaged y).line = { s.line with rx := rest } := by rw [childSet_eq]; exact yline
    have win : (childSet .engaged y).win = s.win := by rw [childSet_eq]; exact ywin
    refine ⟨fun h => ?_, fun r hr hsource => ?_⟩
    · have kept := applies (c := .childIntent) fam (by simp [CrashBars, hkind]) (by simp [hkind]) rfl (w := none) (m := childSet .engaged y)
        (by rw [applyKind_child fam, hkind, sets, windowChild_kept (by rw [win]; exact h)]) (childSet_calm (calm _)) line
      rwa [state] at kept
    · have kept := applies (c := .childIntent) fam (by simp [CrashBars, hkind]) (by simp [hkind]) rfl (w := none)
        (m := motionEnds r .stopped (childSet .engaged y))
        (by rw [applyKind_child fam, hkind, sets, windowChild_ends (r := r) (by rw [win]; exact hr) hsource (by rw [win, hd])])
        (motionEnds_calm (childSet_calm (calm _))) ((motionEnds_line _ _ _).trans line)
      rwa [heard_motionEnds, state] at kept
  · let y := keyed .child K (received f rest s)
    obtain ⟨-, -, -, ylatch, -, -, yaddr, -, yline⟩ := keyed_received_fields .child K f rest s
    have fam : i.kind.family = .child := by rw [hkind]; rfl
    have kept := applies (c := .childIntent) fam (by simp [CrashBars, hkind]) (by simp [hkind]) rfl (w := none) (m := childSet .released y)
      (by rw [applyKind_child fam, hkind, applyChild_off (by rw [isRear, yaddr]; exact hrear) (by rw [ylatch, hchild]; decide)])
      (childSet_calm (calm _)) (by rw [childSet_eq]; exact yline)
    have latch : (heard f.origin (received f rest s)).latch = s.latch := by rw [heard_latch, received_latch]
    rw [heard_childSet, heard_keyed, childSet, keyed, latch] at kept
    exact kept
  · intro r
    let y := keyed .window K (received f rest s)
    obtain ⟨ywin, ycfg, -, ylatch, -, ypower, -, ypinch, yline⟩ := keyed_received_fields .window K f rest s
    have fam : i.kind.family = .window := by rcases hkind with h | h <;> rw [h] <;> rfl
    have supply := goodSupply_ne hg
    have passes : Passes r y :=
      { window := by rw [ycfg]; exact hcaps
        supply := by rw [ypower]; exact supply.2
        norm := .inl (by rw [ywin, hnorm])
        crash := by rw [ylatch, hcrash]
        heat := .inl (by rw [ywin]; exact hheat)
        latch := by rw [ylatch, hl]
        hold := .inl (by rw [ypinch, hmode]) }
    have plain : takesOverride r y = false := takesOverride_source (by simp [r]) (by simp [r])
    have granted : request r y = (.started, motionStarts r y) := by
      rw [request_passed passes, arbiter_idle (by rw [ywin, hr]) (satisfied_held rfl (.inr rfl) _), grantIdle_starts (by rw [ywin, hd])
        plain (by rw [ypower]; exact supply.1)]
    have kept := applies (c := .windowIntent) fam (by rcases hkind with h | h <;> simp [CrashBars, h])
      (by rcases hkind with h | h <;> simp [h]) rfl (w := some .started) (m := motionStarts r y)
      (by rw [applyKind_window fam, windowIntentApplied_request hkind, show request (globalRequest i.kind) y = _ from granted])
      (motionStarts_calm (calm _)) ((motorStarts_line _ _).trans yline)
    rw [heard_motionStarts, heard_keyed] at kept
    exact kept
  · intro released
    let y := keyed .latch K (received f rest s)
    obtain ⟨ywin, ycfg, ynow, ylatch, ypins, ypower, -, -, yline⟩ := keyed_received_fields .latch K f rest s
    obtain ⟨hwin, hcfg, hnow, hpower, hlatch⟩ := locked_fields .unlocked y
    have fam : i.kind.family = .latch := by rw [hkind]; rfl
    have pulses := releaseRequest_pulses (k := .entry) (s := locked .unlocked y) (by rw [hlatch, ylatch]; exact hseq)
      (by rw [hlatch, ylatch]; exact hl) (by rw [GoodSupply, hpower, ypower]; exact hg)
      (by rw [NoDropNeeded, hcfg, hwin, hlatch, ycfg, ywin, ylatch]; exact or_assoc.2 hno) (by rw [hwin, ywin, hd])
      (by rw [hwin, ywin, hs.2.2.2.1])
    have put := locked_unlocked_put y fun l => (takenRequest .entry l).pulsed (locked .unlocked y).now
    have time : (locked .unlocked y).now = s.now := hnow.trans ynow
    let z : State := { y with latch := (takenRequest .entry { s.latch with lock := .unlocked }).pulsed s.now }
    have effect : applyKind i.kind y = (none, if s.latch.lock = .unlocked then z else queueRecord .latchState z) := by
      rw [put, time, ylatch] at pulses
      rw [hkind, applyKind_unlockAndOpen (by rw [ylatch, hseq]; decide) (by rw [ypins, ho]), pulses]
    have zcalm : Calm z := calm_of_same (calm .latch) (by rfl)
    have opens {m : State} (h : applyKind i.kind y = (none, m)) (hm : Calm m) (hline : m.line = y.line) :=
      applies (c := .latchIntent) fam (by simp [CrashBars, hkind]) (by simp [hkind]) rfl h hm (hline.trans yline)
    have state : heard f.origin z = released := by
      simp only [z, y, heard_eq, released, t, afterHearing_eq]
      rfl
    by_cases hlock : s.latch.lock = .unlocked
    · rw [if_pos hlock] at effect ⊢
      have kept := opens effect zcalm rfl
      rwa [state] at kept
    · rw [if_neg hlock] at effect ⊢
      have kept := opens effect (calm_queueRecord zcalm) (queueRecord_line _ _)
      rwa [heard_queueRecord, state] at kept

end Sys2Proof.Proofs.Intents
end

section
/-! What else reaches a release sequence (3.3, 3.5, 9.1). -/

namespace Sys2Proof.Proofs.Intents

open Sys2Proof Sys2Proof.Machine Sys2Proof.Proofs.Steps Sys2Proof.Proofs.Invariants Sys2Proof.Proofs.KeyFrames
open Sys2Proof.Proofs.Ends Sys2Proof.Proofs.Glass Sys2Proof.Proofs.Delivery Sys2Proof.Proofs.Release

section
variable {s x : State} {r : Request} {l : LockState} {o : ReleaseOutcome}

/-! ## A sequence abandoned (R56, R61) -/

/-- The state without an outstanding drop, whose motion has ended where it is one (R61). -/
def dropWithdrawn (r : Request) (s : State) : State :=
  let w := { s with win := { s.win with drop := none } }
  if r.source = .drop then motionEnds r .stopped w else w

theorem withdrawDrop_kept (h : s.latch.dropOut = false) : withdrawDrop s = s := if_neg (by simp [h])

theorem withdrawDrop_out (h : s.latch.dropOut = true) (hr : s.win.req = some r) (ha : s.win.dropAnswer = none) :
    withdrawDrop s = dropWithdrawn r s := by
  have same : s.withWin { s.win with drop := none, dropAnswer := none } = { s with win := { s.win with drop := none } } := by
    rw [← ha]
    rfl
  have out : withdrawDrop s = if r.source = .drop then endMotion .stopped { s with win := { s.win with drop := none } }
      else { s with win := { s.win with drop := none } } := by
    rw [← same]
    unfold withdrawDrop
    rw [if_pos h]
    simp only [withWin_win, hr]
  rw [out, dropWithdrawn]
  by_cases hs : r.source = .drop
  · rw [if_pos hs, if_pos hs]
    exact endMotion_quiet (s := { s with win := { s.win with drop := none } }) .stopped hr rfl (by simp [hs]) (by simp [hs])
  · rw [if_neg hs, if_neg hs]

theorem dropWithdrawn_latch (r : Request) (s : State) : (dropWithdrawn r s).latch = s.latch := by
  unfold dropWithdrawn
  split
  · exact motionEnds_latch _ _ _
  · rfl

theorem dropWithdrawn_line (r : Request) (s : State) : (dropWithdrawn r s).line = s.line := by
  unfold dropWithdrawn
  split
  · exact motionEnds_line _ _ _
  · rfl

theorem dropWithdrawn_calm (h : Calm s) : Calm (dropWithdrawn r s) := by
  have put : Calm { s with win := { s.win with drop := none } } := calm_of_same h (by rfl)
  unfold dropWithdrawn
  split
  · exact motionEnds_calm put
  · exact put

theorem dropWithdrawn_req (r : Request) (s : State) : ∀ q ∈ (dropWithdrawn r s).win.req, q ∈ s.win.req := by
  intro q hq
  unfold dropWithdrawn at hq
  split at hq
  · rw [motionEnds_win] at hq
    exact absurd hq (by simp [rested])
  · exact hq

theorem heard_dropWithdrawn (a : Addr) (r : Request) (s : State) :
    heard a (dropWithdrawn r s) = dropWithdrawn r (heard a s) := by
  unfold dropWithdrawn
  split
  · rw [heard_motionEnds, heard_eq, heard_eq]
  · rw [heard_eq, heard_eq]

theorem heard_withLatch (a : Addr) (l : Latch) (s : State) : heard a { s with latch := l } = { heard a s with latch := l } := by
  rw [heard_eq, heard_eq]

theorem endSequence_eq (o : ReleaseOutcome) (s : State) : endSequence o s = { s with latch := s.latch.ended o } := rfl

/-- What the end of a sequence with outcome `o` leaves, said of the state `x` in which it is abandoned and what is heard
of it. -/
theorem abandoned_of {P : State → Prop} {a : Addr} {m : State} (hm : heard a x = m) (hwin : x.win = s.win)
    (hout : x.latch.dropOut = s.latch.dropOut) (hx : Calm x)
    (h : ∀ y, endSequence o (withdrawDrop x) = y → Calm y → y.line = x.line → (∀ q ∈ y.win.req, q ∈ x.win.req) → P (heard a y)) :
    (s.latch.dropOut = false → P { m with latch := m.latch.ended o })
      ∧ (s.latch.dropOut = true → ∀ r ∈ s.win.req, P { dropWithdrawn r m with latch := m.latch.ended o }) := by
  have latch : m.latch = x.latch := by rw [← hm, heard_latch]
  refine ⟨fun hd => ?_, fun hd r hr => ?_⟩
  · have kept := h (endSequence o x) (by rw [withdrawDrop_kept (hout.trans hd)]) (calm_of_same hx (by rfl)) rfl fun q hq => hq
    rw [endSequence_eq, heard_withLatch, hm] at kept
    rwa [latch]
  · have answer : x.win.dropAnswer = none := hx.2.2.2.1
    have kept := h (endSequence o (dropWithdrawn r x))
      (by rw [withdrawDrop_out (hout.trans hd) (by rw [hwin]; exact hr) answer])
      (calm_of_same (dropWithdrawn_calm (r := r) hx) (by rfl)) (dropWithdrawn_line r x) fun q hq => dropWithdrawn_req r x q hq
    rw [endSequence_eq, heard_withLatch, heard_dropWithdrawn, hm, dropWithdrawn_latch] at kept
    rwa [latch]

theorem setLock_changes (h : s.latch.lock ≠ l) (hl : l ≠ .unlocked) : setLock l s = lockChangeOnSequence (locked l s) := by
  unfold setLock locked
  rw [if_neg h, if_neg h]
  exact if_neg fun h => hl h.1

theorem lockChangeOnSequence_ends (hseq : s.latch.seq = .dropping)
    (h : s.latch.lock = .deadlocked ∨ (s.latch.lock = .locked ∧ s.latch.kind = some .entry)) :
    lockChangeOnSequence s = endSequence .lockChange (withdrawDrop s) := if_pos ⟨hseq, h⟩

theorem lockChangeOnSequence_kept (h : s.latch.lock = .locked) (hk : s.latch.kind = some .egress) :
    lockChangeOnSequence s = s := by
  refine if_neg ?_
  rintro ⟨-, h' | ⟨-, h'⟩⟩
  · simp [h] at h'
  · simp [hk] at h'

theorem childOnSequence_ends (hk : s.latch.kind = some .egress)
    (h : s.latch.seq = .dropping ∨ s.latch.seq = .releasing ∨ s.latch.seq = .retryWait) :
    childOnSequence s = endSequence .childEngaged (withdrawDrop s) := if_pos ⟨hk, h⟩

/-- A rise to LOW at an idle window ends the supply wait (R65, R171). -/
theorem supplyRises_resumes (hm : s.win.motion = .idle) (hw : s.store.writing = none) (hs : s.power.supply = .crank)
    (hwait : s.latch.supplyWait.isSome = true) {m : Nat} (h78 : s.power.rise7800 = some m) (h93 : s.power.rise9300 = none)
    (ht : m + 50000 ≤ s.now) : supplyRises s
      = { s with power := { s.power with supply := .low }, latch := s.latch.pulsed s.now } := by
  have rises : risen s.now s.power = .low := by simp [risen, h78, h93, ht]
  let x : State := { s with power := { s.power with supply := .low } }
  have window : windowSupply x = x := by simp [windowSupply, x, hm]
  have latch : latchSupply x = { x with latch := x.latch.pulsed x.now } := by
    unfold latchSupply
    rw [if_neg (by simp [x]), if_pos ⟨hwait, rfl⟩]
    exact enterReleasing_pulses rfl
  have store : ({ s.store with writing := none } : Store) = s.store := by rw [← hw]
  unfold supplyRises
  rw [rises, hs, if_pos (by decide), setSupply, if_neg (by simp [hs])]
  show storeSupply (searchSupply (latchSupply (windowSupply x))) = _
  rw [window, latch, searchSupply, if_neg (by simp [x])]
  simp only [storeSupply, x, hw, Option.map_none, store]

end

/-- Settles O29: a sequence ended by a lock change or CHILD ENGAGED, and one resumed by a supply rise. -/
theorem releaseSequenceIsAbandonedOrResumed : Obligations.ReleaseSequenceIsAbandonedOrResumed := by
  intro s f e rest i hs t K ends
  refine ⟨fun hh hp hn hrel hsp htarget hk => ?_, fun hwait hm hw hsup m hm78 h93 => ?_⟩
  · have off : i.kind.family = .latch → RelockOff s := fun _ => ⟨hrel, hsp, hs.2.2.1⟩
    have latch : (heard f.origin (received f rest s)).latch = s.latch := by rw [heard_latch, received_latch]
    have applies {c : Instr} {fam : Family} {w : Option WindowOutcome} {m : State} (hf : i.kind.family = fam)
        (hb : ¬ CrashBars i.kind s) (hstop : i.kind ≠ .windowsStop) (hc : c = intentCommand fam)
        (ha : applyKind i.kind (keyed fam K (received f rest s)) = (w, m)) (hm : Calm m)
        (hline : m.line = { s.line with rx := rest }) : ∃ v, exec c s = .next v ∧ Kept (heard f.origin m) v := by
      subst hf
      exact applies_kept hs hh hp hn off htarget hb hk hstop hc ha hm hline
    have calm (fam : Family) : Calm (keyed fam K (received f rest s)) := keyed_calm (received_calm hs)
    refine ⟨fun hkind hcrash hseq hl => ?_, fun hkind hrear hchild hegress hseq hsource => ?_⟩
    · intro l hlock changed
      let y := keyed .latch K (received f rest s)
      obtain ⟨ywin, -, -, ylatch, -, -, -, -, yline⟩ := keyed_received_fields .latch K f rest s
      obtain ⟨hwin, -, -, -, hlatch⟩ := locked_fields l y
      have fam : i.kind.family = .latch := by rcases hkind with h | h <;> rw [h] <;> rfl
      have free : ¬ CrashBars i.kind s := by simp [CrashBars, crashHold, hcrash]
      have ne : l ≠ .unlocked := by
        simp only [l]
        split <;> decide
      have sets : applyKind i.kind y = (none, lockChangeOnSequence (locked l y)) := by
        rw [← setLock_changes (by rw [ylatch]; exact hlock) ne]
        rcases hkind with h | h
        · simp only [l, h, if_true]
          rfl
        · have position : y.latch.position = .closed := by rw [ylatch, hl]
          simp only [l, h]
          show (none, setLock (if y.latch.position = .closed then .deadlocked else .locked) y) = _
          rw [if_pos position]
          rfl
      have state : heard f.origin (locked l y) = changed := by
        rw [heard_locked, heard_keyed, locked]
        show (if (heard f.origin (received f rest s)).latch.lock = l then _ else _) = _
        rw [latch, if_neg hlock]
        simp only [keyed, latch]
        rfl
      have line : (locked l y).line = { s.line with rx := rest } := locked_line.trans yline
      have lockedCalm : Calm (locked l y) := locked_calm (calm _)
      refine ⟨fun h => ?_, fun hl' hk' => ?_⟩
      · have ended := abandoned_of (s := s) (x := locked l y) (o := .lockChange)
          (P := fun m => ∃ v, exec .latchIntent s = .next v ∧ Kept m v) state (hwin.trans ywin) (by rw [hlatch, ylatch])
          lockedCalm fun z hz hcalm hzline _ => applies fam free (by rcases hkind with h | h <;> simp [h]) rfl (by
            rw [sets, lockChangeOnSequence_ends (by rw [hlatch, ylatch]; exact hseq), hz]
            rw [hlatch, ylatch]
            rcases h with h | h
            · exact .inl h
            · by_cases hd : l = .deadlocked
              · exact .inl hd
              · refine .inr ⟨?_, h⟩
                cases hv : l <;> simp_all) hcalm (hzline.trans line)
        exact ⟨ended.1, fun hd r hr _ => ended.2 hd r hr⟩
      · have kept := applies (c := .latchIntent) fam free (by rcases hkind with h | h <;> simp [h]) rfl (by
          rw [sets, lockChangeOnSequence_kept (by rw [hlatch]; exact hl') (by rw [hlatch, ylatch]; exact hk')]) lockedCalm line
        rwa [state] at kept
    · let y := keyed .child K (received f rest s)
      obtain ⟨ywin, -, -, ylatch, -, -, yaddr, -, yline⟩ := keyed_received_fields .child K f rest s
      have fam : i.kind.family = .child := by rw [hkind]; rfl
      have set_ : (childSet .engaged y).win = s.win ∧ (childSet .engaged y).latch = { s.latch with child := .engaged }
          ∧ (childSet .engaged y).line = { s.line with rx := rest } := by
        rw [childSet_eq]
        exact ⟨ywin, by rw [ylatch], yline⟩
      obtain ⟨hwin, hlatch, line⟩ := set_
      have ended := abandoned_of (s := s) (x := childSet .engaged y) (o := .childEngaged)
        (P := fun m => ∃ v, exec .childIntent s = .next v ∧ Kept m v) rfl hwin (by rw [hlatch])
        (childSet_calm (calm _)) fun z hz hcalm hzline hreq => applies fam (by simp [CrashBars, hkind]) (by simp [hkind]) rfl (by
          rw [applyKind_child fam, hkind, applyChild_on (by rw [isRear, yaddr]; exact hrear) (by rw [ylatch, hchild]; decide),
            childOnSequence_ends (by rw [hlatch]; exact hegress) (by rw [hlatch]; exact hseq), hz,
            windowChild_kept fun q hq => hsource q (by rw [← hwin]; exact hreq q hq)]) hcalm (hzline.trans line)
      have state : heard f.origin (childSet .engaged y) = queueRecord .latchState { t with
          latch := { s.latch with child := .engaged }, intent := { t.intent with keyChild := K } } := by
        rw [heard_childSet, heard_keyed, childSet, keyed, latch]
        rfl
      rw [state] at ended
      exact ⟨ended.1, fun hd r hr _ => ended.2 hd r hr⟩
  · intro n
    have rise : riseAt s.power = some (m + 50000) := by
      simp only [riseAt, hsup, Supply.rank, h93, show s.power.rise7800 = some m from hm78]
      rfl
    have latch : n.latch = s.latch := advanceTo_latch _ _
    have power : n.power = s.power := advanceTo_power _ _
    have risen_ := supplyRises_resumes (s := n) (m := m) ((advanceTo_win_motion _ _).trans hm)
      ((congrArg Store.writing (advanceTo_store _ _)).trans hw) (by rw [power, hsup]) (by rw [latch]; exact hwait)
      (by rw [power]; exact hm78) (by rw [power]; exact h93) (by rw [advanceTo_now]; exact le_max_left _ _)
    rw [latch] at risen_
    exact timer_kept hs (c := .supplyRise) (g := fun t => riseAt t.power) (f := supplyRises) rfl rise risen_
      (calm_of_same (calm_advanceTo hs) (by rfl))

end Sys2Proof.Proofs.Intents
end

section
/-! Crash hold (3.6, 4.6). -/

namespace Sys2Proof.Proofs.Crash

open Sys2Proof Sys2Proof.Machine Sys2Proof.Proofs.Steps Sys2Proof.Proofs.Invariants Sys2Proof.Proofs.KeyFrames
open Sys2Proof.Proofs.Ends Sys2Proof.Proofs.Glass Sys2Proof.Proofs.Delivery Sys2Proof.Proofs.Release Sys2Proof.Proofs.Intents

section
variable {s a b : State} {ps : List Payload}

/-! ## Frames queued while the table and the latch change -/

/-- The same change of the intent engine on both sides, made of what queuing a frame leaves alone. -/
theorem adds_withIntent (h : Adds ps a b) {m n : Intents} (hfixed : n.fixed = m.fixed)
    (htable : n.table.map OpenEntry.untimed = m.table.map OpenEntry.untimed) (hhold : n.startHold = m.startHold)
    (hsame : b.intent.table = a.intent.table → n.table = m.table) :
    Adds ps { a with intent := m } { b with intent := n } where
  quiet := { h.quiet with intent := hfixed, table := htable, startHold := .inl hhold }
  hold := hhold
  unclaimed := h.unclaimed
  stage := h.stage
  gentle room := { h.gentle room with table := hsame (h.gentle room).table }
  queued := h.queued

theorem adds_withLatch (h : Adds ps a b) (l : Latch) : Adds ps { a with latch := l } { b with latch := l } where
  quiet := { h.quiet with latch := rfl }
  hold := h.hold
  unclaimed := h.unclaimed
  stage := h.stage
  gentle room := { h.gentle room with }
  queued := h.queued

theorem filter_untimed (t : Tag) (l : List OpenEntry) :
    (l.filter fun e => e.tag != t).map OpenEntry.untimed = (l.map OpenEntry.untimed).filter fun e => e.tag != t := by
  rw [List.filter_map]
  rfl

theorem adds_removeEntry (h : Adds ps a b) (t : Tag) : Adds ps (removeEntry t a) (removeEntry t b) := by
  have fixed : ({ b.intent with table := b.intent.table.filter fun e => e.tag != t } : Intents).fixed
      = ({ a.intent with table := a.intent.table.filter fun e => e.tag != t } : Intents).fixed := h.quiet.intent
  refine adds_withIntent h fixed ?_ h.hold fun same => by simp only [same]
  show (b.intent.table.filter _).map _ = (a.intent.table.filter _).map _
  rw [filter_untimed, filter_untimed, h.quiet.table]

/-- Debts of the census unit do not count among the frames queued. -/
theorem adds_debts (h : Adds ps a b) {c : Census} (e : a.census.fixed = c.fixed) : Adds ps { a with census := c } b where
  quiet := { h.quiet with census := h.quiet.census.trans e }
  hold := h.hold
  unclaimed := h.unclaimed
  stage := h.stage
  gentle room := { h.gentle room with }
  queued := h.queued

/-- Auto-relock is off (R94). -/
def relockOff (s : State) : State := { s with intent := { s.intent with relock := none, relockSpent := none } }

theorem cancelRelock_off (h : s.intent.held = none) : cancelRelock s = relockOff s := by
  have same (n : Intents) (hn : n.held = none) :
      ({ n with relock := none, relockSpent := none, held := none } : Intents) = { n with relock := none, relockSpent := none } := by
    rw [← hn]
  unfold cancelRelock
  rw [h]
  exact congrArg (fun n => { s with intent := n }) (same _ h)

theorem adds_relockOff (h : Adds ps a b) : Adds ps (relockOff a) (relockOff b) :=
  adds_withIntent h (congrArg (fun n : Intents => { n with relock := none, relockSpent := none }) h.quiet.intent) h.quiet.table
    h.hold id

/-! ## The open entries that crash hold closes (R88) -/

/-- A LOCK or DEADLOCK entry closes at the start of crash hold (R88). -/
def crashCloses (e : OpenEntry) : Bool := e.kind == .lock || e.kind == .deadlock

/-- The INTENT OUTCOME of an entry that crash hold closes (R88). -/
def crashOutcome (e : OpenEntry) : Payload := outcomePayload { e with unresponsive := 0#5 } .refused

/-- The entries of `l` that crash hold closes, removed in turn. -/
def crashRemoved (l : List OpenEntry) (s : State) : State := (l.filter crashCloses).foldl (fun t e => removeEntry e.tag t) s

theorem crashEntry_closes {e : OpenEntry} (h : crashCloses e = true) :
    crashEntry s e = removeEntry e.tag (queueFrame (crashOutcome e) s) :=
  if_pos (by simpa [crashCloses] using h)

theorem crashEntry_stays {e : OpenEntry} (h : crashCloses e = false) : crashEntry s e = s :=
  if_neg (by simpa [crashCloses, not_or] using h)

theorem adds_crashEntries (l : List OpenEntry) : ∀ {ps : List Payload} {a b : State}, Adds ps a b →
    Adds (ps ++ (l.filter crashCloses).map crashOutcome) (crashRemoved l a) (l.foldl crashEntry b) := by
  induction l with
  | nil => intro ps a b h; simpa [crashRemoved] using h
  | cons e l ih =>
    intro ps a b h
    rcases he : crashCloses e with _ | _
    · rw [List.foldl_cons, crashEntry_stays he]
      simpa [crashRemoved, he] using ih h
    · have one := h.trans (adds_queueFrame (p := crashOutcome e) b rfl fun _ => reportless_intentOutcome _)
      have rest := ih (adds_removeEntry one e.tag)
      rw [List.foldl_cons, crashEntry_closes he]
      simpa [crashRemoved, he] using rest

theorem removeAll_intent (l : List OpenEntry) (s : State) : l.foldl (fun t e => removeEntry e.tag t) s
    = { s with intent := { s.intent with table := s.intent.table.filter fun x => l.all fun e => x.tag != e.tag } } := by
  induction l generalizing s with
  | nil => simp
  | cons e l ih =>
    rw [List.foldl_cons, ih]
    simp only [removeEntry, List.filter_filter, List.all_cons, Bool.and_comm]

/-- With no tag twice in the table, the entries left are those that crash hold does not close. -/
theorem crashRemoved_table (h : (s.intent.table.map (·.tag)).Nodup) : crashRemoved s.intent.table s
    = { s with intent := { s.intent with table := s.intent.table.filter fun x => !crashCloses x } } := by
  have left : (s.intent.table.filter fun x => (s.intent.table.filter crashCloses).all fun e => x.tag != e.tag)
      = s.intent.table.filter fun x => !crashCloses x := by
    refine List.filter_congr fun x hx => ?_
    rcases hc : crashCloses x with _ | _
    · rw [Bool.not_false, List.all_eq_true]
      intro e he
      obtain ⟨hmem, hce⟩ := List.mem_filter.1 he
      have ne : x ≠ e := fun hxe => by rw [hxe, hce] at hc; exact absurd hc (by decide)
      simpa using fun htag => ne (List.inj_on_of_nodup_map h hx hmem htag)
    · rw [Bool.not_true, List.all_eq_false]
      exact ⟨x, List.mem_filter.2 ⟨hx, hc⟩, by simp⟩
  rw [crashRemoved, removeAll_intent, left]

/-- Crash hold at the intent engine, with no intent held (R88). -/
theorem intentsCrash_adds (h : Adds ps a b) (hheld : a.intent.held = none) : Adds
    (ps ++ (b.intent.table.filter crashCloses).map crashOutcome) (relockOff (crashRemoved b.intent.table a)) (intentsCrash b) := by
  have adds := adds_crashEntries b.intent.table h
  have held : (b.intent.table.foldl crashEntry b).intent.held = none := by
    rw [adds.quiet.held, crashRemoved, removeAll_intent]
    exact hheld
  have same : intentsCrash b = relockOff (b.intent.table.foldl crashEntry b) := by
    have none_held (n : Intents) (hn : n.held = none) : ({ n with held := none } : Intents) = n := by rw [← hn]
    unfold intentsCrash
    simp only [held]
    rw [none_held _ held]
    exact cancelRelock_off held
  rw [same]
  exact adds_relockOff adds

end

section
variable {s x y : State} {ps : List Payload} {r : Request}

/-! ## The window and the sequence at the start of crash hold (R23, R68) -/

theorem motionEnds_record (r : Request) (o : Outcome) (s : State) : motionEnds r o s = { s with
    win := (rested r o s).win
    pinch := (rested r o s).pinch
    store := { s.store with queue :=
      if (s.win.recMoving && (coastLeft s).isNone) = true then withRecordId .windowState s.store.queue
      else s.store.queue } } := by
  rw [motionEnds_eq]
  split
  · rw [queueRecord_eq]
    rfl
  · rfl

theorem windowCrash_kept (h : ∀ r ∈ s.win.req, r.dir = .down) : windowCrash s = s := by
  refine if_neg ?_
  unfold runsUp
  rcases hr : s.win.req with _ | r
  · simp
  · simp [h r hr]

theorem windowCrash_adds (hr : s.win.req = some r) (hd : r.dir = .up) (hdrop : s.win.drop = none) :
    Adds (reportOf r .stopped s.win) (motionEnds r .stopped s) (windowCrash s) := by
  have ends : windowCrash s = endMotion .stopped s := if_pos (by simp [runsUp, hr, hd])
  rw [ends]
  exact endMotion_adds .stopped hr hdrop

/-- The latch as crash hold moves its sequence on (R68). -/
def crashLatch (now : Nat) (l : Latch) : Latch := if l.seq = .dropping then l.pulsed now else l

theorem crashOnSequence_eq (h : s.latch.seq = .dropping → GoodSupply s) :
    crashOnSequence s = { s with latch := crashLatch s.now s.latch } := by
  unfold crashOnSequence crashLatch
  by_cases hseq : s.latch.seq = .dropping
  · rw [if_pos hseq, if_pos hseq, enterReleasing_pulses (h hseq)]
  · rw [if_neg hseq, if_neg hseq]

/-- What the start of crash hold leaves of a state, apart from the window. -/
def crashActs (s : State) : State :=
  { s with
    intent := { s.intent with
      relock := none, relockSpent := none, table := s.intent.table.filter fun x => !crashCloses x }
    latch := crashLatch s.now s.latch }

theorem crashActs_calm (h : Calm s) : Calm (crashActs s) := calm_of_same h (by rfl)

/-- The start of crash hold at `x`, which stands for the state `y` up to frames queued. -/
theorem crashActs_adds (h : Adds ps y x) (hs : Calm y) (hg : y.latch.seq = .dropping → GoodSupply y) (ht : TableBounds y)
    (same : x.intent.table = y.intent.table) : Adds (ps ++ (y.intent.table.filter crashCloses).map crashOutcome)
      (crashActs y) (crashOnSequence (intentsCrash x)) := by
  have adds := intentsCrash_adds h hs.2.2.1
  rw [same, crashRemoved_table ht.2.2] at adds
  have latch : (intentsCrash x).latch = y.latch := adds.quiet.latch
  have now : (intentsCrash x).now = y.now := adds.quiet.now
  have supply : (intentsCrash x).power.supply = y.power.supply := (congrArg Power.supply adds.quiet.power :)
  have moved : crashLatch (intentsCrash x).now (intentsCrash x).latch = crashLatch y.now y.latch := by rw [latch, now]
  rw [crashOnSequence_eq (by rw [latch, GoodSupply, supply]; exact hg), moved]
  exact adds_withLatch adds (crashLatch y.now y.latch)

theorem setLock_unlocks (ho : s.pins.outerHandle = false) : setLock .unlocked s = locked .unlocked s := by
  have quiet (t : State) (h : t.latch.lock = .unlocked) : lockChangeOnSequence t = t := by
    refine if_neg ?_
    rintro ⟨-, h' | ⟨h', -⟩⟩ <;> simp [h] at h'
  unfold setLock locked
  by_cases h : s.latch.lock = .unlocked
  · rw [if_pos h, if_pos h]
  · rw [if_neg h, if_neg h, quiet _ (by rw [queueRecord_latch])]
    exact if_neg (by simp [ho])

/-- The state at a crash notice with the hold's 10 s begun (R66). -/
def crashBegun (s : State) : State :=
  { s with
    latch := { s.latch with crashEnd := some (s.now + 10000000) }
    census := { s.census with statusOwed := true } }

theorem takeCrash_eq (fr : Frame) (e : Nat) (ho : s.pins.outerHandle = false) : takeCrash fr e s =
    if crashHold s then locked .unlocked (crashBegun s)
    else crashOnSequence (intentsCrash (windowCrash (locked .unlocked (crashBegun s)))) := by
  have sets : setLock .unlocked (crashBegun s) = locked .unlocked (crashBegun s) := setLock_unlocks ho
  rw [← sets]
  rfl

end

section
variable {s m : State} {fr : Frame} {e : Nat} {rest : List RxItem} {ps : List Payload}

/-- A crash notice whose block leaves `m` with the frames `ps` queued. -/
theorem crashNotice_adds (hs : Calm s) (hh : Head fr e rest s) (hp : fr.payload = .crashNotice)
    (h : Adds ps m (takeCrash fr e (received fr rest s))) (hline : m.line = { s.line with rx := rest }) (hm : Calm m)
    (room : Roomy 4 s → Roomy (ps.length + 2) s) : ∃ v, exec .crashNotice s = .next v ∧ Kept (heard fr.origin m) v
      ∧ (s.line.state = .ok → Roomy (ps.length + 2) s → ∀ p ∈ ps, p.kind ≠ 12 → Queued p v) := by
  have same (n : Nat) : Roomy n m ↔ Roomy n s := roomy_congr (by rw [hline])
  obtain ⟨v, hv, kept, queued⟩ := delivery_roomy (c := .crashNotice) (is := fun p => p.kind == 0) (g := takeCrash) hs hh rfl
    (by rw [hp]; rfl) h (by rw [hline]) hm fun hr => (same _).2 (room ((same _).1 hr))
  exact ⟨v, hv, kept, fun ok hr => queued (by rw [hline]; exact ok) ((same _).2 hr)⟩

end

/-- Queuing frames leaves an empty table, and with room any. -/
theorem adds_table {a b : State} {ps : List Payload} (h : Adds ps a b)
    (room : a.intent.table = [] ∨ a.line.tx.length + ps.length ≤ 6) : b.intent.table = a.intent.table := by
  rcases room with hnil | room
  · have untimed := h.quiet.table
    rw [hnil] at untimed ⊢
    exact List.map_eq_nil_iff.1 untimed
  · exact (h.gentle room).table

theorem motionEnds_intent (r : Request) (o : Outcome) (s : State) : (motionEnds r o s).intent = s.intent := by
  rw [motionEnds_record]

theorem heard_crashActs (o : Addr) (s : State) : heard o (crashActs s) = crashActs (heard o s) := by
  rw [crashActs, heard_eq, heard_eq]
  rfl

theorem crashActs_motionEnds (r : Request) (o : Outcome) (s : State) :
    crashActs (motionEnds r o s) = motionEnds r o (crashActs s) := by
  rw [motionEnds_record, motionEnds_record]
  rfl

/-- The state a crash notice makes of `s`, without the census unit's debt (R66). -/
def crashStarts (s : State) : State :=
  locked .unlocked { s with latch := { s.latch with crashEnd := some (s.now + 10000000) } }

theorem crashStarts_adds (s : State) : Adds [] (crashStarts s) (locked .unlocked (crashBegun s)) := by
  have debts := adds_debts (.refl (locked .unlocked (crashBegun s))) (c := s.census) (by rw [locked_eq]; rfl)
  have same : { locked .unlocked (crashBegun s) with census := s.census } = crashStarts s := by
    rw [crashStarts, locked_eq, locked_eq]
    rfl
  rwa [same] at debts

/-- Settles O28: a crash notice, at the start of crash hold or while it is on, and the end of the hold. -/
theorem crashNoticeStartsCrashHold : Obligations.CrashNoticeStartsCrashHold := by
  intro s f e rest hs
  refine ⟨fun hh hp ho => ?_, fun e he => ?_⟩
  · intro t t1 t2 closes t3 closed
    let x := received f rest s
    let y := crashStarts x
    have xfields : x.latch = s.latch ∧ x.pins = s.pins ∧ x.line = { s.line with rx := rest } ∧ x.now = s.now
        ∧ x.power = s.power ∧ x.win = s.win ∧ x.intent.table = s.intent.table := by
      simp only [x]
      rw [received_eq]
      exact ⟨rfl, rfl, rfl, rfl, rfl, rfl, rfl⟩
    obtain ⟨xlatch, xpins, xline, xnow, xpower, xwin, xtable⟩ := xfields
    have ycalm : Calm y := locked_calm (calm_of_same (received_calm (fr := f) (rest := rest) hs) (by rfl))
    have yfields : y.power = s.power ∧ y.win = s.win ∧ y.intent = x.intent ∧ y.line = { s.line with rx := rest }
        ∧ y.latch.seq = s.latch.seq ∧ y.now = s.now := by
      simp only [y, crashStarts, locked_eq]
      exact ⟨xpower, xwin, trivial, xline, congrArg Latch.seq xlatch, xnow⟩
    obtain ⟨ypower, ywin, yintent, yline, yseq, ynow⟩ := yfields
    have begun : heard f.origin y = t2 := by
      simp only [y, crashStarts]
      rw [heard_locked, heard_withLatch, xlatch, xnow, locked]
      simp only [t2, t1]
      by_cases hlock : s.latch.lock = .unlocked
      · rw [if_pos hlock, if_pos hlock, ← hlock]
        rfl
      · rw [if_neg hlock, if_neg hlock]
        rfl
    have acts : heard f.origin (crashActs y) = t3 := by
      have intent : t2.intent = t.intent := by rw [← begun, heard_intent, yintent, ← heard_intent f.origin x]; rfl
      have now : t2.now = s.now := by rw [← begun, heard_now, ynow]
      have seq : t2.latch.seq = s.latch.seq := by rw [← begun, heard_latch, yseq]
      have table : t.intent.table = s.intent.table := by rw [← xtable, ← heard_intent f.origin x]; rfl
      rw [heard_crashActs, begun]
      simp only [t3, crashActs, crashLatch, intent, now, seq, table]
      rfl
    have crash : crashHold x = s.latch.crashEnd.isSome := by rw [crashHold, xlatch]
    have took := takeCrash_eq (s := x) f e (by rw [xpins, ho])
    refine ⟨fun hc => ?_, fun hc hg htable hroom => ?_⟩
    · rw [crash, hc, if_pos rfl] at took
      obtain ⟨v, hv, kept, -⟩ := crashNotice_adds hs hh hp (m := y) (ps := []) (by rw [took]; exact crashStarts_adds x) yline ycalm
        (roomy_of_few (by simp))
      exact ⟨v, hv, begun ▸ kept⟩
    · rw [crash, hc, if_neg (by simp)] at took
      have ytable : y.intent.table = s.intent.table := by rw [yintent, xtable]
      have ybounds : TableBounds y := by rwa [TableBounds, ytable]
      have ygood : y.latch.seq = .dropping → GoodSupply y := by rw [yseq, GoodSupply, ypower]; exact hg
      let outcomes := (s.intent.table.filter crashCloses).map crashOutcome
      have few : outcomes.length ≤ s.intent.table.length := by
        simp only [outcomes, List.length_map]
        exact List.length_filter_le _ _
      have closes_all {ps : List Payload} (hps : ps.length ≤ 1) {m : State} (hline : m.line = y.line) (hm : Calm m)
          (h : Adds (ps ++ outcomes) m (takeCrash f e x)) :
          ∃ v, exec .crashNotice s = .next v ∧ Kept (heard f.origin m) v ∧ closed v := by
        have room : Roomy 4 s → Roomy ((ps ++ outcomes).length + 2) s := fun hr => by
          have hr' : s.line.tx.length + 4 ≤ 6 := hr
          show s.line.tx.length + ((ps ++ outcomes).length + 2) ≤ 6
          rw [List.length_append]
          rcases hroom with hnil | hroom
          · have none_ : s.intent.table.length = 0 := by rw [hnil]; rfl
            omega
          · have : s.line.tx.length + (s.intent.table.length + 4) ≤ 6 := hroom
            omega
        obtain ⟨v, hv, kept, queued⟩ := crashNotice_adds hs hh hp h (hline.trans yline) hm room
        refine ⟨v, hv, kept, fun ok z hz hcl => queued ok ?_ _ ?_ (by simp [Payload.kind])⟩
        · rcases hroom with hnil | hroom
          · exact absurd hz (by simp [hnil])
          · have : s.line.tx.length + (s.intent.table.length + 4) ≤ 6 := hroom
            show s.line.tx.length + ((ps ++ outcomes).length + 2) ≤ 6
            rw [List.length_append]
            omega
        · exact List.mem_append_right _ (List.mem_map.2 ⟨z, List.mem_filter.2 ⟨hz, hcl⟩, rfl⟩)
      refine ⟨fun hdown => ?_, fun r hr hup hdrop => ?_⟩
      · have same : (locked .unlocked (crashBegun x)).intent.table = y.intent.table := by rw [locked_eq, yintent]; rfl
        have window : windowCrash (locked .unlocked (crashBegun x)) = locked .unlocked (crashBegun x) :=
          windowCrash_kept (by rw [locked_eq]; show ∀ r ∈ x.win.req, _; rw [xwin]; exact hdown)
        have adds := crashActs_adds (crashStarts_adds x) ycalm ygood ybounds same
        rw [← window, ← took, show y.intent.table = _ from ytable] at adds
        obtain ⟨v, hv, kept, all⟩ := closes_all (ps := []) (by simp) (m := crashActs y) rfl (crashActs_calm ycalm) adds
        exact ⟨v, hv, acts ▸ kept, all⟩
      · have opened : (locked .unlocked (crashBegun x)).win = s.win := by rw [locked_eq]; exact xwin
        have ends := windowCrash_adds (s := locked .unlocked (crashBegun x)) (by rw [opened]; exact hr) hup (by rw [opened, hdrop])
        have adds := (adds_motionEnds (crashStarts_adds x) r .stopped).trans ends
        rw [List.nil_append] at adds
        have report := reportOf_length r .stopped (locked .unlocked (crashBegun x)).win
        have line : (motionEnds r .stopped y).line = y.line := motionEnds_line _ _ _
        have intent : (motionEnds r .stopped y).intent = y.intent := motionEnds_intent _ _ _
        have latch : (motionEnds r .stopped y).latch = y.latch := motionEnds_latch _ _ _
        have power : (motionEnds r .stopped y).power = y.power := motionEnds_power _ _ _
        have kept_table := adds_table adds (by
          rw [intent, ytable, line, yline]
          refine hroom.imp id fun h => ?_
          have : s.line.tx.length + (s.intent.table.length + 4) ≤ 6 := h
          show s.line.tx.length + _ ≤ 6
          omega)
        have all := crashActs_adds adds (motionEnds_calm ycalm) (by rw [latch, GoodSupply, power]; exact ygood)
          (by rw [TableBounds, intent]; exact ybounds) kept_table
        rw [← took, intent, ytable, crashActs_motionEnds] at all
        obtain ⟨v, hv, kept, closed_⟩ := closes_all report (m := motionEnds r .stopped (crashActs y)) (motionEnds_line _ _ _)
          (motionEnds_calm (crashActs_calm ycalm)) all
        rw [heard_motionEnds, acts] at kept
        exact ⟨v, hv, kept, closed_⟩
  · refine timer_kept hs (c := .crashHoldExpiry) (g := fun t => t.latch.crashEnd)
      (f := fun u => { u with latch := { u.latch with crashEnd := none } }) rfl he ?_ (calm_of_same (calm_advanceTo (t := e) hs) (by rfl))
    rw [advanceTo_latch]

end Sys2Proof.Proofs.Crash
end

section
/-! The arbiter (1.4 to 1.6). -/

namespace Sys2Proof.Proofs.Arbiter

open Sys2Proof Sys2Proof.Machine Sys2Proof.Proofs.Steps Sys2Proof.Proofs.Invariants Sys2Proof.Proofs.KeyFrames
open Sys2Proof.Proofs.Ends Sys2Proof.Proofs.Glass Sys2Proof.Proofs.Delivery Sys2Proof.Proofs.Release Sys2Proof.Proofs.Intents

section
variable {s a b : State} {ps : List Payload} {x r : Request} {o : Outcome}

/-! ## A request that takes the place of the running one (R11) -/

/-- Request `r` runs in the place of `x`, which has ended with `o`. -/
def succeeds (x r : Request) (o : Outcome) (stalls : Nat) (s : State) : State :=
  requestRuns r { s with win := { s.win with lastEnd := some (x.source, o), startStalls := stalls } }

/-- What takes the place of a motion leaves of its state: in BRAKING, in PAUSED, and with the motor driven (R11). -/
def takenOver (x r : Request) (o : Outcome) (s : State) : State :=
  if s.win.motion = .braking then succeeds x r o s.win.startStalls s
  else if s.win.motion = .paused then pauses (succeeds x r o 0 s)
  else if x.dir = r.dir then succeeds x r o (if s.win.pauseEnd.isSome then s.win.startStalls else 0) s
  else brakes r (succeeds x r o s.win.startStalls s)

theorem adds_window (h : Adds ps a b) (w : Window) (p : Pinch) :
    Adds ps { a with win := w, pinch := p } { b with win := w, pinch := p } where
  quiet := { h.quiet with win := rfl, pinch := rfl }
  hold := h.hold
  unclaimed := h.unclaimed
  stage := h.stage
  gentle room := { h.gentle room with }
  queued := h.queued

theorem motionStart_closed (ho : s.win.overrideMotion = false) (hm : s.pinch.mode = .normal) :
    motionStart r (closed x o s) = succeeds x r o s.win.startStalls s := by
  have mode : (closed x o s).pinch.mode = .normal := by
    rw [closed, if_neg (by simp [ho])]
    exact hm
  rw [motionStart_eq (takesOverride_mode mode), closed, if_neg (by simp [ho])]
  rfl

theorem takeOver_eq (x r : Request) (s : State) : takeOver x r s =
    if s.win.motion = .braking then motionStart r s
    else if s.win.motion = .paused then
      pauseMotion ((motionStart r s).withWin { (motionStart r s).win with startStalls := 0 })
    else if x.dir = r.dir then
      if (motionStart r s).win.pauseEnd.isSome then motionStart r s
      else (motionStart r s).withWin { (motionStart r s).win with startStalls := 0 }
    else brake (motionStart r s) := by
  unfold takeOver
  cases hm : s.win.motion <;> simp

theorem takeOver_closed (hd : s.win.drop = none) (ho : s.win.overrideMotion = false) (hm : s.pinch.mode = .normal) :
    takeOver x r (closed x o s) = takenOver x r o s := by
  rw [takeOver_eq, motionStart_closed ho hm, takenOver]
  refine if_congr Iff.rfl rfl (if_congr Iff.rfl ?_ (if_congr Iff.rfl ?_ ?_))
  · exact pauseMotion_eq hd
  · have pause : (succeeds x r o s.win.startStalls s).win.pauseEnd = s.win.pauseEnd := rfl
    rw [pause]
    split
    · rfl
    · rfl
  · exact brake_eq (s := succeeds x r o s.win.startStalls s) hd rfl

theorem takenOver_put (hw : b.win = s.win) (hp : b.pinch = s.pinch) (hn : b.now = s.now) :
    takenOver x r o b = { b with win := (takenOver x r o s).win, pinch := (takenOver x r o s).pinch } := by
  simp only [takenOver, hw]
  split
  · simp only [succeeds, requestRuns, hw, hp]
  · split
    · simp only [succeeds, requestRuns, pauses, hw, hp, hn]
    · split
      · simp only [succeeds, requestRuns, hw, hp]
      · simp only [succeeds, requestRuns, brakes, hw, hp, hn]

/-- A motion closed and its place taken: its report is queued. -/
theorem takeOver_adds (hd : s.win.drop = none) (ho : s.win.overrideMotion = false) (hm : s.pinch.mode = .normal) :
    Adds (reportOf x o s.win) (takenOver x r o s) (takeOver x r (closeMotion x o s)) := by
  have report := reportMotion_adds x o s
  have q := report.quiet
  have put := adds_window report (takenOver x r o s).win (takenOver x r o s).pinch
  rw [closeMotion_eq o hd, takeOver_closed (by rw [q.win, hd]) (by rw [q.win, ho]) (by rw [q.pinch, hm]),
    takenOver_put q.win q.pinch q.now]
  have same : takenOver x r o s = { s with win := (takenOver x r o s).win, pinch := (takenOver x r o s).pinch } :=
    takenOver_put rfl rfl rfl
  rwa [← same] at put

theorem takenOver_calm (h : Calm s) : Calm (takenOver x r o s) := by
  unfold takenOver
  split
  · exact calm_of_same h (by rfl)
  · split
    · exact calm_of_same h (by rfl)
    · split <;> exact calm_of_same h (by rfl)

theorem arbiter_preempts (hr : s.win.req = some x) (h : r.source.rank < x.source.rank) (hsat : satisfied r s.win.p = false) :
    arbiter r s = (.started, takeOver x r (closeMotion x .preempted s)) := by
  simp [arbiter, hr, h, hsat]

theorem arbiter_turns (hr : s.win.req = some x) (hs : x.source = r.source) (hd : x.dir ≠ r.dir) (hm : x.mode = .manual)
    (hsat : satisfied r s.win.p = false) : arbiter r s = (.started, takeOver x r (closeMotion x .stopped s)) := by
  simp [arbiter, hr, hs, hd, hm, hsat]

theorem arbiter_busy (hr : s.win.req = some x) (h : x.source.rank < r.source.rank) : arbiter r s = (.busy, s) := by
  have ne : x.source ≠ r.source := fun he => by simp [he] at h
  simp [arbiter, hr, Nat.not_lt.2 (Nat.le_of_lt h), ne]

end

end Sys2Proof.Proofs.Arbiter
end

section
/-! The arbiter at intents, presses and entries (1.4 to 1.6). -/

namespace Sys2Proof.Proofs.Arbiter

open Sys2Proof Sys2Proof.Machine Sys2Proof.Proofs.Steps Sys2Proof.Proofs.Invariants Sys2Proof.Proofs.KeyFrames
open Sys2Proof.Proofs.Ends Sys2Proof.Proofs.Glass Sys2Proof.Proofs.Delivery Sys2Proof.Proofs.Release Sys2Proof.Proofs.Intents
open Sys2Proof.Proofs.Crash

section
variable {s m : State} {fr : Frame} {e : Nat} {rest : List RxItem} {i : IntentFrame} {c : IntentKind} {o : WindowOutcome}

/-! ## WINDOWS CLOSE and WINDOWS OPEN (R17) -/

/-- The checks of a GLOBAL AUTO request up or down, in their order (R10). -/
theorem checkRequest_global (c : IntentKind) (s : State) : checkRequest (globalRequest c) s =
    if s.cfg.caps.window = false then some .absent
    else if s.power.supply = .under then some .busy
    else if s.win.norm = false then some .unnormalised
    else if s.latch.crashEnd.isSome = true ∧ c = .windowsClose then some .crashHold
    else if 80000 ≤ s.win.heat ∨ (60000 ≤ s.win.heat ∧ ¬ c = .windowsClose) then some .thermal
    else if s.latch.position = .opened ∧ c = .windowsClose then some .closureOpen
    else if s.pinch.mode ≠ .normal ∧ c = .windowsClose then some .pinchHold
    else none := by
  have up : (globalRequest c).dir = .up ↔ c = .windowsClose := by
    unfold globalRequest
    split <;> simp [*]
  have down : (globalRequest c).dir = .down ↔ ¬ c = .windowsClose := by
    unfold globalRequest
    split <;> simp [*]
  have source : (globalRequest c).source = .global := rfl
  have mode : (globalRequest c).mode = .auto := rfl
  unfold checkRequest
  rcases hn : s.win.norm with _ | _
  · simp [source]
  · simp [source, mode, up, down, crashHold]

theorem ite_some_or {p : Prop} [Decidable p] (a : WindowOutcome) (q z : Option WindowOutcome) :
    (if p then some a else q).or z = if p then some a else q.or z := by
  split
  · rfl
  · rfl

/-- The refusal of a GLOBAL request: by the checks, or by a motion of a higher source (R10, R11). -/
def globalRefusal (c : IntentKind) (s : State) : Option WindowOutcome :=
  (checkRequest (globalRequest c) s).or
    (if s.win.req.any (fun r => r.source != .global && r.source != .service) then some .busy else none)

theorem request_refused (h : globalRefusal c s = some o) : request (globalRequest c) s = (o, s) := by
  unfold globalRefusal at h
  rcases hc : checkRequest (globalRequest c) s with _ | o'
  · rw [hc, Option.none_or] at h
    split at h
    · rename_i hbusy
      obtain rfl := Option.some.inj h
      rcases hr : s.win.req with _ | x
      · simp [hr] at hbusy
      · have higher : x.source.rank < (globalRequest c).source.rank := by
          simp only [hr, Option.any_some] at hbusy
          cases hx : x.source <;> simp [hx, globalRequest, Source.rank] at hbusy ⊢
        have busy := arbiter_busy hr higher
        simp [request, hc, busy]
    · exact absurd h (by simp)
  · rw [hc, Option.some_or] at h
    obtain rfl := Option.some.inj h
    simp [request, hc]

theorem request_unrefused (h : globalRefusal c s = none) : request (globalRequest c) s = arbiter (globalRequest c) s := by
  have passed := (Option.or_eq_none_iff.1 h).1
  simp [request, passed]

theorem ackOf_window (hf : i.kind.family = .window) {w : Option WindowOutcome} {origin : Addr} :
    ackOf origin i .applied w s = .intentAck
      { toAddr := origin, kind := i.kind, tag := i.tag, epoch := i.epoch, result := .applied, ownEpoch := s.intent.epoch
        current := .window (some (windowClass s.cfg s.win)), wpos := windowPosition s.cfg s.win, window := w, last := none } := by
  simp [ackOf, hf, ackState]

/-- A GLOBAL AUTO motion stopped by an applied intent of the other direction: its report is queued before the ack. -/
theorem stopped_adds {r : Request} {origin : Addr} (hf : i.kind.family = .window) (hr : s.win.req = some r)
    (hd : s.win.drop = none) : Adds (reportOf r .stopped s.win ++ [ackOf origin i .applied (some .stopped) s])
      (motionEnds r .stopped s) (queueFrame (ackOf origin i .applied (some .stopped) (finishMotion .stopped s))
        (finishMotion .stopped s)) := by
  have ended : finishMotion .stopped s = endMotion .stopped s := by
    have drop : (finishMotion .stopped s).win.drop = none := by
      rw [finishMotion_eq .stopped hr hd, motionEnds_drop, (reportMotion_adds r .stopped s).quiet.win, hd]
    exact (serveWaitingDrop_none drop).symm
  have ends := endMotion_adds .stopped hr hd
  have win : (endMotion .stopped s).win = (rested r .stopped s).win := ends.quiet.win.trans (motionEnds_win _ _ _)
  have cfg : (endMotion .stopped s).cfg = s.cfg := ends.quiet.cfg.trans (by rw [motionEnds_record])
  have epoch : (endMotion .stopped s).intent.epoch = s.intent.epoch :=
    (congrArg Intents.epoch ends.quiet.intent :).trans (by rw [motionEnds_intent]; rfl)
  have ack : ackOf origin i .applied (some .stopped) (endMotion .stopped s) = ackOf origin i .applied (some .stopped) s := by
    rw [ackOf_window hf, ackOf_window hf, win, cfg, epoch]
    rfl
  rw [ended, ack]
  exact ends.trans (adds_queueFrame _ rfl fun _ => reportless_intentAck _)

end

theorem takenOver_driven {s : State} {x r : Request} {o : Outcome} (h : s.win.motion = .starting ∨ s.win.motion = .moving) :
    takenOver x r o s
      = if x.dir = r.dir then succeeds x r o (if s.win.pauseEnd.isSome then s.win.startStalls else 0) s
        else brakes r (succeeds x r o s.win.startStalls s) := by
  rw [takenOver, if_neg (by rcases h with h | h <;> rw [h] <;> decide), if_neg (by rcases h with h | h <;> rw [h] <;> decide)]

/-- The first detent at a motion that it preempts or turns (R11). -/
theorem firstDetent_takes {s : State} {x : Request} {d : Direction} {o : Outcome} (hs : Calm s)
    (hhold : s.pins.localHold ≠ some d) (hchild : s.latch.child ≠ .engaged) (hdrop : s.win.drop = none)
    (hover : s.win.overrideMotion = false) (hmode : s.pinch.mode = .normal)
    (h : request (switchRequest d .manual) (pressed d false s)
      = (.started, takeOver x (switchRequest d .manual) (closeMotion x o (pressed d false s)))) :
    ∃ v, exec (.localSwitchFirstDetent d) s = .next v ∧ Kept (takenOver x (switchRequest d .manual) o (pressed d false s)) v
      ∧ (s.line.state = .ok → Roomy 4 s → ∀ p ∈ reportOf x o s.win, p.kind ≠ 12 → Queued p v) := by
  let y := takenOver x (switchRequest d .manual) o (pressed d false s)
  have adds : Adds (reportOf x o s.win) y (takeOver x (switchRequest d .manual) (closeMotion x o (pressed d false s))) :=
    takeOver_adds (s := pressed d false s) hdrop hover hmode
  have req : y.win.req = some (switchRequest d .manual) := by
    simp only [y, takenOver]
    repeat' split
    all_goals rfl
  have pins : y.pins = (pressed d false s).pins :=
    (congrArg State.pins (takenOver_put (s := pressed d false s) (b := pressed d false s) rfl rfl rfl) :)
  have press : localPress d .manual (pressed d false s) = takeOver x (switchRequest d .manual) (closeMotion x o (pressed d false s)) := by
    refine localPress_of (s := pressed d false s) (o := .started) hchild h (by decide) ?_
    rw [adds.quiet.win, req]
    rintro _ ⟨⟩
    exact holds_pressed (by rw [adds.quiet.pins, pins]; rfl)
  have calm : Calm y := takenOver_calm (pressed_calm hs)
  have line : y.line = s.line :=
    (congrArg State.line (takenOver_put (s := pressed d false s) (b := pressed d false s) rfl rfl rfl) :)
  rw [← press, ← firstDetent_eq hs hhold] at adds
  refine ⟨_, exec_firstDetent hs, adds.kept calm (reportOf_length _ _ _), fun ok room p hp hk => ?_⟩
  exact adds.queuedAtEnd calm (reportOf_length _ _ _) (by rw [line, ok]) ((roomy_congr (by rw [line])).2 room) hp hk

/-- Settles O20: refusals and stops by window intents, and what presses and entries do to a running motion. -/
theorem arbiterRefusesPreemptsAndReplaces : Obligations.ArbiterRefusesPreemptsAndReplaces := by
  refine ⟨fun s f e rest i hs hh hp hn htarget hkind hk ok room => ?_,
    fun s r d hs hr hover hcaps hsup hnorm hcrash hheat hlatch hmode hchild hhold => ?_,
    fun s d hs hr hcaps hsup hnorm hcrash hheat hlatch hmode hchild hspent => ?_, ?_⟩
  · intro up t u ack refusal
    let K := keyOf f i
    let y := keyed .window K (received f rest s)
    obtain ⟨ywin, ycfg, -, ylatch, -, ypower, -, ypinch, yline⟩ := keyed_received_fields .window K f rest s
    have fam : i.kind.family = .window := by rcases hkind with h | h <;> rw [h] <;> rfl
    have plain : i.kind ≠ .windowsStop := by rcases hkind with h | h <;> simp [h]
    have free : ¬ CrashBars i.kind s := by rcases hkind with h | h <;> simp [CrashBars, h]
    have above : keyHigher (keyOf f i) (lastKey i.kind.family s.intent) = true := by rw [fam]; exact hk
    have ycalm : Calm y := keyed_calm (received_calm hs)
    have state : heard f.origin y = u := heard_keyed _ _ _
    have command : intentCommand i.kind.family = .windowIntent := by rw [fam]; rfl
    have refused : refusal = globalRefusal i.kind y := by
      rw [globalRefusal, checkRequest_global, ywin, ycfg, ylatch, ypower, ypinch]
      simp only [ite_some_or, Option.none_or]
      rfl
    have acks (o : WindowOutcome) : ackOf f.origin i .applied (some o) y = ack o := by
      have epoch : y.intent.epoch = t.intent.epoch := (congrArg Intents.epoch (heard_intent f.origin (received f rest s)) :).symm
      rw [ackOf_window fam, ycfg, ywin, epoch]
    refine ⟨fun o ho => ?_, fun r hr hnone hsource hauto hdir hdrop => ?_⟩
    · have stays : applyKind i.kind y = (some o, y) := by
        rw [applyKind_window fam, windowIntentApplied_request hkind, request_refused (refused ▸ ho)]
      have applied := applied_kept hs hh hp hn (fun h => absurd (fam ▸ h) (by decide)) htarget free above
        (w := some o) (m := y) (by rw [fam, heardPlain_other plain]; exact stays) ycalm yline
      obtain ⟨v, hv, kept, queued⟩ := applied
      rw [command] at hv
      exact ⟨v, hv, state ▸ kept, acks o ▸ queued ok room⟩
    · have yreq : y.win.req = some r := by rw [ywin]; exact hr
      have ydrop : y.win.drop = none := by rw [ywin, hdrop]
      have stops : applyKind i.kind y = (some .stopped, finishMotion .stopped y) := by
        rw [applyKind_window fam, windowIntentApplied_request hkind, request_unrefused (refused ▸ hnone),
          arbiter_stops yreq hsource (by exact hdir) (by simp [hauto])]
      have adds := stopped_adds (i := i) (origin := f.origin) fam yreq ydrop
      have decided : decideIntent i.kind (keyOf f i) (received f rest s) = (.applied, some .stopped, finishMotion .stopped y) :=
        decide_applied (by rwa [CrashBars, crashHold, received_latch]) (by rw [fam, lastKey, received_eq]; exact hk)
          (by rw [fam]; exact stops)
      have effect := receiveIntent_target (s := received f rest s) (o := f.origin)
        ((hearIntent_received hn fun h => absurd (fam ▸ h) (by decide)).trans (heardPlain_other plain)) (by rwa [received_addr]) decided
      rw [← effect] at adds
      have line : (motionEnds r .stopped y).line = { s.line with rx := rest } := (motionEnds_line _ _ _).trans yline
      have report := reportOf_length r .stopped y.win
      have few : (reportOf r .stopped y.win ++ [ackOf f.origin i .applied (some .stopped) y]).length ≤ 2 := by
        rw [List.length_append, List.length_singleton]
        omega
      obtain ⟨v, hv, kept, queued⟩ := intent_roomy hs hh hp adds (by rw [line]) (motionEnds_calm ycalm) (roomy_of_few few)
      rw [command] at hv
      rw [heard_motionEnds, state] at kept
      have roomy : Roomy 4 (motionEnds r .stopped y) := (roomy_congr (a := s) (by rw [line])).2 room
      have ack_queued := queued (by rw [line]; exact ok) (roomy_of_few few roomy) _
        (List.mem_append_right _ (List.mem_singleton.2 rfl)) (by simp [ackOf, Payload.kind])
      exact ⟨v, hv, kept, acks .stopped ▸ ack_queued⟩
  · intro press mine begun driven
    have passes : Passes (switchRequest d .manual) (pressed d false s) :=
      { window := hcaps, supply := hsup, norm := .inl hnorm, crash := hcrash, heat := .inl hheat
        latch := hlatch, hold := .inl hmode }
    have missed : satisfied (switchRequest d .manual) (pressed d false s).win.p = false :=
      satisfied_held (m := .manual) rfl (.inl rfl) _
    have preq : (pressed d false s).win.req = some r := hr
    refine ⟨fun hsource => ?_, fun hsource hdrop => ?_, fun hsource hman hdir hdriven hdrop => ?_⟩
    · have busy := arbiter_busy (r := switchRequest d .manual) preq (by rcases hsource with h | h <;> simp [Source.rank, switchRequest, h])
      have stays : localPress d .manual (pressed d false s) = pressed d false s := by
        refine localPress_of (s := pressed d false s) (o := .busy) hchild (by rw [request_passed passes, busy]) (by decide) ?_
        rw [preq]
        rintro _ ⟨⟩
        rcases hsource with h | h <;> simp [holds, h] <;> cases r.mode <;> rfl
      exact kept_of ((exec_firstDetent hs).trans (by rw [firstDetent_eq hs hhold, stays]; rfl)) (pressed_calm hs)
    · intro answers
      have rank : (switchRequest d .manual).source.rank < r.source.rank := by
        rcases hsource with h | h | h | h <;> simp [Source.rank, switchRequest, h]
      have takes := firstDetent_takes (o := .preempted) hs hhold hchild hdrop hover hmode
        (by rw [request_passed passes, arbiter_preempts preq rank missed])
      obtain ⟨v, hv, kept, queued⟩ := takes
      have all (m : State) (hm : takenOver r (switchRequest d .manual) .preempted (pressed d false s) = m) : answers m := by
        refine ⟨v, hv, hm ▸ kept, fun hsrc ok room => ?_⟩
        have report := queued ok room _ (mem_reportOf hsrc) (by simp [Payload.kind])
        simpa [hnorm] using report
      refine ⟨fun hdriven hdir => all _ ?_, fun hdriven hdir => all _ ?_, fun hm => all _ ?_, fun hm => all _ ?_⟩
      · rw [takenOver_driven (s := pressed d false s) hdriven]
        exact if_pos hdir
      · rw [takenOver_driven (s := pressed d false s) hdriven]
        exact if_neg hdir
      · exact if_pos hm
      · have paused : (pressed d false s).win.motion = .paused := hm
        rw [takenOver, if_neg (by rw [paused]; decide), if_pos paused]
        rfl
    · have turns := firstDetent_takes (o := .stopped) hs hhold hchild hdrop hover hmode
        (by rw [request_passed passes, arbiter_turns preq hsource hdir hman missed])
      obtain ⟨v, hv, kept, -⟩ := turns
      rw [takenOver_driven (s := pressed d false s) hdriven,
        if_neg (show ¬ r.dir = (switchRequest d .manual).dir from hdir)] at kept
      exact ⟨v, hv, kept⟩
  · have passes : Passes (switchRequest d .auto) (pressed d false s) :=
      { window := hcaps, supply := hsup, norm := .inl hnorm, crash := hcrash, heat := .inl hheat
        latch := hlatch, hold := .inl hmode }
    have preq : (pressed d false s).win.req = some (switchRequest d .manual) := hr
    have plain : takesOverride (switchRequest d .auto) (pressed d false s) = false := takesOverride_mode hmode
    have upgraded : localPress d .auto (pressed d false s)
        = (pressed d false s).withWin { s.win with req := some (switchRequest d .auto) } := by
      refine localPress_of (s := pressed d false s) (o := .started) hchild ?_ (by decide) ?_
      · rw [request_passed passes, arbiter_replaces (r := switchRequest d .auto) preq rfl rfl
          (satisfied_held (m := .auto) rfl (.inr rfl) _), replaceRequest,
          if_neg (by simp [plain])]
        rfl
      · rintro _ ⟨⟩
        exact holds_auto (by simp [switchRequest])
    refine kept_of ((exec_secondDetent hs).trans ?_) (calm_of_same hs (by rfl))
    rw [secondDetent_eq hs fun _ => hspent, upgraded]
    simp only [pressed, ← hspent]
    rfl
  · intro s f e rest a b c d w hs hh hp ho hown hside hvalid hr hcaps hsup hnorm hcrash hheat hlatch hmode own hentry howned t
    let y := entryTaken own e (received f rest s)
    have yfields : y.win = { s.win with packEntry := own, packAt := some e } ∧ y.cfg = s.cfg ∧ y.power = s.power
        ∧ y.latch = s.latch ∧ y.pinch = s.pinch ∧ y.line.rx = rest := by
      simp only [y, entryTaken]
      rw [received_eq]
      exact ⟨rfl, rfl, rfl, rfl, rfl, rfl⟩
    obtain ⟨ywin, ycfg, ypower, ylatch, ypinch, yrx⟩ := yfields
    have request_ : remoteRequest own = some { source := .remoteSwitch, dir := w, mode := .auto } := by
      rw [howned]
      cases w <;> rfl
    have passes : Passes { source := .remoteSwitch, dir := w, mode := .auto } y :=
      { window := by rw [ycfg]; exact hcaps, supply := by rw [ypower]; exact hsup, norm := .inl (by rw [ywin]; exact hnorm)
        crash := by rw [ylatch, hcrash], heat := .inl (by rw [ywin]; exact hheat), latch := by rw [ylatch, hlatch]
        hold := .inl (by rw [ypinch, hmode]) }
    have replaced := arbiter_replaces (r := { source := .remoteSwitch, dir := w, mode := .auto })
      (x := { source := .remoteSwitch, dir := w, mode := .manual }) (s := y) (by rw [ywin]; exact hr) rfl rfl (satisfied_held (m := .auto) rfl (.inr rfl) _)
    have differs : (received f rest s).win.packEntry ≠ own := by
      rw [received_win, hentry, howned]
      cases w <;> decide
    have taken : takePack f e (received f rest s)
        = y.withWin { y.win with req := some { source := .remoteSwitch, dir := w, mode := .auto } } := by
      rw [takePack_received hp ho hside hown hvalid, judgeEntry_request differs request_, request_passed passes, replaced,
        replaceRequest, if_neg (by rw [takesOverride_mode (by rw [ypinch, hmode])]; decide)]
      refine dropLostHold_kept ?_
      rintro _ ⟨⟩
      exact holds_auto (by simp)
    have kept := switchPack_kept hs hh hp taken yrx (calm_of_same (s := received f rest s) (received_calm hs) (by rfl))
    have state : heard f.origin (y.withWin { y.win with req := some { source := .remoteSwitch, dir := w, mode := .auto } })
        = { t with win := { t.win with packEntry := own, packAt := some e, req := some { source := .remoteSwitch, dir := w, mode := .auto } } } := by
      simp only [y, t, afterHearing_eq, heard_eq, entryTaken, State.withWin]
    rwa [state] at kept

end Sys2Proof.Proofs.Arbiter
end

section
/-! Touches and the outer search (6.2, 6.3). -/

namespace Sys2Proof.Proofs.Touches

open Sys2Proof Sys2Proof.Machine Sys2Proof.Proofs.Steps Sys2Proof.Proofs.Invariants Sys2Proof.Proofs.KeyFrames
open Sys2Proof.Proofs.Ends Sys2Proof.Proofs.Glass Sys2Proof.Proofs.Delivery Sys2Proof.Proofs.Release Sys2Proof.Proofs.Intents
open Sys2Proof.Proofs.Crash Sys2Proof.Proofs.Arbiter

section
variable {s t : State} {a : Area} {h : HeldTouch}

/-! ## A touch by its place and the supply (R118, R119, R124, R125) -/

/-- The command of a touch, or of the tailgate button's press that is one (R58, R118). -/
def touchCommand : Area → Instr
  | .unlockArea => .unlockAreaTouch
  | .lockArea => .lockAreaTouch
  | .tailgateButton => .tailgateButton

/-- A touch that is no ENTRY request is handed to the search unit after the local input (R58, R118). -/
theorem exec_touch (hs : Calm s) (ht : isTailgate s = (a == .tailgateButton))
    (hl : a = .tailgateButton → s.latch.lock ≠ .unlocked) :
    exec (touchCommand a) s = .next (settle (takeTouch a s.now (handled s))) := by
  cases a with
  | unlockArea =>
      have next : exec .unlockAreaTouch s = .next (settle (touchOp .unlockArea s)) := if_neg (by simp [hs.1])
      rw [touchCommand, next, touchOp, if_neg (by simp [ht]), localCause_handled hs.2.1]
      rfl
  | lockArea =>
      have next : exec .lockAreaTouch s = .next (settle (touchOp .lockArea s)) := if_neg (by simp [hs.1])
      rw [touchCommand, next, touchOp, if_neg (by simp [ht]), localCause_handled hs.2.1]
      rfl
  | tailgateButton =>
      rw [touchCommand, exec_tailgateButton hs, tailgateButtonOp, if_pos (by simp [ht]), localCause_handled hs.2.1]
      simp only
      rw [if_neg (by exact hl rfl)]
      rfl

theorem takeTouch_deaf {x : Nat} (h : t.cfg.caps.outer = false) : takeTouch a x t = t := if_pos (by simp [h])

theorem takeTouch_fault {x : Nat} (h : t.cfg.caps.outer = true) (hl : t.line.state ≠ .ok) :
    takeTouch a x t = faultTouch a x t := by
  rw [takeTouch, if_neg (by simp [h]), if_pos (by simp [inLineFault, hl])]

theorem airTaken_iff : airTaken s = true ↔ (s.search.claims.all fun c => decide (c.expiry ≤ s.now)) = false := by
  simp [airTaken]

theorem airTaken_false (h : (s.search.claims.all fun c => decide (c.expiry ≤ s.now)) = true) : airTaken s = false := by
  rw [← Bool.not_eq_true, airTaken_iff, h]
  simp

/-- What stops a touch in LINE FAULT from being taken (R125, log 50). -/
abbrev FaultTouchActs (a : Area) (s : State) : Prop :=
  a ≠ .lockArea ∧ s.cfg.caps.outer = true ∧ s.cfg.caps.receiver = true ∧ s.search.record = none

theorem takeTouch_fault_ignored {x : Nat} (hl : t.line.state ≠ .ok) (h : ¬ FaultTouchActs a t) : takeTouch a x t = t := by
  cases ho : t.cfg.caps.outer with
  | false => exact takeTouch_deaf ho
  | true =>
      rw [takeTouch_fault ho hl, faultTouch, if_pos]
      by_contra hn
      simp only [not_or] at hn
      exact h ⟨hn.1, ho, by simpa using hn.2.1, by simpa using hn.2.2⟩

theorem faultTouch_acts {x : Nat} (h : FaultTouchActs a t) :
    faultTouch a x t = if airTaken t || t.power.supply.poor then holdTouch { area := a, touchAt := x } t
      else outerChallenge (touchRecord a x) t := by
  obtain ⟨ha, -, hr, hrec⟩ := h
  exact if_neg (by simp [ha, hr, hrec])

theorem outerChallenge_driven {r : SearchRec} (h : GoodSupply t) : outerChallenge r t = driveChallenge .outer r t := by
  obtain ⟨hc, hu⟩ := goodSupply_ne h
  unfold outerChallenge
  split
  · rename_i e; exact absurd e hc
  · rename_i e; exact absurd e hu
  · rfl

/-! ## In LINE FAULT nothing the station queues touches the search unit -/

theorem queueCensus_fault (h : t.line.state ≠ .ok) : queueCensus t = t := if_pos (by simp [inLineFault, h])

theorem queueAnnouncement_fault_search (h : t.line.state ≠ .ok) : (queueAnnouncement t).search = t.search := by
  unfold queueAnnouncement
  simp only
  rw [if_pos (by simp [inLineFault, h])]

theorem settle_fault_search (hs : Calm s) (h : s.line.state ≠ .ok) : (settle s).search = s.search := by
  have census : (settleCensus s).search = s.search ∧ (settleCensus s).line = s.line := by
    unfold settleCensus
    split
    · rw [queueCensus_fault (t := { s with census := { s.census with censusOwed := false } }) h]
      exact ⟨rfl, rfl⟩
    · exact ⟨rfl, rfl⟩
  have hold : (settleStartHold (settleCensus s)).search = s.search ∧ (settleStartHold (settleCensus s)).line = s.line := by
    unfold settleStartHold
    split
    · exact census
    · exact census
  have status (t : State) (ht : t.line.state ≠ .ok) : (settleStatus t).search = t.search ∧ (settleStatus t).line.state ≠ .ok := by
    unfold settleStatus
    split
    · exact ⟨rfl, ht⟩
    · split
      · exact ⟨queueAnnouncement_fault_search ht, by rw [queueAnnouncement]; simp [inLineFault, ht]⟩
      · exact ⟨rfl, ht⟩
  obtain ⟨se, line⟩ := status (settleAgreement (settleStartHold (settleCensus s)))
    (by show (settleStartHold (settleCensus s)).line.state ≠ .ok; rw [hold.2]; exact h)
  rw [settle_calm s hs, settleDue_fault line, se]
  exact hold.1

/-! ## The inside lock button in LINE FAULT (R54) -/

theorem insideButton_fault (hs : Calm s) (h : s.line.state ≠ .ok) :
    exec .insideLockButton s = .next (settle (localLockChange (handled s))) := by
  have next : exec .insideLockButton s = .next (settle (insideButtonOp s)) := if_neg (by simp [hs.1])
  have fault : inLineFault (handled s) = true := by simp [inLineFault, handled, h]
  rw [next, insideButtonOp, localCause_handled hs.2.1]
  simp only [fault, if_true]

theorem localLockChange_changes {l : LockState} (hseq : t.latch.seq = .idle) (ho : t.pins.outerHandle = false)
    (h : (t.latch.lock = .unlocked ∧ t.latch.crashEnd = none ∧ l = .locked) ∨ (t.latch.lock = .locked ∧ l = .unlocked)) :
    localLockChange t = queueRecord .latchState { t with latch := { t.latch with lock := l } } := by
  have set (l : LockState) (hl : t.latch.lock ≠ l) :
      setLock l t = queueRecord .latchState { t with latch := { t.latch with lock := l } } := by
    rw [setLock_locked (by simp [hseq]) (.inl ho), locked, if_neg hl]
  rcases h with ⟨hl, hc, rfl⟩ | ⟨hl, rfl⟩
  · simp [localLockChange, hl, crashHold, hc, set .locked (by simp [hl])]
  · simp [localLockChange, hl, set .unlocked (by simp [hl])]

theorem localLockChange_stays (h : t.latch.lock = .deadlocked ∨ (t.latch.lock = .unlocked ∧ t.latch.crashEnd.isSome = true)) :
    localLockChange t = t := by
  rcases h with h | ⟨h, hc⟩
  · simp [localLockChange, h]
  · simp [localLockChange, h, crashHold, hc]

end

/-- Settles O30: alone in LINE FAULT, the button changes the own lock and a touch challenges or is held. -/
theorem stationActsAloneInLineFault : Obligations.StationActsAloneInLineFault := by
  intro s a hs hl input changed
  have ci : Calm input := handled_calm hs
  refine ⟨fun hseq ho => ⟨fun h hc => ?_, fun h => ?_, fun h => ?_⟩, fun ht hb => ?_⟩
  · exact kept_of ((insideButton_fault hs hl).trans (by
      rw [localLockChange_changes (t := handled s) hseq ho (.inl ⟨h, hc, rfl⟩)]; rfl))
      (calm_queueRecord (calm_of_same hs (by rfl)))
  · exact kept_of ((insideButton_fault hs hl).trans (by
      rw [localLockChange_changes (t := handled s) hseq ho (.inr ⟨h, rfl⟩)]; rfl))
      (calm_queueRecord (calm_of_same hs (by rfl)))
  · exact kept_of ((insideButton_fault hs hl).trans (by rw [localLockChange_stays (t := handled s) h]; rfl)) ci
  · intro c acts free
    have hc : c = touchCommand a := by cases a <;> rfl
    have next := exec_touch (a := a) hs ht hb
    rw [hc]
    refine ⟨fun h => ?_, fun h hf => ?_, fun h hf => ?_⟩
    · rw [takeTouch_fault_ignored (t := handled s) hl h] at next
      have e := settle_fault_search ci hl
      exact ⟨_, next, settle_kept _ ci, congrArg (·.record) e, congrArg (·.held) e⟩
    · have air : airTaken (handled s) = false := airTaken_false hf.1
      have poor : (handled s).power.supply.poor = false := hf.2
      rw [takeTouch_fault (t := handled s) h.2.1 hl, faultTouch_acts (t := handled s) h, air, poor, if_neg (by simp),
        outerChallenge_driven poor] at next
      exact kept_of next ⟨hs.1, hs.2.1, hs.2.2.1, hs.2.2.2.1, by rintro _ ⟨⟩; simp⟩
    · have held : (airTaken (handled s) || (handled s).power.supply.poor) = true := by
        by_contra hn
        obtain ⟨air, poor⟩ := by simpa using hn
        exact hf ⟨List.all_eq_true.2 fun x hx => decide_eq_true
          (not_lt.1 fun late => List.any_eq_false.1 air x hx (decide_eq_true late)), poor⟩
      rw [takeTouch_fault (t := handled s) h.2.1 hl, faultTouch_acts (t := handled s) h, if_pos held] at next
      exact kept_of next (calm_of_same ci (by rfl))

end Sys2Proof.Proofs.Touches
end

section
/-! Touches in a sound line: a search opens, or the touch is held, refused or dropped (6.2 to 6.4). -/

namespace Sys2Proof.Proofs.Touches

open Sys2Proof Sys2Proof.Machine Sys2Proof.Proofs.Steps Sys2Proof.Proofs.Invariants Sys2Proof.Proofs.KeyFrames
open Sys2Proof.Proofs.Ends Sys2Proof.Proofs.Glass Sys2Proof.Proofs.Delivery Sys2Proof.Proofs.Release Sys2Proof.Proofs.Intents
open Sys2Proof.Proofs.Crash Sys2Proof.Proofs.Arbiter Sys2Proof.Proofs.Touches

section
variable {s t : State} {a : Area} {h : HeldTouch} {x : Nat}

/-- The state with a search opened by a touch, whose SEARCH CLAIM is to be queued (R120). -/
def opened (a : Area) (x : Nat) (s : State) : State :=
  { s with search := { s.search with record := some (touchRecord a x) } }

theorem opened_calm (hs : Calm s) : Calm (opened a x s) :=
  ⟨hs.1, hs.2.1, hs.2.2.1, hs.2.2.2.1, by rintro _ ⟨⟩; simp [touchRecord]⟩

/-- The checks of the lock area for a touch on it (R124). -/
abbrev MayLock (s : State) : Prop := s.latch.lock = .unlocked ∧ anyClosureOpen s = false

theorem lockAreaPasses_iff : lockAreaPasses s = true ↔ MayLock s := by simp [lockAreaPasses, MayLock]

/-- The touch is heard and the lock area's checks do not refuse it (R118, R124). -/
abbrev TouchPasses (a : Area) (s : State) : Prop := s.cfg.caps.outer = true ∧ (a = .lockArea → MayLock s)

theorem takeTouch_passed (ok : t.line.state = .ok) (h : TouchPasses a t) :
    takeTouch a x t = if t.search.record.isSome || t.power.supply == .under then t
      else if airTaken t || t.power.supply == .crank then holdTouch { area := a, touchAt := x } t
      else openSearch a x t := by
  obtain ⟨ho, hl⟩ := h
  have passes : ¬ (a == .lockArea && !lockAreaPasses t) = true := by
    by_cases ha : a = .lockArea
    · simp [lockAreaPasses_iff.2 (hl ha)]
    · simp [ha]
  rw [takeTouch, if_neg (by simp [ho]), if_neg (by simp [inLineFault, ok]), if_neg passes]

theorem takeTouch_refused (ok : t.line.state = .ok) (ho : t.cfg.caps.outer = true) (h : ¬ TouchPasses a t) :
    takeTouch a x t = refuseIntent .lock .closureOpen t := by
  obtain ⟨rfl, hl⟩ : a = .lockArea ∧ ¬ MayLock t := by
    by_contra hn
    exact h ⟨ho, fun ha => by_contra fun hm => hn ⟨ha, hm⟩⟩
  have passes : lockAreaPasses t = false := by rw [← Bool.not_eq_true, lockAreaPasses_iff]; exact hl
  rw [takeTouch, if_neg (by simp [ho]), if_neg (by simp [inLineFault, ok]), if_pos (by simp [passes])]

theorem takeTouch_opens (ok : t.line.state = .ok) (h : TouchPasses a t) (hrec : t.search.record = none)
    (air : airTaken t = false) (good : GoodSupply t) : takeTouch a x t = queueFrame .searchClaim (opened a x t) := by
  obtain ⟨hc, hu⟩ := goodSupply_ne good
  rw [takeTouch_passed ok h, if_neg (by simp [hrec, hu]), if_neg (by simp [air, hc])]
  rfl

theorem takeTouch_holds (ok : t.line.state = .ok) (h : TouchPasses a t) (hrec : t.search.record = none)
    (hu : t.power.supply ≠ .under) (held : airTaken t = true ∨ t.power.supply = .crank) :
    takeTouch a x t = holdTouch { area := a, touchAt := x } t := by
  rw [takeTouch_passed ok h, if_neg (by simp [hrec, hu]), if_pos (by simpa using held)]

theorem takeTouch_ignored (ok : t.line.state = .ok) (h : TouchPasses a t)
    (busy : t.search.record.isSome = true ∨ t.power.supply = .under) : takeTouch a x t = t := by
  rw [takeTouch_passed ok h, if_pos (by simpa using busy)]

/-- A SEARCH CLAIM in a queue with room leaves the search it opens (R120). -/
theorem opens_search {c : Instr} (hs : Calm t) (ok : t.line.state = .ok) (room : Roomy 4 t)
    (next : exec c s = .next (settle (queueFrame .searchClaim (opened a x t)))) :
    ∃ v, exec c s = .next v ∧ Queued .searchClaim v ∧ Kept (opened a x t) v := by
  obtain ⟨kept, queued⟩ := settle_queueFrame (p := .searchClaim) (s := opened a x t) (opened_calm hs) ok room rfl
  exact ⟨_, next, queued, kept⟩

/-- The held touch tried again where the air is free (R119). -/
theorem retryOp_tries (hh : s.search.held = some h) (air : airTaken s = false) (good : GoodSupply s)
    (hrec : s.search.record = none) (hl : h.area = .tailgateButton → s.latch.lock ≠ .unlocked) :
    retryOp s = takeTouch h.area h.touchAt { s with search := { s.search with held := none } } := by
  have poor : s.power.supply.poor = false := good
  have may : mayRetry s = true := by simp [mayRetry, air, poor, hrec]
  unfold retryOp
  simp only [hh, may, if_true]
  exact if_neg fun hn => hl hn.1 hn.2

end

/-- Settles O39: a touch is judged by the lock area's checks, the open search, the air and the supply, in that order. -/
theorem touchOpensHoldsOrDropsASearch : Obligations.TouchOpensHoldsOrDropsASearch := by
  intro s a hs room ok ht hb c input mayLock passes free
  have hc : c = touchCommand a := by cases a <;> rfl
  have ci : Calm input := handled_calm hs
  have next := exec_touch (a := a) hs ht hb
  have taken : free = false → airTaken (handled s) = true := airTaken_iff.2
  rw [hc]
  refine ⟨fun hp hrec air good => ?_, fun hp hrec hu held => ?_, fun h => ?_, fun ho hp => ?_, fun h hh => ⟨?_, ?_⟩⟩
  · rw [takeTouch_opens (t := handled s) ok hp hrec (airTaken_false air) good] at next
    exact opens_search (t := handled s) ci ok room next
  · rw [takeTouch_holds (t := handled s) ok hp hrec hu (held.imp taken id)] at next
    exact kept_of next (calm_of_same ci (by rfl))
  · refine kept_of (next.trans ?_) ci
    rcases h with h | ⟨hp, h⟩
    · rw [takeTouch_deaf (t := handled s) h]; rfl
    · rw [takeTouch_ignored (t := handled s) ok hp h]; rfl
  · rw [takeTouch_refused (t := handled s) ok ho hp, refuseIntent_eq] at next
    obtain ⟨kept, queued⟩ := settle_queueFrame (p := refusedOutcome .lock .closureOpen s.intent.epoch) (s := input) ci ok room rfl
    exact ⟨_, next, kept, queued⟩
  · intro ho hl hl' hrec air good
    have heldOff : Calm { s with search := { s.search with held := none } } := calm_of_same hs (by rfl)
    have next : exec .heldTouchRetry s = .next (settle (retryOp s)) := whileAwake_next hs _
    rw [retryOp_tries hh (airTaken_false air) good hrec hl',
      takeTouch_opens (t := { s with search := { s.search with held := none } }) ok ⟨ho, hl⟩ hrec (airTaken_false air) good] at next
    exact opens_search heldOff ok room next
  · have ends : exec .heldTouchDrop s = whileAwake (fun t => atTime (t.search.held.map fun h => h.touchAt + 500000)
        (fun u => { u with search := { u.search with held := none } }) t) s := rfl
    have calm : Calm (advanceTo (h.touchAt + 500000) s) := calm_advanceTo hs
    exact timer_kept hs ends (e := h.touchAt + 500000) (by rw [Option.mem_def.1 hh]; rfl) (by rw [advanceTo_search]) (calm_of_same calm (by simp))

end Sys2Proof.Proofs.Touches
end

section
/-! Claims of other stations and the slots of an interior search (6.1, 6.4). -/

namespace Sys2Proof.Proofs.Touches

open Sys2Proof Sys2Proof.Machine Sys2Proof.Proofs.Steps Sys2Proof.Proofs.Invariants Sys2Proof.Proofs.KeyFrames
open Sys2Proof.Proofs.Ends Sys2Proof.Proofs.Glass Sys2Proof.Proofs.Delivery Sys2Proof.Proofs.Release Sys2Proof.Proofs.Intents
open Sys2Proof.Proofs.Crash Sys2Proof.Proofs.Arbiter Sys2Proof.Proofs.Touches

section
variable {s t : State} {fr : Frame} {e : Nat} {rest : List RxItem}

/-! ## What a delivered frame brings to the search unit alone -/

theorem heard_withSearch (o : Addr) (x : Search) (s : State) :
    heard o { s with search := x } = { heard o s with search := x } := by
  rw [heard_eq, heard_eq]

/-- A delivery whose block changes the search unit alone. -/
theorem delivery_search {c : Instr} {is : Payload → Bool} {g : Frame → Nat → State → State} {x : Search} (hs : Calm s)
    (hh : Head fr e rest s) (hc : exec c s = onDelivery is g s) (hk : is fr.payload = true)
    (hg : g fr e (received fr rest s) = { received fr rest s with search := x })
    (hx : ∀ r ∈ x.record, r.stage ≠ .interiorClaiming) :
    ∃ v, exec c s = .next v ∧ Kept { afterHearing fr rest s with search := x } v := by
  have calm : Calm (received fr rest s) := received_calm hs
  obtain ⟨v, hv, kept, -⟩ := delivery_adds hs hh hc hk (Adds.of_eq hg) (by simp)
    ⟨calm.1, calm.2.1, calm.2.2.1, calm.2.2.2.1, hx⟩ (Nat.zero_le _)
  rw [heard_withSearch, ← afterHearing_eq] at kept
  exact ⟨v, hv, kept⟩

/-! ## The claim list (R115, R116) -/

theorem withdrawOwnClaim_none (h : ownClaimWaits t = false) : withdrawOwnClaim t = t := if_neg (by simp [h])

theorem ownClaimWaits_received : ownClaimWaits (received fr rest s) = ownClaimWaits s := by
  simp [ownClaimWaits]

/-- The claim list with a claim of an origin in the place of its older one (R115). -/
def listed (o : Addr) (k : ClaimKind) (x : Nat) (l : List Claim) : List Claim :=
  l.filter (fun c => c.origin != o) ++ [{ origin := o, kind := k, expiry := x }]

theorem addClaim_eq (o : Addr) (k : ClaimKind) (x : Nat) (s : State) :
    addClaim o k x s = { s with search := { s.search with claims := listed o k x s.search.claims } } := rfl

/-- The own claim's entries in the transmit queue once those that waited are withdrawn (R116, R141). -/
def claimsWithdrawn (l : List TxEntry) : List TxEntry :=
  l.filter fun x => x.inTx || x.jobless || !isClaimPayload x.frame.payload

/-- The station's waiting SEARCH CLAIM withdrawn: its record is freed and its touch held (R116, R119). -/
def claimHeld (r : SearchRec) (s : State) : State :=
  { s with
    search := { s.search with record := none, held := some { area := r.area, touchAt := r.touchAt } }
    line := { s.line with tx := claimsWithdrawn s.line.tx } }

theorem withdrawOwnClaim_claiming {r : SearchRec} (h : ownClaimWaits t = true) (hr : t.search.record = some r)
    (hst : r.stage = .claiming) : withdrawOwnClaim t = claimHeld r t := by
  have hr' : (withdraw isClaimPayload t).search.record = some r := hr
  rw [withdrawOwnClaim, if_pos h, claimLost, hr']
  simp only [hst]
  rfl

theorem heard_claimHeld (o : Addr) (r : SearchRec) (s : State) : heard o (claimHeld r s) = claimHeld r (heard o s) := by
  rw [heard_eq, heard_eq]
  rfl

theorem ownClaimWaits_false_iff : ownClaimWaits s = false ↔ NoClaimWaits s := by
  unfold ownClaimWaits NoClaimWaits
  rw [List.any_eq_false]
  refine forall₂_congr fun e _ => ?_
  cases isClaimPayload e.frame.payload <;> cases e.inTx <;> cases e.jobless <;> simp

theorem noClaimWaits_claimHeld (r : SearchRec) (s : State) : NoClaimWaits (claimHeld r s) := by
  intro e he hp
  have := (List.mem_filter.1 he).2
  simpa [hp] using this

theorem claimHeld_calm {r : SearchRec} (h : Calm t) : Calm (claimHeld r t) :=
  ⟨h.1, h.2.1, h.2.2.1, h.2.2.2.1, by rintro _ ⟨⟩⟩

/-- A SEARCH CLAIM delivered while the own claim waits (R115, R116). -/
theorem exec_searchClaim_withdraws {r : SearchRec} (hs : Calm s) (hh : Head fr e rest s) (hp : fr.payload = .searchClaim)
    (h : ownClaimWaits s = true) (hr : s.search.record = some r) (hst : r.stage = .claiming) :
    ∃ v, exec .searchClaim s = .next v ∧ ownClaimWaits v = false
      ∧ Kept (claimHeld r (heard fr.origin (addClaim fr.origin .searchClaim (e + 50000) (received fr rest s)))) v := by
  have calm : Calm (addClaim fr.origin .searchClaim (e + 50000) (received fr rest s)) :=
    calm_of_same (received_calm (fr := fr) (rest := rest) hs) (by rfl)
  have next := delivery_next (c := .searchClaim) hs hh rfl (by rw [hp]; rfl)
  have rx : (claimHeld r (heard fr.origin (addClaim fr.origin .searchClaim (e + 50000) (received fr rest s)))).line.rx
      = rest := by simp [claimHeld, addClaim_eq]
  rw [takeClaim, withdrawOwnClaim_claiming (r := r)
    (by rw [addClaim_eq]; exact ownClaimWaits_received.trans h) (by simp [addClaim_eq, hr]) hst,
    heard_claimHeld, drainReports_frames (by rw [rx]; exact hh.2)] at next
  have last : Calm (claimHeld r (heard fr.origin (addClaim fr.origin .searchClaim (e + 50000) (received fr rest s)))) :=
    claimHeld_calm (heard_calm calm)
  exact ⟨_, next, ownClaimWaits_false_iff.2 (settle_unclaimed _ last (noClaimWaits_claimHeld _ _)).1, settle_kept _ last⟩

end

/-- Settles O40: a claim takes its place in the list, withdraws an own claim that waits, and names its slots. -/
theorem claimsJoinAndLeaveTheClaimList : Obligations.ClaimsJoinAndLeaveTheClaimList := by
  intro s f e rest n ps o hs room ok hh t listed' slots place air recorded
  have stage := hs.2.2.2.2
  have search : t.search = s.search := by simp [t, afterHearing_eq]
  have tx : t.line.tx = s.line.tx := by simp [t, afterHearing_eq]
  have joins (k : ClaimKind) (x : Nat) : listed' k x = { t with search := { s.search with
      claims := listed f.origin k x s.search.claims } } := by
    simp only [listed', search]
    rfl
  refine ⟨fun hp => ?_, fun hp h => ?_, fun c hc => ?_⟩
  · intro t'
    rw [show t' = _ from joins _ _]
    refine ⟨fun h => ?_, fun h r hr hst => ?_⟩
    · refine delivery_search hs hh rfl (by rw [hp]; rfl) ?_ stage
      rw [takeClaim, withdrawOwnClaim_none (by rw [addClaim_eq]; exact ownClaimWaits_received.trans h), addClaim_eq,
        received_search]
    · obtain ⟨v, hv, gone, kept⟩ := exec_searchClaim_withdraws hs hh hp h hr hst
      rw [addClaim_eq, heard_withSearch, ← afterHearing_eq, received_search, claimHeld] at kept
      rw [show (afterHearing f rest s).line.tx = s.line.tx from tx] at kept
      exact ⟨v, hv, gone, kept⟩
  · intro t'
    have expiry : decisionTime e (setSize ps) = e + 45000 + slots * 50000 := by
      show e + 5000 + slots * 50000 + 40000 = _
      omega
    have joined : withdrawOwnClaim (addClaim f.origin .interiorSearch (decisionTime e (setSize ps)) (received f rest s))
        = { received f rest s with search := { s.search with
            claims := listed f.origin .interiorSearch (e + 45000 + slots * 50000) s.search.claims } } := by
      rw [withdrawOwnClaim_none (by rw [addClaim_eq]; exact ownClaimWaits_received.trans h), addClaim_eq, received_search,
        expiry]
    have serves : mayServe f.origin (received f rest s) = (s.search.record.isNone && air) := by
      have same (c : Claim) : (c.origin == f.origin || decide (c.expiry ≤ s.now))
          = !(c.origin != f.origin && decide (s.now < c.expiry)) := by
        rw [Bool.not_and, bne, Bool.not_not, ← decide_not]
        simp
      simp only [mayServe, air, received_search, received_now, same, List.not_any_eq_all_not]
    have taken : takeInterior f e (received f rest s) = hearInterior f.origin n ps e (received f rest s) := by
      rw [takeInterior, hp]
    have named : inSet (received f rest s).addr ps = ps.getLsbD s.addr.val := by rw [received_addr]; rfl
    rw [show t' = _ from joins _ _]
    refine ⟨fun hin hrec hair => ?_, fun hno => ?_⟩
    · refine delivery_search (x := { s.search with
          claims := listed f.origin .interiorSearch (e + 45000 + slots * 50000) s.search.claims
          record := some (dutyRecord f.origin n ps e s) }) hs hh rfl (by rw [hp]; rfl) ?_ (by rintro _ ⟨⟩; simp [dutyRecord])
      rw [taken, hearInterior, joined, if_pos (by rw [serves, named, hin, hrec, hair]; rfl)]
      simp [setRecord, dutyRecord]
    · refine delivery_search hs hh rfl (by rw [hp]; rfl) ?_ stage
      rw [taken, hearInterior, joined, if_neg]
      rw [serves, named]
      rcases hno with hno | hno | hno
      · simp [hno]
      · simp [Option.isSome_iff_ne_none.1 hno]
      · simp [hno]
  · have ends : exec (.claimExpiry o) s = whileAwake (fun t => atTime (claimEnd o t) (removeClaim o) t) s := rfl
    have calm : Calm (advanceTo c.expiry s) := calm_advanceTo hs
    exact timer_kept hs ends (e := c.expiry) (by rw [claimEnd, Option.mem_def.1 hc]; rfl)
      (by rw [removeClaim, advanceTo_search]) (calm_of_same calm (by simp))

end Sys2Proof.Proofs.Touches
end

section
/-! The slots of an interior search, searched and reported (6.4). -/

namespace Sys2Proof.Proofs.Touches

open Sys2Proof Sys2Proof.Machine Sys2Proof.Proofs.Steps Sys2Proof.Proofs.Invariants Sys2Proof.Proofs.KeyFrames
open Sys2Proof.Proofs.Ends Sys2Proof.Proofs.Glass Sys2Proof.Proofs.Delivery Sys2Proof.Proofs.Release Sys2Proof.Proofs.Intents
open Sys2Proof.Proofs.Crash Sys2Proof.Proofs.Arbiter Sys2Proof.Proofs.Touches

section
variable {s t m : State} {r : SearchRec}

/-- The search with another record. -/
def withSearchRecord (q : Option SearchRec) (s : State) : State := { s with search := { s.search with record := q } }

theorem withSearchRecord_calm {q : Option SearchRec} (hs : Calm s) (hq : ∀ r ∈ q, r.stage ≠ .interiorClaiming) :
    Calm (withSearchRecord q s) := ⟨hs.1, hs.2.1, hs.2.2.1, hs.2.2.2.1, hq⟩

theorem withRecord_some {f : SearchRec → State → State} (h : s.search.record = some r) : withRecord f s = f r s := by
  rw [withRecord, h]

/-! ## The strongest candidate (R123, R129) -/

/-- The higher of two strengths. -/
def higher (b : Byte) (c : Candidate) : Byte := if b.toNat < c.strength.toNat then c.strength else b

theorem stronger_strength (a b : Candidate) : (stronger a b).strength = higher a.strength b := by
  unfold stronger higher
  by_cases h : a.strength.toNat < b.strength.toNat
  · rw [if_pos (.inl h), if_pos h]
  · rw [if_neg h]
    split
    · rename_i h'
      obtain h' | ⟨h', -⟩ := h'
      · exact absurd h' h
      · exact h'.symm
    · rfl

theorem foldl_stronger_strength (cs : List Candidate) (c : Candidate) :
    (cs.foldl stronger c).strength = cs.foldl higher c.strength := by
  induction cs generalizing c with
  | nil => rfl
  | cons x xs ih => rw [List.foldl_cons, List.foldl_cons, ih, stronger_strength]

theorem bestStrength_eq (cs : List Candidate) : bestStrength cs = cs.foldl higher 0#8 := by
  cases cs with
  | nil => rfl
  | cons c cs =>
      have first : higher 0#8 c = c.strength := by
        unfold higher
        split
        · rfl
        · rename_i h
          exact BitVec.eq_of_toNat_eq (by simp at h; simp [h])
      rw [bestStrength, decidingKey, List.foldl_cons, first, ← foldl_stronger_strength]

/-! ## The timers of the own slot (R129) -/

theorem reportless_searchReport (a : Addr) (x : SearchResult) (n b : Byte) : Reportless (.searchReport a x n b) := fun _ => rfl

theorem reportSlot_adds (x : SearchResult) (b : Byte) :
    Adds [.searchReport r.requester x r.number b] (withSearchRecord none s) (reportSlot r x b s) :=
  adds_queueFrame _ rfl fun _ => reportless_searchReport _ _ _ _

variable {c : Instr} {f : SearchRec → State → State} {g : State → Option Nat} {e : Nat} {q : Option SearchRec}

/-- A timer of the open search that changes its record alone. -/
theorem searchTimer_records (hs : Calm s) (hr : s.search.record = some r)
    (hc : exec c s = whileAwake (fun t => atTime (g t) (withRecord f) t) s) (hg : g s = some e)
    (hf : f r (advanceTo e s) = withSearchRecord q (advanceTo e s)) (hq : ∀ r ∈ q, r.stage ≠ .interiorClaiming) :
    ∃ v, exec c s = .next v ∧ Kept (withSearchRecord q (advanceTo e s)) v :=
  timer_kept hs hc hg (by rw [withRecord_some (by simpa using hr), hf]) (withSearchRecord_calm (calm_advanceTo hs) hq)

/-- A timer of the open search that ends it with a SEARCH REPORT. -/
theorem searchTimer_reports {x : SearchResult} {b : Byte} {r' : SearchRec} (hs : Calm s) (hr : s.search.record = some r)
    (hc : exec c s = whileAwake (fun t => atTime (g t) (withRecord f) t) s) (hg : g s = some e)
    (hf : f r (advanceTo e s) = reportSlot r' x b (advanceTo e s)) (ok : s.line.state = .ok) (room : Roomy 4 s) :
    ∃ v, exec c s = .next v ∧ Kept (withSearchRecord none (advanceTo e s)) v
      ∧ Queued (.searchReport r'.requester x r'.number b) v := by
  obtain ⟨v, hv, kept, queued⟩ := timer_adds (f := withRecord f) (e := e) hs hc hg
    (by rw [withRecord_some (r := r) (by simpa using hr), hf]; exact reportSlot_adds x b)
    (withSearchRecord_calm (calm_advanceTo hs) (by rintro _ ⟨⟩)) (by simp)
  refine ⟨v, hv, kept, queued (by simpa [withSearchRecord] using ok) ?_ _ (List.mem_singleton.2 rfl) (by simp [Payload.kind])⟩
  simpa [Roomy, withSearchRecord] using room

theorem startSlot_poor (ok : t.line.state = .ok) (h : t.power.supply.poor = true) :
    startSlot r t = if r.kind = .slotDuty then reportSlot { r with slotAt := none } .skipped 0#8 t
      else withSearchRecord (some (recordResult t.addr .skipped { r with slotAt := none })) t := by
  rw [startSlot]
  simp only
  rw [if_neg (by simp [inLineFault, ok]), if_pos h]
  rfl

theorem startSlot_good (ok : t.line.state = .ok) (h : t.power.supply.poor = false) :
    startSlot r t = driveChallenge .inner { r with slotAt := none } t := by
  rw [startSlot]
  simp only
  rw [if_neg (by simp [inLineFault, ok]), if_neg (by simp [h])]

end

/-- Settles O42: the own slot is driven or skipped, its window's end is recorded or reported, and a delivered report of
the open interior search is recorded. -/
theorem interiorSlotsAreSearchedAndReported : Obligations.InteriorSlotsAreSearchedAndReported := by
  intro s r f e rest res m b hs room ok hr best recorded found noted
  have stage : r.stage ≠ .interiorClaiming := hs.2.2.2.2 r hr
  have line (x : Nat) : (advanceTo x s).line.state = .ok := by simpa using ok
  have held (x : Nat) (q : Option SearchRec) : recorded (advanceTo x s) q = withSearchRecord q (advanceTo x s) := rfl
  refine ⟨fun x hx => ?_, fun w hw => ?_, fun hh hp => ?_⟩
  · intro n
    have at_ : slotStartAt s = some x := by rw [slotStartAt, hr]; exact hx
    refine ⟨fun good => ?_, fun poor duty => ?_, fun poor duty => ?_⟩
    · have drives : withRecord startSlot n = driveChallenge .inner { r with slotAt := none } n := by
        rw [withRecord_some (by simpa [n] using hr), startSlot_good (line x) (by simpa [n] using good)]
      refine timer_kept hs rfl (e := x) (g := slotStartAt) (f := withRecord startSlot) at_ ?_ ?_
      · rw [drives]
        simp only [driveChallenge, advanceTo_search, advanceTo_freeCount, n]
      · have calm : Calm n := calm_advanceTo hs
        refine ⟨calm.1, calm.2.1, calm.2.2.1, calm.2.2.2.1, ?_⟩
        rintro _ ⟨⟩
        show (if r.stage = .interior then SearchStage.interior else .collecting) ≠ _
        split <;> simp
    · exact searchTimer_reports (r' := { r with slotAt := none }) (c := .slotStart) (g := slotStartAt) hs hr rfl at_
        (by rw [startSlot_poor (line x) (by simpa using poor), if_pos duty]) ok room
    · rw [held]
      refine searchTimer_records (c := .slotStart) (g := slotStartAt) hs hr rfl at_ ?_ (by rintro _ ⟨⟩; exact stage)
      rw [startSlot_poor (line x) (by simpa using poor), if_neg duty, advanceTo_addr]
      rfl
  · intro n
    have best_ : bestStrength r.candidates = best := bestStrength_eq r.candidates
    refine ⟨fun duty => ?_, fun duty inside => ?_⟩
    · refine searchTimer_reports (r' := { r with windowEnd := none }) (c := .slotWindowEnd) (g := slotWindow) hs hr rfl
        (by rw [slotWindow, hr]; simp only [duty, true_or, if_true]; exact hw) ?_ ok room
      rw [endSlot]
      simp only [duty, if_true, best_, advanceTo_cfg]
      rfl
    · rw [held]
      refine searchTimer_records (c := .slotWindowEnd) (g := slotWindow) hs hr rfl
        (by rw [slotWindow, hr]; simp only [inside, or_true, if_true]; exact hw) ?_ (by rintro _ ⟨⟩; exact stage)
      rw [endSlot]
      simp only [if_neg duty, best_, advanceTo_cfg, advanceTo_addr]
      rfl
  · intro x t
    have search : t.search = s.search := by simp [t, afterHearing_eq]
    have hears : takeReport f e (received f rest s) = hearReport f.origin s.addr res m (received f rest s) := by
      rw [takeReport, hp]
    refine ⟨fun hk hst hn => ?_, fun hno => ?_⟩
    · have noted_ : recordResult f.origin x r = { r with participants := noted f.origin x } := rfl
      have state : recorded t (some (recordResult f.origin x r))
          = { t with search := { s.search with record := some (recordResult f.origin x r) } } := by
        simp only [recorded, search]
      rw [← noted_, state]
      refine delivery_search hs hh rfl (by rw [hp]; rfl) ?_ (by rintro _ ⟨⟩; exact stage)
      rw [hears]
      unfold hearReport
      simp only [received_search, hr, hk, hst, hn, received_addr, and_self, if_true]
      cases res <;> simp [setRecord, x]
    · have state : t = { t with search := s.search } := by rw [← search]
      rw [state]
      refine delivery_search hs hh rfl (by rw [hp]; rfl) ?_ hs.2.2.2.2
      rw [hears]
      unfold hearReport
      simp only [received_search, hr]
      rw [if_neg (by rintro ⟨-, hk, hst, hn⟩; simp [hk, hst, hn] at hno), ← received_search (fr := f) (rest := rest)]

end Sys2Proof.Proofs.Touches
end

section
/-! The supply state: its samples, falls and rises (9.1). -/

namespace Sys2Proof.Proofs.Supply

open Sys2Proof Sys2Proof.Machine Sys2Proof.Proofs.Steps Sys2Proof.Proofs.Invariants Sys2Proof.Proofs.KeyFrames
open Sys2Proof.Proofs.Ends Sys2Proof.Proofs.Glass Sys2Proof.Proofs.Delivery Sys2Proof.Proofs.Release Sys2Proof.Proofs.Intents
open Sys2Proof.Proofs.Crash Sys2Proof.Proofs.Arbiter Sys2Proof.Proofs.Touches

section
variable {s t x : State} {u : Nat} {v : Supply}

/-! ## A periodic sample (R170, R171) -/

/-- A periodic sample of `u` is a fast fall (R170). -/
abbrev fallsFast (u : Nat) (s : State) : Bool := s.power.samples[19]?.any fun x => decide (u + 1500 < x)

theorem fastFall_eq (u : Nat) (s : State) : fastFall u s = fallsFast u s := by
  unfold fastFall fallsFast
  cases s.power.samples[19]? <;> rfl

/-- The supply state a sample indicates (R170). -/
def indicated (u : Nat) (s : State) : Supply := if fallsFast u s ∧ 7500 ≤ u then .crank else levelState u

theorem indicated_eq (u : Nat) (s : State) :
    (if fallsFast u s then (levelState u).lower .crank else levelState u) = indicated u s := by
  unfold indicated
  by_cases h : fallsFast u s = true
  · simp only [h, if_true, true_and, levelState]
    split
    · rw [if_pos (by omega)]; rfl
    · split
      · rfl
      · split <;> rfl
  · rw [if_neg h, if_neg (fun hn => h hn.1)]

/-- A rise measure after a sample at `now` (R171). -/
def remeasured (level u now : Nat) (m : Option Nat) (fast restart : Bool) : Option Nat :=
  if level ≤ u then (if fast && restart then some now else some (m.getD now)) else none

/-- The state with the sample `u`, the supply state as it was (R171). -/
def sampledState (u : Nat) (s : State) : State :=
  let n := advanceTo (s.power.sampleAt + 1000) s
  { n with
    pins := { s.pins with supplySense := u }
    power := { s.power with
      sampleAt := n.now, samples := (u :: s.power.samples).take 20
      rise6300 := remeasured 6300 u n.now s.power.rise6300 (fallsFast u s) false
      rise7800 := remeasured 7800 u n.now s.power.rise7800 (fallsFast u s) true
      rise9300 := remeasured 9300 u n.now s.power.rise9300 (fallsFast u s) true } }

theorem sampledState_calm (hs : Calm s) : Calm (sampledState u s) :=
  calm_of_same (s := advanceTo (s.power.sampleAt + 1000) s) (calm_advanceTo hs) (by simp [sampledState])

/-- The state before the sample is judged. -/
def sensedState (u : Nat) (s : State) : State :=
  let n := advanceTo (s.power.sampleAt + 1000) s
  { n with pins := { s.pins with supplySense := u }, power := { s.power with sampleAt := n.now } }

theorem periodicSample_eq (u : Nat) (s : State) :
    periodicSample u (sensedState u s) = supplyFalls (indicated u s) (sampledState u s) := by
  have fast : fastFall u (sensedState u s) = fallsFast u s := fastFall_eq u _
  unfold periodicSample
  simp only [fast]
  rw [indicated_eq]
  congr 1
  simp only [takeMeasures, Machine.measure, remeasure, sampledState, sensedState, remeasured]
  cases fallsFast u s <;> simp

theorem advanceTo_pins_sense (n u : Nat) (s : State) : advanceTo n { s with pins := { s.pins with supplySense := u } }
    = { advanceTo n s with pins := { s.pins with supplySense := u } } := by
  unfold advanceTo
  simp only
  split <;> rfl

theorem exec_supplySample (hs : Calm s) (hu : 4500 ≤ u) :
    exec (.supplySample u) s = .next (settle (supplyFalls (indicated u s) (sampledState u s))) := by
  have next : exec (.supplySample u) s = .next (settle (supplySampleOp u s)) := if_neg (by simp [hs.1])
  have up : awake s = true := by simp [awake, hs.2.1]
  rw [next, ← periodicSample_eq, supplySampleOp]
  simp only [up, if_true, if_neg (by omega : ¬ u < 4500)]
  rw [advanceTo_pins_sense]
  simp only [sensedState, advanceTo_power]

/-! ## A change of the supply state (R22, R65, R121, R190) -/

/-- The state with another supply state. -/
def supplied (v : Supply) (s : State) : State := { s with power := { s.power with supply := v } }

theorem supplied_calm (hs : Calm s) : Calm (supplied v s) := calm_of_same hs rfl

theorem supplyFalls_stays (h : s.power.supply.rank ≤ v.rank) : supplyFalls v s = s := if_neg (by omega)

theorem setSupply_changes (h : s.power.supply ≠ v) :
    setSupply v s = storeSupply (searchSupply (latchSupply (windowSupply (supplied v s)))) := if_neg h

theorem supplyFalls_falls (h : v.rank < s.power.supply.rank) :
    supplyFalls v s = storeSupply (searchSupply (latchSupply (windowSupply (supplied v s)))) := by
  rw [supplyFalls, if_pos h, setSupply_changes (by rintro rfl; omega)]

theorem storeSupply_idle (h : s.store.writing = none) : storeSupply s = s := by
  have store : ({ s.store with writing := none } : Store) = s.store := by rw [← h]
  simp [storeSupply, h, store]

theorem windowSupply_idle (h : s.win.motion = .idle) : windowSupply s = s := by
  unfold windowSupply
  rw [h]

theorem latchSupply_idle (h : s.latch.seq ≠ .releasing) (hw : s.latch.supplyWait = none) : latchSupply s = s := by
  rw [latchSupply, if_neg (by rintro ⟨-, h'⟩; exact h h'), if_neg (by simp [hw])]

theorem latchSupply_fallen (h : s.latch.seq ≠ .releasing) (hp : s.power.supply.poor = true) : latchSupply s = s := by
  rw [latchSupply, if_neg (by rintro ⟨-, h'⟩; exact h h'), if_neg (by simp [hp])]

/-- No search is open, no touch is held and no burst is driven. -/
abbrev SearchRests (s : State) : Prop := s.search.record = none ∧ s.search.held = none ∧ s.search.burst = none

theorem searchSupply_rests (h : SearchRests s) : searchSupply s = s := by
  obtain ⟨hr, hh, hb⟩ := h
  have same : ({ s.search with held := none, burst := none } : Search) = s.search := by rw [← hh, ← hb]
  have under : searchUnder s = { s with search := { s.search with held := none, burst := none } } := by
    simp only [searchUnder, stopBurst, hr]
  unfold searchSupply
  split
  · rw [under, same]
  · rfl

/-- A queued frame leaves a search unit at rest. -/
theorem queueFrame_rests {p : Payload} (h : s.search.record = none) : (queueFrame p s).search = s.search := by
  have lost (t : State) (ht : t.search.record = none) : claimLost t = t := by simp [claimLost, ht]
  have told (e : TxEntry) (t : State) (ht : t.search.record = none) : (Machine.tell e t).search = t.search := by
    unfold Machine.tell notSent
    split
    · rfl
    · split
      · rfl
      · rw [lost t ht, ite_self]
      · rw [lost t ht, ite_self]
      · rfl
      · rfl
      · split <;> rfl
      · rfl
  unfold queueFrame queueAs queueEntry
  split
  · exact told _ s h
  · split
    · rfl
    · split
      · exact told _ _ h
      · rfl

theorem motionEnds_search (r : Request) (o : Outcome) (s : State) : (motionEnds r o s).search = s.search := by
  rw [motionEnds_eq]
  split
  · rw [queueRecord_eq]; rfl
  · rfl

theorem motionEnds_writing (r : Request) (o : Outcome) (s : State) : (motionEnds r o s).store.writing = s.store.writing := by
  rw [motionEnds_eq]
  split
  · rw [queueRecord_eq]; rfl
  · rfl

theorem endMotion_rests {r : Request} (o : Outcome) (hreq : s.win.req = some r) (hd : s.win.drop = none)
    (h : SearchRests s) : SearchRests (endMotion o s) := by
  have report : (reportMotion r o s).search = s.search := by
    unfold reportMotion
    split
    · exact queueFrame_rests h.1
    · rfl
  have quiet : (motionEnds r o (reportMotion r o s)).win.drop = none := by
    rw [motionEnds_drop, (reportMotion_adds r o s).quiet.win, hd]
  unfold endMotion
  rw [finishMotion_eq o hreq hd, serveWaitingDrop_none quiet, SearchRests, motionEnds_search, report]
  exact h

/-- A fall that ends no motion, release or search (R170). -/
theorem supplyFalls_rests (h : v.rank < s.power.supply.rank) (hm : s.win.motion = .idle) (hl : s.latch.seq ≠ .releasing)
    (hw : s.latch.supplyWait = none) (hr : SearchRests s) (hst : s.store.writing = none) : supplyFalls v s = supplied v s := by
  rw [supplyFalls_falls h, windowSupply_idle (s := supplied v s) hm, latchSupply_idle (s := supplied v s) hl hw,
    searchSupply_rests (s := supplied v s) hr, storeSupply_idle (s := supplied v s) hst]

/-- A fall to UNDER ends a RELEASING sequence with SUPPLY (R65). -/
theorem supplyFalls_release (h : v.rank < s.power.supply.rank) (hv : v = .under) (hm : s.win.motion = .idle)
    (hl : s.latch.seq = .releasing) (hr : SearchRests s) (hst : s.store.writing = none) :
    supplyFalls v s = endSequence .supply (supplied v s) := by
  rw [supplyFalls_falls h, windowSupply_idle (s := supplied v s) hm, latchSupply, if_pos ⟨hv, hl⟩,
    searchSupply_rests (s := endSequence .supply (supplied v s)) hr,
    storeSupply_idle (s := endSequence .supply (supplied v s)) hst]

/-- A fall to CRANK pauses a moving motion (R22). -/
theorem supplyFalls_pauses (h : v.rank < s.power.supply.rank) (hv : v = .crank) (hm : s.win.motion = .moving)
    (hd : s.win.drop = none) (hl : s.latch.seq ≠ .releasing) (hw : s.latch.supplyWait = none) (hr : SearchRests s)
    (hst : s.store.writing = none) : supplyFalls v s = pauses (supplied v s) := by
  have window : windowSupply (supplied v s) = pauses (supplied v s) := by
    rw [← pauseMotion_eq (s := supplied v s) hd]
    unfold windowSupply
    rw [show (supplied v s).win.motion = .moving from hm, show (supplied v s).power.supply = .crank from hv]
  rw [supplyFalls_falls h, window, latchSupply_idle (s := pauses (supplied v s)) hl hw,
    searchSupply_rests (s := pauses (supplied v s)) hr, storeSupply_idle (s := pauses (supplied v s)) hst]

/-- A fall to UNDER ends a moving motion STOPPED (R22). -/
theorem supplyFalls_stops {r : Request} (h : v.rank < s.power.supply.rank) (hv : v = .under) (hm : s.win.motion = .moving)
    (hreq : s.win.req = some r) (hd : s.win.drop = none) (hl : s.latch.seq ≠ .releasing) (hr : SearchRests s)
    (hst : s.store.writing = none) : supplyFalls v s = endMotion .stopped (supplied v s) := by
  have window : windowSupply (supplied v s) = endMotion .stopped (supplied v s) := by
    unfold windowSupply
    rw [show (supplied v s).win.motion = .moving from hm, show (supplied v s).power.supply = .under from hv]
  let t := endMotion .stopped (supplied v s)
  have q := (endMotion_adds .stopped (s := supplied v s) hreq hd).quiet
  have latch : t.latch = s.latch := by rw [q.latch, motionEnds_latch]; rfl
  have supply : t.power.supply = v := by
    rw [show t.power.supply = (motionEnds r .stopped (supplied v s)).power.supply from (congrArg Power.supply q.power :),
      motionEnds_power]
    rfl
  have store : t.store.writing = none := by
    rw [show t.store.writing = (motionEnds r .stopped (supplied v s)).store.writing from (congrArg Store.writing q.store :),
      motionEnds_writing]
    exact hst
  rw [supplyFalls_falls h, window, latchSupply_fallen (s := t) (by rwa [latch]) (by rw [supply, hv]; rfl),
    searchSupply_rests (s := t) (endMotion_rests .stopped hreq hd hr), storeSupply_idle (s := t) store]

/-! ## Rises (R171) -/

/-- A rise at an idle window, with no release that waits for it. -/
theorem supplyRises_rests (h : s.power.supply.rank < v.rank) (hrise : risen s.now s.power = v) (hm : s.win.motion = .idle)
    (hl : s.latch.seq ≠ .releasing) (hw : s.latch.supplyWait = none) (hr : SearchRests s)
    (hst : s.store.writing = none) : supplyRises s = supplied v s := by
  have ne : s.power.supply ≠ v := by rintro rfl; omega
  rw [supplyRises, hrise, if_pos h, setSupply_changes ne, windowSupply_idle (s := supplied v s) hm,
    latchSupply_idle (s := supplied v s) hl hw, searchSupply_rests (s := supplied v s) hr,
    storeSupply_idle (s := supplied v s) hst]

/-- The rise that the measure `m` brings at its 50 ms. -/
theorem exec_supplyRise {m : Nat} (hs : Calm s) (hat : riseAt s.power = some (m + 50000))
    (hrise : ∀ now, m + 50000 ≤ now → risen now s.power = v) (h : s.power.supply.rank < v.rank)
    (hm : s.win.motion = .idle) (hl : s.latch.seq ≠ .releasing) (hw : s.latch.supplyWait = none) (hr : SearchRests s)
    (hst : s.store.writing = none) :
    ∃ v', exec .supplyRise s = .next v' ∧ Kept (supplied v (advanceTo (m + 50000) s)) v' := by
  refine timer_kept hs rfl (e := m + 50000) (g := fun t => riseAt t.power) (f := supplyRises) hat ?_
    (supplied_calm (calm_advanceTo hs))
  refine supplyRises_rests ?_ ?_ ?_ ?_ ?_ ?_ ?_
  · simpa using h
  · rw [advanceTo_power]
    exact hrise _ (by simp)
  · simpa using hm
  · simpa using hl
  · simpa using hw
  · simpa [SearchRests] using hr
  · simpa using hst

end

/-- Settles O51: the sample's measures and the falls at once, and the rise 50 ms after its measure began. -/
theorem supplyFallsAtOnceAndRisesAfterFiftyMs : Obligations.SupplyFallsAtOnceAndRisesAfterFiftyMs := by
  intro s u hs hu hd hrec hheld hburst hst hw n fast level since sampled fallen
  have state : sampled = sampledState u s := by
    simp only [sampled, sampledState, remeasured, since, n, fast]
  have level_ : level = indicated u s := rfl
  have next := exec_supplySample hs hu
  have calm : Calm sampled := by rw [state]; exact sampledState_calm hs
  have cf : Calm fallen := supplied_calm calm
  have rests : SearchRests sampled := by simp [SearchRests, sampled, n, hrec, hheld, hburst]
  have write : sampled.store.writing = none := by simp [sampled, n, hst]
  have drop : sampled.win.drop = none := by simp [sampled, n, hd]
  have wait : sampled.latch.supplyWait = none := by simp [sampled, n, hw]
  have latch : sampled.latch = s.latch := by simp [sampled, n]
  have motion : sampled.win.motion = s.win.motion := by simp [sampled, n]
  have req : sampled.win.req = s.win.req := by simp [sampled, n]
  rw [← state, ← level_] at next
  refine ⟨fun h => ?_, fun h => ⟨fun hreq hm hl => ?_, fun hv hreq hm hl => ?_, fun r hr hm hsrc hl => ⟨fun hv => ?_, fun hv => ?_⟩⟩,
    fun hm hl => ?_⟩
  · rw [supplyFalls_stays (s := sampled) h] at next
    exact kept_of next calm
  · rw [supplyFalls_rests (s := sampled) h (motion.trans hm) (by rwa [latch]) wait rests write] at next
    exact kept_of next cf
  · rw [supplyFalls_release (s := sampled) h hv (motion.trans hm) (by rwa [latch]) rests write] at next
    refine kept_of (next.trans ?_) (calm_of_same (s := fallen) cf (by rfl))
    rw [endSequence_eq]
    show _ = Host.Outcome.next (settle { fallen with latch := s.latch.ended .supply })
    rw [← latch]
    rfl
  · rw [supplyFalls_stops (s := sampled) h hv (motion.trans hm) (req.trans hr) drop (by rwa [latch]) rests write] at next
    exact ⟨_, next, (endMotion_adds .stopped (s := fallen) (req.trans hr) drop).kept (motionEnds_calm cf) (reportOf_length _ _ _)⟩
  · rw [supplyFalls_pauses (s := sampled) h hv (motion.trans hm) drop (by rwa [latch]) wait rests write] at next
    exact kept_of next (calm_of_same cf (by rfl))
  · intro risen
    have resting : SearchRests s := ⟨hrec, hheld, hburst⟩
    refine ⟨fun m hr9 hp => ?_, fun m hr7 hp hr9 => ?_, fun m hr6 hp hr7 hr9 => ?_⟩
    · have rises := exec_supplyRise (v := .normal) (m := m) hs (by simp [riseAt, hp, Option.mem_def.1 hr9, Supply.rank]) (fun now h => by
        simp [Machine.risen, Option.mem_def.1 hr9, h]) (by simp [hp, Supply.rank]) hm hl hw resting hst
      exact rises
    · have rises := exec_supplyRise (v := .low) (m := m) hs (by simp [riseAt, hp, hr9, Option.mem_def.1 hr7, Supply.rank]) (fun now h => by
        simp [Machine.risen, Option.mem_def.1 hr7, hr9, h]) (by simp [hp, Supply.rank]) hm hl hw resting hst
      exact rises
    · have rises := exec_supplyRise (v := .crank) (m := m) hs (by simp [riseAt, hp, hr9, hr7, Option.mem_def.1 hr6, Supply.rank]) (fun now h => by
        simp [Machine.risen, Option.mem_def.1 hr6, hr7, hr9, h]) (by simp [hp, Supply.rank]) hm hl hw resting hst
      exact rises

end Sys2Proof.Proofs.Supply
end

section
/-! UNDER and the search unit (6.3, 6.4). -/

namespace Sys2Proof.Proofs.Supply

open Sys2Proof Sys2Proof.Machine Sys2Proof.Proofs.Steps Sys2Proof.Proofs.Invariants Sys2Proof.Proofs.KeyFrames
open Sys2Proof.Proofs.Ends Sys2Proof.Proofs.Glass Sys2Proof.Proofs.Delivery Sys2Proof.Proofs.Release Sys2Proof.Proofs.Intents
open Sys2Proof.Proofs.Crash Sys2Proof.Proofs.Arbiter Sys2Proof.Proofs.Touches

section
variable {s x : State} {u : Nat} {r : SearchRec}

theorem indicated_under (hu : u < 6000) : indicated u s = .under := by
  unfold indicated levelState
  rw [if_neg (by rintro ⟨-, h⟩; omega), if_neg (by omega), if_neg (by omega), if_neg (by omega)]

theorem bursting_iff : bursting s = true ↔ ∃ b ∈ s.search.burst, s.now < b.2 := by
  unfold bursting
  cases s.search.burst with
  | none => simp
  | some b => simp

/-! ## What UNDER leaves of a search (R119, R121, R129, R131) -/

/-- The search unit at UNDER: the record `q` left, no touch held and no burst driven. -/
def leftUnder (q : Option SearchRec) (s : State) : State :=
  { s with search := { s.search with record := q, held := none, burst := none } }

/-- The search unit's claim without a job, and the reports of it dropped (R126, R131, R141). -/
def claimAbandoned (s : State) : State :=
  { s with line := { s.line with
      tx := (s.line.tx.filter fun e => e.inTx || e.jobless || !isClaimPayload e.frame.payload).map fun e =>
        if isClaimPayload e.frame.payload then { e with jobless := true } else e
      rx := s.line.rx.filter fun x => match x with
        | .sent p _ => !isClaimPayload p
        | .frame _ _ => true } }

theorem abandonClaim_eq (s : State) : abandonClaim s = claimAbandoned s := rfl

theorem searchUnder_entry (hr : s.search.record = some r) (hk : r.kind = .entry) :
    searchUnder s = leftUnder (if bursting s then none else some r) s := by
  simp only [searchUnder, stopBurst, hr, hk]
  split <;> simp [setRecord, leftUnder]

theorem searchUnder_duty (hr : s.search.record = some r) (hk : r.kind = .slotDuty) :
    searchUnder s = if bursting s then queueFrame (.searchReport r.requester .skipped r.number 0#8) (leftUnder none s)
      else leftUnder (some r) s := by
  simp only [searchUnder, stopBurst, hr, hk]
  split <;> simp [reportSlot, setRecord, leftUnder]

theorem searchUnder_collecting (hr : s.search.record = some r) (hk : r.kind = .passiveLock) (hst : r.stage = .collecting) :
    searchUnder s = leftUnder none s := by
  simp only [searchUnder, stopBurst, hr, hk, hst, setRecord, leftUnder]

theorem searchUnder_claiming (hr : s.search.record = some r) (hk : r.kind = .passiveLock) (hst : r.stage = .claiming) :
    searchUnder s = leftUnder none (claimAbandoned s) := by
  simp only [searchUnder, stopBurst, hr, hk, hst, abandonClaim_eq, claimAbandoned, setRecord, leftUnder]

theorem searchUnder_interior (hr : s.search.record = some r) (hk : r.kind = .passiveLock) (hst : r.stage = .interior) :
    searchUnder s = leftUnder (some { skipOwn s.addr r with slotAt := none, windowEnd := none }) s := by
  simp only [searchUnder, stopBurst, hr, hk, hst, setRecord, leftUnder]

theorem leftUnder_calm {q : Option SearchRec} (h : Calm x) (hq : ∀ r ∈ q, r.stage ≠ .interiorClaiming) :
    Calm (leftUnder q x) := ⟨h.1, h.2.1, h.2.2.1, h.2.2.2.1, hq⟩

/-- The state with the sample `u` in UNDER. -/
def underState (u : Nat) (s : State) : State := supplied .under (sampledState u s)

/-- A fall to UNDER with no motion, release or write running. -/
theorem exec_supplySample_under (hs : Calm s) (hu : 4500 ≤ u) (hu' : u < 6000) (hp : s.power.supply ≠ .under)
    (hm : s.win.motion = .idle) (hl : s.latch.seq ≠ .releasing) :
    exec (.supplySample u) s = .next (settle (storeSupply (searchUnder (underState u s)))) := by
  have falls : (Supply.under).rank < (sampledState u s).power.supply.rank := by
    show 0 < s.power.supply.rank
    cases h : s.power.supply <;> simp_all [Supply.rank]
  have motion : (underState u s).win.motion = .idle := by simpa [underState, supplied, sampledState] using hm
  have seq : (underState u s).latch.seq ≠ .releasing := by simpa [underState, supplied, sampledState] using hl
  have search : searchSupply (underState u s) = searchUnder (underState u s) := if_pos rfl
  rw [exec_supplySample hs hu, indicated_under hu', supplyFalls_falls falls]
  show Host.Outcome.next (settle (storeSupply (searchSupply (latchSupply (windowSupply (underState u s)))))) = _
  rw [windowSupply_idle motion, latchSupply_fallen seq rfl, search]

theorem storeSupply_queueFrame {p : Payload} (h : x.store.writing = none) :
    storeSupply (queueFrame p x) = queueFrame p x :=
  storeSupply_idle (((congrArg Store.writing (queueFrame_quiet p x).store :)).trans h)

end

/-- Settles O46: UNDER acts on the open search by its kind, its stage and whether a burst is driven. -/
theorem underEndsWhatTheSearchUnitDrives : Obligations.UnderEndsWhatTheSearchUnitDrives := by
  intro s r u hs hu hu' hp hm hl hst hr n fallen leaves bursting' answers
  have state : fallen = underState u s := by
    simp only [fallen, underState, supplied, sampledState, remeasured, n, if_neg (by omega : ¬ 6300 ≤ u),
      if_neg (by omega : ¬ 7800 ≤ u), if_neg (by omega : ¬ 9300 ≤ u)]
  have left (q : Option SearchRec) : leaves q = leftUnder q (underState u s) := by
    simp only [leaves, ← state, leftUnder, fallen, n, advanceTo_search]
  have cu : Calm (underState u s) := supplied_calm (sampledState_calm hs)
  have stage : r.stage ≠ .interiorClaiming := hs.2.2.2.2 r hr
  have record : (underState u s).search.record = some r := by rw [← state]; simpa [fallen, n] using hr
  have write : (underState u s).store.writing = none := by rw [← state]; simpa [fallen, n] using hst
  have addr : (underState u s).addr = s.addr := by simp [underState, supplied, sampledState]
  have burst : bursting (underState u s) = true ↔ bursting' := by
    rw [bursting_iff, ← state]
    simp [fallen, n, bursting']
  have next := exec_supplySample_under hs hu hu' hp hm hl
  have answer {q : Option SearchRec} (h : searchUnder (underState u s) = leftUnder q (underState u s))
      (hq : ∀ r ∈ q, r.stage ≠ .interiorClaiming) : answers (leaves q) := by
    rw [left]
    rw [h, storeSupply_idle (s := leftUnder q (underState u s)) write] at next
    exact kept_of next (leftUnder_calm cu hq)
  refine ⟨fun hk => ⟨fun hb => ?_, fun hb => ?_⟩, fun hk => ⟨fun hb => ?_, fun hb => ?_⟩,
    fun hk => ⟨fun hst' => ?_, fun hst' => ?_, fun hst' => ?_⟩⟩
  · exact answer (by rw [searchUnder_entry record hk, if_pos (burst.2 hb)]) (by rintro _ ⟨⟩)
  · exact answer (by rw [searchUnder_entry record hk, if_neg (fun h => hb (burst.1 h))]) (by rintro _ ⟨⟩; exact stage)
  · have calm : Calm (leftUnder none (underState u s)) := leftUnder_calm cu (by rintro _ ⟨⟩)
    rw [searchUnder_duty record hk, if_pos (burst.2 hb),
      storeSupply_queueFrame (x := leftUnder none (underState u s)) write] at next
    have adds : Adds [.searchReport r.requester .skipped r.number 0#8] (leftUnder none (underState u s))
        (queueFrame (.searchReport r.requester .skipped r.number 0#8) (leftUnder none (underState u s))) :=
      adds_queueFrame _ rfl fun _ => reportless_searchReport _ _ _ _
    have line : (leftUnder none (underState u s)).line.state = s.line.state := by
      simp [leftUnder, underState, supplied, sampledState]
    have tx : (leftUnder none (underState u s)).line.tx = s.line.tx := by
      simp [leftUnder, underState, supplied, sampledState]
    refine ⟨_, next, by rw [left]; exact adds.kept calm (by simp), fun ok room => ?_⟩
    exact adds.queuedAtEnd calm (by simp) (line.trans ok) ((roomy_congr tx).2 room) (List.mem_singleton.2 rfl) (by simp [Payload.kind])
  · exact answer (by rw [searchUnder_duty record hk, if_neg (fun h => hb (burst.1 h))]) (by rintro _ ⟨⟩; exact stage)
  · exact answer (searchUnder_collecting record hk hst') (by rintro _ ⟨⟩)
  · rw [searchUnder_claiming record hk hst', storeSupply_idle (s := leftUnder none (claimAbandoned (underState u s))) write] at next
    have tx : (underState u s).line.tx = s.line.tx := by simp [underState, supplied, sampledState]
    have rx : (underState u s).line.rx = s.line.rx := by simp [underState, supplied, sampledState]
    have calm : Calm (leftUnder none (claimAbandoned (underState u s))) :=
      leftUnder_calm (calm_of_same cu (by rfl)) (by rintro _ ⟨⟩)
    refine kept_of (next.trans ?_) calm
    rw [left]
    simp only [leftUnder, claimAbandoned, tx, rx]
    rfl
  · exact answer (by rw [searchUnder_interior record hk hst', addr]; rfl) (by rintro _ ⟨⟩; exact stage)

end Sys2Proof.Proofs.Supply
end

section
/-! Service requests and the status record (10.4, 11.2). -/

namespace Sys2Proof.Proofs.Service

open Sys2Proof Sys2Proof.Machine Sys2Proof.Proofs.Steps Sys2Proof.Proofs.Invariants Sys2Proof.Proofs.KeyFrames
open Sys2Proof.Proofs.Ends Sys2Proof.Proofs.Glass Sys2Proof.Proofs.Delivery Sys2Proof.Proofs.Release Sys2Proof.Proofs.Intents
open Sys2Proof.Proofs.Crash Sys2Proof.Proofs.Arbiter Sys2Proof.Proofs.Touches

section
variable {s m : State} {fr : Frame} {e : Nat} {rest : List RxItem} {q : ServiceParts} {bs : List Byte} {r : ServiceResult}
  {f : ServiceParts → State → State} {c : Instr} {is : Payload → Bool}

/-! ## A request delivered (R192) -/

/-- A SERVICE REQUEST raises no epoch (R73). -/
theorem received_service (hp : fr.payload = .serviceRequest { bytes := bs }) :
    received fr rest s = { s with line := { s.line with rx := rest } } := by
  rw [received, hp]
  rfl

/-- The block that takes a request at a targeted station that may act (R192). -/
theorem serve_acts (hp : fr.payload = .serviceRequest { bytes := bs }) (hq : serviceParts bs = some q)
    (ht : q.targets.getLsbD s.addr.val = true) (hf : s.store.flush = none ∨ q.kind.toNat = 6 ∨ q.kind.toNat = 7) :
    serve f fr e s = f q s := by
  unfold serve
  simp only [hp, hq]
  rw [if_neg (by simp [ht]), if_neg]
  rintro ⟨hflush, h6, h7⟩
  rcases hf with hf | hf | hf
  · simp [hf] at hflush
  · exact h6 hf
  · exact h7 hf

theorem serve_other (hp : fr.payload = .serviceRequest { bytes := bs }) (hq : serviceParts bs = some q)
    (ht : q.targets.getLsbD s.addr.val = false) : serve f fr e s = s := by
  unfold serve
  simp only [hp, hq, ht, if_true]

theorem serve_busy (hp : fr.payload = .serviceRequest { bytes := bs }) (hq : serviceParts bs = some q)
    (ht : q.targets.getLsbD s.addr.val = true) (hf : s.store.flush.isSome = true) (h6 : q.kind.toNat ≠ 6)
    (h7 : q.kind.toNat ≠ 7) : serve f fr e s = reply q.number q.kind (.refused .busy) s := by
  unfold serve
  simp only [hp, hq]
  rw [if_neg (by simp [ht]), if_pos ⟨hf, h6, h7⟩]

/-- A request whose block leaves `m` with its reply queued. -/
theorem service_replies (hs : Calm s) (hh : Head fr e rest s) (ok : s.line.state = .ok) (room : Roomy 4 s)
    (hc : exec c s = onDelivery is (serve f) s) (hk : is fr.payload = true)
    (hg : serve f fr e (received fr rest s) = reply q.number q.kind r m) (hm : Calm m)
    (hline : m.line = { s.line with rx := rest }) :
    ∃ v, exec c s = .next v ∧ Kept (heard fr.origin m) v ∧ Queued (.serviceReply q.number q.kind r) v := by
  have ok' : m.line.state = .ok := by rw [hline]; exact ok
  obtain ⟨v, hv, kept, queued⟩ := delivery_adds hs hh hc hk
    (by rw [hg]; exact adds_queueFrame m rfl fun h => absurd ok' h) (by rw [hline]) hm (by simp)
  refine ⟨v, hv, kept, queued ok' ?_ _ (List.mem_singleton.2 rfl) (by simp [Payload.kind])⟩
  exact (roomy_congr (by rw [hline])).2 room

theorem service_line (hp : fr.payload = .serviceRequest { bytes := bs }) :
    (received fr rest s).line = { s.line with rx := rest } := by rw [received_service hp]

/-- A request that is answered and changes nothing. -/
theorem service_answers (hs : Calm s) (hh : Head fr e rest s) (ok : s.line.state = .ok) (room : Roomy 4 s)
    (hp : fr.payload = .serviceRequest { bytes := bs }) (hc : exec c s = onDelivery is (serve f) s)
    (hk : is fr.payload = true)
    (hg : serve f fr e (received fr rest s) = reply q.number q.kind r (received fr rest s)) :
    ∃ v, exec c s = .next v ∧ Kept (afterHearing fr rest s) v ∧ Queued (.serviceReply q.number q.kind r) v :=
  service_replies hs hh ok room hc hk hg (received_calm hs) (service_line hp)

theorem isService_iff {k : Nat} (hq : serviceParts bs = some q) :
    isService k (.serviceRequest { bytes := bs }) = (q.kind.toNat == k) := by
  simp [isService, hq]

/-! ## Octets, most significant first -/

theorem bytes16_ofNat (x : Nat) : bytes16 (BitVec.ofNat 16 x) = [BitVec.ofNat 8 (x / 256), BitVec.ofNat 8 x] := by
  unfold bytes16
  congr 1
  · refine BitVec.eq_of_toNat_eq ?_
    simp only [BitVec.extractLsb'_toNat, BitVec.toNat_ofNat, Nat.shiftRight_eq_div_pow]
    omega
  · congr 1
    refine BitVec.eq_of_toNat_eq ?_
    simp only [BitVec.extractLsb'_toNat, BitVec.toNat_ofNat, Nat.shiftRight_eq_div_pow]
    omega

theorem bytes16_eq (x : BitVec 16) : bytes16 x = [BitVec.ofNat 8 (x.toNat / 256), BitVec.ofNat 8 x.toNat] := by
  rw [← bytes16_ofNat, BitVec.ofNat_toNat, BitVec.setWidth_eq]

theorem num24_eq (x : Nat) :
    num24 x = [BitVec.ofNat 8 (x / 65536), BitVec.ofNat 8 (x / 256), BitVec.ofNat 8 x] := by
  unfold num24 bytes24
  have octet (lo : Nat) (n : Nat) (h : x % 16777216 / 2 ^ lo % 256 = n % 256) :
      (BitVec.ofNat 24 x).extractLsb' lo 8 = BitVec.ofNat 8 n := by
    refine BitVec.eq_of_toNat_eq ?_
    simp only [BitVec.extractLsb'_toNat, BitVec.toNat_ofNat, Nat.shiftRight_eq_div_pow]
    exact h
  rw [octet 16 (x / 65536) (by omega), octet 8 (x / 256) (by omega), octet 0 x (by omega)]

theorem bytes16_ofInt (x : Int) : bytes16 (BitVec.ofInt 16 x)
    = [BitVec.ofNat 8 ((x % 65536).toNat / 256), BitVec.ofNat 8 (x % 65536).toNat] := by
  rw [bytes16_eq, BitVec.toNat_ofInt]
  rfl

/-! ## The parts of the status record (R197, R201) -/

/-- The fault set as a number. -/
def faultNumber (l : Vector (Option Byte) 5) : Nat :=
  l[0].isSome.toNat + 2 * l[1].isSome.toNat + 4 * l[2].isSome.toNat + 8 * l[3].isSome.toNat + 16 * l[4].isSome.toNat

theorem faultBits_octet (l : Vector (Option Byte) 5) : (faultBits l).setWidth 8 = BitVec.ofNat 8 (faultNumber l) := by
  have le (b : Bool) : b.toNat ≤ 1 := Bool.toNat_le b
  refine BitVec.eq_of_toNat_eq ?_
  simp only [faultBits, faultNumber, BitVec.toNat_setWidth, BitVec.toNat_ofNat]
  have h0 := le l[0].isSome
  have h1 := le l[1].isSome
  have h2 := le l[2].isSome
  have h3 := le l[3].isSome
  have h4 := le l[4].isSome
  omega

theorem faultDetails_eq (l : Vector (Option Byte) 5) : faultDetails l
    = l[0].toList ++ l[1].toList ++ l[2].toList ++ l[3].toList ++ l[4].toList := by
  obtain ⟨⟨l⟩, h⟩ := l
  match l, h with
  | [a, b, c, d, x], _ =>
      simp only [faultDetails, Vector.toList_mk, Vector.getElem_mk, List.getElem_toArray]
      cases a <;> cases b <;> cases c <;> cases d <;> cases x <;> rfl

theorem slotCode_le (x : SlotState) : slotCode x ≤ 3 := by cases x <;> decide

theorem slotCodes_octets (k : Keys) : bytes16 (slotCodes k)
    = [BitVec.ofNat 8 (slotCode k.slots[(4 : Slot)].state + 4 * slotCode k.slots[(5 : Slot)].state),
      BitVec.ofNat 8 (slotCode k.slots[(0 : Slot)].state + 4 * slotCode k.slots[(1 : Slot)].state
        + 16 * slotCode k.slots[(2 : Slot)].state + 64 * slotCode k.slots[(3 : Slot)].state)] := by
  have sum : (List.finRange 6).foldl (fun n i => n + slotCode k.slots[i].state * 4 ^ i.val) 0
      = slotCode k.slots[(0 : Slot)].state + 4 * slotCode k.slots[(1 : Slot)].state
        + 16 * slotCode k.slots[(2 : Slot)].state + 64 * slotCode k.slots[(3 : Slot)].state
        + 256 * (slotCode k.slots[(4 : Slot)].state + 4 * slotCode k.slots[(5 : Slot)].state) := by
    have range : List.finRange 6 = [0, 1, 2, 3, 4, 5] := by decide
    simp only [range, List.foldl]
    norm_num
    ring
  have h0 := slotCode_le k.slots[(0 : Slot)].state
  have h1 := slotCode_le k.slots[(1 : Slot)].state
  have h2 := slotCode_le k.slots[(2 : Slot)].state
  have h3 := slotCode_le k.slots[(3 : Slot)].state
  rw [slotCodes, sum, bytes16_ofNat]
  generalize slotCode k.slots[(0 : Slot)].state = a at *
  generalize slotCode k.slots[(1 : Slot)].state = b at *
  generalize slotCode k.slots[(2 : Slot)].state = c at *
  generalize slotCode k.slots[(3 : Slot)].state = d at *
  generalize slotCode k.slots[(4 : Slot)].state + 4 * slotCode k.slots[(5 : Slot)].state = x at *
  congr 1
  · refine congrArg _ ?_
    omega
  · congr 1
    refine BitVec.eq_of_toNat_eq ?_
    simp only [BitVec.toNat_ofNat]
    omega

theorem statusPart_received (n : Nat) (hp : fr.payload = .serviceRequest { bytes := bs }) :
    statusPart n (received fr rest s) = statusPart n s := by
  rw [received_service hp]
  rfl

/-- READ STATUS at a target answers the part or refuses it (R197). -/
theorem exec_readStatus {n ts p : Byte} (hs : Calm s) (hh : Head fr e rest s) (ok : s.line.state = .ok) (room : Roomy 4 s)
    (hp : fr.payload = .serviceRequest { bytes := [n, ts, 6#8, p] }) (ht : ts.getLsbD s.addr.val = true)
    (hr : r = match statusPart p.toNat s with
      | some l => .status p l
      | none => .refused .range) :
    ∃ v, exec .readStatus s = .next v ∧ Kept (afterHearing fr rest s) v ∧ Queued (.serviceReply n 6#8 r) v := by
  have acts : serve doReadStatus fr e (received fr rest s)
      = doReadStatus { number := n, targets := ts, kind := 6#8, params := [p] } (received fr rest s) :=
    serve_acts hp rfl (by simpa using ht) (.inr (.inl rfl))
  refine service_answers (q := { number := n, targets := ts, kind := 6#8, params := [p] }) hs hh ok room hp rfl
    (by rw [hp]; rfl) ?_
  rw [acts, doReadStatus]
  simp only [statusPart_received _ hp]
  cases h : statusPart p.toNat s with
  | some l => simp only [hr, h]
  | none => simp only [hr, h, refuse]

end

end Sys2Proof.Proofs.Service
end

section
/-! The status record, part by part (10.4, 11.2). -/

namespace Sys2Proof.Proofs.Service

open Sys2Proof Sys2Proof.Machine Sys2Proof.Proofs.Steps Sys2Proof.Proofs.Invariants Sys2Proof.Proofs.KeyFrames
open Sys2Proof.Proofs.Ends Sys2Proof.Proofs.Glass Sys2Proof.Proofs.Delivery Sys2Proof.Proofs.Release Sys2Proof.Proofs.Intents
open Sys2Proof.Proofs.Crash Sys2Proof.Proofs.Arbiter Sys2Proof.Proofs.Touches

/-- Settles O59: each part of the status record, octet by octet. -/
theorem statusPartsInOctets : Obligations.StatusPartsInOctets := by
  intro s f e rest n ts p a hs room ok hh hp ht octet two answered lock child class_ place interval faults slot peer
  have answers {l : List Byte} (h : statusPart p.toNat s = some l) : answered l :=
    exec_readStatus hs hh ok room hp ht (by rw [h])
  have two_ (x : Nat) : bytes16 (BitVec.ofNat 16 x) = two x := bytes16_ofNat x
  have epoch : bytes16 s.intent.epoch = two s.intent.epoch.toNat := bytes16_eq _
  have faults_ : (faultBits s.census.faults).setWidth 8 = octet faults := faultBits_octet _
  have slot_ (m : Slot) : slotCode s.keys.slots[m].state = slot m := by
    simp only [slot]
    cases s.keys.slots[m].state <;> rfl
  refine ⟨fun h => answers ?_, fun h => answers ?_, fun h => ?_, fun h => ?_, fun h => answers ?_, fun h => answers ?_,
    fun h ha hne => ?_⟩
  · have first : lockCode (some s.latch.lock) * 64 + childCode (some s.latch.child) * 16 + latchCode (some s.latch.position) * 4
        + flagCode (some (crashHold s))
        = lock * 64 + child * 16 + (if s.latch.position = .opened then 4 else 0) + s.latch.crashEnd.isSome.toNat := by
      have l : lockCode (some s.latch.lock) = lock := by
        simp only [lock]; cases s.latch.lock <;> rfl
      have c : childCode (some s.latch.child) = child := by
        simp only [child]; cases s.latch.child <;> rfl
      have p : latchCode (some s.latch.position) * 4 = if s.latch.position = .opened then 4 else 0 := by
        cases s.latch.position <;> rfl
      have k : flagCode (some (crashHold s)) = s.latch.crashEnd.isSome.toNat := by
        rw [crashHold]; cases s.latch.crashEnd <;> rfl
      rw [l, c, p, k]
    have second : wclassCode (some (windowClass s.cfg s.win)) * 32 + flagCode (some (sleepReady s)) * 8
        + flagCode (some s.power.going) * 2 = class_ * 32 + (sleepReady s).toNat * 8 + s.power.going.toNat * 2 := by
      have flag (b : Bool) : flagCode (some b) = b.toNat := by cases b <;> rfl
      have w : wclassCode (some (windowClass s.cfg s.win)) = class_ := by
        simp only [windowClass, class_, Bool.not_eq_true']
        split_ifs <;> rfl
      rw [w, flag, flag]
    have position : windowPosition s.cfg s.win = octet place := by
      simp only [windowPosition, place]
      split <;> rfl
    have interval_ : intervalInEffect s = interval := by
      simp only [intervalInEffect, interval]
      cases s.power.supply <;> simp [Supply.poor]
    rw [h]
    show some (announcedBytes (announcedNow s)) = _
    simp only [announcedBytes, announcedNow, first, second, position, faults_, interval_, two_, epoch]
    rfl
  · rw [h]
    show some ((faultBits s.census.faults).setWidth 8 :: faultDetails s.census.faults) = _
    rw [faults_, faultDetails_eq]
  · intro mode
    refine answers ?_
    have mode_ : ((!s.win.norm).toNat * 128 + protectionCode s.pinch.mode) = (if s.win.norm then 0 else 128) + mode := by
      have m : protectionCode s.pinch.mode = mode := by simp only [mode]; cases s.pinch.mode <;> rfl
      rw [m]
      cases s.win.norm <;> simp
    rw [h]
    show some (bytes16 (BitVec.ofInt 16 s.win.p) ++ num24 s.win.heat
      ++ [byte ((!s.win.norm).toNat * 128 + protectionCode s.pinch.mode)] ++ count16 s.win.drift) = _
    rw [mode_, bytes16_ofInt, num24_eq, count16, two_]
    rfl
  · intro release outcome
    refine answers ?_
    have release_ : seqCode s.latch.seq = release := by simp only [release]; cases s.latch.seq <;> rfl
    have outcome_ : releaseCode s.latch.lastRelease = outcome := by
      simp only [outcome]; cases s.latch.lastRelease <;> rfl
    rw [h]
    show some ([byte (seqCode s.latch.seq), byte s.latch.attempts, byte (releaseCode s.latch.lastRelease)]
      ++ bytes16 (slotCodes s.keys)) = _
    rw [release_, outcome_, slotCodes_octets]
    simp only [slot_]
    rfl
  · rw [h]
    show some (byte (lineCode s.line.state) :: count16 s.line.damaged ++ count16 s.line.overruns ++ count16 s.line.txFails) = _
    simp only [ok, count16, two_]
    rfl
  · rw [h]
    show some (count16 s.census.late ++ count16 s.keys.stale ++ count16 s.keys.bad ++ count16 s.power.spurious) = _
    simp only [count16, two_]
  · intro presence
    refine answers ?_
    have place : p.toNat = a.val + 6 := by omega
    have presence_ : presenceCode peer.presence = presence := by simp only [presence]; cases peer.presence <;> rfl
    have entry : s.census.peers[(Fin.ofNat 8 (a.val + 6 - 6) : Addr)] = peer :=
      congrArg (fun b : Addr => s.census.peers[b]) (by simp : (Fin.ofNat 8 (a.val + 6 - 6) : Addr) = a)
    have other : a.val + 6 ≤ 13 ∧ a.val + 6 - 6 ≠ s.addr.val :=
      ⟨by omega, fun h => ha (Fin.ext (by omega))⟩
    rw [place]
    show (if a.val + 6 ≤ 13 ∧ a.val + 6 - 6 ≠ s.addr.val then some (peerPart (s.census.peers[(Fin.ofNat 8 (a.val + 6 - 6) : Addr)]))
      else none) = _
    rw [if_pos other, entry, peerPart, presence_]
    have last : bytes16 (peer.epoch.getD 0#16) = two ((peer.epoch.map (·.toNat)).getD 0) := by
      rw [bytes16_eq]
      cases peer.epoch <;> rfl
    show some ([byte (presence + if peer.epoch.isNone then 128 else 0), byte peer.unresponsive] ++ bytes16 (peer.epoch.getD 0#16)) = _
    rw [last]
    rfl

end Sys2Proof.Proofs.Service
end

section
/-! Service requests by their kind (10.4). -/

namespace Sys2Proof.Proofs.Service

open Sys2Proof Sys2Proof.Machine Sys2Proof.Proofs.Steps Sys2Proof.Proofs.Invariants Sys2Proof.Proofs.KeyFrames
open Sys2Proof.Proofs.Ends Sys2Proof.Proofs.Glass Sys2Proof.Proofs.Delivery Sys2Proof.Proofs.Release Sys2Proof.Proofs.Intents
open Sys2Proof.Proofs.Crash Sys2Proof.Proofs.Arbiter Sys2Proof.Proofs.Touches

section
variable {s m : State} {fr : Frame} {e : Nat} {rest : List RxItem} {q : ServiceParts} {bs : List Byte} {r : ServiceResult}
  {f : ServiceParts → State → State} {c : Instr} {is : Payload → Bool}

/-! ## The command of a request by its kind (R192) -/

/-- The command that takes a delivered request of kind `k`. -/
def requestOf : Nat → Instr
  | 0 => .pairSecret
  | 1 => .pairKey
  | 2 => .removeKey
  | 3 => .clearHalt
  | 4 => .relearnWindow
  | 5 => .writeConfig
  | 6 => .readStatus
  | 7 => .serviceReset
  | 8 => .moveWindow
  | _ => .serviceRequestUndefinedKind

/-- The command serves the requests of its kind. -/
def Serves (c : Instr) (k : Nat) : Prop :=
  ∃ is f, (∀ s, exec c s = onDelivery is (serve f) s) ∧ ∀ bs q, serviceParts bs = some q → q.kind.toNat = k →
    is (.serviceRequest { bytes := bs }) = true

theorem serves_kind (f : ServiceParts → State → State) (k : Nat) (h : ∀ s, exec c s = onDelivery (isService k) (serve f) s) :
    Serves c k :=
  ⟨isService k, f, h, fun bs q hq hk => by rw [isService_iff hq, hk]; exact beq_self_eq_true k⟩

theorem requestOf_serves : ∀ k, Serves (requestOf k) k
  | 0 => serves_kind doPairSecret 0 fun _ => rfl
  | 1 => serves_kind doPairKey 1 fun _ => rfl
  | 2 => serves_kind doRemoveKey 2 fun _ => rfl
  | 3 => serves_kind doClearHalt 3 fun _ => rfl
  | 4 => serves_kind doRelearn 4 fun _ => rfl
  | 5 => serves_kind doWriteConfig 5 fun _ => rfl
  | 6 => serves_kind doReadStatus 6 fun _ => rfl
  | 7 => serves_kind doServiceReset 7 fun _ => rfl
  | 8 => serves_kind doMoveWindow 8 fun _ => rfl
  | k + 9 => ⟨isUndefinedService, fun q t => refuse q .range t, fun _ => rfl, fun bs q hq hk => by
      simp [isUndefinedService, hq, hk]⟩

/-- A request to other stations changes nothing here. -/
theorem request_other {k : Nat} (hs : Calm s) (hh : Head fr e rest s) (hp : fr.payload = .serviceRequest { bytes := bs })
    (hq : serviceParts bs = some q) (hc : Serves c k) (hk : q.kind.toNat = k) (ht : q.targets.getLsbD s.addr.val = false) :
    ∃ v, exec c s = .next v ∧ Kept (afterHearing fr rest s) v := by
  obtain ⟨is, f, next, takes⟩ := hc
  obtain ⟨v, hv, kept, -⟩ := delivery_adds hs hh (next s) (by rw [hp]; exact takes _ _ hq hk)
    (Adds.of_eq (serve_other hp hq (by simpa using ht))) received_rx (received_calm hs) (by simp)
  exact ⟨v, hv, kept⟩

/-- A request during a flush is BUSY, but for READ STATUS and SERVICE RESET (R192, log 45). -/
theorem request_busy {k : Nat} (hs : Calm s) (hh : Head fr e rest s) (ok : s.line.state = .ok) (room : Roomy 4 s)
    (hp : fr.payload = .serviceRequest { bytes := bs }) (hq : serviceParts bs = some q) (hc : Serves c k)
    (hk : q.kind.toNat = k) (ht : q.targets.getLsbD s.addr.val = true) (hf : s.store.flush.isSome = true) (h6 : k ≠ 6)
    (h7 : k ≠ 7) : ∃ v, exec c s = .next v ∧ Kept (afterHearing fr rest s) v
      ∧ Queued (.serviceReply q.number q.kind (.refused .busy)) v := by
  obtain ⟨is, f, next, takes⟩ := hc
  exact service_answers hs hh ok room hp (next s) (by rw [hp]; exact takes _ _ hq hk)
    (serve_busy hp hq (by simpa using ht) (by simpa using hf) (by rwa [hk]) (by rwa [hk]))

/-- A request that a targeted station serves with no flush on, its block leaving `m` with the reply queued. -/
theorem service_acts {u : State} (q : ServiceParts) (m : State) (hs : Calm s) (hh : Head fr e rest s)
    (ok : s.line.state = .ok) (room : Roomy 4 s) (hp : fr.payload = .serviceRequest { bytes := bs })
    (hq : serviceParts bs = some q) (hc : exec c s = onDelivery is (serve f) s)
    (hk : is (.serviceRequest { bytes := bs }) = true) (hg : f q (received fr rest s) = reply q.number q.kind r m)
    (hm : Calm m) (hline : m.line = { s.line with rx := rest }) (hu : heard fr.origin m = u)
    (ht : q.targets.getLsbD s.addr.val = true) (hf : s.store.flush = none) :
    ∃ v, exec c s = .next v ∧ Kept u v ∧ Queued (.serviceReply q.number q.kind r) v := by
  rw [← hu]
  exact service_replies hs hh ok room hc (by rw [hp]; exact hk)
    ((serve_acts hp hq (by simpa using ht) (.inl (by simpa using hf))).trans hg) hm hline

theorem afterHearing_roomy (room : Roomy 4 s) : Roomy 4 (afterHearing fr rest s) := by
  simpa [Roomy, afterHearing_eq] using room

theorem afterHearing_flush : (afterHearing fr rest s).store.flush = s.store.flush := by simp [afterHearing_eq]

/-! ## A reply whose report no flush waits for (R198) -/

theorem queueJobless_room (p : Payload) (h : s.line.tx.length < 6) (ok : s.line.state = .ok) :
    queueJobless p s = { s with line := { s.line with
      tx := insertTx { newEntry p.cls p s with jobless := true } s.line.tx, nextAge := s.line.nextAge + 1 } } := by
  have ha : admitted p.cls p s = true := by simp [admitted, inLineFault, ok, h]
  simp [queueJobless, queueEntry, newEntry, ha, h]

theorem adds_queueJobless (p : Payload) (s : State) (hc : isClaimPayload p = false) : Adds [p] s (queueJobless p s) where
  quiet := queueJobless_quiet p s
  hold := queueEntry_startHold _ s
  unclaimed := queueEntry_unclaimed _ s hc
  stage := queueEntry_stage _ s
  gentle room := by
    by_cases ok : s.line.state = .ok
    · rw [queueJobless_room p (Nat.lt_of_succ_le room) ok]
      exact ⟨rfl, rfl, rfl, rfl, fun e he _ => (mem_insertTx _ _ _).2 (.inr he), by simp [length_insertTx], rfl⟩
    · have refused : queueJobless p s = s := by
        have : admitted p.cls p s = false := by simp [admitted, inLineFault, ok]
        simp [queueJobless, queueEntry, newEntry, this, Machine.tell]
      rw [refused]
      exact (Gentle.refl s).mono (Nat.zero_le _)
  queued ok room q hq _ := by
    obtain rfl := List.mem_singleton.1 hq
    rw [queueJobless_room q (Nat.lt_of_succ_le room) ok]
    exact ⟨{ newEntry q.cls q s with jobless := true }, (mem_insertTx _ _ _).2 (.inl rfl), rfl, rfl⟩

/-! ## What the requests do (R194 to R198) -/

theorem queueRecord_again (x : RecordId) (s : State) : queueRecord x (queueRecord x s) = queueRecord x s := by
  have again (l : List RecordId) : withRecordId x (withRecordId x l) = withRecordId x l := by
    unfold withRecordId
    split
    · rfl
    · rw [if_pos (by simp)]
  rw [queueRecord_eq, queueRecord_eq]
  simp only [again]

/-- RELEARN WINDOW with no motion running (R194). -/
theorem relearned (h : s.win.req = none) :
    queueRecord .windowState (unnormalise (unlearnAll s))
      = queueRecord .windowState { unlearnAll s with win := { s.win with norm := false } } := by
  have win : (unlearnAll s).win = s.win := by rw [unlearnAll, queueRecord_win]
  unfold unnormalise
  rw [win]
  split
  · simp only [State.withWin, queueRecord_win, h]
    rw [queueRecord_again]
  · rename_i hn
    have same : ({ s.win with norm := false } : Window) = s.win := by
      rw [← (by simpa using hn : s.win.norm = false)]
    rw [same, ← win]

theorem clearHaltOp_halted (h : s.latch.seq = .halted) : ∃ x : Census,
    clearHaltOp s = { s with latch := { s.latch with seq := .idle, attempts := 0 }, census := x }
      ∧ x.fixed = ({ s.census with faults := s.census.faults.set 0 none } : Census).fixed :=
  ⟨_, if_pos h, rfl⟩

theorem clearHaltOp_other (h : s.latch.seq ≠ .halted) : clearHaltOp s = s := if_neg h

/-- A MOVE WINDOW to a position in range (R195). -/
def moveTo (x y : Byte) : Request := { source := .service, dir := .down, mode := .toPosition (nat16 x y) }

theorem doMoveWindow_range {x y : Byte} (h : s.cfg.travel < nat16 x y) (hq : q.params = [1#8, 1#8, x, y]) :
    doMoveWindow q s = refuse q .range s := by
  have none_ : moveRequest s.cfg q.params = none := by simp [moveRequest, hq, h]
  rw [doMoveWindow, none_]

theorem doMoveWindow_request {x y : Byte} (h : nat16 x y ≤ s.cfg.travel) (hq : q.params = [1#8, 1#8, x, y]) :
    doMoveWindow q s = if (request (moveTo x y) s).1 = .started ∨ (request (moveTo x y) s).1 = .stopped
      then done q (request (moveTo x y) s).2 else refuse q .busy (request (moveTo x y) s).2 := by
  have some_ : moveRequest s.cfg q.params = some (moveTo x y) := by
    simp [moveRequest, hq, Nat.not_lt.2 h, moveTo]
  rw [doMoveWindow, some_]

end

end Sys2Proof.Proofs.Service
end

section
/-! Service requests act and reply (10.4). -/

namespace Sys2Proof.Proofs.Service

open Sys2Proof Sys2Proof.Machine Sys2Proof.Proofs.Steps Sys2Proof.Proofs.Invariants Sys2Proof.Proofs.KeyFrames
open Sys2Proof.Proofs.Ends Sys2Proof.Proofs.Glass Sys2Proof.Proofs.Delivery Sys2Proof.Proofs.Release Sys2Proof.Proofs.Intents
open Sys2Proof.Proofs.Crash Sys2Proof.Proofs.Arbiter Sys2Proof.Proofs.Touches

section
variable {s : State} {q : ServiceParts} {i : Byte} {vs : List Byte}

theorem doWriteConfig_writes (hq : q.params = i :: vs) (hl : vs.length = fieldWidth i.toNat)
    (hf : fieldInRange i.toNat (valueOf vs) = true) : doWriteConfig q s = done q (queueRecord .config
      { s with store := { s.store with pendingCfg := writeField i.toNat (valueOf vs) s.store.pendingCfg } }) := by
  unfold doWriteConfig
  rw [hq]
  exact if_pos ⟨hl, hf⟩

theorem motionStarts_line (r : Request) (s : State) : (motionStarts r s).line = s.line := by
  rw [motionStarts, motorStarts, motorRuns_eq]
  rfl

end

/-- Settles O58: requests to others, a request during a flush, READ STATUS, and each request served without one. -/
theorem serviceRequestsActAndReply : Obligations.ServiceRequestsActAndReply := by
  intro s f e rest n ts k p x y ps hs room ok hh hd t asked answer pending travel command
  have cfg : (received f rest s).cfg = s.cfg := received_cfg
  have roomy : Roomy 4 t := afterHearing_roomy room
  have flush_ : t.store.flush = s.store.flush := afterHearing_flush
  let b := received f rest s
  have hb : t = heard f.origin b := afterHearing_eq f rest s
  have cb : Calm b := received_calm hs
  have bline : b.line = { s.line with rx := rest } := received_line
  have acts {g : ServiceParts → State → State} {c : Instr} {is : Payload → Bool} {bs : List Byte} {r : ServiceResult}
      {u : State} (q : ServiceParts) (m : State) (hts : q.targets = ts) (hp : f.payload = .serviceRequest { bytes := bs })
      (hq : serviceParts bs = some q) (hc : exec c s = onDelivery is (serve g) s)
      (hk : is (.serviceRequest { bytes := bs }) = true) (hg : g q b = reply q.number q.kind r m) (hm : Calm m)
      (hline : m.line = { s.line with rx := rest }) (hu : heard f.origin m = u) (ht : ts.getLsbD s.addr.val = true)
      (hf : s.store.flush = none) : ∃ v, exec c s = .next v ∧ Kept u v ∧ Queued (.serviceReply q.number q.kind r) v := by
    exact service_acts q m hs hh ok room hp hq hc hk hg hm hline hu (by rwa [hts]) hf
  have value : valueOf [x, y] = travel := by simp [valueOf, travel]
  have pends (c : Settings) : heard f.origin (queueRecord .config { b with store := { b.store with pendingCfg := c } })
      = pending c := by
    simp only [pending]
    rw [heard_queueRecord, hb, heard_eq, heard_eq]
    simp [b]
  have written (c : Settings) : Calm (queueRecord .config { b with store := { b.store with pendingCfg := c } })
      ∧ (queueRecord .config { b with store := { b.store with pendingCfg := c } }).line = { s.line with rx := rest } :=
    ⟨calm_queueRecord (calm_of_same cb (by rfl)), by rw [queueRecord_line]; exact bline⟩
  refine ⟨fun ht hp => ?_, fun ht hp => ⟨fun bs hbs _ => ?_, fun hp' => ?_⟩, fun ht hf => ⟨fun hp h6 h7 => ?_, fun hp => ?_⟩,
    fun ht hf => ⟨fun hp => ⟨fun h => ?_, fun h => ?_⟩, fun hp => ⟨fun h => ?_, fun h hreq => ?_⟩,
      fun hp => ⟨fun hlow hhigh => ?_, fun hout => ?_⟩, fun hp => ?_, fun hp => ?_,
      fun hp hreq hw hgood hn hc hl => ⟨fun hle hlt hheat hmode => ?_, fun hle hheat => ?_, fun hgt => ?_⟩, fun hk hp => ?_⟩⟩
  · obtain ⟨v, hv, kept⟩ := request_other hs hh hp rfl (requestOf_serves k.toNat) rfl ht
    exact ⟨v, hv, kept, (kept.reply roomy).trans flush_⟩
  · exact exec_readStatus hs hh ok room hp ht (by rw [Option.mem_def.1 hbs])
  · refine exec_readStatus hs hh ok room hp ht ?_
    have absent : statusPart p.toNat s = none := by
      have far : 6 ≤ p.toNat := by omega
      obtain ⟨j, hj⟩ := Nat.exists_eq_add_of_le' far
      rw [hj]
      show (if j + 6 ≤ 13 ∧ j + 6 - 6 ≠ s.addr.val then _ else none) = none
      exact if_neg (by omega)
    rw [absent]
  · have kind (j : Byte) (h : k ≠ j) : k.toNat ≠ j.toNat := fun hn => h (BitVec.eq_of_toNat_eq hn)
    obtain ⟨v, hv, kept, queued⟩ := request_busy hs hh ok room hp rfl (requestOf_serves k.toNat) rfl ht hf
      (kind 6#8 h6) (kind 7#8 h7)
    exact ⟨v, hv, kept, (kept.reply roomy).trans flush_, queued⟩
  · have jobless : serve doServiceReset f e b = queueJobless (.serviceReply n 7#8 .done) b := by
      rw [serve_acts (q := { number := n, targets := ts, kind := 7#8, params := [] }) hp rfl (by simpa [b] using ht)
        (.inr (.inr rfl)), doServiceReset, if_neg (by simp), if_pos (by simpa [b] using hf)]
    obtain ⟨v, hv, kept, queued⟩ := delivery_adds (c := .serviceReset) hs hh rfl (by rw [hp]; rfl)
      (by rw [jobless]; exact adds_queueJobless _ b rfl) received_rx cb (by simp)
    exact ⟨v, hv, kept, (kept.reply roomy).trans flush_, queued (by rw [bline]; exact ok) ((roomy_congr (by rw [bline])).2 room)
      _ (List.mem_singleton.2 rfl) (by simp [Payload.kind])⟩
  · obtain ⟨z, hz, fixed⟩ := clearHaltOp_halted (s := b) (by simpa [b] using h)
    obtain ⟨v, hv, kept, queued⟩ := acts (c := .clearHalt) { number := n, targets := ts, kind := 3#8, params := [] }
      { b with latch := { b.latch with seq := .idle, attempts := 0 }, census := z } rfl hp rfl rfl rfl
      (by rw [doClearHalt, if_pos rfl, hz]; rfl) (calm_of_same cb (by rfl)) bline (heard_eq _ _) ht hf
    have census : ({ z with peers := heardPeers f.origin b.addr b.now z.peers } : Census).fixed
        = ({ t.census with faults := s.census.faults.set 0 none } : Census).fixed := by
      have peers : z.peers = b.census.peers := (congrArg Census.peers fixed :)
      have faults : b.census.faults = s.census.faults := by simp [b]
      rw [hb, heard_eq, peers, ← faults]
      exact congrArg (fun c : Census => { c with peers := heardPeers f.origin b.addr b.now b.census.peers }) fixed
    have state : { t with latch := { s.latch with seq := .idle, attempts := 0 },
                          census := { t.census with faults := s.census.faults.set 0 none } }
        = { b with latch := { b.latch with seq := .idle, attempts := 0 },
                   census := { t.census with faults := s.census.faults.set 0 none } } := by
      rw [hb, heard_eq]
      simp [b]
    rw [state]
    exact ⟨v, hv, kept_census kept census, queued⟩
  · exact acts (c := .clearHalt) { number := n, targets := ts, kind := 3#8, params := [] } b rfl hp rfl rfl rfl
      (by rw [doClearHalt, if_pos rfl, clearHaltOp_other (by simpa [b] using h)]; rfl) cb bline hb.symm ht hf
  · exact acts (c := .relearnWindow) { number := n, targets := ts, kind := 4#8, params := [] } b rfl hp rfl rfl rfl
      (by rw [doRelearn, if_neg (by simp), if_pos (by simpa [b] using h)]; rfl) cb bline hb.symm ht hf
  · intro unlearned
    have state : heard f.origin (queueRecord .windowState { unlearnAll b with win := { b.win with norm := false } })
        = queueRecord .windowState { unlearned with win := { s.win with norm := false } } := by
      simp only [unlearned, unlearnAll]
      rw [heard_queueRecord, hb, queueRecord_eq .profile, queueRecord_eq .profile, heard_eq, heard_eq]
      simp only [b, received_win, received_pinch]
      rfl
    have cu : Calm (unlearnAll b) := calm_queueRecord (calm_of_same cb (by rfl))
    refine acts (c := .relearnWindow) { number := n, targets := ts, kind := 4#8, params := [] }
      (queueRecord .windowState { unlearnAll b with win := { b.win with norm := false } }) rfl hp rfl rfl rfl
      (by rw [doRelearn, if_neg (by simp), if_neg (by simp [b, h]), relearned (by simpa [b] using hreq)]; rfl)
      (calm_queueRecord ⟨cu.1, cu.2.1, cu.2.2.1, cb.2.2.2.1, cu.2.2.2.2⟩)
      (by rw [queueRecord_line]; simpa [unlearnAll] using bline) state ht hf
  · refine acts (c := .writeConfig) { number := n, targets := ts, kind := 5#8, params := [2#8, x, y] }
      (queueRecord .config { b with store := { b.store with pendingCfg := { s.store.pendingCfg with travel := travel } } })
      rfl hp rfl rfl rfl ?_ (written _).1 (written _).2 (pends _) ht hf
    have fits : fieldInRange 2 (valueOf [x, y]) = true := by simp [value, fieldInRange, hlow, hhigh]
    rw [doWriteConfig_writes (i := 2#8) (vs := [x, y]) rfl rfl fits, value]
    simp only [b, received_store]
    rfl
  · refine acts (c := .writeConfig) { number := n, targets := ts, kind := 5#8, params := [2#8, x, y] } b rfl hp rfl rfl rfl
      ?_ cb bline hb.symm ht hf
    have out : fieldInRange 2 (valueOf [x, y]) = false := by
      rw [value]
      rcases hout with h | h
      · simp [fieldInRange, Nat.not_le.2 h]
      · simp [fieldInRange, Nat.not_le.2 h]
    exact if_neg (by rintro ⟨-, h⟩; exact absurd (out.symm.trans h) (by simp))
  · refine acts (c := .writeConfig) { number := n, targets := ts, kind := 5#8, params := [10#8, x] }
      (queueRecord .config { b with store := { b.store with pendingCfg := { s.store.pendingCfg with outerThr := x.toNat } } })
      rfl hp rfl rfl rfl ?_ (written _).1 (written _).2 (pends _) ht hf
    have one : valueOf [x] = x.toNat := by simp [valueOf]
    have fits : fieldInRange 10 (valueOf [x]) = true := rfl
    rw [doWriteConfig_writes (i := 10#8) (vs := [x]) rfl rfl fits, one]
    simp only [b, received_store]
    rfl
  · have flushed : heard f.origin { b with store := { b.store with flush := some { limitAt := b.now + 2000000, replyDue := true } } }
        = { t with store := { s.store with flush := some { limitAt := s.now + 2000000, replyDue := true } } } := by
      rw [hb, heard_eq, heard_eq]
      simp [b]
    obtain ⟨v, hv, kept, queued⟩ := acts (c := .serviceReset) { number := n, targets := ts, kind := 7#8, params := [] }
      { b with store := { b.store with flush := some { limitAt := b.now + 2000000, replyDue := true } } } rfl hp rfl rfl rfl
      (by rw [doServiceReset, if_neg (by simp), if_neg (by simp [b, hf])]; rfl) (calm_of_same cb (by rfl)) bline flushed ht hf
    exact ⟨v, hv, queued, kept⟩
  · have le : nat16 x y ≤ b.cfg.travel := by rw [cfg]; exact hle
    have passes : Passes (moveTo x y) b :=
      ⟨by simpa [b] using hw, by simpa [b] using (goodSupply_ne hgood).2, .inl (by simpa [b] using hn), by simpa [b] using hc,
        .inl (by simpa [b] using hheat), by simpa [b] using hl, .inr (.inl (by simp [moveTo]))⟩
    have early : satisfied (moveTo x y) b.win.p = false := by
      have : ¬ ((nat16 x y : Int) ≤ b.win.p) := not_le.2 (by rw [received_win]; exact hlt)
      simpa [satisfied, moveTo] using this
    have started : Machine.request (moveTo x y) b = (.started, motionStarts (moveTo x y) b) := by
      rw [request_passed passes, arbiter_idle (by simpa [b] using hreq) early, grantIdle_starts (by simpa [b] using hd)
        (takesOverride_source (by simp [moveTo]) (by simp [moveTo])) (by simpa [b] using (goodSupply_ne hgood).1)]
    refine acts (c := .moveWindow) { number := n, targets := ts, kind := 8#8, params := [1#8, 1#8, x, y] }
      (motionStarts (moveTo x y) b) rfl hp rfl rfl rfl ?_ (motionStarts_calm cb) ?_ ?_ ht hf
    · rw [doMoveWindow_request le rfl, started]
      exact if_pos (.inl rfl)
    · rw [motionStarts_line, bline]
    · rw [heard_motionStarts, ← hb]
      rfl
  · have le : nat16 x y ≤ b.cfg.travel := by rw [cfg]; exact hle
    have refused (out : WindowOutcome) (h : checkRequest (moveTo x y) b = some out) :
        Machine.request (moveTo x y) b = (out, b) := by rw [Machine.request, h]
    have checked : checkRequest (moveTo x y) b = some .thermal := by
      have heat : 80000 ≤ b.win.heat ∨ 60000 ≤ b.win.heat ∧ (moveTo x y).dir = .down :=
        .inr ⟨by rw [received_win]; exact hheat, rfl⟩
      unfold checkRequest
      rw [if_neg (by simp [b, hw]), if_neg (by simpa [b] using (goodSupply_ne hgood).2), if_neg (by simp [b, hn]),
        if_neg (by simp [b, crashHold, hc]), if_pos heat]
    refine acts (c := .moveWindow) { number := n, targets := ts, kind := 8#8, params := [1#8, 1#8, x, y] } b rfl hp rfl rfl rfl
      ?_ cb bline hb.symm ht hf
    rw [doMoveWindow_request le rfl, refused _ checked, if_neg (by simp)]
    rfl
  · exact acts (c := .moveWindow) { number := n, targets := ts, kind := 8#8, params := [1#8, 1#8, x, y] } b rfl hp rfl rfl rfl
      (by rw [doMoveWindow_range (by rw [cfg]; exact hgt) rfl]; rfl) cb bline hb.symm ht hf
  · exact acts (g := fun q t => refuse q .range t) { number := n, targets := ts, kind := k, params := ps } b rfl hp rfl rfl
      (by simp [isUndefinedService, serviceParts, hk]) rfl cb bline hb.symm ht hf

end Sys2Proof.Proofs.Service
end

section
/-! Pairing requests (5.1, 10.4). -/

namespace Sys2Proof.Proofs.Service

open Sys2Proof Sys2Proof.Machine Sys2Proof.Proofs.Steps Sys2Proof.Proofs.Invariants Sys2Proof.Proofs.KeyFrames
open Sys2Proof.Proofs.Ends Sys2Proof.Proofs.Glass Sys2Proof.Proofs.Delivery Sys2Proof.Proofs.Release Sys2Proof.Proofs.Intents
open Sys2Proof.Proofs.Crash Sys2Proof.Proofs.Arbiter Sys2Proof.Proofs.Touches

section
variable {s : State} {q : ServiceParts} {m : Slot} {id hi lo : Word32} {c : Counter} {st : SlotState}

/-! ## Slots rewritten (R97) -/

theorem readAllSlots_sound (h : ∀ j : Slot, slotGood j s.keys.slots[j] = true) : readAllSlots s = s := by
  have fold (l : List Slot) : l.foldl (fun t n => readSlot n t) s = s := by
    induction l with
    | nil => rfl
    | cons x xs ih => rw [List.foldl_cons, readSlot_sound (h x), ih]
  exact fold _

/-- A slot as PAIR KEY or REMOVE KEY leaves it (R97). -/
def rewritten (st : SlotState) (id hi lo : Word32) (c : Counter) (k : KeySlot) : KeySlot :=
  { k with
    resync := none, badCodes := 0, windowStart := none, suspendedUntil := none, storeCurrent := false
    state := st, identity := id, sHi := hi, sLo := lo, counter := c }

/-- The state with the slot rewritten and its record queued. -/
def slotWritten (m : Slot) (x : KeySlot) (s : State) : State :=
  queueRecord (.key m) { s with
    store := { s.store with writing := s.store.writing.map (staleWrite m) }
    keys := { s.keys with slots := s.keys.slots.set m { x with check := slotCover m x } } }

theorem queueKey_written (st : SlotState) (id hi lo : Word32) (c : Counter) :
    queueKey m (writeSlot m { s.keys.slots[m] with
        state := st, identity := id, sHi := hi, sLo := lo, counter := c, resync := none
        badCodes := 0, windowStart := none, suspendedUntil := none } s)
      = slotWritten m (rewritten st id hi lo c s.keys.slots[m]) s := by
  unfold queueKey writeSlot slotWritten rewritten
  congr 1
  simp only [Fin.getElem_fin, Vector.getElem_set_self, Vector.set_set]
  rfl

theorem slotWritten_slots (x : KeySlot) :
    (slotWritten m x s).keys.slots = s.keys.slots.set m { x with check := slotCover m x } := by
  rw [slotWritten, queueRecord_keys]

/-- Another slot stays DAMAGED (R97). -/
abbrev OtherDamaged (m : Slot) (s : State) : Prop := ∃ j : Slot, j ≠ m ∧ s.keys.slots[j].state = .damaged

theorem damaged_after (x : KeySlot) (hx : x.state ≠ .damaged) :
    ((slotWritten m x s).keys.slots.toList.any fun k => k.state == .damaged) = true ↔ OtherDamaged m s := by
  rw [slotWritten_slots, List.any_eq_true]
  constructor
  · rintro ⟨k, hk, hd⟩
    obtain ⟨j, hj, rfl⟩ := Vector.mem_iff_getElem.1 (Vector.mem_toList_iff.1 hk)
    by_cases h : j = m.val
    · subst h
      rw [Vector.getElem_set_self] at hd
      exact absurd (by simpa using hd) hx
    · rw [Vector.getElem_set_ne _ _ (Ne.symm h)] at hd
      exact ⟨⟨j, hj⟩, fun e => h (congrArg Fin.val e), by simpa using hd⟩
  · rintro ⟨j, hne, hd⟩
    refine ⟨s.keys.slots[j], Vector.mem_toList_iff.2 (Vector.mem_iff_getElem.2 ⟨j.val, j.isLt, ?_⟩), by simpa using hd⟩
    exact Vector.getElem_set_ne _ _ fun e => hne (Fin.ext e.symm)

/-- The fault set once the slot is rewritten (R97, R167). -/
def faultsAfter (m : Slot) (s : State) : Vector (Option Byte) 5 :=
  if s.keys.slots[m].state = .damaged ∧ ∀ j : Slot, j ≠ m → s.keys.slots[j].state ≠ .damaged
  then s.census.faults.set 2 none else s.census.faults

/-- A slot rewritten, with KEY DAMAGED cleared with the last DAMAGED slot (R97). -/
theorem rewriteSlot_eq (hst : st ≠ .damaged) : ∃ x : Census,
    rewriteSlot m st id hi lo c s = { slotWritten m (rewritten st id hi lo c s.keys.slots[m]) s with census := x }
      ∧ x.fixed = ({ s.census with faults := faultsAfter m s } : Census).fixed := by
  have census (x : KeySlot) : (slotWritten m x s).census = s.census := by rw [slotWritten, queueRecord_census]
  have after := damaged_after (m := m) (s := s) (rewritten st id hi lo c s.keys.slots[m]) hst
  unfold rewriteSlot
  simp only [queueKey_written]
  by_cases hd : s.keys.slots[m].state = .damaged
  · rw [if_pos (by simpa using hd)]
    unfold clearKeyDamaged
    by_cases ho : OtherDamaged m s
    · refine ⟨s.census, ?_, ?_⟩
      · rw [if_pos (after.2 ho), ← census]
      · obtain ⟨j, hj, hjd⟩ := ho
        rw [faultsAfter, if_neg fun h => h.2 j hj hjd]
    · refine ⟨(leaveFault .keyDamaged (slotWritten m (rewritten st id hi lo c s.keys.slots[m]) s)).census, ?_, ?_⟩
      · rw [if_neg fun h => ho (after.1 h)]
        rfl
      · rw [faultsAfter, if_pos ⟨hd, fun j hj hjd => ho ⟨j, hj, hjd⟩⟩, leaveFault, setFault]
        simp only [census]
        rfl
  · refine ⟨s.census, ?_, ?_⟩
    · rw [if_neg (by simpa using hd), ← census]
    · rw [faultsAfter, if_neg fun h => hd h.1]

theorem duplicateKey_iff : duplicateKey m id s = true
    ↔ ∃ j : Slot, j ≠ m ∧ s.keys.slots[j].state ≠ .empty ∧ s.keys.slots[j].identity = id := by
  simp [duplicateKey, and_assoc]

theorem slotOf_byte (m : Slot) : slotOf (byte m.val) = some m := by
  have val : (byte m.val).toNat = m.val := by
    simp only [byte, BitVec.toNat_ofNat]
    omega
  unfold slotOf
  rw [dif_pos (by rw [val]; exact m.isLt)]
  exact congrArg some (Fin.ext val)

/-! ## The parameters of the pairing requests (R193, R201) -/

theorem doPairSecret_eq (hq : q.params = byte m.val :: (bytes32 hi ++ bytes32 lo)) : doPairSecret q s =
    if s.latch.lock ≠ .unlocked then refuse q .notUnlocked s
    else if crashHold s then refuse q .crashHold s
    else done q { s with store := { s.store with
      pairing := some { slot := m, sHi := hi, sLo := lo, expiry := s.now + 5000000 } } } := by
  simp only [doPairSecret, hq, bytes32, List.cons_append, List.nil_append, slotOf_byte, Layouts.word32_split]

theorem doPairKey_eq (hq : q.params = byte m.val :: (bytes32 id ++ bytes24 c)) :
    doPairKey q s = pairKeyWith q m id c s := by
  simp only [doPairKey, hq, bytes32, bytes24, List.cons_append, List.nil_append, slotOf_byte, Layouts.word32_split, Layouts.word24_split]

theorem doRemoveKey_eq (hq : q.params = [byte m.val]) : doRemoveKey q s = done q (removeSlot m s) := by
  simp only [doRemoveKey, hq, slotOf_byte]

end

end Sys2Proof.Proofs.Service
end

section
/-! The pairing requests act and reply (10.4). -/

namespace Sys2Proof.Proofs.Service

open Sys2Proof Sys2Proof.Machine Sys2Proof.Proofs.Steps Sys2Proof.Proofs.Invariants Sys2Proof.Proofs.KeyFrames
open Sys2Proof.Proofs.Ends Sys2Proof.Proofs.Glass Sys2Proof.Proofs.Delivery Sys2Proof.Proofs.Release Sys2Proof.Proofs.Intents
open Sys2Proof.Proofs.Crash Sys2Proof.Proofs.Arbiter Sys2Proof.Proofs.Touches

/-- Settles O57: PAIR SECRET, PAIR KEY and REMOVE KEY, each refused by its first reason or done with its reply. -/
theorem pairingRequestsSetKeySlots : Obligations.PairingRequestsSetKeySlots := by
  intro s f e rest n ts m id hi lo c hs room ok hh hf ht sound t written fresh
  let b := received f rest s
  have hb : t = heard f.origin b := afterHearing_eq f rest s
  have cb : Calm b := received_calm hs
  have bline : b.line = { s.line with rx := rest } := received_line
  have keys : b.keys = s.keys := received_keys
  have latch : b.latch = s.latch := received_latch
  have store : b.store = s.store := received_store
  have good : ∀ j : Slot, slotGood j b.keys.slots[j] = true := by rw [keys]; exact sound
  have crash : crashHold b = s.latch.crashEnd.isSome := by rw [crashHold, latch]
  have acts {g : ServiceParts → State → State} {i : Instr} {is : Payload → Bool} {bs : List Byte} {r : ServiceResult}
      {u : State} (q : ServiceParts) (x : State) (hts : q.targets = ts) (hp : f.payload = .serviceRequest { bytes := bs })
      (hq : serviceParts bs = some q) (hc : exec i s = onDelivery is (serve g) s)
      (hk : is (.serviceRequest { bytes := bs }) = true) (hg : g q b = reply q.number q.kind r x) (hm : Calm x)
      (hline : x.line = { s.line with rx := rest }) (hu : heard f.origin x = u) :
      ∃ v, exec i s = .next v ∧ Kept u v ∧ Queued (.serviceReply q.number q.kind r) v :=
    service_acts q x hs hh ok room hp hq hc hk hg hm hline hu (by rwa [hts]) hf
  have census : b.census = s.census := received_census
  have calm (x : KeySlot) (y : Census) (z : Store → Store) :
      Calm { slotWritten m x b with census := y, store := z (slotWritten m x b).store } :=
    calm_of_same (s := slotWritten m x b) (calm_queueRecord (calm_of_same cb (by rfl))) (by rfl)
  have wline (x : KeySlot) : (slotWritten m x b).line = { s.line with rx := rest } := by
    rw [slotWritten, queueRecord_line]; exact bline
  have lands (x : KeySlot) (y : Census) (z : Store → Store) {v : State}
      (hy : y.fixed = ({ b.census with faults := faultsAfter m b } : Census).fixed)
      (k : Kept (heard f.origin { slotWritten m x b with census := y, store := z (slotWritten m x b).store }) v) :
      Kept { written x with store := z (written x).store } v := by
    have peers : y.peers = b.census.peers := (congrArg Census.peers hy :)
    have addr : (slotWritten m x b).addr = b.addr := by rw [slotWritten, queueRecord_addr]
    have now : (slotWritten m x b).now = b.now := by rw [slotWritten, queueRecord_now]
    have fixed : ({ y with peers := heardPeers f.origin (slotWritten m x b).addr (slotWritten m x b).now y.peers } : Census).fixed
        = ({ t.census with faults := faultsAfter m b } : Census).fixed := by
      rw [addr, now, hb, heard_eq, peers]
      exact congrArg (fun c : Census => { c with peers := heardPeers f.origin b.addr b.now b.census.peers }) hy
    rw [heard_eq] at k
    have k' := kept_census k fixed
    have state : { written x with store := z (written x).store }
        = { slotWritten m x b with
            census := { t.census with faults := faultsAfter m b }, store := z (slotWritten m x b).store } := by
      simp only [written, slotWritten, faultsAfter, keys, census]
      rw [queueRecord_eq, queueRecord_eq, hb, heard_eq]
    rw [state]
    exact k'
  refine ⟨fun hp => ?_, fun hp => ?_, fun hp => ?_⟩
  · let q : ServiceParts := { number := n, targets := ts, kind := 0#8, params := byte m.val :: (bytes32 hi ++ bytes32 lo) }
    have secret := doPairSecret_eq (q := q) (s := b) (m := m) (hi := hi) (lo := lo) rfl
    refine ⟨fun hl => ?_, fun hl hc => ?_, fun hl hc => ?_⟩
    · exact acts (i := .pairSecret) q b rfl hp rfl rfl rfl (by rw [secret, if_pos (by rwa [latch])]; rfl) cb bline hb.symm
    · exact acts (i := .pairSecret) q b rfl hp rfl rfl rfl
        (by rw [secret, if_neg (by rw [latch]; simp [hl]), if_pos (by rwa [crash])]; rfl) cb bline hb.symm
    · obtain ⟨v, hv, kept, queued⟩ := acts (i := .pairSecret) q
        { b with store := { b.store with pairing := some { slot := m, sHi := hi, sLo := lo, expiry := b.now + 5000000 } } }
        rfl hp rfl rfl rfl (by rw [secret, if_neg (by rw [latch]; simp [hl]), if_neg (by simp [crash, hc])]; rfl)
        (calm_of_same cb (by rfl)) bline (u := { t with store := { s.store with
          pairing := some { slot := m, sHi := hi, sLo := lo, expiry := s.now + 5000000 } } })
        (by rw [hb, heard_eq, heard_eq]; simp [b])
      exact ⟨v, hv, queued, kept⟩
  · let q : ServiceParts := { number := n, targets := ts, kind := 1#8, params := byte m.val :: (bytes32 id ++ bytes24 c) }
    have key := doPairKey_eq (q := q) (s := b) (m := m) (id := id) (c := c) rfl
    have replies (r : ServiceReason) (h : pairKeyWith q m id c b = refuse q r b) : ∃ v, exec .pairKey s = .next v
        ∧ Kept t v ∧ Queued (.serviceReply n 1#8 (.refused r)) v :=
      acts (i := .pairKey) q b rfl hp rfl rfl rfl (by rw [key, h]; rfl) cb bline hb.symm
    have free (hl : s.latch.lock = .unlocked) (hc : s.latch.crashEnd = none) : pairKeyWith q m id c b
        = match b.store.pairing with
          | none => refuse q .noSecret b
          | some p =>
              if p.slot ≠ m then refuse q .noSecret b
              else if duplicateKey m id b then refuse q .duplicate b
              else done q { pairSlot m id p.sHi p.sLo c b with
                store := { (pairSlot m id p.sHi p.sLo c b).store with pairing := none } } := by
      unfold pairKeyWith
      rw [if_neg (by rw [latch]; simp [hl]), if_neg (by simp [crash, hc]), readAllSlots_sound good]
        <;> rfl
    refine ⟨fun hl => ?_, fun hl hc => ?_, fun hl hc hno => ?_, fun p hpair hl hc hslot => ?_⟩
    · exact replies _ (if_pos (by rwa [latch]))
    · exact replies _ ((if_neg (by rw [latch]; simp [hl])).trans (if_pos (by rwa [crash])))
    · refine replies _ ((free hl hc).trans ?_)
      rw [store]
      cases hpair : s.store.pairing with
      | none => rfl
      | some p => exact if_pos (hno p hpair)
    · intro taken
      have dup : duplicateKey m id b = true ↔ taken := by rw [duplicateKey_iff, keys]
      have serve := free hl hc
      rw [store, Option.mem_def.1 hpair] at serve
      simp only [ne_eq, hslot, not_true_eq_false, if_false] at serve
      refine ⟨fun htaken => ?_, fun htaken => ?_⟩
      · exact replies _ (by rw [serve, if_pos (dup.2 htaken)])
      · intro w
        obtain ⟨y, rewrite_, fixed⟩ := rewriteSlot_eq (m := m) (id := id) (hi := p.sHi) (lo := p.sLo) (c := c) (s := b)
          (st := .paired) (by simp)
        rw [if_neg (fun h => htaken (dup.1 h)), pairSlot, rewrite_] at serve
        obtain ⟨v, hv, kept, queued⟩ := acts (i := .pairKey) q _ rfl hp rfl rfl rfl (by rw [key, serve]; rfl)
          (calm _ _ fun x => { x with pairing := none }) (wline _) rfl
        refine ⟨v, hv, ?_, queued⟩
        have landed := lands _ y (fun x => { x with pairing := none }) fixed kept
        rw [keys] at landed
        exact landed
  · let q : ServiceParts := { number := n, targets := ts, kind := 2#8, params := [byte m.val] }
    obtain ⟨y, rewrite_, fixed⟩ := rewriteSlot_eq (m := m) (id := 0#32) (hi := 0#32) (lo := 0#32) (c := 0#24) (s := b)
      (st := .empty) (by simp)
    obtain ⟨v, hv, kept, queued⟩ := acts (i := .removeKey) q
      { slotWritten m (rewritten .empty 0#32 0#32 0#32 0#24 b.keys.slots[m]) b with census := y } rfl hp rfl rfl rfl
      (by rw [doRemoveKey_eq (m := m) rfl, removeSlot, rewrite_]; rfl) (calm _ _ fun x => x) (wline _) rfl
    have landed := lands _ y (fun x => x) fixed kept
    rw [keys] at landed
    exact ⟨v, hv, queued, landed⟩

end Sys2Proof.Proofs.Service
end

section
/-! The census unit's own frames and timers (8.3, 8.5). -/

namespace Sys2Proof.Proofs.Census

open Sys2Proof Sys2Proof.Machine Sys2Proof.Proofs.Steps Sys2Proof.Proofs.Invariants Sys2Proof.Proofs.KeyFrames
open Sys2Proof.Proofs.Ends Sys2Proof.Proofs.Glass Sys2Proof.Proofs.Delivery Sys2Proof.Proofs.Release Sys2Proof.Proofs.Intents
open Sys2Proof.Proofs.Crash Sys2Proof.Proofs.Arbiter Sys2Proof.Proofs.Touches

section
variable {s t m : State} {fr : Frame} {e : Nat} {rest : List RxItem}

/-! ## The station's own CENSUS and ANNOUNCEMENT as frames queued (R154, R157) -/

theorem adds_queueAnnouncement (s : State) : Adds [.announcement (announcedNow s)] s (queueAnnouncement s) where
  quiet := queueAnnouncement_quiet s
  hold := by
    unfold queueAnnouncement
    simp only
    split
    · rfl
    · split
      · rfl
      · exact queueEntry_startHold _ _
  unclaimed := queueAnnouncement_unclaimed s
  stage := queueAnnouncement_noInterior
  gentle room := queueAnnouncement_gentle s (Nat.lt_of_succ_le room)
  queued _ _ p hp hk := absurd rfl (by rw [List.mem_singleton.1 hp] at hk; exact hk)

theorem adds_queueCensus (s : State) : ∃ ps, ps.length ≤ 1 ∧ Adds ps s (queueCensus s) := by
  unfold queueCensus
  split
  · exact ⟨[], by simp, .refl s⟩
  · rename_i h
    exact ⟨[ownCensus s], by simp, adds_queueFrame s rfl fun hf => absurd (by simp [inLineFault, hf]) h⟩

theorem queueCensus_waits (room : s.line.tx.length < 6) (h : announcementWaits s = true) :
    announcementWaits (queueCensus s) = true := by
  unfold queueCensus
  split
  · exact h
  · rename_i hc
    obtain ⟨e, he, hw⟩ := List.any_eq_true.1 h
    have ok : s.line.state = .ok := by
      by_contra hf
      simp [inLineFault, hf] at hc
    rw [queueFrame, queueAs_room _ _ s room ok]
    exact List.any_eq_true.2 ⟨e, (mem_insertTx _ _ _).2 (.inr he), hw⟩

theorem queueCensus_present (room : s.line.tx.length < 6) (ok : s.line.state = .ok) :
    ∃ e ∈ (queueCensus s).line.tx, isCensus e = true := by
  unfold queueCensus
  split
  · rename_i h
    exact List.any_eq_true.1 (by simpa [inLineFault, ok] using h)
  · rw [queueFrame, queueAs_room _ _ s room ok]
    exact ⟨_, (mem_insertTx _ _ _).2 (.inl rfl), rfl⟩

theorem isAnnouncement_census {e : TxEntry} (h : isCensus e = true) : isAnnouncement e = false := by
  unfold isCensus at h
  unfold isAnnouncement
  split at h
  · rename_i hp
    rw [hp]
  · exact absurd h (by simp)

/-! ## The end of a command and a waiting ANNOUNCEMENT -/

/-- The census unit's bookkeeping at the end of a command until its own ANNOUNCEMENT is judged. -/
abbrev judged (s : State) : State := settleAgreement (settleStartHold (settleCensus s))

theorem judged_line (s : State) : (judged s).line = (settleCensus s).line := by
  show (settleStartHold (settleCensus s)).line = _
  unfold settleStartHold
  split <;> rfl

theorem settleCensus_gentle (room : s.line.tx.length < 6) : Gentle 1 s (settleCensus s) := by
  unfold settleCensus
  split
  · exact Gentle.trans (n := 1) (m := 0) (b := { s with census := { s.census with censusOwed := false } })
      ⟨rfl, rfl, rfl, rfl, fun _ he _ => he, by simp, rfl⟩ (queueCensus_gentle _ room)
  · exact (Gentle.refl s).mono (Nat.zero_le _)

theorem settle_waits (hs : Calm s) (ok : s.line.state = .ok) (room : s.line.tx.length + 2 ≤ 6) (h : announcementWaits s = true) :
    announcementWaits (settle s) = true := by
  have census : announcementWaits (settleCensus s) = true := by
    unfold settleCensus
    split
    · exact queueCensus_waits (s := { s with census := { s.census with censusOwed := false } }) (by simp only; omega) h
    · exact h
  have g := settleCensus_gentle (s := s) (by omega)
  have waits : announcementWaits (judged s) = true := by
    rw [announcementWaits, judged_line]
    exact census
  have status : announcementWaits (settleStatus (judged s)) = true := by
    unfold settleStatus
    split
    · exact waits
    · split
      · exact queueAnnouncement_waits (by rw [judged_line]; have := g.length; omega) (by rw [judged_line, g.state]; exact ok)
      · exact waits
  rw [settle_calm s hs, settleDue_waits status]
  exact status

/-- An announcement that is due is queued at the end of the command, if none waits or is in transmission (R159). -/
theorem settle_due (hs : Calm s) (ok : s.line.state = .ok) (room : Roomy 3 s) (hb : s.census.balance < 0) :
    announcementWaits (settle s) = true ∨ announcementInTx (settle s) = true := by
  have hroom : s.line.tx.length + 3 ≤ 6 := room
  have q := (settleCensus_quiet s).trans ((settleStartHold_quiet _).trans ((settleAgreement_quiet _).trans
    (settleStatus_quiet (judged s))))
  have balance : (settleStatus (judged s)).census.balance = s.census.balance := (congrArg Census.balance q.census :)
  have g : Gentle 1 (judged s) (settleStatus (judged s)) := by
    have len : (judged s).line.tx.length < 6 := by
      rw [judged_line]; have := (settleCensus_gentle (s := s) (by omega)).length; omega
    unfold settleStatus
    split
    · exact (Gentle.refl _).mono (Nat.zero_le _)
    · split
      · exact queueAnnouncement_gentle _ len
      · exact ⟨rfl, rfl, rfl, rfl, fun _ he _ => he, by simp, rfl⟩
  have len : (settleStatus (judged s)).line.tx.length < 6 := by
    have := (settleCensus_gentle (s := s) (by omega)).length
    have := g.length
    rw [judged_line] at this
    omega
  have ok' : (settleStatus (judged s)).line.state = .ok := by
    rw [g.state, judged_line, (settleCensus_gentle (s := s) (by omega)).state]; exact ok
  rw [settle_calm s hs]
  generalize settleStatus (judged s) = x at balance len ok'
  unfold settleDue
  by_cases hw : announcementWaits x = true
  · rw [if_neg (by simp [hw])]; exact .inl hw
  · by_cases hi : announcementInTx x = true
    · rw [if_neg (by simp [hi])]; exact .inr hi
    · rw [if_pos (by simp [hw, hi, balance, hb, admitted, inLineFault, ok', len])]
      exact .inl (queueAnnouncement_waits len ok')

/-! ## The interval and silence timers (R158, R159, R163) -/

theorem exec_interval (hs : Calm s) :
    exec .intervalTimerExpiry s = .next (settle (intervalOver (advanceTo s.census.intervalEnd s))) :=
  whileAwake_next hs fun t => intervalOver (advanceTo t.census.intervalEnd t)

/-- The interval timer restarted (R158). -/
def restarted (s : State) : Census :=
  { s.census with intervalEnd := max s.census.intervalEnd s.now + intervalInEffect s * 1000 }

theorem intervalInEffect_advanceTo (x : Nat) (s : State) : intervalInEffect (advanceTo x s) = intervalInEffect s := by
  simp [intervalInEffect]

theorem intervalOver_falls (ok : t.line.state = .ok) (hb : -4 < t.census.balance) : intervalOver t
    = { t with census := { t.census with
        intervalEnd := t.now + intervalInEffect t * 1000, balance := t.census.balance - 1 } } := by
  unfold intervalOver
  simp only
  rw [if_neg (by simp [inLineFault, ok])]
  exact if_pos hb

/-- At the bound the late count rises, and a waiting announcement is queued afresh (R159). -/
theorem intervalOver_late (ok : t.line.state = .ok) (hb : t.census.balance = -4) :
    ∃ ps, ps.length ≤ 1 ∧ Adds ps { t with census := { t.census with
      intervalEnd := t.now + intervalInEffect t * 1000, late := satInc t.census.late, urgent := true } } (intervalOver t) := by
  have low : ¬ -4 < t.census.balance := by omega
  let x : State := { t with census := { t.census with
    intervalEnd := t.now + intervalInEffect t * 1000, late := satInc t.census.late, urgent := true } }
  have late : intervalOver t = if announcementWaits x then queueAnnouncement x else x := by
    unfold intervalOver
    simp only
    rw [if_neg (by simp [inLineFault, ok]), balanceFalls, if_neg (by exact low)]
    rfl
  rw [late]
  by_cases hw : announcementWaits x = true
  · rw [if_pos hw]
    exact ⟨_, by simp, adds_queueAnnouncement x⟩
  · rw [if_neg hw]
    exact ⟨[], by simp, .refl x⟩

theorem intervalOver_fault (hf : t.line.state ≠ .ok) (ha : agreement t = false) : intervalOver t
    = { t with census := { t.census with intervalEnd := t.now + intervalInEffect t * 1000 }
               power := { t.power with agree := 0 } } := by
  have same : agreement (restartInterval t) = agreement t := rfl
  unfold intervalOver
  simp only
  rw [if_pos (by simp [inLineFault, hf]), moveAgreement, same, ha]
  rfl

theorem intentsLose_none {a : Addr} (h : ∀ x ∈ s.intent.table, inSet a x.pending = false) : intentsLose a s = s := by
  have fold (l : List OpenEntry) (hl : ∀ x ∈ l, inSet a x.pending = false) : l.foldl (loseFrom a) s = s := by
    induction l with
    | nil => rfl
    | cons x xs ih =>
        have first : loseFrom a s x = s := if_neg (by simp [hl x List.mem_cons_self])
        rw [List.foldl_cons, first, ih fun y hy => hl y (List.mem_cons_of_mem _ hy)]
  exact fold _ h

end

/-- Settles O50: the interval timer's expiry by the balance and the line, and a silence timer's by the presence. -/
theorem intervalAndSilenceTimersExpire : Obligations.IntervalAndSilenceTimersExpire := by
  intro s a hs
  refine ⟨?_, fun ha hp => ?_⟩
  · intro n again
    have cn : Calm n := calm_advanceTo hs
    have census : n.census = s.census := advanceTo_census _ _
    have interval : intervalInEffect n = intervalInEffect s := intervalInEffect_advanceTo _ _
    have line : n.line.state = s.line.state := by simp [n]
    have tx : n.line.tx = s.line.tx := by simp [n]
    have next := exec_interval hs
    refine ⟨fun ok hb => ?_, fun ok hb => ?_, fun hf ha => ?_⟩
    · rw [intervalOver_falls (line.trans ok) (by rw [census]; exact hb), interval, census] at next
      have calm : Calm { n with census := { again with balance := s.census.balance - 1 } } := calm_of_same cn (by rfl)
      refine ⟨_, next, settle_kept _ calm, fun hle room => settle_due calm (line.trans ok) ((roomy_congr tx).2 room) ?_⟩
      show s.census.balance - 1 < 0
      omega
    · obtain ⟨ps, few, adds⟩ := intervalOver_late (line.trans ok) (by rw [census]; exact hb)
      rw [interval, census] at adds
      exact ⟨_, next, adds.kept (calm_of_same cn (by rfl)) few⟩
    · rw [intervalOver_fault (by rw [line]; exact hf) ha, interval, census] at next
      have kept := settle_kept { n with census := again, power := { n.power with agree := 0 } } (calm_of_same cn (by rfl))
      exact ⟨_, next, { kept with }⟩
  · intro old entered
    have none_ : ∀ x ∈ s.intent.table, inSet a x.pending = false := fun x hx => (hp x hx).1
    have bound (x : Nat) (h : silenceBound old = some x) : silenceAt a s = some x := by
      rw [silenceAt, if_neg ha]
      exact h
    have changes (x : Nat) (p : Presence) (h : silenceBound old = some x)
        (hf : peerSilent a (advanceTo x s) = entered (advanceTo x s) p) :
        ∃ v, exec (.silenceTimeout a) s = .next v ∧ Kept (entered (advanceTo x s) p) v :=
      timer_kept hs rfl (e := x) (g := silenceAt a) (f := peerSilent a) (bound x h) hf
        (calm_of_same (s := advanceTo x s) (calm_advanceTo hs) (by rfl))
    have presence (x : Nat) : (advanceTo x s).census.peers[a].presence = old.presence := by rw [advanceTo_census]
    have set_ (x : Nat) (p : Presence) : setPeer a (fun q => { q with presence := p }) (advanceTo x s) = entered (advanceTo x s) p := by
      simp only [setPeer, advanceTo_census, entered, old]
    refine ⟨fun h => ?_, fun h => ?_, fun h => ?_⟩
    · refine changes _ _ (by rw [silenceBound, h]) ?_
      unfold peerSilent
      rw [presence, h]
      exact set_ _ _
    · refine changes _ _ (by unfold silenceBound; rcases h with h | h <;> rw [h]) ?_
      unfold peerSilent
      have lost (x : Nat) : intentsLose a (entered (advanceTo x s) .lost) = entered (advanceTo x s) .lost :=
        intentsLose_none (by rw [show (entered (advanceTo x s) .lost).intent = s.intent from advanceTo_intent _ _]; exact none_)
      rcases h with h | h
      · rw [presence, h]; simp only; rw [set_, lost]
      · rw [presence, h]; simp only; rw [set_, lost]
    · have quiet : silenceAt a s = none := by rw [silenceAt, if_neg ha, silenceBound, h]
      have next : exec (.silenceTimeout a) s
          = .next (settle (atTime (silenceAt a s) (peerSilent a) s)) := whileAwake_next hs fun t => atTime (silenceAt a t) (peerSilent a) t
      rw [quiet] at next
      exact kept_of next hs

end Sys2Proof.Proofs.Census
end

section
/-! Frames entered in the peer table (8.1 to 8.5). -/

namespace Sys2Proof.Proofs.Census

open Sys2Proof Sys2Proof.Machine Sys2Proof.Proofs.Steps Sys2Proof.Proofs.Invariants Sys2Proof.Proofs.KeyFrames
open Sys2Proof.Proofs.Ends Sys2Proof.Proofs.Glass Sys2Proof.Proofs.Delivery Sys2Proof.Proofs.Release Sys2Proof.Proofs.Intents
open Sys2Proof.Proofs.Crash Sys2Proof.Proofs.Arbiter Sys2Proof.Proofs.Touches

section
variable {s t m : State} {fr : Frame} {e : Nat} {rest : List RxItem} {ps : List Payload}

/-! ## A delivery whose block leaves the receive queue alone -/

theorem delivery_settles {c : Instr} {is : Payload → Bool} {g : Frame → Nat → State → State} (hs : Calm s)
    (hh : Head fr e rest s) (hc : exec c s = onDelivery is g s) (hk : is fr.payload = true)
    (hrx : (g fr e (received fr rest s)).line.rx = rest) :
    exec c s = .next (settle (heard fr.origin (g fr e (received fr rest s)))) := by
  rw [delivery_next hs hh hc hk, drainReports_frames]
  rw [heard_line, hrx]
  exact hh.2

/-! ## The peer entry of a frame's origin (R155, R161, R163) -/

/-- A peer entry as a frame of the peer leaves it at an instant (R163). -/
def heardAt (now : Nat) (p : Peer) : Peer := { p with presence := .present, since := now }

theorem heard_setPeer {o : Addr} (ho : o ≠ s.addr) (f : Peer → Peer) :
    heard o (setPeer o f s) = setPeer o (fun p => heardAt s.now (f p)) s := by
  unfold heard
  rw [if_neg (by exact ho)]
  simp only [setPeer, heardAt, Fin.getElem_fin, Vector.getElem_set_self, Vector.set_set]

theorem heard_again {o : Addr} (ho : o ≠ s.addr) (f : Peer → Peer) :
    heard o (heard o (setPeer o f s)) = heard o (setPeer o f s) := by
  rw [heard_setPeer ho, heard_setPeer ho]
  rfl

/-! ## The waiting change (R157, R160) -/

/-- What queuing the own CENSUS keeps of the census unit's bookkeeping. -/
structure WatchKept (a b : State) : Prop where
  waiting : a.census.waitingChange = true → b.census.waitingChange = true
  watched : b.census.lastWatched = a.census.lastWatched
  owed : b.census.statusOwed = a.census.statusOwed
  waits : announcementWaits b = true → announcementWaits a = true

theorem WatchKept.refl (s : State) : WatchKept s s := ⟨id, rfl, rfl, id⟩

theorem WatchKept.trans {a b c : State} (h : WatchKept a b) (k : WatchKept b c) : WatchKept a c :=
  ⟨k.waiting ∘ h.waiting, k.watched.trans h.watched, k.owed.trans h.owed, h.waits ∘ k.waits⟩

theorem notSent_watch (p : Payload) (s : State) : (s.census.waitingChange = true → (notSent p s).census.waitingChange = true)
    ∧ (notSent p s).census.lastWatched = s.census.lastWatched ∧ (notSent p s).census.statusOwed = s.census.statusOwed := by
  have lost : (claimLost s).census = s.census := by
    unfold claimLost
    split
    · rfl
    · split
      · rfl
      · split <;> rfl
      · rfl
  unfold notSent
  split
  · exact ⟨id, rfl, rfl⟩
  · split
    · rw [lost]; exact ⟨id, rfl, rfl⟩
    · exact ⟨id, rfl, rfl⟩
  · split
    · rw [lost]; exact ⟨id, rfl, rfl⟩
    · exact ⟨id, rfl, rfl⟩
  · exact ⟨id, rfl, rfl⟩
  · exact ⟨fun h => by simp [h], rfl, rfl⟩
  · split <;> exact ⟨id, rfl, rfl⟩
  · exact ⟨id, rfl, rfl⟩

theorem tell_watch (e : TxEntry) (s : State) : WatchKept s (Machine.tell e s) := by
  have waits : announcementWaits (Machine.tell e s) = announcementWaits s := by
    rw [announcementWaits, announcementWaits, tell_tx]
  have kept := notSent_watch e.frame.payload s
  refine ⟨?_, ?_, ?_, fun h => waits ▸ h⟩ <;> unfold Machine.tell <;> split
  · exact id
  · exact kept.1
  · rfl
  · exact kept.2.1
  · rfl
  · exact kept.2.2

theorem queueCensus_watch (s : State) : WatchKept s (queueCensus s) := by
  have inserted (l l' : List TxEntry) (x : TxEntry) (hx : isAnnouncement x = false) (hl : ∀ y ∈ l', y ∈ l)
      (h : ((insertTx x l').any fun e => isAnnouncement e && !e.inTx) = true) :
      (l.any fun e => isAnnouncement e && !e.inTx) = true := by
    obtain ⟨y, hy, hw⟩ := List.any_eq_true.1 h
    rcases (mem_insertTx _ _ _).1 hy with rfl | hy
    · simp [hx] at hw
    · exact List.any_eq_true.2 ⟨y, hl y hy, hw⟩
  unfold queueCensus
  split
  · exact .refl s
  · unfold queueFrame queueAs queueEntry
    split
    · exact tell_watch _ s
    · split
      · exact ⟨id, rfl, rfl, inserted _ _ _ rfl fun _ h => h⟩
      · split
        · rename_i v l hv
          refine WatchKept.trans (b := { s with line := { s.line with
            tx := insertTx (newEntry (ownCensus s).cls (ownCensus s) s) l, nextAge := s.line.nextAge + 1 } }) ?_ (tell_watch _ _)
          exact ⟨id, rfl, rfl, inserted _ _ _ rfl fun y hy => (splitVictim_mem hv).2.2 y hy⟩
        · exact .refl s

theorem settleCensus_watch (s : State) : WatchKept s (settleCensus s) := by
  unfold settleCensus
  split
  · exact WatchKept.trans (b := { s with census := { s.census with censusOwed := false } }) ⟨id, rfl, rfl, id⟩
      (queueCensus_watch _)
  · exact .refl s

theorem settleStartHold_watch (s : State) : WatchKept s (settleStartHold s) := by
  unfold settleStartHold
  split
  · exact ⟨id, rfl, rfl, id⟩
  · exact .refl s

theorem judged_watch (s : State) : WatchKept s (judged s) :=
  (settleCensus_watch s).trans ((settleStartHold_watch _).trans ⟨id, rfl, rfl, id⟩)

/-- A newer ANNOUNCEMENT takes the place of the waiting one: every entry stays one of its kind (R142). -/
theorem replaceAnnouncement_all (cls : Fin 8) (a : Announced) (s : State) :
    (replaceAnnouncement cls (.announcement a) s).all isAnnouncement = s.line.tx.all isAnnouncement := by
  have inserted (x : TxEntry) (l : List TxEntry) (hx : isAnnouncement x = true) :
      (insertTx x l).all isAnnouncement = l.all isAnnouncement := by
    rw [Bool.eq_iff_iff, List.all_eq_true, List.all_eq_true]
    exact ⟨fun h y hy => h y ((mem_insertTx _ _ _).2 (.inr hy)),
      fun h y hy => ((mem_insertTx _ _ _).1 hy).elim (fun e => e ▸ hx) (h y)⟩
  unfold replaceAnnouncement
  split
  · rw [inserted _ _ rfl, Bool.eq_iff_iff, List.all_eq_true, List.all_eq_true]
    refine ⟨fun h y hy => ?_, fun h y hy => h y (List.mem_of_mem_filter hy)⟩
    by_cases ha : isAnnouncement y = true
    · exact ha
    · exact h y (List.mem_filter.2 ⟨hy, by simp [ha]⟩)
  · rfl

/-- What is announced stays what it was once a newer ANNOUNCEMENT has replaced the waiting one. -/
theorem announcedNow_replaced (ok : s.line.state = .ok) (hw : announcementWaits s = true) :
    announcedNow (queueAnnouncement s) = announcedNow s := by
  have same (x : List TxEntry) (c : Census) (hx : x.all isAnnouncement = s.line.tx.all isAnnouncement)
      (hc : c.announced = s.census.announced ∧ c.faults = s.census.faults) :
      announcedNow { s with census := c, line := { s.line with tx := x } } = announcedNow s := by
    simp only [announcedNow, sleepReady, hx, hc, intervalInEffect, storeIdle, crashHold, inLineFault]
  unfold queueAnnouncement
  rw [if_neg (by simp [inLineFault, ok]), if_pos hw]
  exact same _ _ (replaceAnnouncement_all _ _ _) ⟨rfl, rfl⟩

/-- A waiting change stays, unless new contents take the place of an ANNOUNCEMENT that waits (R157, R160). -/
theorem settle_waitingChange (hs : Calm s) (hb : 4 ≤ s.census.balance) (hc : s.census.waitingChange = true)
    (h : announcementWaits s = false
      ∨ (watchedFields (announcedNow (settle s)) = s.census.lastWatched ∧ s.census.statusOwed = false)) :
    (settle s).census.waitingChange = true := by
  have w := judged_watch s
  have q := (settleCensus_quiet s).trans ((settleStartHold_quiet _).trans (settleAgreement_quiet _))
  have balance : (judged s).census.balance = s.census.balance := (congrArg Census.balance q.census :)
  have due (x : State) (hx : 4 ≤ x.census.balance) : settleDue x = x :=
    if_neg (by simp; intro hn; omega)
  have calm : settle s = settleDue (settleStatus (judged s)) := settle_calm s hs
  rw [calm] at h ⊢
  generalize judged s = x at w balance h ⊢
  rw [due _ (by rw [show (settleStatus x).census.balance = x.census.balance from
    (congrArg Census.balance (settleStatus_quiet x).census :)]; omega)] at h ⊢
  unfold settleStatus at h ⊢
  by_cases same : watchedFields (announcedNow x) = x.census.lastWatched ∧ x.census.statusOwed = false
  · rw [if_pos same]
    exact w.waiting hc
  · rw [if_neg same] at h ⊢
    by_cases waits : announcementWaits x = true
    · rw [if_pos (by simp [waits])] at h ⊢
      by_cases ok : x.line.state = .ok
      · rw [announcedNow_replaced ok waits, ← w.watched, ← w.owed] at h
        exact absurd (h.resolve_left (by rw [w.waits waits]; simp)) same
      · unfold queueAnnouncement
        rw [if_pos (by simp [inLineFault, ok])]
    · rw [if_neg (by simp [waits]; omega)]

/-! ## A delivered CENSUS and ANNOUNCEMENT (R155, R161) -/

/-- The frames that a CENSUS brings, and that it leaves the receive queue alone. -/
theorem adds_answer (b : Bool) (s : State) (hb : s.census.balance < 4) :
    ∃ ps, ps.length ≤ 2 ∧ Adds ps s (if b = true then queueCensus (pullIn s) else pullIn s) := by
  have first : Adds [.announcement (announcedNow s)] s (pullIn s) := by
    rw [pullIn, if_pos hb]
    exact adds_queueAnnouncement s
  cases b
  · exact ⟨_, by simp, first⟩
  · obtain ⟨ps, hn, second⟩ := adds_queueCensus (pullIn s)
    exact ⟨_, by simp; omega, first.trans second⟩

/-- The peer entry that a CENSUS leaves (R155, R161). -/
def censusEntered (o pos : Addr) (caps : Capabilities) (iv : BitVec 16) (ep : Epoch) (p : Peer) : Peer :=
  { p with caps := if pos = o then some caps else p.caps, interval := clampInterval iv, epoch := some ep, announced := true }

theorem hearCensus_eq (o pos : Addr) (caps : Capabilities) (iv : BitVec 16) (ep : Epoch) (s : State) :
    hearCensus o pos caps iv ep s = if s.census.peers[o].presence == .lost then
        queueCensus (pullIn (setPeer o (censusEntered o pos caps iv ep) s))
      else pullIn (setPeer o (censusEntered o pos caps iv ep) s) := by
  rfl

theorem census_settles {pos : Addr} {caps : Capabilities} {iv : BitVec 16} {ep : Epoch} (hs : Calm s) (hh : Head fr e rest s)
    (hp : fr.payload = .census pos caps iv ep)
    (hrx : (hearCensus fr.origin pos caps iv ep (received fr rest s)).line.rx = rest) :
    exec .census s = .next (settle (heard fr.origin (hearCensus fr.origin pos caps iv ep (received fr rest s)))) := by
  have taken : takeCensus fr e (received fr rest s) = hearCensus fr.origin pos caps iv ep (received fr rest s) := by
    rw [takeCensus, hp]
  rw [← taken] at hrx ⊢
  exact delivery_settles hs hh rfl (by rw [hp]; rfl) hrx

/-- A frame of a peer leaves its entry as the block set it, PRESENT and its silence timer restarted (R163). -/
theorem heard_entered {o : Addr} (ho : o ≠ s.addr) (f : Peer → Peer) {p : Peer} (h : heardAt s.now (f s.census.peers[o]) = p) :
    heard o (setPeer o f (received fr rest s)) = { heard o (received fr rest s) with
      census := { (heard o (received fr rest s)).census with peers := s.census.peers.set o p } } := by
  rw [heard_setPeer (by rw [received_addr]; exact ho), received_now, setPeer, received_census]
  simp only [h, heard_eq, received_census]

theorem census_below {pos : Addr} {caps : Capabilities} {iv : BitVec 16} {ep : Epoch} {m : State} (hs : Calm s)
    (hh : Head fr e rest s) (hp : fr.payload = .census pos caps iv ep) (hb : s.census.balance < 4) (ok : s.line.state = .ok)
    (hm : heard fr.origin (setPeer fr.origin (censusEntered fr.origin pos caps iv ep) (received fr rest s)) = m) :
    ∃ v, exec .census s = .next v ∧ Kept m v ∧ (Roomy 4 s → announcementWaits v = true
      ∧ (s.census.peers[fr.origin].presence = .lost → v.line.tx.any isCensus = true)) := by
  subst hm
  let x : State := setPeer fr.origin (censusEntered fr.origin pos caps iv ep) (received fr rest s)
  have line : x.line = { s.line with rx := rest } := received_line
  have ok' : x.line.state = .ok := by rw [line]; exact ok
  have balance : x.census.balance < 4 := by
    show (received fr rest s).census.balance < 4
    rw [received_census]; exact hb
  have same : hearCensus fr.origin pos caps iv ep (received fr rest s)
      = if s.census.peers[fr.origin].presence == .lost then queueCensus (pullIn x) else pullIn x := by
    rw [hearCensus_eq, received_census]
  obtain ⟨ps, hn, adds⟩ := adds_answer (s.census.peers[fr.origin].presence == .lost) x balance
  rw [← same] at adds
  have calm : Calm (heard fr.origin x) := heard_calm (calm_of_same (received_calm hs) rfl)
  have hadds := adds_heard adds fr.origin
  have rx := (congrArg Line.rx adds.quiet.line :)
  refine ⟨_, census_settles hs hh hp (rx.trans (congrArg Line.rx line :)), hadds.kept_roomy calm (roomy_of_few hn), fun room => ?_⟩
  have len : x.line.tx.length + 4 ≤ 6 := by rw [line]; exact room
  have waits : announcementWaits (pullIn x) = true := by
    rw [pullIn, if_pos balance]
    exact queueAnnouncement_waits (by omega) ok'
  have pulled : Gentle 1 x (pullIn x) := by
    rw [pullIn, if_pos balance]
    exact queueAnnouncement_gentle x (by omega)
  have few := (adds.gentle (by omega)).length
  have heardRoom : (heard fr.origin (hearCensus fr.origin pos caps iv ep (received fr rest s))).line.tx.length + 2 ≤ 6 := by
    rw [heard_line]; omega
  have state : (hearCensus fr.origin pos caps iv ep (received fr rest s)).line.state = .ok := by
    rw [(adds.gentle (by omega)).state]; exact ok'
  constructor
  · refine settle_waits (hadds.calm calm) (by rw [heard_line]; exact state) heardRoom ?_
    rw [announcementWaits, heard_line, same]
    split
    · exact queueCensus_waits (by have := pulled.length; omega) waits
    · exact waits
  · intro lost
    have answer : hearCensus fr.origin pos caps iv ep (received fr rest s) = queueCensus (pullIn x) := by
      rw [same, if_pos (by rw [lost]; rfl)]
    obtain ⟨c, hc, census⟩ := queueCensus_present (s := pullIn x) (by have := pulled.length; omega) (by rw [pulled.state]; exact ok')
    refine List.any_eq_true.2 ⟨c, ?_, census⟩
    refine (settle_two _ (hadds.calm calm) heardRoom).stays c ?_ (isAnnouncement_census census)
    rw [heard_line, answer]
    exact hc

theorem census_above {pos : Addr} {caps : Capabilities} {iv : BitVec 16} {ep : Epoch} {m : State} (hs : Calm s)
    (hh : Head fr e rest s) (hp : fr.payload = .census pos caps iv ep) (hb : 4 ≤ s.census.balance)
    (hm : heard fr.origin (setPeer fr.origin (censusEntered fr.origin pos caps iv ep) (received fr rest s)) = m) :
    ∃ v, exec .census s = .next v ∧ Kept m v ∧ (announcementWaits s = false
        ∨ (watchedFields (announcedNow v) = s.census.lastWatched ∧ s.census.statusOwed = false) →
      v.census.waitingChange = true) := by
  subst hm
  let x : State := setPeer fr.origin (censusEntered fr.origin pos caps iv ep) (received fr rest s)
  let w : State := { x with census := { x.census with waitingChange := true } }
  have line : w.line = { s.line with rx := rest } := received_line
  have pulled : pullIn x = w := if_neg (by
    show ¬ (received fr rest s).census.balance < 4
    rw [received_census]; omega)
  have same : hearCensus fr.origin pos caps iv ep (received fr rest s)
      = if s.census.peers[fr.origin].presence == .lost then queueCensus w else w := by
    rw [hearCensus_eq, received_census, pulled]
  obtain ⟨ps, hn, adds, watch⟩ : ∃ ps : List Payload, ps.length ≤ 1
      ∧ Adds ps w (hearCensus fr.origin pos caps iv ep (received fr rest s))
      ∧ WatchKept w (hearCensus fr.origin pos caps iv ep (received fr rest s)) := by
    rw [same]
    split
    · obtain ⟨ps, hn, h⟩ := adds_queueCensus w
      exact ⟨ps, hn, h, queueCensus_watch w⟩
    · exact ⟨[], by simp, .refl w, .refl w⟩
  have calm : Calm (heard fr.origin w) := heard_calm (calm_of_same (received_calm hs) rfl)
  have hadds := adds_heard adds fr.origin
  have rx := (congrArg Line.rx adds.quiet.line :)
  refine ⟨_, census_settles hs hh hp (rx.trans (congrArg Line.rx line :)), ?_, fun h => ?_⟩
  · have kept := hadds.kept calm hn
    have other := kept_census (m := heard fr.origin w) (x := (heard fr.origin x).census) kept (by rw [heard_eq, heard_eq]; rfl)
    have only : ({ heard fr.origin w with census := (heard fr.origin x).census } : State) = heard fr.origin x := by
      rw [heard_eq, heard_eq]
    exact only ▸ other
  · have balance : (hearCensus fr.origin pos caps iv ep (received fr rest s)).census.balance = s.census.balance :=
      (congrArg Census.balance adds.quiet.census :).trans (by
        show (received fr rest s).census.balance = _
        rw [received_census])
    refine settle_waitingChange (hadds.calm calm) ?_ ?_ (h.imp (fun hw => ?_) fun ⟨hw, howed⟩ => ?_)
    · rw [heard_eq]; show 4 ≤ _; rw [balance]; exact hb
    · rw [heard_eq]; exact watch.waiting rfl
    · rw [announcementWaits, heard_line]
      cases hn : announcementWaits (hearCensus fr.origin pos caps iv ep (received fr rest s))
      · exact hn
      · have := watch.waits hn
        rw [announcementWaits, line] at this
        exact absurd (this.symm.trans hw) (by decide)
    · have watched := watch.watched
      have owed := watch.owed
      change _ = (received fr rest s).census.lastWatched at watched
      change _ = (received fr rest s).census.statusOwed at owed
      rw [received_census] at watched owed
      rw [heard_eq]
      exact ⟨by rw [heard_eq] at hw; exact hw.trans watched.symm, owed.trans howed⟩

/-- The peer entry that an ANNOUNCEMENT leaves (R161). -/
def statusEntered (a : Announced) (p : Peer) : Peer :=
  { p with status := some a, interval := clampInterval a.interval, epoch := some a.epoch, announced := true }

theorem followPeer_none (h : s.power.agree = 0) : followPeer s = s := if_neg (by simp [h])

theorem takeAnnouncement_enters {a : Announced} (hp : fr.payload = .announcement a)
    (hg : a.going ≠ some true ∨ s.power.agree = 0) :
    takeAnnouncement fr e s = heard fr.origin (if a.latch = some .opened then
        cancelRelock (setPeer fr.origin (statusEntered a) s)
      else setPeer fr.origin (statusEntered a) s) := by
  rw [takeAnnouncement, hp]
  simp only
  have same : heard fr.origin (hearAnnouncement fr.origin a s) = heard fr.origin (if a.latch = some .opened then
        cancelRelock (setPeer fr.origin (statusEntered a) s)
      else setPeer fr.origin (statusEntered a) s) := rfl
  rw [same]
  split
  · rename_i going
    refine followPeer_none ?_
    rw [heard_eq]
    have agree := hg.resolve_left (by simp [going])
    split
    · rw [cancelRelock]
      split <;> exact agree
    · exact agree
  · rfl

end

end Sys2Proof.Proofs.Census
end

section
/-! What a delivered frame enters in the peer table, and asks for (8.1 to 8.5). -/

namespace Sys2Proof.Proofs.Census

open Sys2Proof Sys2Proof.Machine Sys2Proof.Proofs.Steps Sys2Proof.Proofs.Invariants Sys2Proof.Proofs.KeyFrames
open Sys2Proof.Proofs.Ends Sys2Proof.Proofs.Glass Sys2Proof.Proofs.Delivery Sys2Proof.Proofs.Release Sys2Proof.Proofs.Intents
open Sys2Proof.Proofs.Crash Sys2Proof.Proofs.Arbiter Sys2Proof.Proofs.Touches

section
variable {s : State} {fr : Frame} {e : Nat} {rest : List RxItem}

/-- A frame that counts as heard and changes nothing else (R161). -/
theorem onlyHeard_kept {c : Instr} {is : Payload → Bool} (hs : Calm s) (hh : Head fr e rest s)
    (hc : exec c s = onDelivery is onlyHeard s) (hk : is fr.payload = true) :
    ∃ v, exec c s = .next v ∧ Kept (afterHearing fr rest s) v := by
  obtain ⟨v, hv, kept, -⟩ := delivery_adds (m := received fr rest s) hs hh hc hk (.refl _) received_rx
    (received_calm hs) (by simp)
  exact ⟨v, hv, kept⟩

/-- Auto-relock as an ANNOUNCEMENT leaves it: a latch OPEN in it cancels (R94). -/
def relockHeard (a : Announced) (s : State) : State :=
  { s with intent := { s.intent with
      relock := if a.latch = some .opened then none else s.intent.relock
      relockSpent := if a.latch = some .opened then none else s.intent.relockSpent } }

theorem relockHeard_eq {a : Announced} {x : State} {k : Option Relock} {q : Option Relock}
    (hk : x.intent.relock = k) (hq : x.intent.relockSpent = q) : relockHeard a x = { x with intent := { x.intent with
      relock := if a.latch = some .opened then none else k
      relockSpent := if a.latch = some .opened then none else q } } := by
  subst hk hq
  rfl

theorem cancelRelock_none {x : State} (h : x.intent.held = none) : cancelRelock x
    = { x with intent := { x.intent with relock := none, relockSpent := none } } := by
  unfold cancelRelock
  congr 2
  simp only [h]

theorem setPeer_relockHeard {a : Announced} {o : Addr} {g : Peer → Peer} (h : s.intent.held = none) :
    (if a.latch = some .opened then cancelRelock (setPeer o g s) else setPeer o g s) = setPeer o g (relockHeard a s) := by
  unfold relockHeard
  by_cases hl : a.latch = some .opened
  · rw [if_pos hl, cancelRelock_none (x := setPeer o g s) h]
    simp only [if_pos hl]
    rfl
  · simp only [if_neg hl]

theorem announcement_enters {a : Announced} {m : State} (hs : Calm s) (hh : Head fr e rest s) (ho : fr.origin ≠ s.addr)
    (hp : fr.payload = .announcement a) (hg : a.going ≠ some true ∨ s.power.agree = 0)
    (hm : heard fr.origin (setPeer fr.origin (statusEntered a) (relockHeard a (received fr rest s))) = m) :
    ∃ v, exec .announcement s = .next v ∧ Kept m v := by
  subst hm
  have taken := takeAnnouncement_enters (e := e) (s := received fr rest s) hp (by rw [received_power]; exact hg)
  rw [setPeer_relockHeard (received_calm hs).2.2.1] at taken
  have own : fr.origin ≠ (relockHeard a (received fr rest s)).addr := by
    show fr.origin ≠ (received fr rest s).addr
    rw [received_addr]; exact ho
  have line : (relockHeard a (received fr rest s)).line = { s.line with rx := rest } := received_line
  obtain ⟨v, hv, kept, -⟩ := delivery_adds (c := .announcement) (is := fun p => p.kind == 12) hs hh rfl
    (by rw [hp]; rfl) (Adds.of_eq taken) (by rw [heard_line]; exact (congrArg Line.rx line :))
    (heard_calm (calm_of_same (received_calm hs) rfl)) (by simp)
  exact ⟨v, hv, heard_again own (statusEntered a) ▸ kept⟩

theorem received_relock : (received fr rest s).intent.relock = s.intent.relock
    ∧ (received fr rest s).intent.relockSpent = s.intent.relockSpent := by
  rw [received_eq]
  exact ⟨rfl, rfl⟩

end

/-- Settles O49: a delivered frame, kind by kind; a CENSUS below and at a balance of +4. -/
theorem deliveredFrameIsEnteredInThePeerTable : Obligations.DeliveredFrameIsEnteredInThePeerTable := by
  intro s f e rest hs hh ho t entered old
  have peers : t.census.peers = s.census.peers.set f.origin (heardAt s.now old) := by
    show (heard f.origin (received f rest s)).census.peers = _
    rw [heard_eq, heardPeers, received_addr, if_neg (by exact ho), received_census, received_now]
    rfl
  refine ⟨?_, fun pos caps iv ep hp => ?_, fun a hp hg => ?_, ?_, ?_, ?_, ?_, ?_⟩
  · rw [peers]
    simp only [Fin.getElem_fin, Vector.getElem_set_self]
    exact ⟨rfl, rfl⟩
  · have same : heard f.origin (setPeer f.origin (censusEntered f.origin pos caps iv ep) (received f rest s))
        = entered (heardAt s.now (censusEntered f.origin pos caps iv ep old)) := heard_entered ho _ rfl
    exact ⟨fun hb ok => census_below hs hh hp hb ok same, fun hb => census_above hs hh hp hb same⟩
  · have same : heard f.origin (setPeer f.origin (statusEntered a) (received f rest s))
        = entered (heardAt s.now (statusEntered a old)) := heard_entered ho _ rfl
    obtain ⟨relock, spent⟩ := received_relock (fr := f) (rest := rest) (s := s)
    refine announcement_enters hs hh ho hp hg ?_
    have apart : heard f.origin (setPeer f.origin (statusEntered a) (relockHeard a (received f rest s)))
        = relockHeard a (heard f.origin (setPeer f.origin (statusEntered a) (received f rest s))) := by
      rw [heard_eq, heard_eq]
      rfl
    have intent : (heard f.origin (received f rest s)).intent = (received f rest s).intent := by rw [heard_eq]
    rw [apart, same]
    exact relockHeard_eq ((congrArg Intents.relock intent).trans relock) ((congrArg Intents.relockSpent intent).trans spent)
  · exact fun hk => onlyHeard_kept hs hh rfl (by simp [hk])
  · exact fun hk => onlyHeard_kept hs hh rfl (by simp [hk])
  · exact fun hk => onlyHeard_kept hs hh rfl (by simp [hk])
  · exact fun hk => onlyHeard_kept hs hh rfl (by simp [hk])
  · exact fun hk => onlyHeard_kept hs hh rfl (by simp [hk])

end Sys2Proof.Proofs.Census
end

section
/-! Records written, slots and zones checked (10.2, 10.3, 5.1). -/

namespace Sys2Proof.Proofs.Records

open Sys2Proof Sys2Proof.Machine Sys2Proof.Proofs.Steps Sys2Proof.Proofs.Invariants Sys2Proof.Proofs.KeyFrames
open Sys2Proof.Proofs.Ends Sys2Proof.Proofs.Glass Sys2Proof.Proofs.Delivery Sys2Proof.Proofs.Release Sys2Proof.Proofs.Intents
open Sys2Proof.Proofs.Crash Sys2Proof.Proofs.Arbiter Sys2Proof.Proofs.Touches

section
variable {s : State} {m : Slot} {id : Word32} {x : SlotCover}

/-! ## A lookup that meets a slot failing its check (R98) -/

/-- What the lookup passes: a slot that is EMPTY, or sound under another identity (R98, R102). -/
def Passed (id : Word32) (s : State) (j : Slot) : Prop :=
  s.keys.slots[j].state = .empty ∨ (slotGood j s.keys.slots[j] = true ∧ s.keys.slots[j].identity ≠ id)

theorem lookupIn_passed {l : List Slot} (h : ∀ j ∈ l, Passed id s j) (rest : List Slot) :
    lookupIn id (l ++ rest) s = lookupIn id rest s := by
  induction l with
  | nil => rfl
  | cons j l ih =>
      have tail := ih fun i hi => h i (.tail _ hi)
      rw [List.cons_append, lookupIn]
      rcases h j (.head _) with hempty | ⟨good, other⟩
      · rw [if_pos hempty, tail]
      · split
        · exact tail
        · simp only [readSlot_sound good, good, Bool.true_eq_false, and_false, if_false]
          rw [if_neg (fun hh => other hh.2), tail]

/-- The slots below one come first, in their order (log 24). -/
theorem slots_split : ∀ m : Slot, List.finRange 6 = (List.finRange 6).take m.val ++ m :: (List.finRange 6).drop (m.val + 1)
    ∧ ∀ j ∈ (List.finRange 6).take m.val, j < m := by decide

theorem lookup_from (h : ∀ j : Slot, j < m → Passed id s j) :
    lookup id s = lookupIn id (m :: (List.finRange 6).drop (m.val + 1)) s := by
  obtain ⟨split, below⟩ := slots_split m
  exact (congrArg (fun l => lookupIn id l s) split).trans (lookupIn_passed (fun j hj => h j (below j hj)) _)

theorem readSlot_reloads (bad : slotGood m s.keys.slots[m] = false) (current : s.keys.slots[m].storeCurrent = true)
    (h : slotRecord m s = some x) : readSlot m s = slotReloaded m x s := by
  have read : (readRecord (.key m) s).bind (decodeKey m) = some x := by
    unfold slotRecord at h
    unfold readRecord
    split at h
    · rename_i ha
      rw [if_pos ha]
      exact h
    · exact absurd h (by simp)
  rw [readSlot, if_neg (by rw [bad]; exact Bool.false_ne_true), if_pos current, read]
  rfl

theorem readSlot_damages (bad : slotGood m s.keys.slots[m] = false)
    (h : s.keys.slots[m].storeCurrent = false ∨ slotRecord m s = none) : readSlot m s = damageSlot m s := by
  have read : slotRecord m s = (readRecord (.key m) s).bind (decodeKey m) := by
    unfold slotRecord readRecord
    split <;> rfl
  rw [readSlot, if_neg (by rw [bad]; exact Bool.false_ne_true)]
  rcases h with h | h
  · rw [if_neg (by rw [h]; exact Bool.false_ne_true)]
  · rw [← read, h]
    split <;> rfl

theorem decodeKey_state {bytes : List Byte} (h : decodeKey m bytes = some x) : x.state = .empty ∨ x.state = .paired := by
  unfold decodeKey at h
  split at h
  · split at h
    · split at h
      · exact .inl (by injection h with h; rw [← h])
      · exact .inr (by injection h with h; rw [← h])
      · exact absurd h (by simp)
    · exact absurd h (by simp)
  · exact absurd h (by simp)

theorem slotRecord_state (h : slotRecord m s = some x) : x.state = .empty ∨ x.state = .paired := by
  unfold slotRecord at h
  split at h
  · obtain ⟨bytes, -, hd⟩ := Option.bind_eq_some_iff.1 h
    exact decodeKey_state hd
  · exact absurd h (by simp)

theorem slotReloaded_self : (slotReloaded m x s).keys.slots[m] =
    { reloadedSlot s.keys.slots[m] x with check := slotCover m (reloadedSlot s.keys.slots[m] x) } := by
  simp [slotReloaded, reloadedSlot]

theorem slotReloaded_good : slotGood m (slotReloaded m x s).keys.slots[m] = true := by
  rw [slotReloaded_self]
  simp [slotGood, slotCover]

theorem slotReloaded_undamaged (h : slotRecord m s = some x) : (slotReloaded m x s).keys.slots[m].state ≠ .damaged := by
  rw [slotReloaded_self]
  show (if _ then SlotState.suspended else x.state) ≠ .damaged
  split
  · decide
  · rcases slotRecord_state h with h | h <;> rw [h] <;> decide

theorem slotReloaded_other {j : Slot} (h : j ≠ m) : (slotReloaded m x s).keys.slots[j] = s.keys.slots[j] := by
  simp only [slotReloaded, Fin.getElem_fin]
  exact Vector.getElem_set_ne _ _ (fun e => h (Fin.ext e.symm))

/-- The lookup goes on with the slot as its record gives it (R98). -/
theorem lookup_reloaded (h : MeetsSpoiltSlot id m s) (current : s.keys.slots[m].storeCurrent = true)
    (hx : slotRecord m s = some x) : lookup id s = lookup id (slotReloaded m x s) := by
  obtain ⟨used, bad, below⟩ := h
  have below' : ∀ j : Slot, j < m → Passed id (slotReloaded m x s) j := fun j hj => by
    rw [Passed, slotReloaded_other (ne_of_lt hj)]
    exact below j hj
  rw [lookup_from (s := s) below, lookup_from below', lookupIn, lookupIn, if_neg used, readSlot_reloads bad current hx,
    readSlot_sound slotReloaded_good]
  simp only [if_neg (fun hh : _ ∧ _ => slotReloaded_undamaged hx hh.1)]
  by_cases empty : (slotReloaded m x s).keys.slots[m].state = .empty
  · rw [if_pos empty, if_neg (fun hh => hh.1 empty)]
  · rw [if_neg empty]

theorem damageSlot_self : (damageSlot m s).keys.slots[m].state = .damaged := by
  have keys : (damageSlot m s).keys = (writeSlot m { s.keys.slots[m] with state := .damaged } s).keys := by
    exact (queueFrame_quiet _ _).keys
  rw [keys, writeSlot]
  simp

/-- The lookup ends at a slot that its check makes DAMAGED (R98). -/
theorem lookup_damaged (h : MeetsSpoiltSlot id m s) (lost : s.keys.slots[m].storeCurrent = false ∨ slotRecord m s = none) :
    lookup id s = (some m, damageSlot m s) := by
  obtain ⟨used, bad, below⟩ := h
  rw [lookup_from below, lookupIn, if_neg used, readSlot_damages bad lost]
  exact if_pos ⟨damageSlot_self, bad⟩

/-- The damaged slot, before its FAULT NOTICE is queued (R98, R165). -/
def slotMarked (m : Slot) (s : State) : State :=
  setFault .keyDamaged (some (byte m.val))
    (unqueueRecord (.key m) (writeSlot m { s.keys.slots[m] with state := .damaged } s))

theorem damageSlot_eq (m : Slot) (s : State) :
    damageSlot m s = queueFrame (.faultNotice .keyDamaged (byte m.val)) (slotMarked m s) := rfl

theorem kept_slotMarked {v : State} (h : Kept (slotMarked m s) v) : Kept (slotDamaged m s) v :=
  kept_census (x := (slotDamaged m s).census) h rfl

/-! ## The commands of the record store interface (R189 to R191, R193) -/

theorem exec_writeBegin (hs : Calm s) : exec .writeBegin s = .next (settle (beginWrite s)) := whileAwake_next hs _

theorem exec_writeAttemptEnd (hs : Calm s) (content : List Byte) (answers : Bool) :
    exec (.writeAttemptEnd content answers) s = .next (settle (endAttempt content answers s)) := whileAwake_next hs _

theorem exec_patrolStep (hs : Calm s) : exec .patrolStep s = .next (settle (patrolOp s)) := whileAwake_next hs _

/-- What a write attempt leaves in the store (R189, R190). -/
def attemptEnded (w : Writing) (content : List Byte) (answers : Bool) (q : Option Writing) (s : State) : State := { s with
  pins := { s.pins with storeAnswers := answers }
  store := { s.store with records := s.store.records.set w.id.index (some content), writing := q } }

section
variable {w : Writing} {content : List Byte} {answers : Bool}

theorem endAttempt_verified (hw : s.store.writing = some w) (h : w.underWay = true)
    (v : answers = true ∧ content = w.snapshot) :
    endAttempt content answers s = writeVerified w (attemptEnded w content answers (some w) s) := by
  unfold endAttempt
  rw [hw]
  simp only
  rw [if_neg (by simp [h]), if_pos v]
  rw [attemptEnded, ← hw]

theorem endAttempt_again (hw : s.store.writing = some w) (h : w.underWay = true)
    (v : ¬ (answers = true ∧ content = w.snapshot)) (few : w.attempt < 3) : endAttempt content answers s =
      attemptEnded w content answers (some { w with attempt := w.attempt + 1, underWay := !s.power.supply.poor }) s := by
  unfold endAttempt
  rw [hw]
  simp only
  rw [if_neg (by simp [h]), if_neg v, if_pos few]
  rfl

theorem endAttempt_dropped (hw : s.store.writing = some w) (h : w.underWay = true)
    (v : ¬ (answers = true ∧ content = w.snapshot)) (last : 3 ≤ w.attempt) : endAttempt content answers s =
      queueFrame (.faultNotice .store (byte w.id.code))
        (setFault .store (some (byte w.id.code)) (attemptEnded w content answers none s)) := by
  unfold endAttempt
  rw [hw]
  simp only
  rw [if_neg (by simp [h]), if_neg v, if_neg (by omega)]
  rfl

end

/-- The patrol has stepped on; its item is still to check (R191). -/
def patrolled (s : State) : State :=
  { advanceTo (s.store.patrolAt + 100000) s with store := { s.store with
    patrol := s.store.patrol + 1, patrolAt := (advanceTo (s.store.patrolAt + 100000) s).now } }

theorem patrolOp_eq (s : State) : patrolOp s = patrolItem s.store.patrol (patrolled s) := by
  simp only [patrolOp, patrolled, advanceTo_store]

theorem patrolItem_slot {i : Fin 38} (h : i.val = m.val) : patrolItem i s = readSlot m s := by
  unfold patrolItem
  rw [if_pos (by omega)]
  congr 1
  exact Fin.ext (by simp [h])

theorem patrolItem_zone {i : Fin 38} {z : Zone} (h : i.val = 6 + z.val) :
    patrolItem i s = if zoneGood z s.pinch.profile[z] then s else unlearnZone z s := by
  unfold patrolItem
  rw [if_neg (by omega)]
  have same : (Fin.ofNat 32 (i.val - 6) : Zone) = z := Fin.ext (by simp [h])
  simp only [same]

theorem patrolled_calm (hs : Calm s) : Calm (patrolled s) := calm_of_same hs (by simp [patrolled])

end

end Sys2Proof.Proofs.Records
end

section
/-! What a write, the patrol and a spoilt slot bring (10.2, 10.3, 5.1). -/

namespace Sys2Proof.Proofs.Records

open Sys2Proof Sys2Proof.Machine Sys2Proof.Proofs.Steps Sys2Proof.Proofs.Invariants Sys2Proof.Proofs.KeyFrames
open Sys2Proof.Proofs.Ends Sys2Proof.Proofs.Glass Sys2Proof.Proofs.Delivery Sys2Proof.Proofs.Release Sys2Proof.Proofs.Intents
open Sys2Proof.Proofs.Crash Sys2Proof.Proofs.Arbiter Sys2Proof.Proofs.Touches

section
variable {s t : State} {m : Slot} {id : Word32} {x : SlotCover}

/-- A command whose effect queues one frame that is no ANNOUNCEMENT. -/
theorem kept_queued {c : Instr} {p : Payload} (h : exec c s = .next (settle (queueFrame p t))) (ht : Calm t)
    (ok : t.line.state = .ok) (room : Roomy 4 t) (hp : isAnnouncement (newEntry p.cls p t) = false) :
    ∃ v, exec c s = .next v ∧ Kept t v ∧ Queued p v :=
  have h' := settle_queueFrame ht ok room hp
  ⟨_, h, h'.1, h'.2⟩

/-- A button frame whose lookup is as in another state comes to what it comes to there (R102). -/
theorem exec_buttonFrame_lookup {bytes : List Byte} {b : ButtonFrame} (hs : Calm s) (ht : Calm t)
    (hc : s.cfg.caps.receiver = true) (hd : t.cfg.caps.receiver = true) (hb : decodeButton bytes = some b)
    (h : lookup b.identity s = lookup b.identity t) : exec (.buttonFrame bytes) s = exec (.buttonFrame bytes) t := by
  have check : checkButton b s = checkButton b t := by rw [checkButton, checkButton, h]
  have run : buttonFrameOp bytes s = buttonFrameOp bytes t := by
    rw [buttonFrameOp_run hs.2.1 hc hb, buttonFrameOp_run ht.2.1 hd hb, takeButton, takeButton, check]
  rw [exec_buttonFrame, exec_buttonFrame, live, live, liveInput, liveInput, hs.1, ht.1, run]
  rfl

theorem buttonFrame_spoilt {bytes : List Byte} {b : ButtonFrame} (hs : Calm s)
    (hc : s.cfg.caps.receiver = true) (hb : decodeButton bytes = some b) (h : MeetsSpoiltSlot b.identity m s) :
    (s.keys.slots[m].storeCurrent = true → ∀ x ∈ slotRecord m s,
      exec (.buttonFrame bytes) s = exec (.buttonFrame bytes) (slotReloaded m x s))
    ∧ (s.keys.slots[m].storeCurrent = false ∨ slotRecord m s = none → s.line.state = .ok → Roomy 4 s →
      ∃ v, exec (.buttonFrame bytes) s = .next v ∧ Kept (slotDamaged m s) v
        ∧ Queued (.faultNotice .keyDamaged (byte m.val)) v) := by
  refine ⟨fun current x hx => ?_, fun lost ok room => ?_⟩
  · exact exec_buttonFrame_lookup hs (calm_of_same hs rfl) hc hc hb (lookup_reloaded h current hx)
  · have check : checkButton b s = (false, damageSlot m s) := by
      rw [checkButton, lookup_damaged h lost]
      exact if_pos (by rw [damageSlot_self]; decide)
    have run : buttonFrameOp bytes s = damageSlot m s := (buttonFrameOp_run hs.2.1 hc hb).trans (takeButton_dropped check)
    have next : exec (.buttonFrame bytes) s = .next (settle (damageSlot m s)) := by
      rw [exec_buttonFrame, live, liveInput, hs.1, run]
      rfl
    rw [damageSlot_eq] at next
    obtain ⟨v, hv, kept, queued⟩ := kept_queued next (calm_of_same hs rfl) ok room rfl
    exact ⟨v, hv, kept_slotMarked kept, queued⟩

/-- A verified write tells the owner of a key record that was not queued again (R113, R189). -/
theorem writeVerified_eq (w : Writing) (s : State) : writeVerified w s = { s with
    store := { s.store with writing := none }
    keys := match w.id with
      | .key j =>
          if w.stale then s.keys
          else { s.keys with slots := s.keys.slots.set j { s.keys.slots[j] with storeCurrent := true } }
      | _ => s.keys } := by
  obtain ⟨id, snapshot, attempt, underWay, stale⟩ := w
  cases id with
  | key j => cases stale <;> rfl
  | _ => rfl

theorem patrol_next (hs : Calm s) {u : State} (h : patrolOp s = u) (hu : Calm u) :
    ∃ v, exec .patrolStep s = .next v ∧ Kept u v := kept_of (by rw [exec_patrolStep hs, h]) hu

theorem keyRecord_index (m : Slot) : (RecordId.key m).index = ⟨m.val + 1, by omega⟩ :=
  Fin.ext (by show (1 + m.val) % 10 = m.val + 1; omega)

theorem slotRecord_patrolled : slotRecord m (patrolled s)
    = if s.pins.storeAnswers then (goodContent (.key m) (s.store.records[m.val + 1]'(by omega))).bind (decodeKey m) else none := by
  simp only [slotRecord, patrolled, advanceTo_pins, keyRecord_index, Fin.getElem_fin]

/-- The patrol at a slot: sound, lost, or reloaded (R98, R191). -/
theorem patrol_slot (hs : Calm s) (h : s.store.patrol.val = m.val) :
    let k := s.keys.slots[m]
    let slot := fun x : KeySlot =>
      { patrolled s with keys := { s.keys with slots := s.keys.slots.set m { x with check := slotCover m x } } }
    (k.check = slotCover m k → ∃ v, exec .patrolStep s = .next v ∧ Kept (patrolled s) v)
    ∧ (k.check ≠ slotCover m k → s.line.state = .ok → Roomy 4 s →
      k.storeCurrent = false ∨ s.pins.storeAnswers = false ∨ s.store.records[m.val + 1]'(by omega) = none →
      ∃ v, exec .patrolStep s = .next v
        ∧ Kept { slot { k with state := .damaged } with
            census := { s.census with faults := s.census.faults.set 2 (some (byte m.val)) }
            store := { (patrolled s).store with queue := s.store.queue.filter fun x => x != .key m } } v
        ∧ Queued (.faultNotice .keyDamaged (byte m.val)) v)
    ∧ (k.check ≠ slotCover m k → k.storeCurrent = true → s.pins.storeAnswers = true →
      ∀ c ∈ (goodContent (.key m) (s.store.records[m.val + 1]'(by omega))).bind (decodeKey m),
      ∃ v, exec .patrolStep s = .next v
        ∧ Kept (slot { k with
            state := if k.suspendedUntil.isSome && c.state == .paired then .suspended else c.state
            identity := c.identity, sHi := c.sHi, sLo := c.sLo, counter := c.counter }) v) := by
  intro k slot
  have op : patrolOp s = readSlot m (patrolled s) := by rw [patrolOp_eq, patrolItem_slot h]
  have keys : (patrolled s).keys = s.keys := by simp only [patrolled, advanceTo_keys]
  have calm := patrolled_calm hs
  have bad (hb : k.check ≠ slotCover m k) : slotGood m (patrolled s).keys.slots[m] = false := by
    rw [keys]
    exact beq_eq_false_iff_ne.2 hb
  refine ⟨fun good => patrol_next hs ?_ calm, fun hb ok room lost => ?_, fun hb current answers c hc => ?_⟩
  · rw [op, readSlot_sound]
    rw [keys]
    exact beq_iff_eq.2 good
  · have lost' : (patrolled s).keys.slots[m].storeCurrent = false ∨ slotRecord m (patrolled s) = none := by
      rw [keys, slotRecord_patrolled]
      rcases lost with h | h | h
      · exact .inl h
      · exact .inr (if_neg (by rw [h]; exact Bool.false_ne_true))
      · refine .inr ?_
        rw [h]
        split <;> rfl
    rw [readSlot_damages (bad hb) lost', damageSlot_eq] at op
    have next := exec_patrolStep hs
    rw [op] at next
    obtain ⟨v, hv, kept, queued⟩ := kept_queued next (calm_of_same calm rfl)
      (by show (patrolled s).line.state = _; simpa [patrolled] using ok)
      (by show Roomy 4 (patrolled s); simpa [patrolled] using room) rfl
    refine ⟨v, hv, ?_, queued⟩
    have damaged := kept_slotMarked kept
    simp only [slotDamaged, keys, show (patrolled s).census = s.census by simp only [patrolled, advanceTo_census]] at damaged
    exact damaged
  · have found : slotRecord m (patrolled s) = some c := by
      rw [slotRecord_patrolled, if_pos answers]
      exact hc
    have current' : (patrolled s).keys.slots[m].storeCurrent = true := by rw [keys]; exact current
    refine patrol_next hs ?_ (calm_of_same calm rfl)
    rw [op, readSlot_reloads (bad hb) current' found]
    simp only [slotReloaded, keys]
    rfl

theorem patrol_zone {z : Zone} (hs : Calm s) (h : s.store.patrol.val = 6 + z.val) :
    let g := s.pinch.profile[z]
    (g.check = { zone := z, learned := g.learned, value := g.value } →
      ∃ v, exec .patrolStep s = .next v ∧ Kept (patrolled s) v)
    ∧ (g.check ≠ { zone := z, learned := g.learned, value := g.value } →
      ∃ v, exec .patrolStep s = .next v ∧ Kept (queueRecord .profile { patrolled s with pinch := { s.pinch with
        profile := s.pinch.profile.set z
          { learned := false, value := 0, check := { zone := z, learned := false, value := 0 } } } }) v) := by
  intro g
  have pinch : (patrolled s).pinch = s.pinch := by simp only [patrolled, advanceTo_pinch]
  have op : patrolOp s = if zoneGood z s.pinch.profile[z] then patrolled s else unlearnZone z (patrolled s) := by
    rw [patrolOp_eq, patrolItem_zone h, pinch]
  refine ⟨fun good => patrol_next hs ?_ (patrolled_calm hs), fun bad => patrol_next hs ?_ ?_⟩
  · rw [op]
    exact if_pos (beq_iff_eq.2 good)
  · rw [op]
    refine (if_neg (fun hz => bad (beq_iff_eq.1 hz))).trans ?_
    rw [unlearnZone, pinch]
    rfl
  · refine calm_of_same (patrolled_calm hs) ?_
    rw [queueRecord_eq]

end

/-- Settles O56: the write by its steps, the patrol by its items, and the lookup through a spoilt slot. -/
theorem recordsAreWrittenVerifiedAndPatrolled : Obligations.RecordsAreWrittenVerifiedAndPatrolled := by
  intro s content answers m z bytes b hs
  refine ⟨fun hc hb h => buttonFrame_spoilt hs hc hb h, fun hw r hr => ?_, fun w hw hu => ?_, ?_, fun b hb => ?_⟩
  · obtain ⟨rest, hq⟩ : ∃ rest, s.store.queue = r :: rest := by
      cases hq : s.store.queue with
      | nil => simp [hq] at hr
      | cons y rest => exact ⟨rest, by simpa [hq] using hr⟩
    refine ⟨fun good => ?_, fun poor => ?_⟩
    · refine ⟨_, exec_writeBegin hs, ?_⟩
      have begun : beginWrite s = { s with store := { s.store with
          queue := s.store.queue.tail
          writing := some { id := r, snapshot := recordBytes r (recordContent r s), attempt := 1, underWay := true } } } := by
        unfold beginWrite
        rw [hw, hq]
        exact if_neg (by rw [show s.power.supply.poor = false from good]; exact Bool.false_ne_true)
      rw [begun]
      exact settle_kept _ (calm_of_same hs rfl)
    · refine ⟨_, exec_writeBegin hs, ?_⟩
      have waits : beginWrite s = s := by
        unfold beginWrite
        rw [hw, hq]
        exact if_pos poor
      rw [waits]
      exact settle_kept _ hs
  · have hw := Option.mem_def.1 hw
    intro ended verified
    refine ⟨fun v => ?_, fun v few => ?_, fun v last ok room => ?_⟩
    · refine ⟨_, exec_writeAttemptEnd hs _ _, ?_⟩
      rw [endAttempt_verified hw hu v, writeVerified_eq]
      exact settle_kept _ (calm_of_same hs rfl)
    · refine ⟨_, exec_writeAttemptEnd hs _ _, ?_⟩
      rw [endAttempt_again hw hu v few]
      exact settle_kept _ (calm_of_same hs rfl)
    · have next := exec_writeAttemptEnd hs content answers
      rw [endAttempt_dropped hw hu v last] at next
      obtain ⟨u, hv, kept, queued⟩ := kept_queued next (calm_of_same hs rfl) ok room rfl
      exact ⟨u, hv, kept_census (m := setFault .store (some (byte w.id.code)) (attemptEnded w content answers none s))
        (x := { s.census with faults := s.census.faults.set 3 (some (byte w.id.code)) }) kept rfl, queued⟩
  · exact ⟨fun h => patrol_slot hs h, fun h => patrol_zone hs h⟩
  · have next : exec .pairingBufferExpiry s = .next (settle
        { advanceTo b.expiry s with store := { (advanceTo b.expiry s).store with pairing := none } }) := by
      rw [show exec .pairingBufferExpiry s = whileAwake _ s from rfl, whileAwake_next hs, Option.mem_def.1 hb]
      rfl
    rw [advanceTo_store] at next
    exact kept_of next (calm_of_same hs (by simp))

end Sys2Proof.Proofs.Records
end

section
/-! The station held in reset, and its reset's end (9.5, 10.4). -/

namespace Sys2Proof.Proofs.Resets

open Sys2Proof Sys2Proof.Machine Sys2Proof.Proofs.Steps Sys2Proof.Proofs.Invariants Sys2Proof.Proofs.KeyFrames
open Sys2Proof.Proofs.Ends Sys2Proof.Proofs.Glass Sys2Proof.Proofs.Delivery Sys2Proof.Proofs.Release Sys2Proof.Proofs.Intents
open Sys2Proof.Proofs.Crash Sys2Proof.Proofs.Arbiter Sys2Proof.Proofs.Touches

section
variable {s : State}

/-! ## A station held in reset (R183) -/

theorem liveInput_held {pin f : State → State} (h : s.power.heldSince.isSome = true) : liveInput pin f s = .next (pin s) :=
  if_pos h

/-- What a command reads of the input lines while the station is held in reset (R15, R48, R51, R183). -/
def heldReading (c : Instr) (s : State) : State :=
  match c with
  | .latchSwitchChange r => { s with pins := { s.pins with latchSwitch := r } }
  | .outerHandlePull b => if s.addr = 4 then s else { s with pins := { s.pins with outerHandle := b } }
  | .localSwitchFirstDetent d | .localSwitchSecondDetent d =>
      { s with pins := { s.pins with localHold := some d, localSpent := false } }
  | .localSwitchRelease => { s with pins := { s.pins with localHold := none, localSpent := false } }
  | .switchPackChange a b x y => { s with win := { s.win with pack := #v[a, b, x, y] } }
  | .supplySample u | .hallPulse u _ => senseInReset u s
  | _ => s

theorem outerHandlePin_eq (b : Bool) (s : State) :
    outerHandlePin b s = if s.addr = 4 then s else { s with pins := { s.pins with outerHandle := b } } := by
  unfold outerHandlePin
  by_cases h : s.addr = 4
  · rw [if_pos h, if_pos (by simp [isTailgate, h])]
  · rw [if_neg h, if_neg (by simpa [isTailgate] using fun e => h (Fin.ext e))]

theorem exec_held {c : Instr} (h : s.power.heldSince.isSome = true) (off : c ≠ .powerOnReset)
    (ends : ∀ u a, c ≠ .powerOnResetEnd u a) : exec c s = .next (heldReading c s) := by
  cases c with
  | powerOnReset => exact absurd rfl off
  | powerOnResetEnd u a => exact absurd rfl (ends u a)
  | outerHandlePull b => exact (liveInput_held h).trans (congrArg _ (outerHandlePin_eq b s))
  | _ => exact if_pos h

/-! ## Into reset (R183) -/

theorem settle_holdReset (s : State) : settle (holdReset s) = holdReset s := settle_held rfl

theorem advanceTo_pinned (t : Nat) (p : Pins) (s : State) :
    advanceTo t { s with pins := p } = { advanceTo t s with pins := p } := by
  unfold advanceTo
  split <;> rfl

theorem exec_sample_resets {u : Nat} (h : s.power.heldSince = none) (hu : u < 4500) :
    exec (.supplySample u) s = exec .powerOnReset
      { (if s.power.state = .sleep then s else advanceTo (s.power.sampleAt + 1000) s) with
        pins := { s.pins with supplySense := u } } := by
  have run : exec (.supplySample u) s = .next (settle (supplySampleOp u s)) := if_neg (by simp [h])
  have op : supplySampleOp u s = holdReset
      { (if s.power.state = .sleep then s else advanceTo (s.power.sampleAt + 1000) s) with
        pins := { s.pins with supplySense := u } } := by
    unfold supplySampleOp
    by_cases asleep : s.power.state = .sleep
    · simp [hu, awake, asleep]
    · rw [if_neg asleep]
      simp only [hu, if_true, advanceTo_pinned, show awake s = true by simpa [awake] using asleep]
  rw [run, op, settle_holdReset]
  rfl

theorem exec_pulse_resets {u t : Nat} (h : s.power.heldSince = none) (hu : u < 4500) : exec (.hallPulse u t) s
    = exec .powerOnReset { advanceTo (s.win.lastPulseAt + t) s with pins := { s.pins with supplySense := u } } := by
  have run : exec (.hallPulse u t) s = .next (settle (hallPulseOp u t s)) := if_neg (by simp [h])
  have op : hallPulseOp u t s
      = holdReset { advanceTo (s.win.lastPulseAt + t) s with pins := { s.pins with supplySense := u } } := by
    simp only [hallPulseOp, hu, if_true, advanceTo_pins]
  rw [run, op, settle_holdReset]
  rfl

/-! ## Out of reset (R183, R198) -/

theorem exec_resetEnd {h u : Nat} {a : Bool} (hh : s.power.heldSince = some h) :
    exec (.powerOnResetEnd u a) s = .next (resetOver u a (advanceTo (h + 20000) s)) := by
  rw [show exec (.powerOnResetEnd u a) s = .next (atTime (s.power.heldSince.map (· + 20000)) (resetOver u a) s) from rfl, hh]
  rfl

theorem exec_flushEnd {f : Flush} (h : s.power.heldSince = none) (hf : s.store.flush = some f) :
    exec .flushTimeout s = .next (settle (boot (advanceTo f.limitAt s))) := by
  have run : exec .flushTimeout s = .next (settle (atTime (s.store.flush.map fun f => f.limitAt) boot s)) :=
    if_neg (by simp [h])
  rw [run, hf]
  rfl

theorem exec_perform (h : s.power.heldSince = none) :
    exec .serviceResetPerform s = .next (settle (if flushDone s then boot s else s)) := if_neg (by simp [h])

theorem flushDone_iff {f : Flush} (hf : s.store.flush = some f) :
    flushDone s = true ↔ f.replyDue = false ∧ s.store.queue = [] ∧ s.store.writing = none := by
  unfold flushDone storeIdle
  rw [hf]
  simp only [Bool.and_eq_true, List.isEmpty_iff, Option.isNone_iff_eq_none, Bool.not_eq_true']
  tauto

end

end Sys2Proof.Proofs.Resets
end

section
/-! What a reset's end sets up and loads (9.5, 10.1, 10.5). -/

namespace Sys2Proof.Proofs.Resets

open Sys2Proof Sys2Proof.Machine Sys2Proof.Proofs.Steps Sys2Proof.Proofs.Invariants Sys2Proof.Proofs.KeyFrames
open Sys2Proof.Proofs.Ends Sys2Proof.Proofs.Glass Sys2Proof.Proofs.Delivery Sys2Proof.Proofs.Release Sys2Proof.Proofs.Intents
open Sys2Proof.Proofs.Crash Sys2Proof.Proofs.Arbiter Sys2Proof.Proofs.Touches

section
variable {s : State}

/-! ## The load, record by record (R186) -/

/-- A load that finds a fault enters it and queues its notice; the transmit queue is empty until then. -/
theorem enterFault_empty (f : StationFault) (d : Byte) (h : s.line.tx = []) (ok : s.line.state = .ok) :
    enterFault f d s = { setFault f (some d) s with line := { s.line with
      tx := [newEntry (Payload.faultNotice f d).cls (.faultNotice f d) s], nextAge := s.line.nextAge + 1 } } := by
  have room : (setFault f (some d) s).line.tx.length < 6 := by show s.line.tx.length < 6; rw [h]; decide
  rw [enterFault, queueFrame, queueAs_room _ _ (setFault f (some d) s) room ok]
  show ({ setFault f (some d) s with line := { s.line with tx := insertTx _ s.line.tx, nextAge := _ } } : State) = _
  rw [h]
  rfl

/-- The settings that CONFIG gives (R187). -/
def configOf (s : State) : Settings :=
  match (readRecord .config s).bind decodeConfig with
  | some c => { defaulted c with caps := adjustCaps s.addr c.caps }
  | none => defaultSettings s.addr

/-- The detail of CONFIG DEFAULTED, where it is entered (R187). -/
def configFault (s : State) : Option Byte :=
  match (readRecord .config s).bind decodeConfig with
  | some c => if 0 < defaultedCount c then some (byte (defaultedCount c)) else none
  | none => some 255#8

/-- What the load of CONFIG changes (R187). -/
theorem loadConfig_eq (h : s.line.tx = []) (ok : s.line.state = .ok) (none4 : s.census.faults[4] = none) :
    ∃ n : Census, ∃ l : Line, loadConfig s = { s with
        cfg := configOf s, store := { s.store with pendingCfg := configOf s }, census := n, line := l }
      ∧ { n with faults := s.census.faults, statusOwed := s.census.statusOwed } = s.census ∧ n.faults[4] = configFault s
      ∧ l.tx.length ≤ 1 ∧ l.state = .ok := by
  have entered (d : Byte) (t : State) (ht : t.line = s.line ∧ t.census = s.census) : ∃ n : Census, ∃ l : Line,
      enterFault .configDefaulted d t = { t with census := n, line := l }
        ∧ { n with faults := s.census.faults, statusOwed := s.census.statusOwed } = s.census
        ∧ n.faults[4] = some d ∧ l.tx.length ≤ 1 ∧ l.state = .ok := by
    rw [enterFault_empty _ _ (by rw [ht.1]; exact h) (by rw [ht.1]; exact ok), ← ht.2]
    exact ⟨_, _, rfl, rfl, Vector.getElem_set_self (by decide), by simp, by rw [ht.1]; exact ok⟩
  have config : configOf s = match (readRecord .config s).bind decodeConfig with
    | some c => { defaulted c with caps := adjustCaps s.addr c.caps }
    | none => defaultSettings s.addr := rfl
  unfold loadConfig configFault
  rw [config]
  cases (readRecord .config s).bind decodeConfig with
  | none => exact entered 255#8 _ ⟨rfl, rfl⟩
  | some c =>
      simp only
      split
      · rename_i few
        obtain ⟨n, l, hn, rest⟩ := entered (byte (defaultedCount c)) { s with
          cfg := { defaulted c with caps := adjustCaps s.addr c.caps }
          store := { s.store with pendingCfg := { defaulted c with caps := adjustCaps s.addr c.caps } } } ⟨rfl, rfl⟩
        exact ⟨n, l, hn, rest⟩
      · exact ⟨s.census, s.line, rfl, rfl, none4, by rw [h]; exact Nat.zero_le 1, ok⟩

theorem loadKeys_eq (l : List Slot) (s : State) : ∃ k : Vector KeySlot 6,
    l.foldl loadKey s = { s with keys := { s.keys with slots := k } } := by
  induction l generalizing s with
  | nil => exact ⟨s.keys.slots, rfl⟩
  | cons n l ih =>
      obtain ⟨k, hk⟩ := ih (loadKey s n)
      exact ⟨k, hk⟩

theorem loadProfile_eq (s : State) : ∃ p : Vector ZoneEntry 32, ∃ q : List RecordId,
    loadProfile s = { s with pinch := { s.pinch with profile := p }, store := { s.store with queue := q } } := by
  unfold loadProfile
  split
  · split
    · exact ⟨_, _, rfl⟩
    · exact ⟨_, _, queueRecord_eq _ _⟩
  · exact ⟨_, _, rfl⟩

theorem loadWindow_eq (s : State) : ∃ (p : Int) (n : Bool) (d : Option Int),
    loadWindow s = { s with win := { s.win with p := p, norm := n, dropOwed := d } } := by
  unfold loadWindow
  split
  · exact ⟨_, _, _, rfl⟩
  · exact ⟨_, _, _, rfl⟩

theorem loadLatch_eq (s : State) : ∃ (l : LockState) (c : ChildState) (q : List RecordId),
    loadLatch s = { s with latch := { s.latch with lock := l, child := c }, store := { s.store with queue := q } } := by
  unfold loadLatch
  split
  · simp only
    split
    · exact ⟨_, _, _, queueRecord_eq _ _⟩
    · exact ⟨_, _, _, rfl⟩
  · exact ⟨_, _, _, rfl⟩

/-- The state into which the records are loaded (R183, R186). -/
def unloaded (s : State) : State :=
  { blankState s with power := { firstSample s.pins.supplySense s.now (blankState s).power with localAt := s.now } }

theorem boot_eq (s : State) : boot s = firstFrames (beginStartHold (censusWake (loadRecords (unloaded s)))) := rfl

/-- What the load leaves as the reset has set it. -/
structure Loads (a b : State) : Prop where
  win : { b.win with p := a.win.p, norm := a.win.norm, dropOwed := a.win.dropOwed } = a.win
  latch : { b.latch with lock := a.latch.lock, child := a.latch.child } = a.latch
  clock : b.now = a.now ∧ b.pending = a.pending ∧ b.freeCount = a.freeCount ∧ b.pins = a.pins ∧ b.addr = a.addr
  rest : b.intent = a.intent ∧ b.search = a.search ∧ b.power = a.power
  flush : b.store.flush = a.store.flush
  line : b.line.tx.length ≤ 1 ∧ b.line.state = .ok

/-- The whole load (R186): CONFIG's settings and fault, and what is left alone. -/
theorem loadRecords_unloaded (s : State) : Loads (unloaded s) (loadRecords (unloaded s))
    ∧ (loadRecords (unloaded s)).cfg = configOf (unloaded s)
    ∧ (loadRecords (unloaded s)).census.faults[4] = configFault (unloaded s) := by
  obtain ⟨n, l, hconfig, -, fault, few, ok⟩ := loadConfig_eq (s := unloaded s) rfl rfl rfl
  obtain ⟨k, hkeys⟩ := loadKeys_eq (List.finRange 6) (loadConfig (unloaded s))
  obtain ⟨p, q, hprofile⟩ := loadProfile_eq ((List.finRange 6).foldl loadKey (loadConfig (unloaded s)))
  obtain ⟨wp, wn, wd, hwindow⟩ := loadWindow_eq (loadProfile ((List.finRange 6).foldl loadKey (loadConfig (unloaded s))))
  obtain ⟨lk, lc, lq, hlatch⟩ :=
    loadLatch_eq (loadWindow (loadProfile ((List.finRange 6).foldl loadKey (loadConfig (unloaded s)))))
  rw [loadRecords, hlatch, hwindow, hprofile, hkeys, hconfig]
  exact ⟨⟨rfl, rfl, ⟨rfl, rfl, rfl, rfl, rfl⟩, ⟨rfl, rfl, rfl⟩, rfl, few, ok⟩, rfl, fault⟩

end

end Sys2Proof.Proofs.Resets
end

section
/-! The state in which a reset ends (9.5, 10.1). -/

namespace Sys2Proof.Proofs.Resets

open Sys2Proof Sys2Proof.Machine Sys2Proof.Proofs.Steps Sys2Proof.Proofs.Invariants Sys2Proof.Proofs.KeyFrames
open Sys2Proof.Proofs.Ends Sys2Proof.Proofs.Glass Sys2Proof.Proofs.Delivery Sys2Proof.Proofs.Release Sys2Proof.Proofs.Intents
open Sys2Proof.Proofs.Crash Sys2Proof.Proofs.Arbiter Sys2Proof.Proofs.Touches

section
variable {s t : State}

/-! ## The own frames of a start (R154, R159) -/

theorem adds_firstFrames (s : State) : ∃ ps : List Payload, ps.length ≤ 2 ∧ Adds ps s (firstFrames s) := by
  obtain ⟨ps, hn, h⟩ := Census.adds_queueCensus s
  exact ⟨_, by simp; omega, h.trans (Census.adds_queueAnnouncement _)⟩

theorem firstFrames_wait (room : s.line.tx.length ≤ 4) (ok : s.line.state = .ok) :
    (firstFrames s).line.tx.any isCensus = true ∧ announcementWaits (firstFrames s) = true := by
  have census : Gentle 1 s (queueCensus s) := queueCensus_gentle s (by omega)
  have len : (queueCensus s).line.tx.length < 6 := by have := census.length; omega
  have ok' : (queueCensus s).line.state = .ok := by rw [census.state]; exact ok
  obtain ⟨e, he, hc⟩ := Census.queueCensus_present (s := s) (by omega) ok
  exact ⟨List.any_eq_true.2 ⟨e, (queueAnnouncement_gentle _ len).stays e he (Census.isAnnouncement_census hc), hc⟩,
    queueAnnouncement_waits len ok'⟩

/-! ## The state in which the reset ends (R183) -/

/-- The state of a reset's end before its own frames are queued: the records loaded, the peer table and the timers set
up, the start hold begun. -/
def started (s : State) : State := beginStartHold (censusWake (loadRecords (unloaded s)))

theorem started_loaded (s : State) : Loads (unloaded s) (loadRecords (unloaded s)) := (loadRecords_unloaded s).1

theorem boot_quiet (s : State) : Quiet (started s) (boot s) := by
  obtain ⟨ps, -, h⟩ := adds_firstFrames (started s)
  exact h.quiet

theorem boot_gentle (s : State) : ∃ n, Gentle n (started s) (boot s) := by
  obtain ⟨ps, hn, h⟩ := adds_firstFrames (started s)
  have few : (started s).line.tx.length ≤ 1 := (started_loaded s).line.1
  exact ⟨_, h.gentle (by omega)⟩

theorem boot_hold (s : State) : (boot s).intent.startHold = (started s).intent.startHold := by
  obtain ⟨ps, -, h⟩ := adds_firstFrames (started s)
  exact h.hold

theorem boot_intent (s : State) : (boot s).intent = { (unloaded s).intent with startHold := (started s).intent.startHold } := by
  obtain ⟨n, g⟩ := boot_gentle s
  have table : (boot s).intent.table = (started s).intent.table := g.table
  have fixed := (boot_quiet s).intent
  have hold := boot_hold s
  have started_intent : (started s).intent = { (unloaded s).intent with startHold := (started s).intent.startHold } := by
    show ({ (loadRecords (unloaded s)).intent with startHold := _ } : Intents) = _
    rw [(started_loaded s).rest.1]
    rfl
  have whole : (boot s).intent = (started s).intent := by
    rw [show (boot s).intent = { (boot s).intent.fixed with table := (boot s).intent.table, startHold := (boot s).intent.startHold }
      from rfl, fixed, table, hold]
    rfl
  rw [whole]
  exact started_intent

theorem boot_power (s : State) : (boot s).power.fixed = (unloaded s).power.fixed :=
  (boot_quiet s).power.trans (congrArg Power.fixed (started_loaded s).rest.2.2)

theorem boot_search (s : State) : (boot s).search = (unloaded s).search := by
  obtain ⟨n, g⟩ := boot_gentle s
  exact g.search.trans (started_loaded s).rest.2.1

theorem boot_win (s : State) : (boot s).win = (loadRecords (unloaded s)).win := (boot_quiet s).win

theorem boot_latch (s : State) : (boot s).latch = (loadRecords (unloaded s)).latch := (boot_quiet s).latch

theorem boot_calm (s : State) : Calm (boot s) := by
  have power := boot_power s
  have answer := congrArg Window.dropAnswer (started_loaded s).win
  refine ⟨(congrArg Power.heldSince power :), (congrArg Power.state power :), ?_, ?_, ?_⟩
  · rw [boot_intent]; rfl
  · rw [boot_win]; exact answer
  · rw [boot_search]; exact fun r hr => absurd hr (by simp [unloaded, blankState, State.reset])

theorem intervalInEffect_boot (s : State) : intervalInEffect (boot s) = intervalInEffect (started s) := by
  have supply : (boot s).power.supply = (started s).power.supply := (congrArg Power.supply (boot_quiet s).power :)
  rw [intervalInEffect, intervalInEffect, supply, (boot_quiet s).cfg]

/-- What every reset's end leaves (R183, R186). -/
theorem boot_leaves (s : State) :
    let b := boot s
    b.now = s.now ∧ b.pending = s.pending ∧ b.freeCount = s.freeCount ∧ b.pins = s.pins ∧ b.addr = s.pins.strap
      ∧ b.power.state = .run ∧ b.power.supply = levelState s.pins.supplySense ∧ b.power.heldSince = none
      ∧ b.win.motion = .idle ∧ b.win.motor = .off ∧ b.latch.seq = .idle ∧ b.latch.crashEnd = none
      ∧ b.latch.position = s.pins.latchSwitch ∧ b.search.record = none ∧ b.search.claims = []
      ∧ b.intent.keyLatch = ⟨0#16, 0⟩ ∧ b.intent.table = [] ∧ b.intent.epoch = 0#16
      ∧ b.intent.startHold = some (s.now + intervalInEffect b * 1000)
      ∧ (∀ a : Addr, b.census.peers[a].presence = .unknown) ∧ b.line.tx.any isCensus = true
      ∧ announcementWaits b = true ∧ b.store.flush = none := by
  intro b
  have q := boot_quiet s
  obtain ⟨n, g⟩ := boot_gentle s
  obtain ⟨now, pending, free, pins, addr⟩ := (started_loaded s).clock
  have power := boot_power s
  have win := boot_win s ▸ (started_loaded s).win
  have latch := boot_latch s ▸ (started_loaded s).latch
  have search := boot_search s
  have intent := boot_intent s
  have peers : b.census.peers = (started s).census.peers := (congrArg Census.peers q.census :)
  have waits := firstFrames_wait (s := started s) (le_trans (started_loaded s).line.1 (by decide)) (started_loaded s).line.2
  refine ⟨q.now.trans now, q.pending.trans pending, q.freeCount.trans free, q.pins.trans pins, q.addr.trans addr,
    (congrArg Power.state power :), (congrArg Power.supply power :), (congrArg Power.heldSince power :),
    (congrArg Window.motion win :), (congrArg Window.motor win :), (congrArg Latch.seq latch :),
    (congrArg Latch.crashEnd latch :), (congrArg Latch.position latch :), (congrArg Search.record search :),
    (congrArg Search.claims search :), (congrArg Intents.keyLatch intent :), (congrArg Intents.table intent :),
    (congrArg Intents.epoch intent :), ?_, fun a => ?_, waits.1, waits.2, ?_⟩
  · rw [boot_hold, intervalInEffect_boot]
    show some ((loadRecords (unloaded s)).now + _) = _
    rw [now]
    rfl
  · rw [peers]
    show ((loadRecords (unloaded s)).census.peers.map (freshPeer (loadRecords (unloaded s))))[a].presence = .unknown
    simp [freshPeer]
  · exact (congrArg Store.flush g.store).trans (started_loaded s).flush

end

end Sys2Proof.Proofs.Resets
end

section
/-! What the records hold after the load (10.1), and the resets as a whole. -/

namespace Sys2Proof.Proofs.Resets

open Sys2Proof Sys2Proof.Machine Sys2Proof.Proofs.Steps Sys2Proof.Proofs.Invariants Sys2Proof.Proofs.KeyFrames
open Sys2Proof.Proofs.Ends Sys2Proof.Proofs.Glass Sys2Proof.Proofs.Delivery Sys2Proof.Proofs.Release Sys2Proof.Proofs.Intents
open Sys2Proof.Proofs.Crash Sys2Proof.Proofs.Arbiter Sys2Proof.Proofs.Touches

section
variable {s t : State}

/-! ## The load by its stages -/

theorem readRecord_congr {a b : State} (hp : b.pins = a.pins) (hr : b.store.records = a.store.records) (r : RecordId) :
    readRecord r b = readRecord r a := by rw [readRecord, readRecord, hp, hr]

/-- The state with CONFIG loaded, then the key slots, the profile and the window (R186). -/
def configLoaded (s : State) : State := loadConfig (unloaded s)
def keysLoaded (s : State) : State := (List.finRange 6).foldl loadKey (configLoaded s)
def profileLoaded (s : State) : State := loadProfile (keysLoaded s)
def windowLoaded (s : State) : State := loadWindow (profileLoaded s)

/-- What the stages of a load leave for the next to read. -/
structure Stage (a b : State) : Prop where
  pins : b.pins = a.pins
  records : b.store.records = a.store.records
  addr : b.addr = a.addr
  position : b.latch.position = a.latch.position

theorem configLoaded_eq (s : State) : ∃ n : Census, ∃ l : Line, configLoaded s = { unloaded s with
    cfg := configOf (unloaded s), store := { (unloaded s).store with pendingCfg := configOf (unloaded s) }
    census := n, line := l } := by
  obtain ⟨n, l, h, -⟩ := loadConfig_eq (s := unloaded s) rfl rfl rfl
  exact ⟨n, l, h⟩

theorem stage_config (s : State) : Stage (unloaded s) (configLoaded s) := by
  obtain ⟨n, l, h⟩ := configLoaded_eq s
  rw [h]
  exact ⟨rfl, rfl, rfl, rfl⟩

theorem stage_keys (s : State) : Stage (unloaded s) (keysLoaded s) := by
  obtain ⟨k, h⟩ := loadKeys_eq (List.finRange 6) (configLoaded s)
  obtain ⟨pins, records, addr, position⟩ := stage_config s
  rw [keysLoaded, h]
  exact ⟨pins, records, addr, position⟩

theorem stage_profile (s : State) : Stage (unloaded s) (profileLoaded s) := by
  obtain ⟨p, q, h⟩ := loadProfile_eq (keysLoaded s)
  obtain ⟨pins, records, addr, position⟩ := stage_keys s
  rw [profileLoaded, h]
  exact ⟨pins, records, addr, position⟩

theorem stage_window (s : State) : Stage (unloaded s) (windowLoaded s) := by
  obtain ⟨p, n, d, h⟩ := loadWindow_eq (profileLoaded s)
  obtain ⟨pins, records, addr, position⟩ := stage_profile s
  rw [windowLoaded, h]
  exact ⟨pins, records, addr, position⟩

theorem Stage.read {b : State} (h : Stage (unloaded s) b) (r : RecordId) : readRecord r b = readRecord r (unloaded s) :=
  readRecord_congr h.pins h.records r

theorem boot_slots (s : State) : (boot s).keys = (keysLoaded s).keys := by
  obtain ⟨p, q, hp⟩ := loadProfile_eq (keysLoaded s)
  obtain ⟨wp, n, d, hw⟩ := loadWindow_eq (profileLoaded s)
  obtain ⟨l, c, lq, hl⟩ := loadLatch_eq (windowLoaded s)
  refine (boot_quiet s).keys.trans ?_
  show (loadLatch (windowLoaded s)).keys = _
  rw [hl]
  show (loadWindow (profileLoaded s)).keys = _
  rw [hw]
  show (loadProfile (keysLoaded s)).keys = _
  rw [hp]

theorem boot_profile (s : State) : (boot s).pinch = (profileLoaded s).pinch := by
  obtain ⟨wp, n, d, hw⟩ := loadWindow_eq (profileLoaded s)
  obtain ⟨l, c, lq, hl⟩ := loadLatch_eq (windowLoaded s)
  refine (boot_quiet s).pinch.trans ?_
  show (loadLatch (windowLoaded s)).pinch = _
  rw [hl]
  show (loadWindow (profileLoaded s)).pinch = _
  rw [hw]

theorem boot_window (s : State) : (boot s).win = (windowLoaded s).win := by
  obtain ⟨l, c, lq, hl⟩ := loadLatch_eq (windowLoaded s)
  refine (boot_quiet s).win.trans ?_
  show (loadLatch (windowLoaded s)).win = _
  rw [hl]

theorem boot_cfg (s : State) : (boot s).cfg = configOf (unloaded s) :=
  (boot_quiet s).cfg.trans (loadRecords_unloaded s).2.1

theorem boot_fault (s : State) : (boot s).census.faults[4] = configFault (unloaded s) := by
  have faults : (boot s).census.faults = (started s).census.faults := (congrArg Census.faults (boot_quiet s).census :)
  rw [faults]
  exact (loadRecords_unloaded s).2.2

theorem windowLoaded_cfg (s : State) : (profileLoaded s).cfg = configOf (unloaded s) := by
  obtain ⟨p, q, hp⟩ := loadProfile_eq (keysLoaded s)
  obtain ⟨k, hk⟩ := loadKeys_eq (List.finRange 6) (configLoaded s)
  obtain ⟨n, l, hc⟩ := configLoaded_eq s
  rw [profileLoaded, hp]
  show (keysLoaded s).cfg = _
  rw [keysLoaded, hk]
  show (configLoaded s).cfg = _
  rw [hc]

/-! ## No store (R185) -/

theorem loadKey_empty {n : Slot} (h : readRecord (.key n) s = none) (bare : s.keys.slots = Vector.ofFn resetSlot) :
    (loadKey s n).keys.slots = Vector.ofFn resetSlot := by
  have k : loadedSlot n ((readRecord (.key n) s).bind (decodeKey n)) = resetSlot n := by rw [h]; rfl
  show (s.keys.slots.set n _) = _
  rw [k, bare]
  ext i hi
  simp only [Fin.getElem_fin, Vector.getElem_set]
  split
  · rename_i e
    subst e
    simp
  · rfl

theorem loadKeys_empty (l : List Slot) (h : ∀ n, readRecord (.key n) s = none) (bare : s.keys.slots = Vector.ofFn resetSlot) :
    (l.foldl loadKey s).keys.slots = Vector.ofFn resetSlot := by
  induction l generalizing s with
  | nil => exact bare
  | cons n l ih => exact ih (fun m => h m) (loadKey_empty (h n) bare)

theorem isRear_iff (s : State) : isRear (windowLoaded s) = true ↔ s.pins.strap = 2 ∨ s.pins.strap = 3 := by
  have addr : (windowLoaded s).addr = s.pins.strap := (stage_window s).addr
  rw [isRear, addr]
  simp [Fin.ext_iff]

/-- A store that does not answer leaves every field its default (R185 to R187). -/
theorem boot_storeless (h : s.pins.storeAnswers = false) :
    let b := boot s
    b.cfg = defaultSettings s.pins.strap ∧ b.census.faults[4] = some 255#8 ∧ b.win.norm = false ∧ b.win.p = 0
      ∧ (∀ m : Slot, b.keys.slots[m].state = .empty) ∧ (∀ z : Zone, b.pinch.profile[z].learned = false)
      ∧ b.latch.lock = .unlocked
      ∧ b.latch.child = if s.pins.strap = 2 ∨ s.pins.strap = 3 then .engaged else .notFitted := by
  intro b
  have silent : ∀ r, readRecord r (unloaded s) = none := fun r => if_neg (by
    show ¬ s.pins.storeAnswers = true
    rw [h]; exact Bool.false_ne_true)
  have config : configOf (unloaded s) = defaultSettings s.pins.strap := by rw [configOf, silent]; rfl
  have fault : configFault (unloaded s) = some 255#8 := by rw [configFault, silent]; rfl
  have slots : (keysLoaded s).keys.slots = Vector.ofFn resetSlot := by
    obtain ⟨n, l, hc⟩ := configLoaded_eq s
    exact loadKeys_empty _ (fun n => ((stage_config s).read _).trans (silent _)) (by rw [hc]; rfl)
  have profile : profileLoaded s = keysLoaded s := by
    rw [profileLoaded, loadProfile, (stage_keys s).read, silent]
    rfl
  have window : windowLoaded s = keysLoaded s := by
    rw [windowLoaded, loadWindow, (stage_profile s).read, silent, ← profile]
    rfl
  obtain ⟨k, hk⟩ := loadKeys_eq (List.finRange 6) (configLoaded s)
  obtain ⟨n, l, hc⟩ := configLoaded_eq s
  have win : (keysLoaded s).win = (unloaded s).win := by rw [keysLoaded, hk, hc]
  have pinch : (keysLoaded s).pinch = (unloaded s).pinch := by rw [keysLoaded, hk, hc]
  have latch : b.latch = { (windowLoaded s).latch with
      lock := .unlocked, child := if isRear (windowLoaded s) then .engaged else .notFitted } := by
    refine (boot_latch s).trans ?_
    show (loadLatch (windowLoaded s)).latch = _
    rw [loadLatch, (stage_window s).read, silent]
    rfl
  refine ⟨(boot_cfg s).trans config, (boot_fault s).trans fault, ?_, ?_, fun m => ?_, fun z => ?_, ?_, ?_⟩
  · rw [boot_window, window, win]; rfl
  · rw [boot_window, window, win]; rfl
  · rw [boot_slots, slots]
    simp [resetSlot]
  · rw [boot_profile, profile, pinch]
    show (Vector.ofFn resetZone)[z].learned = false
    simp [resetZone]
  · rw [latch]
  · rw [latch]
    exact if_congr (isRear_iff s) rfl rfl

/-! ## Records that read back (R43, R70, R113, R187) -/

theorem defaulted_ranges {c : Settings} (h : (settingsRanges c).all id = true) : defaulted c = c ∧ defaultedCount c = 0 := by
  constructor
  · simp only [settingsRanges, List.all_cons, List.all_nil, id, Bool.and_eq_true, decide_eq_true_eq, and_true] at h
    obtain ⟨travel, sealing, drop, rev, stall, kspeed, th, rfb, outer, inner, relock, interval⟩ := h
    simp only [defaulted, pick, if_pos travel, if_pos sealing, if_pos drop, if_pos rev, if_pos stall, if_pos kspeed, if_pos th,
      if_pos rfb, if_pos outer, if_pos inner, if_pos relock, if_pos interval]
  · rw [defaultedCount, List.countP_eq_zero]
    intro ok hok
    have := List.all_eq_true.1 h ok hok
    simpa using this

/-- The travel in effect lies in its range, whatever the record holds (R187). -/
theorem configOf_travel (s : State) : (configOf s).travel ≤ 2048 := by
  unfold configOf
  split
  · show pick _ _ 900 ≤ 2048
    unfold pick
    split
    · rename_i h
      exact h.2
    · decide
  · show (900 : Nat) ≤ 2048
    decide

theorem loadKey_other {n m : Slot} (h : m ≠ n) : (loadKey s n).keys.slots[m] = s.keys.slots[m] := by
  simp only [loadKey, Fin.getElem_fin]
  exact Vector.getElem_set_ne _ _ (fun e => h (Fin.ext e.symm))

theorem loadKeys_other {l : List Slot} {m : Slot} (h : m ∉ l) : (l.foldl loadKey s).keys.slots[m] = s.keys.slots[m] := by
  induction l generalizing s with
  | nil => rfl
  | cons n l ih =>
      obtain ⟨hn, hl⟩ := not_or.1 (mt List.mem_cons.2 h)
      exact (ih hl).trans (loadKey_other hn)

/-- No slot lies below slot 0, so that its record loads whatever it holds (R114). -/
theorem loadKeys_first (s : State) : ((List.finRange 6).foldl loadKey s).keys.slots[(0 : Slot)]
    = loadedSlot 0 ((readRecord (.key 0) s).bind (decodeKey 0)) := by
  have split : List.finRange 6 = 0 :: (List.finRange 6).tail := by decide
  rw [split, List.foldl_cons, loadKeys_other (by decide)]
  simp [loadKey]

theorem readRecord_stored (h : s.pins.storeAnswers = true) (hw : s.store.writing = none) (r : RecordId) :
    readRecord r (unloaded s) = goodContent r s.store.records[r.index] := by
  have cut : (unloaded s).store.records = s.store.records := by
    show cutWrite s = _
    rw [cutWrite, hw]
  rw [readRecord, cut]
  exact if_pos h

/-- What a store that answers gives back (R186, R203). -/
theorem boot_stored (c : Settings) (w : Window) (l : Latch) (k : KeySlot) (h : s.pins.storeAnswers = true)
    (hw : s.store.writing = none) :
    let b := boot s
    (goodContent .config s.store.records[0] = some (configContent c) → (settingsRanges c).all id = true →
      b.cfg = { c with caps := adjustCaps s.pins.strap c.caps } ∧ b.census.faults[4] = none)
    ∧ (goodContent (.key 0) s.store.records[1] = some (keyContent 0 k) → k.state = .paired →
      b.keys.slots[(0 : Slot)].state = .paired ∧ b.keys.slots[(0 : Slot)].identity = k.identity
        ∧ b.keys.slots[(0 : Slot)].counter = k.counter ∧ b.keys.slots[(0 : Slot)].sHi = k.sHi
        ∧ b.keys.slots[(0 : Slot)].sLo = k.sLo)
    ∧ (goodContent .windowState s.store.records[8] = some (windowContent w) → w.recMoving = false →
      w.dropOwed = none → w.norm = true → -32 ≤ w.p → w.p ≤ (b.cfg.travel : Int) + 32 →
      b.win.p = w.p ∧ b.win.norm = true)
    ∧ (goodContent .latchState s.store.records[9] = some (latchContent l) →
      b.latch.lock = if l.lock = .deadlocked ∧ s.pins.latchSwitch = .opened then .locked else l.lock) := by
  intro b
  have reads := readRecord_stored h hw
  refine ⟨fun hr ranges => ?_, fun hr paired => ?_, fun hr moving owed norm low high => ?_, fun hr => ?_⟩
  · obtain ⟨same, count⟩ := defaulted_ranges ranges
    have decoded : (readRecord .config (unloaded s)).bind decodeConfig = some c := by
      rw [show readRecord .config (unloaded s) = some (configContent c) from (reads .config).trans hr]
      exact Layouts.decode_config c ranges
    refine ⟨(boot_cfg s).trans ?_, (boot_fault s).trans ?_⟩
    · rw [configOf, decoded]
      simp only [same]
      rfl
    · rw [configFault, decoded]
      exact if_neg (by omega)
  · have decoded : (readRecord (.key 0) (configLoaded s)).bind (decodeKey 0) = some (slotCover 0 { k with state := .paired }) := by
      rw [(stage_config s).read, show readRecord (.key 0) (unloaded s) = some (keyContent 0 k) from (reads (.key 0)).trans hr]
      exact (Layouts.decode_keyContent 0 k).trans (if_pos (by simp [storedPaired, paired]))
    have slot : b.keys.slots[(0 : Slot)] = loadedSlot 0 (some (slotCover 0 { k with state := .paired })) := by
      rw [boot_slots, keysLoaded, loadKeys_first, decoded]
    rw [slot]
    exact ⟨rfl, rfl, rfl, rfl, rfl⟩
  · have travel := configOf_travel (unloaded s)
    rw [show b.cfg = configOf (unloaded s) from boot_cfg s] at high
    have decoded : (readRecord .windowState (profileLoaded s)).bind decodeWindow = some (false, false, false, w.p, 0) := by
      rw [(stage_profile s).read, show readRecord .windowState (unloaded s) = some (windowContent w) from
        (reads .windowState).trans hr]
      refine (Layouts.decode_window w (by omega) (by omega) (by simp [owed])).trans ?_
      rw [norm, moving, owed]
      rfl
    have clamp : clampCount (profileLoaded s).cfg w.p = w.p := by
      rw [windowLoaded_cfg]
      simp only [clampCount, countLow, countHigh]
      omega
    have win : b.win = { (profileLoaded s).win with p := w.p, norm := true, dropOwed := none } := by
      refine (boot_window s).trans ?_
      rw [windowLoaded, loadWindow, decoded]
      simp only [clamp]
      simp
    rw [win]
    exact ⟨rfl, rfl⟩
  · have decoded : (readRecord .latchState (windowLoaded s)).bind decodeLatch = some (l.lock, l.child == .engaged) := by
      rw [(stage_window s).read, show readRecord .latchState (unloaded s) = some (latchContent l) from
        (reads .latchState).trans hr]
      exact Layouts.decode_latch l
    have position : (windowLoaded s).latch.position = s.pins.latchSwitch := (stage_window s).position
    have latch : b.latch = (loadLatch (windowLoaded s)).latch := boot_latch s
    rw [latch, loadLatch, decoded]
    simp only [position]
    split
    · rw [queueRecord_eq]
    · rfl

end

/-- Settles O55: into reset, held in it, and its ends; the boot by what it leaves and what the records give. -/
theorem resetHoldsBootsAndLoads : Obligations.ResetHoldsBootsAndLoads := by
  refine ⟨fun s => rfl, fun s u t h hu => ⟨exec_sample_resets h hu, exec_pulse_resets h hu⟩, fun c s h => ?_, fun s u a h hh => ?_,
    fun s h f hf => ?_, fun s c w l k => ⟨boot_leaves s, boot_storeless, boot_stored c w l k⟩⟩
  · cases c with
    | powerOnReset => trivial
    | powerOnResetEnd u a => trivial
    | _ => exact exec_held h (by simp) (by simp)
  · have next := exec_resetEnd (u := u) (a := a) (Option.mem_def.1 hh)
    refine ⟨fun hu => ?_, fun hu => ?_⟩
    · rw [next, resetOver, if_pos hu]
      simp
    · refine ⟨_, ?_, settle_kept _ (boot_calm _)⟩
      rw [next, resetOver, if_neg (by omega)]
      simp
  · have hf := Option.mem_def.1 hf
    refine ⟨fun hr hq hw => ?_, fun waits calm => ?_, ?_⟩
    · refine ⟨_, ?_, settle_kept _ (boot_calm s)⟩
      rw [exec_perform h, if_pos ((flushDone_iff hf).2 ⟨hr, hq, hw⟩)]
    · refine ⟨_, ?_, settle_kept _ calm⟩
      rw [exec_perform h, if_neg]
      rw [flushDone_iff hf]
      rintro ⟨hr, hq, hw⟩
      rcases waits with e | e | e
      · exact absurd (e.symm.trans hr) (by decide)
      · exact e hq
      · exact absurd e (by simp [hw])
    · exact ⟨_, exec_flushEnd h hf, settle_kept _ (boot_calm _)⟩

end Sys2Proof.Proofs.Resets
end

section
/-! The bits of a frame as they are read: their number, the first and the last dominant one. -/

namespace Sys2Proof.Proofs.Layouts

open Sys2Proof Sys2Proof.Machine Sys2Proof.Proofs.Steps Sys2Proof.Proofs.Invariants Sys2Proof.Proofs.KeyFrames
open Sys2Proof.Proofs.Ends Sys2Proof.Proofs.Glass Sys2Proof.Proofs.Delivery Sys2Proof.Proofs.Release Sys2Proof.Proofs.Intents
open Sys2Proof.Proofs.Crash Sys2Proof.Proofs.Arbiter Sys2Proof.Proofs.Touches

section
variable {f : Frame}

theorem octetBits_length (b : Byte) : (octetBits b).length = 10 := rfl

theorem flatMap_octetBits_length (l : List Byte) : (l.flatMap octetBits).length = 10 * l.length := by
  induction l with
  | nil => rfl
  | cons b l ih => rw [List.flatMap_cons, List.length_append, octetBits_length, ih, List.length_cons]; omega

theorem frameOctets_length (f : Frame) : (frameOctets f).length = 5 + f.payload.data.length := by
  simp [frameOctets, headerOctets, bytes16]
  omega

theorem frameBits_length (f : Frame) : (frameBits f).length = 58 + 10 * f.payload.data.length := by
  rw [frameBits, List.length_append, flatMap_octetBits_length, frameOctets_length, List.length_replicate]
  omega

theorem readFrame_frameBits (h : f.payload.data.length ≤ 12) : readFrame (frameBits f)
    = some { cls := f.cls, origin := f.origin, kind := f.payload.kind, data := f.payload.data } :=
  readFrame_octets f.cls f.origin (kind_lt f.payload) h

/-- A frame begins with a recessive start bit (R133). -/
theorem frameBits_head (f : Frame) : (frameBits f).head? = some true := rfl

/-- A sound frame is read whole (R143). -/
theorem bitsRead_frameBits (h : f.payload.data.length ≤ 12) : bitsRead (frameBits f) = (frameBits f).length := by
  have high : (f.payload.data.length * 16 + f.payload.data.length) / 2 ^ 4 = f.payload.data.length := by omega
  have len : field (byte (f.payload.data.length * 16 + f.payload.data.length)) 4 4 = f.payload.data.length := by
    rw [field_byte (by omega), high]; omega
  have len' : field (byte (f.payload.data.length * 16 + f.payload.data.length)) 0 4 = f.payload.data.length := by
    rw [field_byte (by omega)]; omega
  let head := headerOctets f.cls f.origin f.payload.kind f.payload.data.length
  have octets : frameOctets f = head ++ (f.payload.data ++ bytes16 (crc16 (head ++ f.payload.data))) := by
    rw [← List.append_assoc]; rfl
  have whole : readOctets (5 + f.payload.data.length) (frameBits f) = some (frameOctets f, List.replicate 8 true) := by
    rw [← frameOctets_length]
    exact readOctets_flatMap _ _
  have header : readOctets 3 (frameBits f) = some (head, (f.payload.data
      ++ bytes16 (crc16 (head ++ f.payload.data))).flatMap octetBits ++ List.replicate 8 true) := by
    rw [frameBits, octets, List.flatMap_append, List.append_assoc]
    exact readOctets_flatMap head _
  have body : bodyRead f.payload.data.length (frameBits f) = (frameBits f).length := by
    rw [bodyRead, whole, frameBits_length]
    have taken : (frameOctets f).take (3 + f.payload.data.length) = head ++ f.payload.data := by
      rw [octets, ← List.append_assoc]
      exact List.take_left' (by simp [head, headerOctets]; omega)
    have dropped : (frameOctets f).drop (3 + f.payload.data.length) = bytes16 (crc16 (head ++ f.payload.data)) := by
      rw [octets, ← List.append_assoc]
      exact List.drop_left' (by simp [head, headerOctets]; omega)
    simp only [taken, dropped, if_true, List.length_replicate]
    omega
  unfold bitsRead
  rw [header]
  show (if 12 < field _ 4 4 ∨ field _ 0 4 ≠ field _ 4 4 then 30 else bodyRead (field _ 4 4) (frameBits f)) = _
  rw [if_neg]
  · rw [len]
    exact body
  · rw [len, len']
    omega

/-- The last dominant bit is the stop bit of the last octet, before the end part (R133). -/
theorem lastDominant_frameBits (f : Frame) : lastDominant (frameBits f) + 8 = (frameBits f).length := by
  obtain ⟨l, b, hl⟩ : ∃ l b, frameOctets f = l ++ [b] := by
    rcases List.eq_nil_or_concat (frameOctets f) with h | ⟨l, b, h⟩
    · exact absurd (frameOctets_length f) (by rw [h]; simp; omega)
    · exact ⟨l, b, by simpa using h⟩
  have rev : (frameBits f).reverse = List.replicate 8 true ++ (false :: (l.flatMap octetBits ++ true :: byteBits b).reverse) := by
    rw [frameBits, hl]
    simp [octetBits]
  have len := frameBits_length f
  rw [lastDominant, rev]
  simp only [List.replicate, List.cons_append, List.nil_append, List.takeWhile_cons, id, if_true, Bool.false_eq_true, if_false,
    List.length_cons, List.length_nil]
  omega

end

end Sys2Proof.Proofs.Layouts
end

section
/-! A sleeping station, its filter and its wakes (9.4). -/

namespace Sys2Proof.Proofs.Wakes

open Sys2Proof Sys2Proof.Machine Sys2Proof.Proofs.Steps Sys2Proof.Proofs.Invariants Sys2Proof.Proofs.KeyFrames
open Sys2Proof.Proofs.Ends Sys2Proof.Proofs.Glass Sys2Proof.Proofs.Delivery Sys2Proof.Proofs.Release Sys2Proof.Proofs.Intents
open Sys2Proof.Proofs.Crash Sys2Proof.Proofs.Arbiter Sys2Proof.Proofs.Touches Sys2Proof.Proofs.Census

section
variable {s m v : State} {us : Nat}

/-! ## The wake filter (R180, R181) -/

theorem live_next {f : State → State} (h : s.power.heldSince = none) : live f s = .next (settle (f s)) :=
  if_neg (by simp [h])

/-- A command whose effect leaves the station in SLEEP. -/
theorem live_asleep {f : State → State} (h : s.power.heldSince = none) (hf : f s = m) (hm : m.power.state = .sleep) :
    live f s = .next m := by rw [live_next h, hf, settle_asleep (by simp [awake, hm])]

theorem filterRun_mark (hs : s.power.state = .sleep) (low : 500 ≤ us) (high : us ≤ 2000) : filterRun us s
    = { advance us s with power := { s.power with filter := .opened (s.now + us + 20000) } } := by
  unfold filterRun
  rw [if_neg (by simp [awake, hs])]
  simp only [isMark, low, high, decide_true, Bool.and_self, if_true, advance_power]
  simp [advance]

theorem filterRun_other (hs : s.power.state = .sleep) (h : us < 500 ∨ 2000 < us) : filterRun us s = advance us s := by
  unfold filterRun
  rw [if_neg (by simp [awake, hs])]
  exact if_neg (by simp [isMark]; omega)

theorem filterEnd_open {e : Nat} (hs : s.power.state = .sleep) (hf : s.power.filter = .opened e) : filterEnd s = some e := by
  simp [filterEnd, hs, hf]

/-- Bits at an OPEN filter: a run, or a frame that is passed over or judged in time (R180, R181). -/
theorem filterFrame_run {e : Nat} {bits : List Bool} (hs : s.power.state = .sleep) (hf : s.power.filter = .opened e)
    (hb : bits.head? = some false) : filterFrame bits s = filterRun ((12 + leadingDominant bits) * 20) s := by
  rw [filterFrame, filterEnd_open hs hf]
  exact if_pos hb

theorem filterFrame_damaged {e : Nat} {bits : List Bool} (hs : s.power.state = .sleep) (hf : s.power.filter = .opened e)
    (hb : bits.head? ≠ some false) (hr : readFrame bits = none) :
    filterFrame bits s = advance ((12 + bitsRead bits) * 20) s := by
  rw [filterFrame, filterEnd_open hs hf]
  simp only [if_neg hb, hr]
  split <;> rfl

theorem filterFrame_judged {e : Nat} {f : Frame} (hs : s.power.state = .sleep) (hf : s.power.filter = .opened e)
    (hd : f.payload.data.length ≤ 12) (time : (advance ((70 + 10 * f.payload.data.length) * 20) s).now ≤ e) :
    filterFrame (frameBits f) s
      = if acceptsWake { cls := f.cls, origin := f.origin, kind := f.payload.kind, data := f.payload.data } s.addr then
          wakeByLine (advance ((70 + 10 * f.payload.data.length) * 20) s)
        else spuriousWake (advance ((70 + 10 * f.payload.data.length) * 20) s) := by
  have bits : (12 + bitsRead (frameBits f)) * 20 = (70 + 10 * f.payload.data.length) * 20 := by
    rw [Layouts.bitsRead_frameBits hd, Layouts.frameBits_length]
    omega
  have head : (frameBits f).head? ≠ some false := by rw [Layouts.frameBits_head]; decide
  rw [filterFrame, filterEnd_open hs hf]
  simp only [if_neg head, bits, Layouts.readFrame_frameBits hd, if_neg (Nat.not_lt.2 time)]

theorem acceptsWake_other {r : RawFrame} {a : Addr} (h : r.kind ≠ 15) : acceptsWake r a = false := by
  simp [acceptsWake, h]

theorem acceptsWake_wake (cls : Fin 8) (o a : Addr) (w : Stations) (c : WakeCause) :
    acceptsWake { cls := cls, origin := o, kind := (Payload.wake w w w w c).kind, data := (Payload.wake w w w w c).data } a
      = inSet a w := by
  simp only [acceptsWake, Payload.kind, Payload.data, beq_self_eq_true, Bool.true_and, inSet]
  rw [BitVec.getLsbD_setWidth]
  have := a.isLt
  simp [this]

/-! ## A wake (R153, R169, R179, R182) -/

theorem wakeBlocks_calm (held : s.power.heldSince = none) (none_ : s.intent.held = none) (answer : s.win.dropAnswer = none) :
    Calm (wakeBlocks s) := ⟨held, rfl, none_, answer, fun r hr => absurd hr (by simp [wakeBlocks, beginStartHold, censusWake, restartInterval])⟩

theorem wakeBlocks_ok (h : s.line.state = .ok) : (wakeBlocks s).line.state = .ok := by
  show (if s.line.state = .lineFault .clash then s.line.state else .ok) = .ok
  rw [if_neg (by rw [h]; decide)]

/-- What a wake leaves besides its own frames (R169, R182). -/
theorem wakeBlocks_kept (h : Kept (wakeBlocks s) v) : v.power.state = .run ∧ v.census.balance = 0
    ∧ v.search.claims = [] ∧ v.search.record = none ∧ v.line.cond = .busy ∧ v.line.freeAt = s.now + 240
    ∧ ∀ a : Addr, v.census.peers[a].presence = .unknown ∧ v.census.peers[a].since = s.now := by
  have peers : v.census.peers = (wakeBlocks s).census.peers := (congrArg Census.peers h.census :)
  refine ⟨(congrArg Power.state h.power :), (congrArg Census.balance h.census :), h.claims, (h.search (.inl ?_)).1,
    (congrArg Line.cond h.line :), (congrArg Line.freeAt h.line :), fun a => ?_⟩
  · show 0 + 4 ≤ 6
    decide
  · rw [peers]
    simp [wakeBlocks, beginStartHold, censusWake, restartInterval, freshPeer]

/-- The line interface's mark request taken back on both sides. -/
def unmarked (s : State) : State := { s with line := { s.line with markWanted := false } }

theorem kept_unmarked (h : Kept { m with line := { m.line with markWanted := true } } v) (hm : m.line.markWanted = false) :
    Kept m (unmarked v) := by
  have line : (unmarked v).line.fixed = m.line.fixed := by
    have e := (congrArg (fun l : Line => ({ l with markWanted := false } : Line)) h.line :)
    have keep : ({ m.line.fixed with markWanted := false } : Line) = m.line.fixed := by rw [← hm]; rfl
    exact e.trans keep
  exact { h with line := line }

/-- The frames of a start queued at an empty line interface, with room for every one (R154, R159, R179). -/
theorem started_kept {ps : List Payload} {t : State} (calm : Calm m) (ok : m.line.state = .ok) (empty : m.line.tx = [])
    (hn : ps.length ≤ 1) (h : Adds ps m t) : Kept m (settle (firstFrames t))
      ∧ (settle (firstFrames t)).line.tx.any isCensus = true ∧ announcementWaits (settle (firstFrames t)) = true
      ∧ ∀ p ∈ ps, p.kind ≠ 12 → Queued p (settle (firstFrames t)) := by
  obtain ⟨qs, hq, more⟩ := Resets.adds_firstFrames t
  have all := h.trans more
  have zero : m.line.tx.length = 0 := by rw [empty]; rfl
  have room : Roomy ((ps ++ qs).length + 2) m := by
    show m.line.tx.length + _ ≤ 6
    rw [zero, List.length_append]; omega
  have calm' := all.calm calm
  have first := h.gentle (by omega)
  have len : t.line.tx.length ≤ 1 := by have := first.length; omega
  have g := all.gentle (by rw [zero, List.length_append]; omega)
  have len' : (firstFrames t).line.tx.length + 2 ≤ 6 := by
    have := g.length
    rw [zero, List.length_append] at this
    omega
  have ok' : t.line.state = .ok := by rw [first.state]; exact ok
  obtain ⟨census, waits⟩ := Resets.firstFrames_wait (s := t) (by omega) ok'
  refine ⟨all.kept_roomy calm fun _ => room, ?_, settle_waits calm' (by rw [g.state]; exact ok) len' waits,
    fun p hp hk => all.queued_roomy calm ok room (List.mem_append_left _ hp) hk⟩
  obtain ⟨e, he, hc⟩ := List.any_eq_true.1 census
  exact List.any_eq_true.2 ⟨e, (settle_two _ calm' len').stays e he (isAnnouncement_census hc), hc⟩

end

end Sys2Proof.Proofs.Wakes
end

section
/-! The wakes and the wake mark as a whole (9.4). -/

namespace Sys2Proof.Proofs.Wakes

open Sys2Proof Sys2Proof.Machine Sys2Proof.Proofs.Steps Sys2Proof.Proofs.Invariants Sys2Proof.Proofs.KeyFrames
open Sys2Proof.Proofs.Ends Sys2Proof.Proofs.Glass Sys2Proof.Proofs.Delivery Sys2Proof.Proofs.Release Sys2Proof.Proofs.Intents
open Sys2Proof.Proofs.Crash Sys2Proof.Proofs.Arbiter Sys2Proof.Proofs.Touches Sys2Proof.Proofs.Census

section
variable {s m v : State} {us : Nat}

/-- What a wake comes to, for the frames it queues first. -/
theorem woken_of (h : Kept (wakeBlocks m) v) (hc : v.line.tx.any isCensus = true) (hw : announcementWaits v = true) :
    Kept (wakeBlocks m) v ∧ v.power.state = .run ∧ v.census.balance = 0
      ∧ v.search.claims = [] ∧ v.search.record = none ∧ v.line.cond = .busy ∧ v.line.freeAt = m.now + 240
      ∧ (∀ a : Addr, v.census.peers[a].presence = .unknown ∧ v.census.peers[a].since = m.now)
      ∧ v.line.tx.any isCensus = true ∧ announcementWaits v = true := by
  obtain ⟨run, balance, claims, record, cond, free, peers⟩ := wakeBlocks_kept h
  exact ⟨h, run, balance, claims, record, cond, free, peers, hc, hw⟩

/-- A wake by the line: no mark and no WAKE (R182). -/
theorem wakeByLine_woken (held : s.power.heldSince = none) (hs : s.line.state = .ok) (none_ : s.intent.held = none)
    (answer : s.win.dropAnswer = none) :
    let v := settle (wakeByLine s)
    Kept (wakeBlocks s) v ∧ v.line.tx.any isCensus = true ∧ announcementWaits v = true := by
  have ok := wakeBlocks_ok hs
  have line : wakeByLine s = firstFrames (wakeBlocks s) := if_neg (by simp [inLineFault, ok])
  rw [line]
  obtain ⟨kept, census, waits, -⟩ := started_kept (wakeBlocks_calm held none_ answer) ok rfl (by simp) (.refl _)
  exact ⟨kept, census, waits⟩

/-- The wake blocks with the mark asked for (R179). -/
def markAsked (s : State) : State := { wakeBlocks s with line := { (wakeBlocks s).line with markWanted := true } }

/-- A wake by the inner handle of a DEADLOCKED station brings the mark and a WAKE besides (R51, R179). -/
theorem exec_innerHandle_wakes (held : s.power.heldSince = none) (asleep : s.power.state = .sleep)
    (hs : s.line.state = .ok) (dead : s.latch.lock = .deadlocked) :
    exec .innerHandlePull s = .next (settle (firstFrames (queueFrame (wakePayload .handle) (markAsked s)))) := by
  have wakes : localWake .handle s = firstFrames (queueFrame (wakePayload .handle) (markAsked s)) :=
    if_neg (by simp [inLineFault, wakeBlocks_ok hs])
  obtain ⟨ps, -, more⟩ := Resets.adds_firstFrames (queueFrame (wakePayload .handle) (markAsked s))
  have q := (queueFrame_quiet (wakePayload .handle) (markAsked s)).trans more.quiet
  have input (x : State) (h : x.power.localAt = x.now) : localInput x = x := by
    have power : ({ x.power with localAt := x.now } : Power) = x.power := by rw [← h]
    show ({ x with power := { x.power with localAt := x.now } } : State) = x
    rw [power]
  have local_ : localCause .handle s = localWake .handle s := by
    unfold localCause
    rw [asleep]
    refine input _ ?_
    rw [wakes, q.now, show (firstFrames (queueFrame (wakePayload .handle) (markAsked s))).power.localAt
      = (markAsked s).power.localAt from (congrArg Power.localAt q.power :)]
    rfl
  have pull : innerPull (localWake .handle s) = localWake .handle s := if_pos (.inl (by
    rw [wakes, q.latch]; exact dead))
  show live (fun t => innerPull (localCause .handle t)) s = _
  rw [live_next held, local_, pull, wakes]

theorem innerHandle_woken (held : s.power.heldSince = none) (asleep : s.power.state = .sleep)
    (hs : s.line.state = .ok) (none_ : s.intent.held = none) (answer : s.win.dropAnswer = none)
    (dead : s.latch.lock = .deadlocked) : ∃ v, exec .innerHandlePull s = .next v
      ∧ Kept (wakeBlocks s) (unmarked v) ∧ v.line.tx.any isCensus = true ∧ announcementWaits v = true
      ∧ v.line.markWanted = true ∧ Queued (wakePayload .handle) v := by
  have calm : Calm (markAsked s) := calm_of_same (wakeBlocks_calm held none_ answer) rfl
  obtain ⟨kept, census, waits, queued⟩ := started_kept calm (wakeBlocks_ok hs) rfl (by simp)
    (adds_queueFrame (p := wakePayload .handle) (markAsked s) rfl (fun _ _ => rfl))
  exact ⟨_, exec_innerHandle_wakes held asleep hs dead, kept_unmarked kept rfl, census, waits,
    (congrArg Line.markWanted kept.line :), queued _ (by simp) (by decide)⟩

/-- The mark driven at a FREE line (R135, R179). -/
theorem driveMark_drives (hw : s.line.markWanted = true) (he : s.line.extEnd = none)
    (hc : s.line.cond = .free ∨ s.line.cond = .busy) :
    driveMark s = { advanceTo (freeTime s) s with line := { (advanceTo (freeTime s) s).line with
      markWanted := false, markEnd := some ((advanceTo (freeTime s) s).now + 1000), cond := .busy
      freeAt := (advanceTo (freeTime s) s).now + 1240 } } := by
  refine if_pos ?_
  rw [hw, he]
  rcases hc with h | h <;> rw [h] <;> rfl

end

/-- Settles O54: the filter's runs and frames, the wakes, and the wake mark of an awake station. -/
theorem sleepingStationWakes : Obligations.SleepingStationWakes := by
  intro s us f bits held ok none_ answer
  refine ⟨?_, fun hs => ?_⟩
  · intro asleep spurious n woken
    have power (t : Nat) : (advance t s).power.state = .sleep := by rw [advance_power]; exact asleep
    have gone (n : State) (hn : n.power = s.power) : spuriousWake n = spurious n := by
      simp only [spuriousWake, spurious, hn]
      rfl
    refine ⟨fun low high => ?_, fun h => ?_, fun e open_ => ⟨?_, fun hb => ?_, fun hb hr => ?_, fun time hd hk => ?_,
      fun w c time hp => ?_⟩, fun ht dead => ?_⟩
    · exact live_asleep held (filterRun_mark asleep low high) asleep
    · exact live_asleep held (filterRun_other asleep h) (power us)
    · refine live_asleep held (m := spurious (advanceTo e s)) ?_ (by show (advanceTo e s).power.state = _; rwa [advanceTo_power])
      rw [filterEnd_open asleep open_]
      exact gone _ (advanceTo_power e s)
    · show live (filterFrame bits) s = live (filterRun _) s
      rw [live_next held, live_next held, filterFrame_run asleep open_ hb]
    · exact live_asleep held (filterFrame_damaged asleep open_ hb hr) (power _)
    · refine live_asleep held ?_ (power _)
      rw [filterFrame_judged asleep open_ (Layouts.data_length _ hd) time, if_neg (by rw [acceptsWake_other hk]; decide)]
      exact gone _ (advance_power _ s)
    · have judged := filterFrame_judged (f := f) asleep open_ (by rw [hp]; exact (by decide : 5 ≤ 12)) time
      rw [show acceptsWake { cls := f.cls, origin := f.origin, kind := f.payload.kind, data := f.payload.data } s.addr
        = inSet s.addr w by rw [hp]; exact acceptsWake_wake _ _ _ _ _] at judged
      refine ⟨fun other => ?_, fun named => ?_⟩
      · rw [other] at judged
        exact live_asleep held (judged.trans (gone _ (advance_power _ s))) (power _)
      · rw [named] at judged
        have heldN : n.power.heldSince = none := by rw [advance_power]; exact held
        obtain ⟨kept, census, waits⟩ := wakeByLine_woken (s := n) heldN (by simpa [n, advance] using ok) (by simpa [n, advance] using none_)
          (by simpa [n, advance] using answer)
        refine ⟨settle (wakeByLine n), ?_, woken_of kept census waits⟩
        show live (filterFrame (frameBits f)) s = _
        rw [live_next held, judged]
        rfl
    · obtain ⟨v, hv, kept, census, waits, mark, queued⟩ := innerHandle_woken held asleep ok none_ answer dead
      exact ⟨v, hv, woken_of kept census waits, mark, queued⟩
  · refine ⟨?_, fun hw he hc => ?_, fun e he => ?_⟩
    · refine ⟨settle s, ?_, settle_kept s hs⟩
      show live (filterRun us) s = _
      rw [live_next held, filterRun, if_pos (by simp [awake, hs.2.1])]
    · have next : exec .wakeMarkDrive s = .next (settle (driveMark s)) := whileAwake_next hs _
      rw [driveMark_drives hw he hc] at next
      exact kept_of next (calm_of_same hs (by simp))
    · have next : exec .wakeMarkEnd s = .next (settle
          { advanceTo e s with line := { (advanceTo e s).line with markEnd := none } }) := by
        rw [show exec .wakeMarkEnd s = whileAwake _ s from rfl, whileAwake_next hs, Option.mem_def.1 he]
        rfl
      exact kept_of next (calm_of_same hs (by simp))

end Sys2Proof.Proofs.Wakes
end

section
/-! LINE FAULT, extensions and holds of the line (7.2, 7.4, 7.5). -/

namespace Sys2Proof.Proofs.Lines

open Sys2Proof Sys2Proof.Machine Sys2Proof.Proofs.Steps Sys2Proof.Proofs.Invariants Sys2Proof.Proofs.KeyFrames
open Sys2Proof.Proofs.Ends Sys2Proof.Proofs.Glass Sys2Proof.Proofs.Delivery Sys2Proof.Proofs.Release Sys2Proof.Proofs.Intents
open Sys2Proof.Proofs.Crash Sys2Proof.Proofs.Arbiter Sys2Proof.Proofs.Touches Sys2Proof.Proofs.Census

section
variable {s t m : State}

/-! ## Telling the jobs "not sent" (R147) -/

theorem tellNotSent_quiet (l : List TxEntry) (s : State) : Quiet s (tellNotSent l s) := by
  induction l generalizing s with
  | nil => exact .refl s
  | cons e l ih => exact (tell_quiet e s).trans (ih _)

theorem tellNotSent_tx (l : List TxEntry) (s : State) : (tellNotSent l s).line.tx = s.line.tx := by
  induction l generalizing s with
  | nil => rfl
  | cons e l ih => exact (ih _).trans (tell_tx e s)

/-- What telling one job does to the search unit in LINE FAULT: nothing, or the record it waits for ends (R116, R125). -/
theorem tell_search_fault (e : TxEntry) (h : s.line.state ≠ .ok) : (Machine.tell e s).search = s.search
    ∨ (Machine.tell e s).search.record = none := by
  have lost : (claimLost s).search = s.search ∨ (claimLost s).search.record = none := by
    unfold claimLost
    split
    · exact .inl rfl
    · split
      · exact .inr rfl
      · rw [if_pos (by simpa [inLineFault] using h)]
        exact .inr rfl
      · exact .inl rfl
  unfold Machine.tell
  split
  · exact .inl rfl
  · unfold notSent
    split
    · exact .inl rfl
    · split
      · exact lost
      · exact .inl rfl
    · split
      · exact lost
      · exact .inl rfl
    · exact .inl rfl
    · exact .inl rfl
    · split <;> exact .inl rfl
    · exact .inl rfl

theorem tell_fault (e : TxEntry) (h : s.line.state ≠ .ok) : (Machine.tell e s).line.state ≠ .ok := by
  have same := (congrArg Line.state (tell_quiet e s).line :)
  exact fun ok => h (same.symm.trans ok)

theorem tellNotSent_stage (l : List TxEntry) (h : s.line.state ≠ .ok) (hn : NoInterior s) : NoInterior (tellNotSent l s) := by
  induction l generalizing s with
  | nil => exact hn
  | cons e l ih =>
      refine ih (tell_fault e h) ?_
      intro r hr
      rcases tell_search_fault e h with same | none_
      · exact hn r (same ▸ hr)
      · exact absurd hr (by rw [none_]; simp)

/-- A station whose search awaits no SEARCH CLAIM with a job: telling the jobs leaves the search unit (R116). -/
theorem tell_unclaimed {e : TxEntry} (hn : NoInterior s)
    (h : ∀ r ∈ s.search.record, r.stage = .claiming → ¬ (e.jobless = false ∧ e.frame.payload = .searchClaim)) :
    (Machine.tell e s).search = s.search := by
  have awaits (p : Payload) (hp : awaitsClaim p s = true) :
      p = .searchClaim ∧ ∃ r ∈ s.search.record, r.stage = .claiming := by
    unfold awaitsClaim at hp
    obtain ⟨r, hr, hc⟩ := (Option.any_eq_true _ _).1 hp
    unfold isClaimOf at hc
    split at hc
    · rename_i hstage
      exact ⟨rfl, r, hr, hstage⟩
    · rename_i hstage
      exact absurd hstage (hn r hr)
    · exact absurd hc (by simp)
  unfold Machine.tell
  split
  · rfl
  · rename_i job
    unfold notSent
    split
    · rfl
    · rename_i hp
      split
      · rename_i ha
        obtain ⟨-, r, hr, hstage⟩ := awaits _ ha
        exact absurd ⟨Bool.eq_false_of_not_eq_true job, hp⟩ (h r hr hstage)
      · rfl
    · rename_i hp
      split
      · rename_i ha
        have claim := hp.symm.trans (awaits _ ha).1
        exact absurd claim (fun e => by cases e)
      · rfl
    · rfl
    · rfl
    · split <;> rfl
    · rfl

theorem tellNotSent_unclaimed {l : List TxEntry} (hn : NoInterior s)
    (h : ∀ r ∈ s.search.record, r.stage = .claiming → ¬ ∃ e ∈ l, e.jobless = false ∧ e.frame.payload = .searchClaim) :
    (tellNotSent l s).search = s.search := by
  induction l generalizing s with
  | nil => rfl
  | cons e l ih =>
      have first : (Machine.tell e s).search = s.search :=
        tell_unclaimed hn fun r hr hstage hc => h r hr hstage ⟨e, .head _, hc⟩
      have rest := ih (s := Machine.tell e s) (by intro r hr; exact hn r (first ▸ hr))
        fun r hr hstage ⟨x, hx, hc⟩ => h r (first ▸ hr) hstage ⟨x, .tail _ hx, hc⟩
      exact rest.trans first

/-- A search whose own SEARCH CLAIM is told "not sent" ends, and its touch is held (R116). -/
theorem tellNotSent_claimed {l : List TxEntry} {r : SearchRec} (hr : s.search.record = some r) (hstage : r.stage = .claiming)
    (h : ∃ e ∈ l, e.jobless = false ∧ e.frame.payload = .searchClaim) : (tellNotSent l s).search.record = none
      ∧ (tellNotSent l s).search.held = some { area := r.area, touchAt := r.touchAt } := by
  induction l generalizing s with
  | nil =>
      obtain ⟨e, he, -⟩ := h
      exact absurd he List.not_mem_nil
  | cons e l ih =>
      by_cases claim : e.jobless = false ∧ e.frame.payload = .searchClaim
      · have told : (Machine.tell e s).search
            = { s.search with record := none, held := some { area := r.area, touchAt := r.touchAt } } := by
          unfold Machine.tell
          rw [if_neg (by simp [claim.1]), claim.2]
          show (if awaitsClaim .searchClaim s then claimLost s else s).search = _
          rw [if_pos (by simp [awaitsClaim, hr, isClaimOf, hstage]), claimLost, hr]
          simp only [hstage]
        have rest : (tellNotSent l (Machine.tell e s)).search = (Machine.tell e s).search :=
          tellNotSent_unclaimed (by intro x hx; rw [told] at hx; exact absurd hx (by simp))
            fun x hx => by rw [told] at hx; exact absurd hx (by simp)
        show (tellNotSent l (Machine.tell e s)).search.record = none ∧ (tellNotSent l (Machine.tell e s)).search.held = _
        rw [rest, told]
        exact ⟨rfl, rfl⟩
      · have told : (Machine.tell e s).search = s.search :=
          tell_unclaimed (by intro x hx; rw [hr] at hx; cases hx; rw [hstage]; decide) fun _ _ _ => claim
        obtain ⟨x, hx, hc⟩ := h
        refine ih (s := Machine.tell e s) (told ▸ hr) ⟨x, ?_, hc⟩
        rcases List.mem_cons.1 hx with rfl | hx
        · exact absurd hc claim
        · exact hx

/-! ## Entry to LINE FAULT (R147) -/

/-- LINE FAULT with a cause, before the jobs are told. -/
def faulting (c : LineCause) (s : State) : State :=
  searchLineFault (intentsLineFault { s with line := faultLine c s.now s.line })

theorem enterLineFault_tells (h : s.line.state = .ok) (c : LineCause) :
    enterLineFault c s = tellNotSent s.line.tx (faulting c s) := enterLineFault_ok h c

theorem enterLineFault_quiet (h : s.line.state = .ok) (c : LineCause) : Quiet (faulting c s) (enterLineFault c s) := by
  rw [enterLineFault_tells h]
  exact tellNotSent_quiet _ _

theorem enterLineFault_tx (h : s.line.state = .ok) (c : LineCause) : (enterLineFault c s).line.tx = [] := by
  rw [enterLineFault_tells h, tellNotSent_tx]
  rfl

theorem enterLineFault_state (h : s.line.state = .ok) (c : LineCause) : (enterLineFault c s).line.state = .lineFault c :=
  (congrArg Line.state (enterLineFault_quiet h c).line :)

theorem faulting_calm (hs : Calm s) (c : LineCause) : Calm (faulting c s) :=
  ⟨hs.1, hs.2.1, rfl, hs.2.2.2.1, hs.2.2.2.2⟩

theorem enterLineFault_calm (hs : Calm s) (h : s.line.state = .ok) (c : LineCause) : Calm (enterLineFault c s) := by
  have q := enterLineFault_quiet h c
  refine ⟨(congrArg Power.heldSince q.power :).trans hs.1, (congrArg Power.state q.power :).trans hs.2.1,
    (congrArg Intents.held q.intent :), (congrArg Window.dropAnswer q.win).trans hs.2.2.2.1, ?_⟩
  rw [enterLineFault_tells h]
  exact tellNotSent_stage _ (by simp [faulting, searchLineFault, intentsLineFault, faultLine]) (faulting_calm hs c).2.2.2.2

theorem enterLineFault_table (h : s.line.state = .ok) (c : LineCause) : (enterLineFault c s).intent.table = [] :=
  List.map_eq_nil_iff.1 (enterLineFault_quiet h c).table

/-- In LINE FAULT the end of a command leaves the line interface as it is (R148). -/
theorem settle_fault_line (hs : Calm s) (h : s.line.state ≠ .ok) : (settle s).line = s.line := by
  have announcement (x : State) (hx : x.line = s.line) : (queueAnnouncement x).line = s.line := by
    unfold queueAnnouncement
    simp only
    rw [if_pos (by simp [inLineFault, hx, h]), hx]
  have census : (settleCensus s).line = s.line := by
    unfold settleCensus
    split
    · rw [queueCensus_fault (t := { s with census := { s.census with censusOwed := false } }) h]
    · rfl
  have judgedLine : (judged s).line = s.line := (judged_line s).trans census
  have status : (settleStatus (judged s)).line = s.line := by
    unfold settleStatus
    split
    · exact judgedLine
    · split
      · exact announcement _ judgedLine
      · exact judgedLine
  rw [settle_calm s hs, settleDue_fault (fun e => h ((congrArg Line.state status).symm.trans e))]
  exact status

/-- What the end of a command leaves of an entry to LINE FAULT (R147, R148). -/
theorem enterLineFault_settles (hs : Calm s) (h : s.line.state = .ok) (c : LineCause) :
    let v := settle (enterLineFault c s)
    v.line.state = .lineFault c ∧ v.line.tx = [] ∧ v.intent.table = [] ∧ Quiet (faulting c s) v
      ∧ v.search = (enterLineFault c s).search := by
  intro v
  have calm := enterLineFault_calm hs h c
  have fault : (enterLineFault c s).line.state ≠ .ok := by rw [enterLineFault_state h]; exact fun e => by cases e
  have line := settle_fault_line calm fault
  have q := (enterLineFault_quiet h c).trans (settle_quiet _ calm)
  refine ⟨?_, ?_, List.map_eq_nil_iff.1 q.table, q, settle_fault_search calm fault⟩
  · exact (congrArg Line.state line).trans (enterLineFault_state h c)
  · exact (congrArg Line.tx line).trans (enterLineFault_tx h c)

/-! ## Extensions and holds (R135, R136, R146) -/

theorem overloadTest_none (h : framesHeld s.line.rx < 7 ∨ 2 ≤ s.line.ext ∨ s.line.state ≠ .ok) :
    overloadTest s = { s with line := { s.line with extEnd := none } } := if_neg (by
  rintro ⟨held, ext, ok⟩
  rcases h with h | h | h
  · omega
  · omega
  · exact h (by simpa [inLineFault] using ok))

theorem overloadTest_more (held : 7 ≤ framesHeld s.line.rx) (ext : s.line.ext < 2) (ok : s.line.state = .ok) :
    overloadTest s = { s with line := { s.line with
      ext := s.line.ext + 1, extEnd := some (s.now + 160), freeAt := max s.line.freeAt (s.now + 420)
      cond := if s.line.cond = .held then .held else .busy } } := if_pos ⟨held, ext, by simp [inLineFault, ok]⟩

/-- The line's condition as time passes: a BUSY line may become FREE, and no other changes (R135). -/
theorem advanceTo_held (t : Nat) (s : State) : (advanceTo t s).line.cond = .held ↔ s.line.cond = .held := by
  have line (now : Nat) : (lineAt s.line now).cond = .held ↔ s.line.cond = .held := by
    unfold lineAt
    split
    · rename_i h
      rw [h.1]
      show LineCondition.free = .held ↔ LineCondition.busy = .held
      decide
    · rfl
  unfold advanceTo
  split
  · exact line _
  · exact line _

end

end Sys2Proof.Proofs.Lines
end

section
/-! The line itself: extensions, holds and recovery from LINE FAULT (7.2, 7.4, 7.5). -/

namespace Sys2Proof.Proofs.Lines

open Sys2Proof Sys2Proof.Machine Sys2Proof.Proofs.Steps Sys2Proof.Proofs.Invariants Sys2Proof.Proofs.KeyFrames
open Sys2Proof.Proofs.Ends Sys2Proof.Proofs.Glass Sys2Proof.Proofs.Delivery Sys2Proof.Proofs.Release Sys2Proof.Proofs.Intents
open Sys2Proof.Proofs.Crash Sys2Proof.Proofs.Arbiter Sys2Proof.Proofs.Touches Sys2Proof.Proofs.Census

section
variable {s m : State}

theorem advance_calm {t : Nat} (hs : Calm s) : Calm (advance t s) := calm_advanceTo hs

theorem exec_extensionEnd {e : Nat} (hs : Calm s) (he : s.line.extEnd = some e) :
    exec .overloadExtensionEnd s = .next (settle (overloadTest (advance 20 (advanceTo e s)))) := by
  rw [show exec .overloadExtensionEnd s = whileAwake _ s from rfl, whileAwake_next hs, he]
  rfl

/-- A start hold begun on both sides (R78). -/
theorem adds_startHold {a b : State} {ps : List Payload} (h : Adds ps a b) (x : Option Nat) :
    Adds ps { a with intent := { a.intent with startHold := x } } { b with intent := { b.intent with startHold := x } } where
  quiet := { h.quiet with startHold := .inl rfl }
  hold := rfl
  unclaimed := h.unclaimed
  stage := h.stage
  gentle room := { h.gentle room with }
  queued := h.queued

/-- Recovery from LINE FAULT: the gate stays shut, and the own frames wait (R149, R154, R159). -/
theorem recovery_settles (hs : Calm m) (ok : m.line.state = .ok) (empty : m.line.tx = []) :
    let v := settle (beginStartHold (firstFrames m))
    Kept (beginStartHold m) v ∧ v.line.gateOpen = m.line.gateOpen ∧ v.line.tx.any isCensus = true
      ∧ announcementWaits v = true := by
  intro v
  obtain ⟨ps, hn, first⟩ := Resets.adds_firstFrames m
  have begun : beginStartHold (firstFrames m) = { firstFrames m with intent := { (firstFrames m).intent with
      startHold := some (m.now + intervalInEffect m * 1000) } } := by
    have supply : (firstFrames m).power.supply = m.power.supply := (congrArg Power.supply first.quiet.power :)
    have interval : intervalInEffect (firstFrames m) = intervalInEffect m := by
      rw [intervalInEffect, intervalInEffect, supply, first.quiet.cfg]
    exact congrArg (fun x => ({ firstFrames m with intent := { (firstFrames m).intent with startHold := some x } } : State))
      (by rw [interval, first.quiet.now])
  have h : Adds ps (beginStartHold m) (beginStartHold (firstFrames m)) := by
    rw [begun]
    exact adds_startHold first _
  have calm : Calm (beginStartHold m) := calm_of_same hs rfl
  have zero : m.line.tx.length = 0 := by rw [empty]; rfl
  have g := first.gentle (by omega)
  have len : (beginStartHold (firstFrames m)).line.tx.length + 2 ≤ 6 := by
    show (firstFrames m).line.tx.length + 2 ≤ 6
    have := g.length
    omega
  have ends := settle_two _ (h.calm calm) len
  obtain ⟨census, waits⟩ := Resets.firstFrames_wait (s := m) (by omega) ok
  obtain ⟨e, he, hc⟩ := List.any_eq_true.1 census
  exact ⟨h.kept_roomy calm (roomy_of_few hn), ends.gateOpen.trans g.gateOpen,
    List.any_eq_true.2 ⟨e, ends.stays e he (isAnnouncement_census hc), hc⟩,
    settle_waits (h.calm calm) (g.state.trans ok) len waits⟩

/-- The end of a hold in RUN (R135, R136, R149). -/
theorem holdEnds_calm (run : s.power.state = .run) (hc : s.line.cond = .held) :
    holdEnds s = { s with line := { s.line with
      cond := .busy, holdFrom := none
      freeAt := max (s.now + 240) (max ((s.line.extEnd.map (· + 260)).getD 0) ((s.line.markEnd.map (· + 240)).getD 0))
      recoverAt := if s.line.state = .lineFault .held then some (s.now + 50000) else s.line.recoverAt } } := by
  have abort (x : State) (hx : x.power.state = .run) : abortSleep none x = x := if_neg (by rw [hx]; decide)
  have restart : ∀ x : State, restartRecovery s.now x = { x with line := { x.line with
      recoverAt := if x.line.state = .lineFault .held then some (s.now + 50000) else x.line.recoverAt } } := by
    intro x
    unfold restartRecovery
    split <;> rfl
  unfold holdEnds
  rw [if_pos hc, runEnds]
  simp only [restart]
  split
  · exact abort _ run
  · rfl

end

/-- Settles O48: the extension's end, the hold's start, end and limit, and the recovery. -/
theorem lineHoldsAndRecovers : Obligations.LineHoldsAndRecovers := by
  intro s hs
  refine ⟨?_, fun ht hc => ?_, fun hc => ?_, ?_, ?_⟩
  · intro e he n
    have next := exec_extensionEnd hs (Option.mem_def.1 he)
    refine ⟨fun h => ?_, fun held ext ok => ?_⟩
    · rw [overloadTest_none (by simpa [advance] using h)] at next
      exact kept_of next (calm_of_same (advance_calm (calm_advanceTo hs)) rfl)
    · rw [overloadTest_more (by simpa [advance] using held) (by simpa [advance] using ext) (by simpa [advance] using ok)] at next
      have cond : (if n.line.cond = .held then LineCondition.held else .busy) = if s.line.cond = .held then .held else .busy :=
        if_congr ((advanceTo_held _ _).trans (advanceTo_held _ _)) rfl rfl
      have ext_ : n.line.ext = s.line.ext := by simp [n, advance]
      have free : n.line.freeAt = s.line.freeAt := by simp [n, advance]
      have same := kept_of next (calm_of_same (advance_calm (calm_advanceTo hs)) rfl)
      rw [show advance 20 (advanceTo e s) = n from rfl, cond, ext_, free] at same
      exact same
  · have started : holdStarts s = { advance 420 s with line := { (advance 420 s).line with
        cond := .held, holdFrom := some s.now
        recoverAt := if s.line.state = .lineFault .held then none else s.line.recoverAt } } :=
      if_neg (by simp [ht, hc])
    have next : exec .lineHoldStart s = .next (settle (holdStarts s)) := whileAwake_next hs _
    rw [started] at next
    exact kept_of next (calm_of_same (advance_calm hs) rfl)
  · have next : exec .lineHoldEnd s = .next (settle (holdEnds s)) := whileAwake_next hs _
    rw [holdEnds_calm hs.2.1 hc] at next
    exact kept_of next (calm_of_same hs rfl)
  · intro h hh hc ok n claims
    have next : exec .lineHoldTimeout s = .next (settle (enterLineFault .held n)) := by
      rw [show exec .lineHoldTimeout s = whileAwake _ s from rfl, whileAwake_next hs, holdLimit, if_pos hc, Option.mem_def.1 hh]
      rfl
    have calm : Calm n := calm_advanceTo hs
    have okN : n.line.state = .ok := by rw [advanceTo_line_state]; exact ok
    have tx : n.line.tx = s.line.tx := advanceTo_line_tx _ _
    have search : (faulting .held n).search = { s.search with held := none } := by
      show ({ n.search with held := none } : Search) = _
      rw [advanceTo_search]
    obtain ⟨state, empty, table, q, told⟩ := enterLineFault_settles calm okN .held
    replace told := told.trans (congrArg State.search ((enterLineFault_tells okN .held).trans (by rw [tx])))
    refine ⟨_, next, q.now, q.win, state, empty, (congrArg Line.recoverAt q.line :), table,
      q.latch.trans (advanceTo_latch _ _), q.keys.trans (advanceTo_keys _ _), fun none_ => ?_, fun r hr hstage hclaims => ?_⟩
    · have same := tellNotSent_unclaimed (l := s.line.tx) (s := faulting .held n) (faulting_calm calm _).2.2.2.2
        (fun r hr => by rw [search] at hr; exact none_ r hr)
      rw [told, same, search]
    · have held := tellNotSent_claimed (l := s.line.tx) (s := faulting .held n) (by rw [search]; exact Option.mem_def.1 hr)
        hstage hclaims
      rw [told]
      exact held
  · intro e he fault empty n
    have inFault : inLineFault s = true := by
      rcases fault with h | h <;> simp [inLineFault, h]
    have next : exec .lineFaultRecovery s = .next (settle (recoverLine n)) := by
      rw [show exec .lineFaultRecovery s = whileAwake _ s from rfl, whileAwake_next hs, recoveryTime, inFault,
        if_pos rfl, Option.mem_def.1 he]
      rfl
    let m : State := { n with
      line := { n.line with state := .ok, recoverAt := none, gateOpen := false, failures := 0 }
      census := { n.census with balance := 0, urgent := false, censusOwed := false } }
    obtain ⟨kept, gate, census, waits⟩ := recovery_settles (m := m) (calm_of_same (calm_advanceTo hs) rfl) rfl
      ((advanceTo_line_tx _ _).trans empty)
    have interval : intervalInEffect m = intervalInEffect s := intervalInEffect_advanceTo e s
    have other := kept_census (x := { s.census with balance := 0, urgent := false }) kept (by
      show ({ n.census with balance := 0, urgent := false, censusOwed := false } : Census).fixed = _
      rw [advanceTo_census]
      rfl)
    refine ⟨_, next, ?_, gate, census, waits⟩
    have intent : (beginStartHold m).intent = { s.intent with startHold := some (n.now + intervalInEffect s * 1000) } := by
      show ({ n.intent with startHold := some (n.now + intervalInEffect m * 1000) } : Intents) = _
      rw [interval, advanceTo_intent]
    have whole : ({ beginStartHold m with census := { s.census with balance := 0, urgent := false } } : State) = { n with
        line := { n.line with state := .ok, recoverAt := none, gateOpen := false, failures := 0 }
        census := { s.census with balance := 0, urgent := false }
        intent := { s.intent with startHold := some (n.now + intervalInEffect s * 1000) } } := by
      rw [← intent]
      rfl
    exact whole ▸ other

end Sys2Proof.Proofs.Lines
end

section
/-! Reports in line order leave the rest of the receive queue (7.3); bits read as a run, and the judgment of a frame (7.4). -/

namespace Sys2Proof.Proofs.Lines

open Sys2Proof Sys2Proof.Machine Sys2Proof.Proofs.Steps Sys2Proof.Proofs.Invariants Sys2Proof.Proofs.KeyFrames
open Sys2Proof.Proofs.Ends Sys2Proof.Proofs.Glass Sys2Proof.Proofs.Delivery Sys2Proof.Proofs.Release Sys2Proof.Proofs.Intents
open Sys2Proof.Proofs.Crash Sys2Proof.Proofs.Arbiter Sys2Proof.Proofs.Touches Sys2Proof.Proofs.Census

section
variable {s t m : State}

/-! ## What a report handed over leaves in the receive queue (R140, R145) -/

theorem Quiet.rx {a b : State} (h : Quiet a b) : b.line.rx = a.line.rx := (congrArg Line.rx h.line :)

theorem readSlot_rx (n : Slot) (s : State) : (readSlot n s).line.rx = s.line.rx := by
  have damage : (damageSlot n s).line.rx = s.line.rx := Quiet.rx (a := Records.slotMarked n s) (queueFrame_quiet _ _)
  unfold readSlot
  split
  · rfl
  · split
    · split
      · rfl
      · exact damage
    · exact damage

theorem lookupIn_rx (id : Word32) (l : List Slot) (s : State) : (lookupIn id l s).2.line.rx = s.line.rx := by
  induction l generalizing s with
  | nil => rfl
  | cons n l ih =>
      unfold lookupIn
      split
      · exact ih s
      · simp only
        split
        · exact readSlot_rx n s
        · split
          · exact readSlot_rx n s
          · exact (ih _).trans (readSlot_rx n s)

theorem validate_rx (r : Reply) (c : Word32) (s : State) : (validate r c s).2.line.rx = s.line.rx := by
  have found : (lookup r.identity s).2.line.rx = s.line.rx := lookupIn_rx _ _ s
  unfold validate
  split
  · rename_i s1 h
    rw [h] at found
    exact found
  · rename_i n s1 h
    rw [h] at found
    simp only
    split
    · exact found
    · split
      · rw [badCode_eq]
        exact found
      · exact found

theorem weighReply_rx (r : Reply) (s : State) : (weighReply r s).line.rx = s.line.rx := by
  unfold weighReply
  split
  · rfl
  · rename_i q hq
    split
    · rfl
    · rename_i ch hch
      split
      · have found := validate_rx r ch (setRecord (some { q with taken := q.taken ++ [r] }) s)
        simp only
        split
        · rename_i s2 h
          rw [h] at found
          exact found
        · rename_i c s2 h
          rw [h] at found
          exact found
      · rfl

theorem claimLost_rx (s : State) : (claimLost s).line.rx = s.line.rx := by
  unfold claimLost
  split
  · rfl
  · split
    · rfl
    · split <;> rfl
    · rfl

theorem claimSent_rx (e : Nat) (s : State) : (claimSent e s).line.rx = s.line.rx := by
  unfold claimSent
  split
  · rfl
  · rename_i r hr
    split
    · split
      · exact claimLost_rx s
      · unfold outerChallenge
        split <;> rfl
    · split
      · rfl
      · split
        · exact claimLost_rx s
        · rfl
    · rfl

theorem enterSleepPending_rx (s : State) : (enterSleepPending s).line.rx = s.line.rx := by
  unfold enterSleepPending
  split
  · simp only
    split
    · rfl
    · exact (Quiet.rx (queueAnnouncement_quiet _)).trans rfl
  · rfl

theorem announcementSent_rx (b : Bool) (s : State) : (announcementSent b s).line.rx = s.line.rx := by
  unfold announcementSent moveAgreement
  split
  · split <;> rfl
  · by_cases two : (if agreement s then min 2 (s.power.agree + 1) else 0) = 2
    · simp only [if_pos two]
      exact enterSleepPending_rx _
    · simp only [if_neg two]

theorem reportSent_rx (p : Payload) (e : Nat) (s : State) : (reportSent p e s).line.rx = s.line.rx := by
  unfold reportSent
  split
  · rfl
  · split
    · exact claimSent_rx e s
    · rfl
  · split
    · exact claimSent_rx e s
    · rfl
  · rfl
  · exact announcementSent_rx _ _
  · exact weighReply_rx _ s
  · split <;> rfl
  · rfl

/-- A report in the receive queue. -/
def isReport (x : RxItem) : Bool :=
  match x with
  | .sent _ _ => true
  | .frame _ _ => false

theorem drainList_rx {l : List RxItem} (h : s.line.rx = l) : (drainList l s).line.rx = l.dropWhile isReport := by
  induction l generalizing s with
  | nil => exact h
  | cons x l ih =>
      cases x with
      | sent p e => exact ih (reportSent_rx p e _)
      | frame f e => exact h

/-- No report heads a receive queue that draining leaves as it is (R140). -/
theorem head_of_drained (h : drainReports s = s) : ∀ x ∈ s.line.rx.head?, isReport x = false := by
  intro x hx
  have rx : s.line.rx.dropWhile isReport = s.line.rx := (drainList_rx rfl).symm.trans (congrArg (fun t : State => t.line.rx) h)
  cases hl : s.line.rx with
  | nil => rw [hl] at hx; exact absurd hx (by simp)
  | cons y l =>
      obtain rfl : y = x := by simpa [hl] using hx
      cases hy : isReport y with
      | false => rfl
      | true =>
          rw [hl, List.dropWhile_cons, if_pos hy] at rx
          have len := congrArg List.length rx
          have := (List.dropWhile_sublist (p := isReport) (l := l)).length_le
          simp only [List.length_cons] at len
          omega

theorem drainReports_head (h : ∀ x ∈ s.line.rx.head?, isReport x = false) : drainReports s = s := by
  unfold drainReports
  cases hl : s.line.rx with
  | nil => rfl
  | cons x l =>
      cases x with
      | frame f e => rfl
      | sent p e => exact Bool.noConfusion (h (.sent p e) (by simp [hl]))

/-! ## Bits read at the line (R135, R143) -/

theorem receptionStart_eq (s : State) : receptionStart s = match s.line.cond with
    | .frame => s.line.frameAt
    | .busy => max s.now s.line.freeAt
    | .free => s.now
    | .held => s.now := by
  unfold receptionStart freeTime
  cases s.line.cond <;> rfl

theorem restartRecovery_other {x : Nat} (h : s.line.state ≠ .lineFault .held) : restartRecovery x s = s := if_neg h

theorem receiveBits_run {bits : List Bool} (h : mayReceive s = true) (hc : s.line.cond ≠ .frame)
    (hb : bits.head? = some false) : receiveBits bits s = ignoreRun bits s := by
  unfold receiveBits
  rw [if_neg (by simp [h]), if_pos ⟨hc, hb⟩]

theorem receiveBits_frame {bits : List Bool} (h : mayReceive s = true)
    (hb : s.line.cond = .frame ∨ bits.head? ≠ some false) : receiveBits bits s = readReception bits s := by
  unfold receiveBits
  rw [if_neg (by simp [h]), if_neg]
  rintro ⟨hc, hh⟩
  exact hb.elim hc fun e => e hh

/-- The state at the bit that settles a frame (R135, R143). -/
def frameOver (bits : List Bool) (s : State) : State :=
  { advanceTo (receptionStart s + (12 + bitsRead bits) * 20) s with
    line := { (advanceTo (receptionStart s + (12 + bitsRead bits) * 20) s).line with
      cond := .busy, ext := 0
      freeAt := max (advanceTo (receptionStart s + (12 + bitsRead bits) * 20) s).now
        (receptionStart s + (12 + lastDominant bits) * 20) + 240 } }

theorem readReception_eq {bits : List Bool} (h : s.line.state ≠ .lineFault .held) :
    readReception bits s = drainReports (overloadTest (judgeFrame bits (frameOver bits s))) := by
  have at_ (n : Nat) : receptionStart s + 240 + n * 20 = receptionStart s + (12 + n) * 20 := by omega
  unfold readReception
  simp only [at_]
  rw [restartRecovery_other]
  · rfl
  · rw [advanceTo_line_state]
    exact h

/-! ## The judgment of a frame (R143 to R145, R150) -/

theorem acceptedOrigin_iff (k : Nat) (o : Addr) : acceptedOrigin k o = true ↔ (k = 0 → o = 6)
    ∧ (k = 1 ∨ k = 2 ∨ k = 3 → o ≠ 6 ∧ o ≠ 7) ∧ (k = 16 → o = 7) := by
  have low : o.val ≤ 5 ↔ o ≠ 6 ∧ o ≠ 7 := by revert o; decide
  have six : (o.val == 6) = true ↔ o = 6 := by revert o; decide
  have seven : (o.val == 7) = true ↔ o = 7 := by revert o; decide
  unfold acceptedOrigin
  split
  · simp [six]
  · simp [low]
  · simp [low]
  · simp [low]
  · simp [seven]
  · rename_i h0 h1 h2 h3 h16
    exact iff_of_true rfl ⟨fun e => absurd e h0, fun e => (e.elim h1 (·.elim h2 h3)).elim, fun e => absurd e h16⟩

theorem decodePayload_high {k : Nat} (h : 18 ≤ k) (d : List Byte) : decodePayload k d = none := by
  obtain ⟨n, rfl⟩ := Nat.exists_eq_add_of_le' h
  rfl

end

end Sys2Proof.Proofs.Lines
end

section
/-! A received frame is judged, and a run that is no sync is ignored (7.2, 7.4, 7.5). -/

namespace Sys2Proof.Proofs.Lines

open Sys2Proof Sys2Proof.Machine Sys2Proof.Proofs.Steps Sys2Proof.Proofs.Invariants Sys2Proof.Proofs.KeyFrames
open Sys2Proof.Proofs.Ends Sys2Proof.Proofs.Glass Sys2Proof.Proofs.Delivery Sys2Proof.Proofs.Release Sys2Proof.Proofs.Intents
open Sys2Proof.Proofs.Crash Sys2Proof.Proofs.Arbiter Sys2Proof.Proofs.Touches Sys2Proof.Proofs.Census

section
variable {s t m : State} {bits : List Bool} {f : Frame}

/-- A station that may receive a frame, with no recovery that the frame would begin again and no report that waits
at the head of its receive queue. -/
structure Receives (s : State) : Prop where
  calm : Calm s
  unheld : s.line.state ≠ .lineFault .held
  silent : inTxEntry s = none
  unmarked : s.line.markEnd = none
  unextended : s.line.extEnd = none
  cond : s.line.cond ≠ .held
  head : ∀ x ∈ s.line.rx.head?, isReport x = false

theorem Receives.may (h : Receives s) : mayReceive s = true := by
  have run := h.calm.2.1
  simp [mayReceive, awake, run, h.silent, h.unmarked, h.unextended, h.cond]

theorem exec_reception (h : Receives s) (hb : s.line.cond = .frame ∨ bits.head? ≠ some false) :
    exec (.frameReception bits) s
      = .next (settle (drainReports (overloadTest (judgeFrame bits (frameOver bits s))))) := by
  have next : exec (.frameReception bits) s = .next (settle (receiveBits bits s)) := whileAwake_next h.calm _
  rw [receiveBits_frame h.may hb, readReception_eq h.unheld] at next
  exact next

/-- The overload test where no extension is driven (R146). -/
def extended (s : State) : State :=
  if s.line.state = .ok then
    { s with line := { s.line with ext := 1, extEnd := some (s.now + 160), freeAt := max s.line.freeAt (s.now + 420) } }
  else s

theorem overloadTest_fresh (hx : t.line.extEnd = none) (he : t.line.ext = 0) (hc : t.line.cond = .busy) :
    overloadTest t = if 7 ≤ framesHeld t.line.rx then extended t else t := by
  have none_ (h : framesHeld t.line.rx < 7 ∨ 2 ≤ t.line.ext ∨ t.line.state ≠ .ok) : overloadTest t = t := by
    rw [overloadTest_none h, ← hx]
  unfold extended
  by_cases held : 7 ≤ framesHeld t.line.rx
  · rw [if_pos held]
    by_cases ok : t.line.state = .ok
    · have cond : (if t.line.cond = .held then LineCondition.held else .busy) = t.line.cond := by rw [hc]; rfl
      rw [if_pos ok, overloadTest_more held (by omega) ok, he, cond]
    · rw [if_neg ok]
      exact none_ (.inr (.inr ok))
  · rw [if_neg held]
    exact none_ (.inl (by omega))

theorem extended_rx : (extended t).line.rx = t.line.rx := by
  unfold extended
  split <;> rfl

theorem extended_calm (ht : Calm t) : Calm (extended t) := by
  unfold extended
  split
  · exact calm_of_same ht rfl
  · exact ht

/-- What a judged frame comes to when its judgment sends nothing. -/
theorem reception_kept (h : Receives s) (hb : s.line.cond = .frame ∨ bits.head? ≠ some false)
    (hj : judgeFrame bits (frameOver bits s) = t) (ht : Calm t) (hx : t.line.extEnd = none) (he : t.line.ext = 0)
    (hc : t.line.cond = .busy) (hr : ∀ x ∈ t.line.rx.head?, isReport x = false) :
    ∃ v, exec (.frameReception bits) s = .next v ∧ Kept (if 7 ≤ framesHeld t.line.rx then extended t else t) v := by
  have next := exec_reception h hb
  rw [hj, overloadTest_fresh hx he hc, drainReports_head] at next
  · refine kept_of next ?_
    split
    · exact extended_calm ht
    · exact ht
  · split
    · rw [extended_rx]; exact hr
    · exact hr

theorem frameOver_line (h : Receives s) : (frameOver bits s).line.extEnd = none ∧ (frameOver bits s).line.ext = 0
    ∧ (frameOver bits s).line.cond = .busy ∧ (frameOver bits s).line.rx = s.line.rx := by
  refine ⟨?_, rfl, rfl, ?_⟩
  · show (advanceTo _ s).line.extEnd = none
    rw [advanceTo_line_extEnd]
    exact h.unextended
  · exact advanceTo_line_rx _ _

theorem frameOver_calm (h : Receives s) : Calm (frameOver bits s) := calm_of_same (calm_advanceTo h.calm) rfl

/-! ## The judgment (R143 to R145) -/

theorem judge_damaged (h : readFrame bits = none) : judgeFrame bits t = countDamaged t := by
  rw [judgeFrame, h]

theorem judge_other {r : RawFrame} (h : readFrame bits = some r) (ho : r.origin ≠ t.addr) :
    judgeFrame bits t = joinFrame r t := by
  rw [judgeFrame, h]
  exact if_neg ho

theorem joinFrame_none {r : RawFrame} (h : acceptedOrigin r.kind r.origin = false ∨ decodePayload r.kind r.data = none) :
    joinFrame r t = countDamaged t := by
  unfold joinFrame
  rcases h with h | h
  · rw [h]; rfl
  · rw [h]; cases acceptedOrigin r.kind r.origin <;> rfl

theorem joinFrame_some {r : RawFrame} {p : Payload} (ha : acceptedOrigin r.kind r.origin = true)
    (h : decodePayload r.kind r.data = some p) : joinFrame r t = if 8 ≤ framesHeld t.line.rx then
        { t with line := { t.line with overruns := satInc t.line.overruns } }
      else { t with line := { t.line with
        rx := t.line.rx ++ [.frame { cls := r.cls, origin := r.origin, payload := p } t.now] } } := by
  unfold joinFrame
  rw [ha, if_pos rfl, h]

/-- A frame that is discarded and counted (R143, R144). -/
theorem reception_damaged (h : Receives s) (hb : s.line.cond = .frame ∨ bits.head? ≠ some false)
    (hj : judgeFrame bits (frameOver bits s) = countDamaged (frameOver bits s)) :
    ∃ v, exec (.frameReception bits) s = .next v ∧ Kept (if 7 ≤ framesHeld s.line.rx then
        extended (countDamaged (frameOver bits s)) else countDamaged (frameOver bits s)) v := by
  obtain ⟨hx, he, hc, hr⟩ := frameOver_line (bits := bits) h
  obtain ⟨v, hv, kept⟩ := reception_kept h hb hj (calm_of_same (frameOver_calm h) rfl) hx he hc (by
    show ∀ x ∈ (frameOver bits s).line.rx.head?, isReport x = false
    rw [hr]; exact h.head)
  rw [show (countDamaged (frameOver bits s)).line.rx = s.line.rx from hr] at kept
  exact ⟨v, hv, kept⟩

/-- A good frame at its end (R133, R143): read whole, its gap measured from there. -/
theorem frameOver_whole (hd : f.payload.data.length ≤ 12) (begin_ : Nat) (hb : receptionStart s = begin_) :
    frameOver (frameBits f) s = { advanceTo (begin_ + (12 + (frameBits f).length) * 20) s with
      line := { (advanceTo (begin_ + (12 + (frameBits f).length) * 20) s).line with
        cond := .busy, freeAt := (advanceTo (begin_ + (12 + (frameBits f).length) * 20) s).now + 240, ext := 0 } } := by
  have last := Layouts.lastDominant_frameBits f
  have late : max (advanceTo (begin_ + (12 + (frameBits f).length) * 20) s).now
      (begin_ + (12 + lastDominant (frameBits f)) * 20) = (advanceTo (begin_ + (12 + (frameBits f).length) * 20) s).now := by
    rw [advanceTo_now]
    omega
  unfold frameOver
  rw [Layouts.bitsRead_frameBits hd, hb, late]

/-! ## A run that is no sync (R135, R136, log 80) -/

theorem leading_le_last (bits : List Bool) : leadingDominant bits ≤ lastDominant bits := by
  have split := List.takeWhile_append_dropWhile (p := fun b : Bool => !b) (l := bits)
  have dominant : ∀ b ∈ (bits.takeWhile fun b => !b).reverse, id b = false := fun b hb => by
    simpa using List.mem_takeWhile_imp (List.mem_reverse.1 hb)
  have stops : ((bits.takeWhile fun b => !b).reverse).takeWhile id = [] := by
    cases hl : (bits.takeWhile fun b => !b).reverse with
    | nil => rfl
    | cons b l => exact List.takeWhile_cons_of_neg (by rw [dominant b (by rw [hl]; exact .head _)]; decide)
  have tail : (bits.reverse.takeWhile id).length ≤ (bits.dropWhile fun b => !b).length := by
    rw [← split, List.reverse_append, List.takeWhile_append, stops]
    split
    · simp
    · have := (List.takeWhile_prefix id (l := (bits.dropWhile fun b => !b).reverse)).length_le
      simpa using this
  have len := congrArg List.length split
  rw [List.length_append] at len
  rw [leadingDominant, lastDominant]
  omega

/-- A run ends in RUN with no extension or mark driven and no LINE FAULT with cause HELD (R135). -/
theorem runEnds_plain {us : Nat} (run : t.power.state = .run) (hm : t.line.markEnd = none) (hx : t.line.extEnd = none)
    (hh : t.line.state ≠ .lineFault .held) :
    runEnds us t = { t with line := { t.line with cond := .busy, freeAt := t.now + 240 } } := by
  have abort (x : State) (hx : x.power.state = .run) : abortSleep none x = x := if_neg (by rw [hx]; decide)
  have free : freeAfterRun t = t.now + 240 := by simp [freeAfterRun, hm, hx]
  unfold runEnds
  rw [free, restartRecovery_other (by exact hh)]
  simp only
  split
  · exact abort _ run
  · rfl

theorem ignoreRun_short (h : Receives s) (len : bits.length ≤ 178) :
    ignoreRun bits s = { advanceTo (freeTime s + (12 + leadingDominant bits) * 20) s with
      line := { (advanceTo (freeTime s + (12 + leadingDominant bits) * 20) s).line with
        cond := .busy
        freeAt := max (advanceTo (freeTime s + (12 + leadingDominant bits) * 20) s).now
          (freeTime s + (12 + lastDominant bits) * 20) + 240 } } := by
  have short : leadingDominant bits ≤ 178 :=
    (List.takeWhile_prefix _ (l := bits)).length_le.trans len
  unfold ignoreRun
  simp only
  rw [readRun, if_neg (by omega), runEnds_plain, restartRecovery_other]
  · have gap (a b : Nat) : max (a + 240) (b + 240) = max a b + 240 := by omega
    simp only [gap]
  · show (advanceTo _ s).line.state ≠ _
    rw [advanceTo_line_state]
    exact h.unheld
  · rw [advanceTo_power]; exact h.calm.2.1
  · rw [advanceTo_line_markEnd]; exact h.unmarked
  · rw [advanceTo_line_extEnd]; exact h.unextended
  · rw [advanceTo_line_state]; exact h.unheld

theorem exec_reception_run (h : Receives s) (hc : s.line.cond ≠ .frame) (hb : bits.head? = some false) :
    exec (.frameReception bits) s = .next (settle (ignoreRun bits s)) := by
  have next : exec (.frameReception bits) s = .next (settle (receiveBits bits s)) := whileAwake_next h.calm _
  rwa [receiveBits_run h.may hc hb] at next

/-- A run of 100 ms brings LINE FAULT, and recovery is measured from the last dominant bit (R136, R149). -/
theorem ignoreRun_long (ok : s.line.state = .ok) (long : 100000 ≤ (12 + leadingDominant bits) * 20) :
    ∃ l : Line, ignoreRun bits s = { advanceTo (freeTime s + (12 + leadingDominant bits) * 20)
        (enterLineFault .held (advanceTo (freeTime s + 100000) s)) with line := l }
      ∧ l.state = .lineFault .held ∧ l.tx = []
      ∧ l.recoverAt = some (freeTime s + (12 + lastDominant bits) * 20 + 50000) := by
  have okN : (advanceTo (freeTime s + 100000) s).line.state = .ok := by rw [advanceTo_line_state]; exact ok
  have state : (advanceTo (freeTime s + (12 + leadingDominant bits) * 20)
      (enterLineFault .held (advanceTo (freeTime s + 100000) s))).line.state = .lineFault .held := by
    rw [advanceTo_line_state]; exact enterLineFault_state okN .held
  have empty : (advanceTo (freeTime s + (12 + leadingDominant bits) * 20)
      (enterLineFault .held (advanceTo (freeTime s + 100000) s))).line.tx = [] := by
    rw [advanceTo_line_tx]; exact enterLineFault_tx okN .held
  have noMark : isMark ((12 + leadingDominant bits) * 20) = false := by simp [isMark]; omega
  unfold ignoreRun
  simp only
  rw [readRun, if_pos long, runEnds]
  simp only [noMark, Bool.false_eq_true, if_false, restartRecovery, state, if_true]
  exact ⟨_, rfl, rfl, empty, rfl⟩

theorem framesHeld_join (l : List RxItem) (x : Nat) : framesHeld (l ++ [RxItem.frame f x]) = framesHeld l + 1 := by
  simp [framesHeld, List.countP_append]

theorem head_join {l : List RxItem} {x : Nat} (h : ∀ y ∈ l.head?, isReport y = false) :
    ∀ y ∈ (l ++ [RxItem.frame f x]).head?, isReport y = false := by
  cases l with
  | nil =>
      intro y hy
      obtain rfl : RxItem.frame f x = y := by simpa using hy
      rfl
  | cons z l => exact h

/-! ## A frame of the own address (R150) -/

theorem queueFrame_fault {p : Payload} (h : t.line.state ≠ .ok) (hp : ∀ x, notSent p x = x) : queueFrame p t = t := by
  unfold queueFrame queueAs queueEntry
  rw [if_pos (by simp [admitted, inLineFault, h]), Machine.tell, if_neg (by simp [newEntry])]
  exact hp t

/-- The state in which a clash leaves the station: counted, in LINE FAULT with its fault entered (R147, R150, R165). -/
def clashed (r : RawFrame) (t : State) : State :=
  setFault .clash (some (byte r.kind)) (enterLineFault .clash (countDamaged t))

theorem clashed_ok (r : RawFrame) (ok : t.line.state = .ok) : (clashed r t).line.state = .lineFault .clash :=
  enterLineFault_state (s := countDamaged t) ok .clash

theorem clash_eq (r : RawFrame) (ok : t.line.state = .ok) : clash r t = clashed r t :=
  queueFrame_fault (t := clashed r t) (by rw [clashed_ok r ok]; exact fun e => by cases e) fun _ => rfl

/-- What a clash leaves (R147, R150). -/
theorem clashed_leaves (r : RawFrame) (ht : Calm t) (ok : t.line.state = .ok) : Calm (clashed r t)
    ∧ (clashed r t).line.tx = [] ∧ (clashed r t).line.extEnd = none ∧ (clashed r t).line.damaged = min 65535 (t.line.damaged + 1)
    ∧ (clashed r t).line.rx = t.line.rx ∧ (clashed r t).census.faults = t.census.faults.set 1 (some (byte r.kind))
    ∧ (clashed r t).intent.table = [] := by
  have okC : (countDamaged t).line.state = .ok := ok
  have entered := enterLineFault_quiet okC .clash
  have calm : Calm (enterLineFault .clash (countDamaged t)) := enterLineFault_calm (s := countDamaged t) (calm_of_same ht rfl) okC .clash
  have faults : (enterLineFault .clash (countDamaged t)).census.faults = t.census.faults :=
    (congrArg Census.faults entered.census :)
  refine ⟨calm_of_same calm rfl, enterLineFault_tx okC .clash, (congrArg Line.extEnd entered.line :),
    (congrArg Line.damaged entered.line :), (Quiet.rx entered).trans rfl, ?_, enterLineFault_table okC .clash⟩
  show (enterLineFault .clash (countDamaged t)).census.faults.set _ _ = _
  rw [faults]
  rfl

theorem reception_clash {r : RawFrame} (h : Receives s) (hb : s.line.cond = .frame ∨ bits.head? ≠ some false)
    (hr : readFrame bits = some r) (ho : r.origin = s.addr) (ok : s.line.state = .ok) :
    ∃ v, exec (.frameReception bits) s = .next v ∧ v.line.state = .lineFault .clash ∧ v.line.tx = []
      ∧ v.line.damaged = min 65535 (s.line.damaged + 1) ∧ v.line.rx = s.line.rx
      ∧ v.census.faults = s.census.faults.set 1 (some (byte r.kind)) ∧ v.intent.table = [] := by
  have okC : (frameOver bits s).line.state = .ok := (advanceTo_line_state _ _).trans ok
  have count : (frameOver bits s).line.damaged = s.line.damaged := advanceTo_line_damaged _ _
  have faults : (frameOver bits s).census.faults = s.census.faults := congrArg Census.faults (advanceTo_census _ s)
  have rx := (frameOver_line (bits := bits) h).2.2.2
  have judge : judgeFrame bits (frameOver bits s) = clashed r (frameOver bits s) := by
    rw [judgeFrame, hr, ← clash_eq r okC]
    exact if_pos (ho.trans (advanceTo_addr _ _).symm)
  have state := clashed_ok r okC
  obtain ⟨calm, empty, none_, damaged, queue, marked, table⟩ := clashed_leaves r (frameOver_calm (bits := bits) h) okC
  have next := exec_reception h hb
  rw [judge] at next
  rw [rx] at queue
  rw [count] at damaged
  rw [faults] at marked
  generalize clashed r (frameOver bits s) = w at next state calm empty none_ damaged queue marked table
  have notOk : w.line.state ≠ .ok := by rw [state]; exact fun e => by cases e
  have test : overloadTest w = w := by rw [overloadTest_none (.inr (.inr notOk)), ← none_]
  rw [test, drainReports_head (by rw [queue]; exact h.head)] at next
  have line := settle_fault_line calm notOk
  have q := settle_quiet w calm
  refine ⟨_, next, by rw [line]; exact state, by rw [line]; exact empty, by rw [line]; exact damaged,
    by rw [line]; exact queue, (congrArg Census.faults q.census :).trans marked, List.map_eq_nil_iff.1 (q.table.trans ?_)⟩
  rw [table]
  rfl

end

/-- Settles O47: the frame by its judgment, the run by its length, and the clash. -/
theorem receivedFrameIsJudged : Obligations.ReceivedFrameIsJudged := by
  intro s f bits raw hs unheld silent unmarked unextended cond drained begin_ n ended joined damaged dropped extended_ accepted
  have h : Receives s := ⟨hs, unheld, silent, unmarked, unextended, cond, head_of_drained drained⟩
  have start : receptionStart s = begin_ := receptionStart_eq s
  have calm : Calm (frameOver bits s) := frameOver_calm h
  obtain ⟨hx, he, hc, hr⟩ := frameOver_line (bits := bits) h
  have head : ∀ x ∈ (frameOver bits s).line.rx.head?, isReport x = false := by rw [hr]; exact h.head
  have ext : ∀ t : State, t.line.state = s.line.state → extended t = extended_ t := fun t ht => by
    show (if t.line.state = .ok then _ else t) = if s.line.state = .ok then _ else t
    rw [ht]
  have state (t : Nat) : (advanceTo t s).line.state = s.line.state := advanceTo_line_state _ _
  have whole (hb : bits = frameBits f) (hd : f.payload.defined = true) : frameOver bits s = ended := by
    subst hb
    exact frameOver_whole (Layouts.data_length _ hd) begin_ start
  have sound (hb : bits = frameBits f) (hd : f.payload.defined = true) : readFrame bits
      = some { cls := f.cls, origin := f.origin, kind := f.payload.kind, data := f.payload.data } := by
    rw [hb]
    exact Layouts.readFrame_frameBits (Layouts.data_length _ hd)
  have first (hb : bits = frameBits f) : s.line.cond = .frame ∨ bits.head? ≠ some false := .inr (by
    rw [hb, Layouts.frameBits_head]; decide)
  refine ⟨fun hb hd ho ha => ?_, fun hf hb len => ?_, fun hf hb ok long => ?_, fun hf hbad => ?_, fun hb hd ho ha => ?_,
    fun hb hd ho ok => ?_⟩
  · have settled := whole hb hd
    have judge : judgeFrame bits (frameOver bits s) = if 8 ≤ framesHeld s.line.rx then
          { ended with line := { ended.line with overruns := min 65535 (s.line.overruns + 1) } }
        else joined := by
      rw [judge_other (sound hb hd) (by show f.origin ≠ (advanceTo _ s).addr; rw [advanceTo_addr]; exact ho),
        joinFrame_some ((acceptedOrigin_iff _ _).2 ha) (Layouts.decode_payload _ hd), hr, settled]
      show (if _ then ({ ended with line := { ended.line with overruns := satInc n.line.overruns } } : State) else _) = _
      rw [show n.line.overruns = s.line.overruns from advanceTo_line_overruns _ _]
      rfl
    rw [settled] at calm hx head
    refine ⟨fun few => ?_, fun low high => ?_, fun full => ?_⟩
    · rw [if_neg (by omega)] at judge
      obtain ⟨v, hv, kept⟩ := reception_kept h (first hb) judge (calm_of_same calm rfl) hx rfl rfl (head_join h.head)
      rw [if_neg (by rw [show framesHeld joined.line.rx = _ from framesHeld_join _ _]; omega)] at kept
      exact ⟨v, hv, kept⟩
    · rw [if_neg (by omega)] at judge
      obtain ⟨v, hv, kept⟩ := reception_kept h (first hb) judge (calm_of_same calm rfl) hx rfl rfl (head_join h.head)
      rw [if_pos (by rw [show framesHeld joined.line.rx = _ from framesHeld_join _ _]; omega), ext joined (state _)] at kept
      exact ⟨v, hv, kept⟩
    · rw [if_pos full] at judge
      obtain ⟨v, hv, kept⟩ := reception_kept h (first hb) judge (calm_of_same calm rfl) hx rfl rfl head
      rw [if_pos, ext { ended with line := { ended.line with overruns := min 65535 (s.line.overruns + 1) } } (state _)] at kept
      · exact ⟨v, hv, kept⟩
      · show 7 ≤ framesHeld n.line.rx
        rw [show n.line.rx = s.line.rx from advanceTo_line_rx _ _]
        omega
  · have next := exec_reception_run h hf hb
    have free : freeTime s = begin_ := by rw [← start, receptionStart, if_neg hf]
    rw [ignoreRun_short h len, free] at next
    exact kept_of next (calm_of_same (calm_advanceTo hs) rfl)
  · have next := exec_reception_run h hf hb
    have free : freeTime s = begin_ := by rw [← start, receptionStart, if_neg hf]
    obtain ⟨l, hl, fault, empty, recover⟩ := ignoreRun_long ok long
    rw [free] at hl recover
    have okN : (advanceTo (begin_ + 100000) s).line.state = .ok := (state _).trans ok
    have entered := enterLineFault_quiet okN .held
    have faultCalm := enterLineFault_calm (calm_advanceTo hs) okN .held
    have calmL : Calm (ignoreRun bits s) := by
      rw [hl]
      exact calm_of_same (calm_advanceTo faultCalm) rfl
    have notOk : (ignoreRun bits s).line.state ≠ .ok := by
      rw [hl]
      show l.state ≠ .ok
      rw [fault]
      exact fun e => by cases e
    have line : (settle (ignoreRun bits s)).line = l := (settle_fault_line calmL notOk).trans (by rw [hl])
    have q := settle_quiet (ignoreRun bits s) calmL
    have late := leading_le_last bits
    have notEarly : s.now ≤ begin_ := by
      rw [← free, freeTime]
      split <;> omega
    refine ⟨_, next, ?_, ?_, ?_, ?_, ?_⟩
    · rw [q.now, hl]
      show (advanceTo _ _).now = (advanceTo _ s).now
      rw [advanceTo_now, entered.now, advanceTo_now]
      show max _ (advanceTo _ s).now = _
      rw [advanceTo_now]
      omega
    · rw [line]; exact fault
    · rw [line]; exact empty
    · rw [line, recover, show (advanceTo (begin_ + (12 + leadingDominant bits) * 20) s).now = max _ s.now from advanceTo_now _ _]
      congr 1
      omega
    · refine List.map_eq_nil_iff.1 (q.table.trans ?_)
      rw [hl]
      show List.map OpenEntry.untimed (advanceTo _ _).intent.table = []
      rw [advanceTo_intent, enterLineFault_table okN]
      rfl
  · have settled : frameOver bits s = dropped := by
      rw [frameOver, start]
    have judge : judgeFrame bits (frameOver bits s) = countDamaged (frameOver bits s) := by
      rcases hbad with hn | ⟨hr, ho, hk⟩
      · exact judge_damaged hn
      · rw [judge_other hr (by show raw.origin ≠ (advanceTo _ s).addr; rw [advanceTo_addr]; exact ho)]
        exact joinFrame_none (.inr (decodePayload_high hk _))
    obtain ⟨v, hv, kept⟩ := reception_damaged h hf judge
    have count : countDamaged (frameOver bits s) = damaged dropped := by
      rw [settled]
      show ({ dropped with line := { dropped.line with damaged := satInc (advanceTo _ s).line.damaged } } : State) = _
      rw [advanceTo_line_damaged]
      rfl
    rw [count, ext (damaged dropped) (state _)] at kept
    exact ⟨v, hv, kept⟩
  · have judge : judgeFrame bits (frameOver bits s) = countDamaged (frameOver bits s) := by
      rw [judge_other (sound hb hd) (by show f.origin ≠ (advanceTo _ s).addr; rw [advanceTo_addr]; exact ho)]
      exact joinFrame_none (.inl (Bool.eq_false_iff.2 fun e => ha ((acceptedOrigin_iff _ _).1 e)))
    obtain ⟨v, hv, kept⟩ := reception_damaged h (first hb) judge
    have count : countDamaged (frameOver bits s) = damaged ended := by
      rw [whole hb hd]
      show ({ ended with line := { ended.line with damaged := satInc n.line.damaged } } : State) = _
      rw [show n.line.damaged = s.line.damaged from advanceTo_line_damaged _ _]
      rfl
    rw [count, ext (damaged ended) (state _)] at kept
    exact ⟨v, hv, kept⟩
  · exact reception_clash h (first hb) (sound hb hd) ho ok

end Sys2Proof.Proofs.Lines
end

section
/-! The acks of an intent, its attempts and the start hold (4.3, 4.5). -/

namespace Sys2Proof.Proofs.Intents

open Sys2Proof Sys2Proof.Machine Sys2Proof.Proofs.Steps Sys2Proof.Proofs.Invariants Sys2Proof.Proofs.KeyFrames
open Sys2Proof.Proofs.Ends Sys2Proof.Proofs.Glass Sys2Proof.Proofs.Delivery Sys2Proof.Proofs.Release Sys2Proof.Proofs.Intents
open Sys2Proof.Proofs.Crash Sys2Proof.Proofs.Arbiter Sys2Proof.Proofs.Touches


section
variable {s x : State} {e y : OpenEntry} {o : Addr} {a : AckFrame} {fr : Frame} {rest : List RxItem} {endAt : Nat}

/-! ## Changed entries -/

theorem received_table : (received fr rest s).intent.table = s.intent.table := by rw [received_eq]

theorem find_tag {tag : Tag} {l : List OpenEntry} (h : l.find? (fun z => z.tag == tag) = some e) : e ∈ l ∧ e.tag = tag :=
  ⟨List.mem_of_find?_eq_some h, by simpa using List.find?_some h⟩

theorem setResult_tag (r : AckResult) : (setResult o r e).tag = e.tag := by
  unfold setResult
  split <;> rfl

theorem setResult_pending (r : AckResult) : (setResult o r e).pending = e.pending := by
  unfold setResult
  split <;> rfl

theorem recordAck_tag (r : AckResult) : (recordAck o r e).tag = e.tag := by
  unfold recordAck
  split
  · exact setResult_tag r
  · split
    · exact setResult_tag r
    · rfl

theorem recordAck_pending (r : AckResult) (h : inSet o e.pending = true) :
    recordAck o r e = setResult o r { e with pending := without e.pending (only o) } := if_pos h

theorem recordAck_late (r : AckResult) (h : inSet o e.pending = false) (ht : inSet o e.targets = true)
    (hr : resultOf o e = none) :
    recordAck o r e = setResult o r { e with unresponsive := without e.unresponsive (only o) } := by
  rw [recordAck, if_neg (by simp [h]), if_pos ⟨ht, hr⟩]

theorem recordAck_again (r : AckResult) (h : inSet o e.pending = false)
    (ht : inSet o e.targets = false ∨ (resultOf o e).isSome = true) : recordAck o r e = e := by
  rw [recordAck, if_neg (by simp [h]), if_neg]
  rintro ⟨targeted, none_⟩
  rcases ht with ht | ht
  · rw [ht] at targeted
    exact absurd targeted (by decide)
  · rw [none_] at ht
    exact absurd ht (by decide)

/-- With no tag twice in the table, the entry of a tag put in its own place changes nothing. -/
theorem putEntry_self (h : e ∈ s.intent.table) (hn : (s.intent.table.map (·.tag)).Nodup) : putEntry e s = s := by
  have same : (s.intent.table.map fun z => if z.tag = e.tag then e else z) = s.intent.table := by
    refine (List.map_congr_left fun z hz => ?_).trans (List.map_id _)
    by_cases htag : z.tag = e.tag
    · rw [if_pos htag]
      exact (List.inj_on_of_nodup_map hn hz h htag).symm
    · rw [if_neg htag]
      rfl
  rw [putEntry, same]

theorem intentPayload_kind (e : OpenEntry) : (intentPayload e).kind ≠ 12 := by
  obtain ⟨tag, kind⟩ := e
  cases kind <;> simp [intentPayload, Payload.kind, IntentKind.family, Family.code]

theorem outcomePayload_kind (e : OpenEntry) (r : IntentResult) : (outcomePayload e r).kind ≠ 12 := by
  simp [outcomePayload, Payload.kind]

theorem settleEntry_open (h : y.pending ≠ 0#5) : settleEntry y s = putEntry y s := if_neg h

/-- The table is the same without a tag, whatever stood in the place of its entry. -/
theorem removeEntry_put (u : Stations) : removeEntry y.tag (handOver u (putEntry y s)) = removeEntry y.tag (handOver u s) := by
  have same : ((s.intent.table.map fun z => if z.tag = y.tag then y else z).filter fun z => z.tag != y.tag)
      = s.intent.table.filter fun z => z.tag != y.tag := by
    induction s.intent.table with
    | nil => rfl
    | cons z l ih =>
      by_cases htag : z.tag = y.tag
      · simp [htag, ih]
      · simp [htag, ih]
  rw [putEntry, handOver, handOver, removeEntry, removeEntry, same]

theorem settleEntry_closes (h : y.pending = 0#5) : Adds [outcomePayload y (outcomeOfEntry y)]
    (removeEntry y.tag (handOver y.unresponsive s)) (settleEntry y s) := by
  rw [settleEntry, if_pos h, ← removeEntry_put, closeEntry]
  exact adds_removeEntry (adds_queueFrame _ rfl fun _ => reportless_intentOutcome _) y.tag

/-! ## The ack at its entry (R83) -/

theorem receiveAck_other (h : a.toAddr ≠ s.addr) : receiveAck o a s = s := if_neg h

theorem receiveAck_unmatched (h : ∀ z ∈ s.intent.table, z.tag = a.tag → z.epoch ≠ a.epoch) : receiveAck o a s = s := by
  unfold receiveAck
  split
  · split
    · rename_i z hz
      obtain ⟨mem, htag⟩ := find_tag hz
      exact if_neg (h z mem htag)
    · rfl
  · rfl

theorem receiveAck_matched (h : a.toAddr = s.addr) (he : entryOf a.tag s = some e) (hep : e.epoch = a.epoch) :
    receiveAck o a s = settleEntry (recordAck o a.result e) s := by
  rw [receiveAck, if_pos h, he]
  exact if_pos hep

/-- The delivery of an ack whose block leaves `m` with the frames `ps` queued. -/
theorem ack_adds {m : State} {ps : List Payload} (hs : Calm s) (hh : Head fr endAt rest s) (hp : fr.payload = .intentAck a)
    (h : Adds ps m (receiveAck fr.origin a (received fr rest s))) (hline : m.line = { s.line with rx := rest }) (hm : Calm m)
    (hn : ps.length ≤ 1) : ∃ v, exec .intentAck s = .next v ∧ Kept (heard fr.origin m) v
      ∧ (s.line.state = .ok → Roomy 4 s → ∀ p ∈ ps, p.kind ≠ 12 → Queued p v) := by
  have takes : takeAck fr endAt (received fr rest s) = receiveAck fr.origin a (received fr rest s) := by simp [takeAck, hp]
  have same : Roomy 4 m ↔ Roomy 4 s := roomy_congr (by rw [hline])
  obtain ⟨v, hv, kept, queued⟩ := delivery_adds (c := .intentAck) (is := fun p => p.kind == 4) (g := takeAck) hs hh rfl
    (by rw [hp]; rfl) (takes ▸ h) (by rw [hline]) hm hn
  exact ⟨v, hv, kept, fun ok room => queued (by rw [hline]; exact ok) (same.2 room)⟩

/-- An ack that changes nothing. -/
theorem ack_kept (hs : Calm s) (hh : Head fr endAt rest s) (hp : fr.payload = .intentAck a)
    (h : receiveAck fr.origin a (received fr rest s) = received fr rest s) :
    ∃ v, exec .intentAck s = .next v ∧ Kept (afterHearing fr rest s) v := by
  obtain ⟨v, hv, kept, -⟩ := ack_adds hs hh hp (Adds.of_eq h) received_line (received_calm hs) (by simp)
  exact ⟨v, hv, kept⟩

theorem heard_withTable (l : List OpenEntry) : heard o { s with intent := { s.intent with table := l } }
    = { heard o s with intent := { (heard o s).intent with table := l } } := by
  rw [heard_eq, heard_eq]

/-- An ack that changes the entry and leaves stations pending. -/
theorem ack_put (hs : Calm s) (hh : Head fr endAt rest s) (hp : fr.payload = .intentAck a) (htag : y.tag = a.tag)
    (h : receiveAck fr.origin a (received fr rest s) = putEntry y (received fr rest s)) :
    ∃ v, exec .intentAck s = .next v
      ∧ Kept { afterHearing fr rest s with intent := { (afterHearing fr rest s).intent with
          table := s.intent.table.map fun z => if z.tag = a.tag then y else z } } v := by
  obtain ⟨v, hv, kept, -⟩ := ack_adds hs hh hp (Adds.of_eq h) received_line (calm_of_same (received_calm hs) rfl) (by simp)
  rw [putEntry, heard_withTable, received_table, htag] at kept
  exact ⟨v, hv, kept⟩

/-- An entry closed by the ack of `o`: the stations handed over, and `o` heard. -/
theorem heard_closed (t : Tag) (u : Stations) (ho : o ≠ s.addr) : heard o (removeEntry t (handOver u s))
    = { heard o s with
        intent := { (heard o s).intent with table := s.intent.table.filter fun z => z.tag != t }
        census := { (heard o s).census with peers := Vector.ofFn fun b : Addr =>
          let handed := if inSet b u && b != s.addr then unresponsivePeer s.census.peers[b] else s.census.peers[b]
          if b = o then { handed with presence := .present, since := s.now } else handed } } := by
  have peers : heardPeers o s.addr s.now (Vector.ofFn fun b : Addr =>
        if inSet b u && b != s.addr then unresponsivePeer s.census.peers[b] else s.census.peers[b])
      = Vector.ofFn fun b : Addr =>
        let handed := if inSet b u && b != s.addr then unresponsivePeer s.census.peers[b] else s.census.peers[b]
        if b = o then { handed with presence := .present, since := s.now } else handed := by
    rw [heardPeers, if_neg ho]
    ext1 i hi
    by_cases hio : (o : Nat) = i
    · subst hio
      simp
    · have ne : (⟨i, hi⟩ : Addr) ≠ o := fun h => hio (by rw [← h])
      simp [hio, ne]
  rw [heard_eq, heard_eq, ← peers]
  rfl

/-! ## The attempt timer (R84, R85) -/

theorem entryOf_advanced (t : Tag) (at_ : Nat) : entryOf t (advanceTo at_ s) = entryOf t s := by
  rw [entryOf, entryOf, advanceTo_intent]

theorem attemptOver_eq {t : Tag} (he : entryOf t s = some e) : attemptOver t s = attemptExpired e s := by
  rw [attemptOver, he]

theorem attemptExpired_again (h : e.attempts < 4) (ok : s.line.state = .ok) : Adds [intentPayload e]
    (putEntry { e with attempts := e.attempts + 1, timer := none } s) (attemptExpired e s) := by
  rw [attemptExpired, if_pos h]
  exact adds_queueFrame _ rfl fun no => absurd ok no

/-- The entry once its last attempt is over: its pending stations are unresponsive (R85). -/
def givenUp (e : OpenEntry) : OpenEntry :=
  { e with unresponsive := e.unresponsive ||| e.pending, pending := 0#5, timer := none }

theorem attemptExpired_last (h : 4 ≤ e.attempts) : Adds [outcomePayload (givenUp e) (outcomeOfEntry (givenUp e))]
    (removeEntry e.tag (handOver (givenUp e).unresponsive s)) (attemptExpired e s) := by
  rw [attemptExpired, if_neg (by omega)]
  exact settleEntry_closes (y := givenUp e) rfl

theorem outcomeOfEntry_givenUp (h : e.pending ≠ 0#5) : outcomeOfEntry (givenUp e)
    = if e.results.toList.any (fun r => r == some .crashHold) then .refused
      else if e.results.toList.any (fun r => r == some .superseded) then .superseded
      else .partialResult := by
  have some_unresponsive : e.unresponsive ||| e.pending ≠ 0#5 := fun hz => h (by
    have both : e.pending &&& (e.unresponsive ||| e.pending) = 0#5 := by rw [hz, BitVec.and_zero]
    rw [← both]
    ext i hi
    simp
    tauto)
  have last : (givenUp e).unresponsive ≠ 0#5 := some_unresponsive
  rw [outcomeOfEntry, if_pos last]
  rfl

end

/-- Settles O35: an ack at its entry, the attempt timer and the start hold. -/
theorem acksAndAttemptTimersMoveTheEntry : Obligations.AcksAndAttemptTimersMoveTheEntry := by
  refine ⟨fun s f e rest a hs hh hp => ?_, fun s tag hs => ⟨fun x hx at_ ht hb hpend ok room => ?_, fun h hh => ?_⟩⟩
  · intro t
    let q := received f rest s
    have qaddr : q.addr = s.addr := received_addr
    have qtable : q.intent.table = s.intent.table := received_table
    have qentry : entryOf a.tag q = entryOf a.tag s := by rw [entryOf, qtable]; rfl
    refine ⟨fun h => ack_kept hs hh hp (receiveAck_other (qaddr ▸ h)), fun h hno => ?_, fun x hx haddr hep hb => ?_⟩
    · exact ack_kept hs hh hp (receiveAck_unmatched (by rw [qtable]; exact hno))
    · have found : entryOf a.tag s = some x := Option.mem_def.1 hx
      obtain ⟨mem, htag⟩ := find_tag found
      have matched : receiveAck f.origin a q = settleEntry (recordAck f.origin a.result x) q :=
        receiveAck_matched (qaddr ▸ haddr) (qentry.trans found) hep
      refine ⟨fun hnp hagain hpend => ack_kept hs hh hp ?_, fun hnp ht hnone hpend => ?_, fun hin => ?_⟩
      · rw [matched, recordAck_again _ hnp hagain, settleEntry_open hpend]
        exact putEntry_self (qtable ▸ mem) (qtable ▸ hb.2.2)
      · intro y
        refine ack_put hs hh hp (y := y) ((setResult_tag _).trans htag) ?_
        rw [matched, recordAck_late _ hnp ht hnone]
        exact settleEntry_open (by rw [setResult_pending]; exact hpend)
      · intro y
        have ytag : y.tag = a.tag := (setResult_tag _).trans htag
        rw [recordAck_pending _ hin] at matched
        refine ⟨fun hleft => ack_put hs hh hp ytag (matched.trans (settleEntry_open hleft)), fun hdone ho ok room => ?_⟩
        intro outcome handed
        have closes := settleEntry_closes (s := q) hdone
        rw [← matched] at closes
        have line : (removeEntry y.tag (handOver y.unresponsive q)).line = { s.line with rx := rest } := received_line
        obtain ⟨v, hv, kept, queued⟩ := ack_adds hs hh hp closes line (calm_of_same (received_calm hs) rfl) (by simp)
        rw [heard_closed _ _ (by rw [qaddr]; exact ho), received_table, received_census, received_now, received_addr,
          ytag] at kept
        exact ⟨v, hv, kept, queued ok room _ (List.mem_singleton.2 rfl) (outcomePayload_kind _ _)⟩
  · intro n
    have found : entryOf tag s = some x := Option.mem_def.1 hx
    obtain ⟨-, rfl⟩ := find_tag found
    have timer : attemptTimer x.tag s = some at_ := by rw [attemptTimer, found]; exact ht
    have nintent : n.intent = s.intent := advanceTo_intent _ _
    have ncensus : n.census = s.census := advanceTo_census _ _
    have naddr : n.addr = s.addr := advanceTo_addr _ _
    have nok : n.line.state = .ok := by rw [advanceTo_line_state]; exact ok
    have ntx : n.line.tx = s.line.tx := advanceTo_line_tx _ _
    have over_ : attemptOver x.tag n = attemptExpired x n := attemptOver_eq ((entryOf_advanced x.tag at_).trans found)
    have calm : Calm n := calm_advanceTo hs
    have run {m : State} {p : Payload} (h : Adds [p] m (attemptExpired x n)) (hline : m.line = n.line) (hm : Calm m)
        (hk : p.kind ≠ 12) : ∃ v, exec (.attemptTimerExpiry x.tag) s = .next v ∧ Kept m v ∧ Queued p v := by
      obtain ⟨v, hv, kept, queued⟩ := timer_adds (c := .attemptTimerExpiry x.tag) hs (g := attemptTimer x.tag)
        (f := attemptOver x.tag) rfl timer (over_ ▸ h) hm (by simp)
      refine ⟨v, hv, kept, queued (hline ▸ nok) ((roomy_congr (by rw [hline]; exact ntx)).2 room) p (List.mem_singleton.2 rfl) hk⟩
    refine ⟨fun h => ?_, fun h => ?_⟩
    · obtain ⟨v, hv, kept, queued⟩ := run (attemptExpired_again h nok) rfl (calm_of_same calm rfl) (intentPayload_kind x)
      rw [putEntry, nintent] at kept
      exact ⟨v, hv, kept, queued⟩
    · intro y outcome
      obtain ⟨v, hv, kept, queued⟩ := run (attemptExpired_last h) rfl (calm_of_same calm rfl) (outcomePayload_kind _ _)
      rw [outcomeOfEntry_givenUp hpend] at queued
      have handed : removeEntry x.tag (handOver (givenUp x).unresponsive n) = { n with
          intent := { s.intent with table := s.intent.table.filter fun z => z.tag != x.tag }
          census := { s.census with
            peers := Vector.ofFn fun a : Addr =>
              if inSet a (givenUp x).unresponsive && a != s.addr then unresponsivePeer s.census.peers[a]
              else s.census.peers[a] } } := by
        rw [← nintent, ← ncensus, ← naddr]
        rfl
      rw [handed] at kept
      exact ⟨v, hv, kept, queued⟩
  · have run := timer_kept (c := .startHoldTimeout) hs (g := fun t => t.intent.startHold)
      (f := fun u => { u with intent := { u.intent with startHold := none } }) (e := h) rfl hh rfl
      (calm_of_same (calm_advanceTo hs) rfl)
    rw [advanceTo_intent] at run
    obtain ⟨v, hv, kept⟩ := run
    refine ⟨v, hv, kept, ?_⟩
    rcases kept.startHold with h | ⟨h, -⟩
    · exact h
    · exact h

end Sys2Proof.Proofs.Intents
end

section
/-! Passive replies at the search unit (5.8, 6.3). -/

namespace Sys2Proof.Proofs.Replies

open Sys2Proof Sys2Proof.Machine Sys2Proof.Proofs.Steps Sys2Proof.Proofs.Invariants Sys2Proof.Proofs.KeyFrames
open Sys2Proof.Proofs.Ends Sys2Proof.Proofs.Glass Sys2Proof.Proofs.Delivery Sys2Proof.Proofs.Release Sys2Proof.Proofs.Intents
open Sys2Proof.Proofs.Crash Sys2Proof.Proofs.Arbiter Sys2Proof.Proofs.Touches Sys2Proof.Proofs.Census Sys2Proof.Proofs.Records Sys2Proof.Proofs.Lines


/-! ## The frames that a command brings (R141) -/

/-- Each frame in the transmit queue of `b` is one of `a`, or one that `P` holds of. -/
def Brings (P : TxEntry → Prop) (a b : State) : Prop := ∀ e ∈ b.line.tx, e ∈ a.line.tx ∨ P e

section
variable {P : TxEntry → Prop} {a b c s : State} {p : Payload}

theorem Brings.of_tx (h : b.line.tx = a.line.tx) : Brings P a b := fun _ he => .inl (h ▸ he)

theorem Brings.trans (h : Brings P a b) (k : Brings P b c) : Brings P a c := fun e he => (k e he).elim (h e) .inr

/-- The frame in transmission stays in the queue. -/
def KeepsSending (a b : State) : Prop := ∀ e ∈ a.line.tx, e.inTx = true → e ∈ b.line.tx

theorem KeepsSending.of_tx (h : b.line.tx = a.line.tx) : KeepsSending a b := fun _ he _ => h ▸ he

theorem KeepsSending.trans (h : KeepsSending a b) (k : KeepsSending b c) : KeepsSending a c :=
  fun e he hi => k e (h e he hi) hi

/-- The victim of an eviction is in the queue and not in transmission, and the rest is the queue without it (R142). -/
theorem splitVictim_rest {l rest : List TxEntry} {v : TxEntry} (h : splitVictim l = some (v, rest)) :
    v.inTx = false ∧ ∀ e, e ∈ l ↔ e = v ∨ e ∈ rest := by
  induction l generalizing rest v with
  | nil => exact absurd h (by simp [splitVictim])
  | cons x xs ih =>
    rw [splitVictim] at h
    split at h
    · rename_i w others hw
      obtain ⟨rfl, rfl⟩ := Prod.mk.inj (Option.some.inj h)
      obtain ⟨still, mem⟩ := ih hw
      exact ⟨still, fun e => by rw [List.mem_cons, List.mem_cons, mem]; tauto⟩
    · split at h
      · exact absurd h (by simp)
      · rename_i still
        obtain ⟨rfl, rfl⟩ := Prod.mk.inj (Option.some.inj h)
        exact ⟨Bool.eq_false_of_not_eq_true still, fun e => List.mem_cons⟩

theorem brings_queueEntry (e : TxEntry) (s : State) (h : P e) : Brings P s (queueEntry e s) := by
  unfold queueEntry
  split
  · exact .of_tx (tell_tx e s)
  · split
    · exact fun x hx => ((mem_insertTx _ _ _).1 hx).elim (fun he => .inr (he ▸ h)) .inl
    · split
      · rename_i v rest hv
        intro x hx
        rw [tell_tx] at hx
        exact ((mem_insertTx _ _ _).1 hx).elim (fun he => .inr (he ▸ h)) fun he => .inl (((splitVictim_rest hv).2 x).2 (.inr he))
      · exact .of_tx rfl

theorem keeps_queueEntry (e : TxEntry) (s : State) : KeepsSending s (queueEntry e s) := by
  unfold queueEntry
  split
  · exact .of_tx (tell_tx e s)
  · split
    · exact fun x hx _ => (mem_insertTx _ _ _).2 (.inr hx)
    · split
      · rename_i v rest hv
        intro x hx hin
        obtain ⟨still, mem⟩ := splitVictim_rest hv
        rw [tell_tx]
        refine (mem_insertTx _ _ _).2 (.inr (((mem x).1 hx).resolve_left fun hxv => ?_))
        rw [hxv, still] at hin
        exact absurd hin Bool.false_ne_true
      · exact .of_tx rfl

theorem brings_queueFrame (s : State) (h : P (newEntry p.cls p s)) : Brings P s (queueFrame p s) := brings_queueEntry _ s h

/-- A frame of the census unit that the end of a command may queue: CENSUS or ANNOUNCEMENT, not yet in transmission. -/
def CensusFrame (e : TxEntry) : Prop := e.inTx = false ∧ (e.frame.payload.kind = 12 ∨ e.frame.payload.kind = 13)

theorem brings_queueCensus (s : State) : Brings CensusFrame s (queueCensus s) := by
  unfold queueCensus
  split
  · exact .of_tx rfl
  · exact brings_queueFrame s ⟨rfl, .inr rfl⟩

theorem keeps_queueCensus (s : State) : KeepsSending s (queueCensus s) := by
  unfold queueCensus
  split
  · exact .of_tx rfl
  · exact keeps_queueEntry _ s

theorem brings_queueAnnouncement (s : State) : Brings CensusFrame s (queueAnnouncement s) := by
  unfold queueAnnouncement
  simp only
  split
  · exact .of_tx rfl
  · split
    · intro e he
      unfold replaceAnnouncement at he
      split at he
      · exact ((mem_insertTx _ _ _).1 he).elim (fun h => .inr (h ▸ ⟨rfl, .inl rfl⟩)) fun h => .inl (List.mem_filter.1 h).1
      · exact .inl he
    · exact brings_queueEntry _ { s with census := _ } ⟨rfl, .inl rfl⟩

theorem keeps_queueAnnouncement (s : State) : KeepsSending s (queueAnnouncement s) := by
  unfold queueAnnouncement
  simp only
  split
  · exact .of_tx rfl
  · split
    · intro e he hin
      unfold replaceAnnouncement
      split
      · exact (mem_insertTx _ _ _).2 (.inr (List.mem_filter.2 ⟨he, by simp [hin]⟩))
      · exact he
    · exact fun e he hin => keeps_queueEntry _ _ e he hin

/-- What the end of a command in a calm state does to the transmit queue, for a relation that the census unit's frames
keep. -/
theorem settle_relates {R : State → State → Prop} (same : ∀ {a b : State}, b.line.tx = a.line.tx → R a b)
    (trans : ∀ {a b c : State}, R a b → R b c → R a c) (census : ∀ s, R s (queueCensus s))
    (announcement : ∀ s, R s (queueAnnouncement s)) (hs : Calm s) : R s (settle s) := by
  have owed : R s (settleCensus s) := by
    unfold settleCensus
    split
    · exact trans (same (b := { s with census := { s.census with censusOwed := false } }) rfl) (census _)
    · exact same rfl
  have hold : R (settleCensus s) (settleAgreement (settleStartHold (settleCensus s))) := by
    unfold settleStartHold
    split <;> exact same rfl
  have status (t : State) : R t (settleStatus t) := by
    unfold settleStatus
    split
    · exact same rfl
    · split
      · exact announcement t
      · exact same rfl
  have due (t : State) : R t (settleDue t) := by
    unfold settleDue
    split
    · exact announcement t
    · exact same rfl
  rw [settle_calm s hs]
  exact trans (trans (trans owed hold) (status _)) (due _)

theorem brings_settle (hs : Calm s) : Brings CensusFrame s (settle s) :=
  settle_relates .of_tx .trans brings_queueCensus brings_queueAnnouncement hs

theorem keeps_settle (hs : Calm s) : KeepsSending s (settle s) :=
  settle_relates .of_tx .trans keeps_queueCensus keeps_queueAnnouncement hs

/-- Where no frame is in transmission, none is at the end of the command. -/
theorem settle_still (hs : Calm s) (h : ∀ e ∈ s.line.tx, e.inTx = false) : inTxEntry (settle s) = none :=
  List.find?_eq_none.2 fun e he => by
    rcases brings_settle hs e he with old | own
    · simp [h e old]
    · simp [own.1]

end

/-! ## A reply at the search unit (R111, R122) -/

section
variable {s t : State} {q : SearchRec} {ch : Word32} {r : Reply} {n m : Slot}

/-- No open search has drawn this echo. -/
abbrev Foreign (r : Reply) (s : State) : Prop := ∀ q ∈ s.search.record, ∀ ch ∈ q.challenge, ch.setWidth 24 ≠ r.echo

theorem weighReply_foreign (h : Foreign r s) : weighReply r s = s := by
  unfold weighReply
  split
  · rfl
  · rename_i q hq
    split
    · rfl
    · rename_i ch hch
      have closed : collects q r.echo s.now = false := by
        have ne : (echoOf ch == r.echo) = false := by simpa [echoOf] using h q hq ch hch
        simp [collects, hch, ne]
      rw [closed]
      exact if_neg (by simp)

theorem routeReply_foreign (h : Foreign r s) : routeReply r s = queueFrame (.fobRelay r) s := by
  unfold routeReply
  rcases hq : s.search.record with _ | q
  · rfl
  · rcases hch : q.challenge with _ | ch
    · simp [hch]
    · have ne : (echoOf ch == r.echo) = false := by simpa [echoOf] using h q hq ch hch
      simp [hch, ne]

theorem weighReply_over (hq : s.search.record = some q) (hch : q.challenge = some ch)
    (h : ¬ (∃ w ∈ q.windowEnd, s.now ≤ w) ∨ r ∈ q.taken) : weighReply r s = s := by
  have no : (collects q r.echo s.now && !q.taken.contains r) = false := by
    rcases h with h | h
    · have closed : collects q r.echo s.now = false := by
        rcases hw : q.windowEnd with _ | w
        · simp [collects, hw]
        · have : ¬ s.now ≤ w := fun hle => h ⟨w, hw, hle⟩
          simp [collects, hw, this]
      rw [closed]
      rfl
    · simp [h]
  simp only [weighReply, hq, hch, no, Bool.false_eq_true, if_false]

/-- What a reply comes to that the open search takes (R122). -/
def replyTaken (q : SearchRec) (r : Reply) (ch : Word32) (s : State) : State :=
  match validate r ch (takenReply q r s) with
  | (none, t) => t
  | (some c, t) => setRecord (some { q with taken := q.taken ++ [r], candidates := addCandidate c q.candidates }) t

theorem weighReply_taken (hq : s.search.record = some q) (hch : q.challenge = some ch)
    (hcollects : collects q r.echo s.now = true) (hnew : r ∉ q.taken) : weighReply r s = replyTaken q r ch s := by
  have htaken : (!q.taken.contains r) = true := by simpa using hnew
  unfold weighReply
  rw [hq]
  dsimp only
  split
  · rename_i hnone
    exact absurd (hnone.symm.trans hch) (by simp)
  · rename_i c hc
    obtain rfl := Option.some.inj (hc.symm.trans hch)
    rw [if_pos (by rw [hcollects, htaken]; rfl)]
    rfl

theorem replyTaken_none {t : State} (h : validate r ch (takenReply q r s) = (none, t)) : replyTaken q r ch s = t := by
  rw [replyTaken, h]

theorem replyTaken_some {c : Candidate} (h : validate r ch (takenReply q r s) = (some c, t)) : replyTaken q r ch s
    = setRecord (some { q with taken := q.taken ++ [r], candidates := addCandidate c q.candidates }) t := by
  rw [replyTaken, h]

theorem validate_unknown (sound : ∀ m : Slot, slotGood m s.keys.slots[m] = true) (h : ∀ m : Slot, ¬ Holds r.identity s m) :
    validate r ch s = (none, s) := by
  rw [validate, lookup_none sound h]

theorem validate_barred (hone : OnlySlot r.identity n s) (h : Holds r.identity s n)
    (hstate : s.keys.slots[n].state ≠ .paired) : validate r ch s = (none, s) := by
  rw [validate, lookup_some hone.1 h hone.2]
  exact if_pos hstate

theorem validate_badCode (hone : OnlySlot r.identity n s) (h : Holds r.identity s n)
    (hstate : s.keys.slots[n].state = .paired) (wrong : ¬ RightReply r ch n s) :
    validate r ch s = (none, badCode n s) := by
  rw [validate, lookup_some hone.1 h hone.2]
  simp only [hstate, ne_eq, not_true_eq_false, if_false, if_pos wrong]

theorem validate_valid (hone : OnlySlot r.identity n s) (h : Holds r.identity s n)
    (hstate : s.keys.slots[n].state = .paired) (right : RightReply r ch n s) :
    validate r ch s = (some { slot := n, identity := s.keys.slots[n].identity, strength := r.strength
                              counter := s.keys.slots[n].counter }, s) := by
  rw [validate, lookup_some hone.1 h hone.2]
  simp only [hstate, ne_eq, not_true_eq_false, if_false, right]

theorem validate_spoilt (h : MeetsSpoiltSlot r.identity m s)
    (lost : s.keys.slots[m].storeCurrent = false ∨ slotRecord m s = none) : validate r ch s = (none, damageSlot m s) := by
  rw [validate, lookup_damaged h lost]
  exact if_pos (by rw [damageSlot_self]; decide)

theorem validate_reloaded {x : SlotCover} (h : MeetsSpoiltSlot r.identity m s) (current : s.keys.slots[m].storeCurrent = true)
    (hx : slotRecord m s = some x) : validate r ch s = validate r ch (slotReloaded m x s) := by
  rw [validate, validate, lookup_reloaded h current hx]

theorem weighReply_reloaded {x : SlotCover} (hq : s.search.record = some q) (hch : q.challenge = some ch)
    (hcollects : collects q r.echo s.now = true) (hnew : r ∉ q.taken) (h : MeetsSpoiltSlot r.identity m s)
    (current : s.keys.slots[m].storeCurrent = true) (hx : slotRecord m s = some x) :
    weighReply r s = weighReply r (slotReloaded m x s) := by
  have same : validate r ch (takenReply q r s) = validate r ch (takenReply q r (slotReloaded m x s)) :=
    validate_reloaded (s := takenReply q r s) h current hx
  rw [weighReply_taken hq hch hcollects hnew,
    weighReply_taken (s := slotReloaded m x s) hq hch hcollects hnew, replyTaken, replyTaken, same]

end

end Sys2Proof.Proofs.Replies
end

section
/-! The ways by which a passive reply reaches the search unit (5.8, 6.3). -/

namespace Sys2Proof.Proofs.Replies

open Sys2Proof Sys2Proof.Machine Sys2Proof.Proofs.Steps Sys2Proof.Proofs.Invariants Sys2Proof.Proofs.KeyFrames
open Sys2Proof.Proofs.Ends Sys2Proof.Proofs.Glass Sys2Proof.Proofs.Delivery Sys2Proof.Proofs.Release Sys2Proof.Proofs.Intents
open Sys2Proof.Proofs.Crash Sys2Proof.Proofs.Arbiter Sys2Proof.Proofs.Touches Sys2Proof.Proofs.Records Sys2Proof.Proofs.Lines


section
variable {s u t m w : State} {q : SearchRec} {ch : Word32} {r : Reply} {o : Option Addr} {c : Instr} {ps : List Payload}

/-- The origin of the frame that brought a reply, if one did, is heard (R163). -/
def hears (o : Option Addr) (s : State) : State :=
  match o with
  | none => s
  | some a => heard a s

theorem hears_eq (o : Option Addr) : ∃ f : Addr → Nat → Vector Peer 8 → Vector Peer 8, ∀ x : State,
    hears o x = { x with census := { x.census with peers := f x.addr x.now x.census.peers } } := by
  rcases o with _ | a
  · exact ⟨fun _ _ p => p, fun _ => rfl⟩
  · exact ⟨heardPeers a, heard_eq a⟩

theorem adds_hears (h : Adds ps m w) (o : Option Addr) : Adds ps (hears o m) (hears o w) := by
  rcases o with _ | a
  · exact h
  · exact adds_heard h a

theorem hears_calm (o : Option Addr) (h : Calm s) : Calm (hears o s) := by
  rcases o with _ | a
  · exact h
  · exact heard_calm h

theorem hears_line (o : Option Addr) (s : State) : (hears o s).line = s.line := by
  rcases o with _ | a
  · rfl
  · exact heard_line a s

theorem hears_withKeys (o : Option Addr) (k : Keys) (s : State) :
    hears o { s with keys := k } = { hears o s with keys := k } := by
  obtain ⟨f, h⟩ := hears_eq o
  rw [h, h]

theorem hears_setRecord (o : Option Addr) (x : Option SearchRec) (s : State) :
    hears o (setRecord x s) = setRecord x (hears o s) := by
  obtain ⟨f, h⟩ := hears_eq o
  rw [h, h]
  rfl

theorem kept_hears_slotMarked {j : Slot} {v : State} (h : Kept (hears o (slotMarked j s)) v) :
    Kept (slotDamaged j (hears o s)) v := by
  obtain ⟨f, e⟩ := hears_eq o
  rw [e] at h ⊢
  exact kept_census (x := (slotDamaged j { s with census := { s.census with peers := f s.addr s.now s.census.peers } }).census)
    h rfl

/-- The frames of a command bring no relay of the reply. -/
def RelaysNot (r : Reply) (s v : State) : Prop := ∀ x ∈ v.line.tx, x.frame.payload = .fobRelay r → x ∈ s.line.tx

/-- By the command `c` the reply is weighed at the state `u`, and then the frame's origin is heard. -/
structure Weighed (r : Reply) (o : Option Addr) (c : Instr) (s u : State) : Prop where
  calm : Calm u
  ok : u.line.state = .ok
  room : Roomy 4 u
  search : u.search = s.search
  keys : u.keys = s.keys
  store : u.store = s.store
  pins : u.pins = s.pins
  tx : ∀ x ∈ u.line.tx, x ∈ s.line.tx
  next : exec c s = .next (settle (hears o (weighReply r u)))
  again : ∀ (j : Slot) (x : SlotCover), weighReply r u = weighReply r (slotReloaded j x u) →
    exec c s = exec c (slotReloaded j x s)

theorem noRelay_of_brings {P : TxEntry → Prop} {v : State} (h : Brings P u v)
    (hP : ∀ e, P e → e.frame.payload.kind ≠ 5) (tx : ∀ x ∈ u.line.tx, x ∈ s.line.tx) : RelaysNot r s v :=
  fun x hx hp => (h x hx).elim (tx x) fun hk => absurd (by rw [hp]; rfl) (hP x hk)

theorem censusFrame_kind {e : TxEntry} (h : CensusFrame e) : e.frame.payload.kind ≠ 5 := by
  rcases h.2 with h | h <;> rw [h] <;> decide

/-- A weighed reply that leaves `m` without a frame. -/
theorem Weighed.leaves (h : Weighed r o c s u) (hw : weighReply r u = m) (hm : Calm m) (hline : m.line = u.line) :
    ∃ v, exec c s = .next v ∧ Kept (hears o m) v ∧ RelaysNot r s v := by
  have calm := hears_calm o hm
  refine ⟨_, h.next, by rw [hw]; exact settle_kept _ calm, noRelay_of_brings (P := CensusFrame) (u := u) ?_ ?_ h.tx⟩
  · rw [hw]
    exact (Brings.of_tx (by rw [hears_line, hline])).trans (brings_settle calm)
  · exact fun _ => censusFrame_kind

/-- A weighed reply that leaves `m` with a FAULT NOTICE queued. -/
theorem Weighed.notices {f : StationFault} {d : Byte} (h : Weighed r o c s u)
    (hw : weighReply r u = queueFrame (.faultNotice f d) m) (hm : Calm m) (hline : m.line = u.line) :
    ∃ v, exec c s = .next v ∧ Kept (hears o m) v ∧ RelaysNot r s v ∧ Queued (.faultNotice f d) v := by
  have adds : Adds [.faultNotice f d] (hears o m) (hears o (weighReply r u)) := by
    rw [hw]
    exact adds_hears (adds_queueFrame m rfl fun _ => reportless_faultNotice f d) o
  have calm := hears_calm o hm
  have line : (hears o m).line = u.line := (hears_line o m).trans hline
  refine ⟨_, h.next, adds.kept calm (by simp), ?_, adds.queuedAtEnd calm (by simp) (by rw [line]; exact h.ok)
    ((roomy_congr (by rw [line])).2 h.room) (List.mem_singleton.2 rfl) (by simp [Payload.kind])⟩
  refine noRelay_of_brings (P := fun x => CensusFrame x ∨ x.frame.payload = .faultNotice f d) (u := u) ?_ ?_ h.tx
  · have first : Brings (fun x => CensusFrame x ∨ x.frame.payload = .faultNotice f d) u (hears o (weighReply r u)) := by
      have queued : Brings (fun x => CensusFrame x ∨ x.frame.payload = .faultNotice f d) m (weighReply r u) :=
        hw ▸ brings_queueFrame m (.inr rfl)
      exact ((Brings.of_tx (by rw [hline])).trans queued).trans (.of_tx (by rw [hears_line]))
    exact first.trans fun x hx => (brings_settle (adds.calm calm) x hx).imp id .inl
  · rintro x (hk | hk)
    · exact censusFrame_kind hk
    · rw [hk]
      simp [Payload.kind]

/-- What the open search makes of a weighed reply that echoes its challenge (R108, R122). -/
theorem Weighed.weighs (h : Weighed r o c s u) (ht : hears o u = t) (hq : s.search.record = some q)
    (hch : q.challenge = some ch) (hecho : ch.setWidth 24 = r.echo) :
    (¬ (∃ w ∈ q.windowEnd, u.now ≤ w) ∨ r ∈ q.taken → ∃ v, exec c s = .next v ∧ Kept t v ∧ RelaysNot r s v)
    ∧ ∀ w ∈ q.windowEnd, u.now ≤ w → r ∉ q.taken →
      let seen := { q with taken := q.taken ++ [r] }
      let sound := ∀ m : Slot, slotGood m s.keys.slots[m] = true
      let answers := fun t : State => ∃ v, exec c s = .next v ∧ Kept t v ∧ RelaysNot r s v
      (sound → (∀ m : Slot, s.keys.slots[m].state ≠ .empty → s.keys.slots[m].identity ≠ r.identity) →
        answers (setRecord (some seen) t))
      ∧ (∀ m : Slot, MeetsSpoiltSlot r.identity m s →
        (s.keys.slots[m].storeCurrent = true → ∀ x ∈ slotRecord m s, exec c s = exec c (slotReloaded m x s))
        ∧ (s.keys.slots[m].storeCurrent = false ∨ slotRecord m s = none →
          ∃ v, exec c s = .next v ∧ Kept (setRecord (some seen) (slotDamaged m t)) v ∧ RelaysNot r s v
            ∧ Queued (.faultNotice .keyDamaged (byte m.val)) v))
      ∧ ∀ n : Slot, sound → s.keys.slots[n].state ≠ .empty → s.keys.slots[n].identity = r.identity →
        (∀ m : Slot, s.keys.slots[m].state ≠ .empty → s.keys.slots[m].identity = r.identity → m = n) →
        let k := s.keys.slots[n]
        let good := codeOf k.sHi k.sLo ch = r.code
        let bad := countBad u.now k
        (k.state ≠ .paired → answers (setRecord (some seen) t))
        ∧ (k.state = .paired → ¬ good →
          answers (setRecord (some seen) { t with keys := { s.keys with
            bad := min 65535 (s.keys.bad + 1)
            slots := s.keys.slots.set n { bad with check := slotCover n bad } } }))
        ∧ (k.state = .paired → good →
          let x : Candidate := { slot := n, identity := r.identity, strength := r.strength, counter := k.counter }
          answers (setRecord (some { seen with candidates := addCandidate x q.candidates }) t)) := by
  subst ht
  have uq : u.search.record = some q := by rw [h.search, hq]
  have stage : q.stage ≠ .interiorClaiming := h.calm.2.2.2.2 q uq
  have record_calm {x : State} {y : SearchRec} (hx : Calm x) (hy : y.stage = q.stage) : Calm (setRecord (some y) x) :=
    ⟨hx.1, hx.2.1, hx.2.2.1, hx.2.2.2.1, fun z hz => by
      obtain rfl := Option.some.inj hz
      rw [hy]
      exact stage⟩
  have taken_calm : Calm (takenReply q r u) := record_calm h.calm rfl
  have keys : (takenReply q r u).keys = s.keys := h.keys
  refine ⟨fun hover => h.leaves (weighReply_over uq hch hover) h.calm rfl, fun w hw hopen hnew => ?_⟩
  intro seen sound answers
  have collect : collects q r.echo u.now = true := collects_of_open hch hecho hw hopen
  have taken := weighReply_taken uq hch collect hnew
  have leaves_seen (hv : validate r ch (takenReply q r u) = (none, takenReply q r u)) : answers (setRecord (some seen) (hears o u)) := by
    have left := h.leaves (taken.trans (replyTaken_none hv)) taken_calm rfl
    rwa [takenReply, hears_setRecord] at left
  refine ⟨fun hs hno => leaves_seen (validate_unknown (by rw [keys]; exact hs) ?_), fun j hj => ⟨fun current x hx => ?_, fun lost => ?_⟩,
    fun n hs hstate hid alone => ?_⟩
  · intro j hj
    rw [Holds, keys] at hj
    exact hno j hj.1 hj.2
  · refine h.again j x (weighReply_reloaded uq hch collect hnew ?_ ?_ ?_)
    · rw [MeetsSpoiltSlot, h.keys]
      exact hj
    · rw [h.keys]
      exact current
    · rw [slotRecord, h.pins, h.store]
      exact hx
  · have spoilt : MeetsSpoiltSlot r.identity j (takenReply q r u) := by
      rw [MeetsSpoiltSlot, keys]
      exact hj
    have unread : (takenReply q r u).keys.slots[j].storeCurrent = false ∨ slotRecord j (takenReply q r u) = none := by
      have same : slotRecord j (takenReply q r u) = slotRecord j s := by
        show slotRecord j u = slotRecord j s
        rw [slotRecord, slotRecord, h.pins, h.store]
      rw [keys, same]
      exact lost
    have damaged := taken.trans (replyTaken_none (validate_spoilt spoilt unread))
    obtain ⟨v, hv, kept, relays, queued⟩ := h.notices (damaged.trans (damageSlot_eq j _))
      (calm_of_same taken_calm rfl) rfl
    have kept' := kept_hears_slotMarked kept
    rw [takenReply, hears_setRecord] at kept'
    exact ⟨v, hv, kept', relays, queued⟩
  · intro k good bad
    have one : OnlySlot r.identity n (takenReply q r u) := by
      rw [OnlySlot, keys]
      exact ⟨hs, alone⟩
    have holds : Holds r.identity (takenReply q r u) n := by
      rw [Holds, keys]
      exact ⟨hstate, hid⟩
    have slot : (takenReply q r u).keys.slots[n] = k := by rw [keys]
    refine ⟨fun hnp => leaves_seen (validate_barred one holds (by rw [slot]; exact hnp)), fun hp wrong => ?_, fun hp right => ?_⟩
    · have counted := taken.trans (replyTaken_none (validate_badCode one holds (by rw [slot]; exact hp)
        (by rw [RightReply, slot]; exact wrong)))
      have same : badCode n (takenReply q r u) = setRecord (some seen) { u with keys := { s.keys with
          bad := min 65535 (s.keys.bad + 1)
          slots := s.keys.slots.set n { bad with check := slotCover n bad } } } := by
        rw [badCode_eq, keys]
        rfl
      have left := h.leaves (counted.trans same) (calm_of_same taken_calm rfl) rfl
      rwa [hears_setRecord, hears_withKeys] at left
    · have valid := taken.trans (replyTaken_some (validate_valid one holds (by rw [slot]; exact hp)
        (by rw [RightReply, slot]; exact right)))
      have left := h.leaves valid (record_calm taken_calm rfl) rfl
      rw [slot, show k.identity = r.identity from hid, hears_setRecord, takenReply, hears_setRecord] at left
      exact left

end

end Sys2Proof.Proofs.Replies
end

section
/-! An own frame sent whole (7.3). -/

namespace Sys2Proof.Proofs.Sending

open Sys2Proof Sys2Proof.Machine Sys2Proof.Proofs.Steps Sys2Proof.Proofs.Invariants Sys2Proof.Proofs.KeyFrames
open Sys2Proof.Proofs.Ends Sys2Proof.Proofs.Glass Sys2Proof.Proofs.Delivery Sys2Proof.Proofs.Release Sys2Proof.Proofs.Intents
open Sys2Proof.Proofs.Crash Sys2Proof.Proofs.Arbiter Sys2Proof.Proofs.Touches Sys2Proof.Proofs.Lines Sys2Proof.Proofs.Replies


section
variable {s : State} {x : TxEntry} {before after : List TxEntry}

/-- The one entry in transmission. -/
theorem inTxEntry_split (htx : s.line.tx = before ++ x :: after) (hx : x.inTx = true)
    (ho : ∀ y ∈ before, y.inTx = false) : inTxEntry s = some x := by
  rw [inTxEntry, htx, List.find?_append, List.find?_eq_none.2 fun y hy => by simp [ho y hy]]
  simp [hx]

theorem dropInTx_split (hx : x.inTx = true) (ho : ∀ y ∈ before ++ after, y.inTx = false) :
    dropInTx (before ++ x :: after) = before ++ after := by
  have keep (l : List TxEntry) (hl : ∀ y ∈ l, y.inTx = false) : dropInTx l = l :=
    List.filter_eq_self.2 fun y hy => by simp [hl y hy]
  have split : dropInTx (before ++ x :: after) = dropInTx before ++ dropInTx after := by simp [dropInTx, hx]
  rw [split, keep before fun y hy => ho y (List.mem_append_left _ hy), keep after fun y hy => ho y (List.mem_append_right _ hy)]

theorem mapInTx_split (f : TxEntry → TxEntry) (hx : x.inTx = true) (ho : ∀ y ∈ before ++ after, y.inTx = false) :
    mapInTx f (before ++ x :: after) = before ++ f x :: after := by
  have keep (l : List TxEntry) (hl : ∀ y ∈ l, y.inTx = false) : mapInTx f l = l :=
    (List.map_congr_left fun y hy => by rw [hl y hy]; rfl).trans (List.map_id l)
  have split : mapInTx f (before ++ x :: after) = mapInTx f before ++ f x :: mapInTx f after := by simp [mapInTx, hx]
  rw [split, keep before fun y hy => ho y (List.mem_append_left _ hy), keep after fun y hy => ho y (List.mem_append_right _ hy)]

/-- The end of a frame of this length (R140). -/
def sendingOver (x : TxEntry) (s : State) : State :=
  advanceTo (s.line.frameAt + (70 + 10 * x.frame.payload.data.length) * 20) s

/-- The line once the frame in transmission has been read back whole (R140). -/
def sendingEnd (x : TxEntry) (s : State) : State :=
  { sendingOver x s with line := { (sendingOver x s).line with
    tx := dropInTx s.line.tx, cond := .busy, freeAt := (sendingOver x s).now + 240, failures := 0, extEnd := none } }

theorem finishFrame_eq (hin : inTxEntry s = some x)
    (few : framesHeld (s.line.rx ++ sentReport x (sendingOver x s).now) < 7) :
    finishFrame s = drainReports { sendingEnd x s with line := { (sendingEnd x s).line with
      rx := s.line.rx ++ sentReport x (sendingOver x s).now } } := by
  have bits : frameBitTimes x.frame.payload.data.length = 70 + 10 * x.frame.payload.data.length := by
    rw [frameBitTimes]
    omega
  unfold finishFrame
  rw [hin]
  simp only [bits]
  rw [overloadTest_none (.inl ?_)]
  · simp only [endFrame, sendingEnd, sendingOver, advanceTo_line_tx, advanceTo_line_rx]
  · simp only [endFrame, advanceTo_line_rx]
    exact few

theorem sendingEnd_rx : (sendingEnd x s).line.rx = s.line.rx := advanceTo_line_rx _ _

theorem finishFrame_reported (hin : inTxEntry s = some x) (hj : x.jobless = false) (hrx : s.line.rx = []) :
    finishFrame s = reportSent x.frame.payload (sendingOver x s).now (sendingEnd x s) := by
  have report : sentReport x (sendingOver x s).now = [.sent x.frame.payload (sendingOver x s).now] := by simp [sentReport, hj]
  have rx : (sendingEnd x s).line.rx = [] := sendingEnd_rx.trans hrx
  have same : { sendingEnd x s with line := { (sendingEnd x s).line with rx := [] } } = sendingEnd x s := by rw [← rx]
  rw [finishFrame_eq hin (by rw [hrx, report]; simp [framesHeld]), hrx, report]
  show drainList [] (reportSent _ _ { sendingEnd x s with line := { (sendingEnd x s).line with rx := [] } }) = _
  rw [same]
  rfl

theorem finishFrame_jobless (hin : inTxEntry s = some x) (hj : x.jobless = true) (hrx : s.line.rx = []) :
    finishFrame s = sendingEnd x s := by
  have report : sentReport x (sendingOver x s).now = [] := by simp [sentReport, hj]
  have rx : (sendingEnd x s).line.rx = [] := sendingEnd_rx.trans hrx
  have same : { sendingEnd x s with line := { (sendingEnd x s).line with rx := [] } } = sendingEnd x s := by rw [← rx]
  rw [finishFrame_eq hin (by rw [hrx, report]; decide), hrx, report, List.append_nil, same, drainReports, rx]
  rfl

theorem framesHeld_report (rx : List RxItem) (t : Nat) : framesHeld (rx ++ sentReport x t) = framesHeld rx := by
  unfold sentReport
  split <;> simp [framesHeld]

/-- Behind a frame that waits the report waits (R140). -/
theorem finishFrame_waits {g : Frame} {t : Nat} {rest : List RxItem} (hin : inTxEntry s = some x)
    (hrx : s.line.rx = .frame g t :: rest) (few : framesHeld s.line.rx < 7) :
    finishFrame s = { sendingEnd x s with line := { (sendingEnd x s).line with
      rx := s.line.rx ++ sentReport x (sendingOver x s).now } } := by
  rw [finishFrame_eq hin (by rw [framesHeld_report]; exact few), drainReports]
  simp only [hrx, List.cons_append]
  rfl

theorem sendingEnd_calm (hs : Calm s) : Calm (sendingEnd x s) := calm_of_same (calm_advanceTo hs) rfl

end

theorem exec_frameSent {s : State} (hs : Calm s) : exec .frameSent s = .next (settle (finishFrame s)) := whileAwake_next hs _


end Sys2Proof.Proofs.Sending
end

section
/-! The ways by which a passive reply reaches the search unit (5.8, 6.3). -/

namespace Sys2Proof.Proofs.Replies

open Sys2Proof Sys2Proof.Machine Sys2Proof.Proofs.Steps Sys2Proof.Proofs.Invariants Sys2Proof.Proofs.KeyFrames
open Sys2Proof.Proofs.Ends Sys2Proof.Proofs.Glass Sys2Proof.Proofs.Delivery Sys2Proof.Proofs.Release Sys2Proof.Proofs.Intents
open Sys2Proof.Proofs.Crash Sys2Proof.Proofs.Arbiter Sys2Proof.Proofs.Touches Sys2Proof.Proofs.Lines Sys2Proof.Proofs.Sending


section
variable {s : State} {r : Reply} {bytes : List Byte} {f : Frame} {e : Nat} {rest : List RxItem} {own : TxEntry}

theorem weighed_byReceiver (hs : Calm s) (room : Roomy 4 s) (ok : s.line.state = .ok) (hr : decodePassive bytes = some r)
    (hcaps : s.cfg.caps.receiver = true) {q : SearchRec} {ch : Word32} (hq : s.search.record = some q)
    (hch : q.challenge = some ch) (hecho : ch.setWidth 24 = r.echo) : Weighed r none (.passiveReply bytes) s s := by
  have next {u : State} (hu : Calm u) (hc : u.cfg = s.cfg) (hk : u.search = s.search) :
      exec (.passiveReply bytes) u = .next (settle (weighReply r u)) := by
    rw [exec_passiveReply, live_next hu.1, passiveReplyOp_run hu.2.1 (hc ▸ hcaps) hr, routeReply_own (by rw [hk]; exact hq) hch hecho]
  exact
    { calm := hs, ok := ok, room := room, search := rfl, keys := rfl, store := rfl, pins := rfl, tx := fun _ h => h
      next := next hs rfl rfl
      again := fun j x h => (next hs rfl rfl).trans (by
        rw [h]
        exact (next (u := slotReloaded j x s) (calm_of_same hs rfl) rfl rfl).symm) }

theorem weighed_byRelay (hs : Calm s) (room : Roomy 4 s) (ok : s.line.state = .ok) (hh : Head f e rest s)
    (hp : f.payload = .fobRelay r) : Weighed r (some f.origin) .fobRelay s (received f rest s) := by
  have next {u : State} (hu : Calm u) (hl : u.line = s.line) :
      exec .fobRelay u = .next (settle (heard f.origin (weighReply r (received f rest u)))) := by
    have run := delivery_next (c := .fobRelay) (is := fun p => p.kind == 5) (g := takeRelay) (fr := f) (e := e) (rest := rest) hu
      (by rw [Head, hl]; exact hh) rfl (by rw [hp]; rfl)
    have takes : takeRelay f e (received f rest u) = weighReply r (received f rest u) := by simp [takeRelay, hp]
    rw [run, takes, drainReports_frames]
    rw [heard_line, weighReply_rx, received_rx]
    exact hh.2
  have same (u : State) : received f rest u = { u with line := { u.line with rx := rest } } := by rw [received, hp]; rfl
  refine
    { calm := received_calm hs, ok := by rw [received_line]; exact ok, room := (roomy_congr (by rw [received_line])).2 room
      search := received_search, keys := received_keys, store := received_store, pins := received_pins
      tx := fun x h => by rwa [received_line] at h
      next := next hs rfl
      again := fun j x h => ?_ }
  rw [next hs rfl, next (u := slotReloaded j x s) (calm_of_same hs rfl) rfl, h, same, same]
  rfl

theorem weighed_bySending (hs : Calm s) (ok : s.line.state = .ok) (hrx : s.line.rx = []) (htx : s.line.tx = [own])
    (hin : own.inTx = true) (hj : own.jobless = false) (hp : own.frame.payload = .fobRelay r) :
    Weighed r none .frameSent s (sendingEnd own s) := by
  have next {u : State} (hu : Calm u) (hl : u.line = s.line) :
      exec .frameSent u = .next (settle (weighReply r (sendingEnd own u))) := by
    have entry : inTxEntry u = some own := inTxEntry_split (before := []) (after := []) (by rw [hl]; exact htx) hin (by simp)
    rw [exec_frameSent hu, finishFrame_reported entry hj (by rw [hl]; exact hrx), hp]
    rfl
  have tx : (sendingEnd own s).line.tx = [] := by
    show dropInTx s.line.tx = []
    rw [htx]
    exact dropInTx_split (before := []) (after := []) hin (by simp)
  refine
    { calm := sendingEnd_calm hs, ok := (advanceTo_line_state _ _).trans ok, room := by rw [Roomy, tx]; decide
      search := advanceTo_search _ _, keys := advanceTo_keys _ _, store := advanceTo_store _ _, pins := advanceTo_pins _ _
      tx := fun x h => by rw [tx] at h; exact absurd h List.not_mem_nil
      next := next hs rfl
      again := fun j x h => ?_ }
  have moved (t : Nat) : advanceTo t (slotReloaded j x s) = slotReloaded j x (advanceTo t s) := by
    rw [advanceTo, advanceTo]
    by_cases early : t ≤ s.now
    · rw [if_pos early, if_pos (show t ≤ (slotReloaded j x s).now from early)]
      rfl
    · rw [if_neg early, if_neg (show ¬ t ≤ (slotReloaded j x s).now from early)]
      rfl
  have same : sendingEnd own (slotReloaded j x s) = slotReloaded j x (sendingEnd own s) := by
    rw [sendingEnd, sendingEnd, sendingOver, sendingOver, moved]
    rfl
  rw [next hs rfl, next (u := slotReloaded j x s) (calm_of_same hs rfl) rfl, h, same]

end

theorem kept_relay_queued {s : State} {r : Reply} (hs : Calm s) (room : Roomy 4 s) (ok : s.line.state = .ok) :
    Kept s (settle (queueFrame (.fobRelay r) s)) ∧ Queued (.fobRelay r) (settle (queueFrame (.fobRelay r) s)) :=
  settle_queueFrame hs ok room rfl

/-- Settles O38: a reply by each of its ways, at no search of its challenge and at one. -/
theorem passiveReplyIsRelayedOrCollected : Obligations.PassiveReplyIsRelayedOrCollected := by
  intro s bytes r f e rest own hs room ok hr other relays m sent byReceiver byRelay bySending answers weighs
  have relayed (h : byRelay) : Weighed r (some f.origin) .fobRelay s (received f rest s) :=
    weighed_byRelay hs room ok h.1 h.2
  have reported (h : bySending) : Weighed r none .frameSent s (sendingEnd own s) := by
    obtain ⟨hrx, htx, hin, hj, hp⟩ := h
    exact weighed_bySending hs ok hrx htx hin hj hp
  have sending (h : bySending) : sendingEnd own s = sent := by
    obtain ⟨-, htx, hin, -, hp⟩ := h
    have bits : (70 + 10 * own.frame.payload.data.length) * 20 = 3600 := by
      rw [hp, show (Payload.fobRelay r).data.length = 11 from rfl]
    have none_left : dropInTx s.line.tx = [] := by
      rw [htx]
      exact dropInTx_split (before := []) (after := []) hin (by simp)
    rw [sendingEnd, sendingOver, bits, none_left]
  refine ⟨fun ho => ⟨fun hc => ?_, fun h => ?_, fun h => ?_⟩, fun hc q hq ch hch hecho => ?_, fun h q hq ch hch hecho => ?_,
    fun h q hq ch hch hecho => ?_⟩
  · have next : exec (.passiveReply bytes) s = .next (settle (queueFrame (.fobRelay r) s)) := by
      rw [exec_passiveReply, live_next hs.1, passiveReplyOp_run hs.2.1 hc hr, routeReply_foreign ho]
    exact ⟨_, next, kept_relay_queued hs room ok⟩
  · exact (relayed h).leaves (weighReply_foreign (by rw [Foreign, received_search]; exact ho)) (received_calm hs) rfl
  · have left := (reported h).leaves (weighReply_foreign (by rw [Foreign, (reported h).search]; exact ho))
      (sendingEnd_calm hs) rfl
    rw [sending h] at left
    exact left
  · exact (weighed_byReceiver hs room ok hr hc hq hch hecho).weighs rfl hq hch hecho
  · have now : (received f rest s).now = (afterHearing f rest s).now := (heard_now _ _).symm
    have w := (relayed h).weighs (t := afterHearing f rest s) rfl hq hch hecho
    rw [now] at w
    exact w
  · have w := (reported h).weighs (t := sent) (sending h) hq hch hecho
    rw [sending h] at w
    exact w

end Sys2Proof.Proofs.Replies
end

section
/-! A key notice taken with an intent (4.4, 4.7, 4.8, 5.6). -/

namespace Sys2Proof.Proofs.Notices

open Sys2Proof Sys2Proof.Machine Sys2Proof.Proofs.Steps Sys2Proof.Proofs.Invariants Sys2Proof.Proofs.KeyFrames
open Sys2Proof.Proofs.Ends Sys2Proof.Proofs.Glass Sys2Proof.Proofs.Delivery Sys2Proof.Proofs.Release Sys2Proof.Proofs.Intents
open Sys2Proof.Proofs.Crash Sys2Proof.Proofs.Arbiter Sys2Proof.Proofs.Touches Sys2Proof.Proofs.Records


section
variable {s a b n x : State} {nt : Notice} {m : Slot} {i : IntentFrame} {o : Addr} {ps : List Payload}

/-! ## The slot of the notice (R109) -/

/-- A notice's counter taken by its slot (R104, R109). -/
def noticeTaken (m : Slot) (c : Counter) (s : State) : State :=
  let y := { s.keys.slots[m] with counter := c, resync := none, storeCurrent := false }
  queueRecord (.key m) { s with
    keys := { s.keys with slots := s.keys.slots.set m { y with check := slotCover m y } }
    store := { s.store with writing := s.store.writing.map (staleWrite m) } }

theorem takeCounter_eq (m : Slot) (c : Counter) (s : State) : takeCounter m c s = noticeTaken m c s := by
  rw [takeCounter, queueKey, noticeTaken]
  simp [writeSlot, slotCover]

/-- The slot takes the notice's counter (R109). -/
abbrev TakesNotice (nt : Notice) (k : KeySlot) : Prop :=
  (k.state = .paired ∨ k.state = .suspended) ∧ 1 ≤ (nt.counter - k.counter).toNat ∧ (nt.counter - k.counter).toNat ≤ 32768

theorem takeNotice_unknown (sound : ∀ m : Slot, slotGood m s.keys.slots[m] = true)
    (h : ∀ m : Slot, ¬ Holds nt.identity s m) : takeNotice nt s = s := by
  rw [takeNotice, lookup_none sound h]

theorem takeNotice_taken (one : OnlySlot nt.identity m s) (h : Holds nt.identity s m) (ht : TakesNotice nt s.keys.slots[m]) :
    takeNotice nt s = noticeTaken m nt.counter s := by
  rw [takeNotice, lookup_some one.1 h one.2, ← takeCounter_eq]
  exact if_pos ht

theorem takeNotice_stays (one : OnlySlot nt.identity m s) (h : Holds nt.identity s m) (ht : ¬ TakesNotice nt s.keys.slots[m]) :
    takeNotice nt s = s := by
  rw [takeNotice, lookup_some one.1 h one.2]
  exact if_neg ht

theorem takeNotice_spoilt (h : MeetsSpoiltSlot nt.identity m s)
    (lost : s.keys.slots[m].storeCurrent = false ∨ slotRecord m s = none) : takeNotice nt s = damageSlot m s := by
  rw [takeNotice, lookup_damaged h lost]
  refine if_neg fun hh => ?_
  have damaged : (damageSlot m s).keys.slots[m].state = .damaged := damageSlot_self
  rcases hh.1 with hp | hp
  · exact absurd (damaged.symm.trans hp) (by decide)
  · exact absurd (damaged.symm.trans hp) (by decide)

theorem takeNotice_reloaded {y : SlotCover} (h : MeetsSpoiltSlot nt.identity m s)
    (current : s.keys.slots[m].storeCurrent = true) (hy : slotRecord m s = some y) :
    takeNotice nt s = takeNotice nt (slotReloaded m y s) := by
  rw [takeNotice, takeNotice, lookup_reloaded h current hy]

/-! ## The press memory and auto-relock (R90, R92, R94) -/

/-- The intent engine's state once an intent with a notice is seen (R79, R90, R94). -/
def seenIntents (i : IntentFrame) (nt : Notice) (o : Addr) (now : Nat) (n : Intents) : Intents :=
  let press : Press := { kind := i.kind, targets := i.targets, identity := nt.identity, seenAt := now }
  let pressed := i.cause = .fob ∨ i.cause = .passive
  let followed := if i.kind = .windowsStop then n.pressWindow.map fun q => { q with followed := true } else n.pressWindow
  let spared := i.kind = .unlock ∧ ∃ r ∈ n.relock.or n.relockSpent, r.notice = some nt
    ∧ keyHigher r.key { epoch := i.epoch, origin := o } = true
  let cancels := i.kind.family = .latch ∧ ¬ spared
  { n with
    pressLatch := if pressed ∧ i.kind.family = .latch then some press else n.pressLatch
    pressWindow := if pressed ∧ i.kind.family = .window then some press else followed
    relock := if cancels then none else n.relock
    relockSpent := if cancels then none else n.relockSpent }

/-- The state once an intent with a notice is seen. -/
def seen (i : IntentFrame) (nt : Notice) (o : Addr) (s : State) : State :=
  { s with intent := seenIntents i nt o s.now s.intent }

theorem seePress_notice (k : IntentKind) (ts : Stations) (c : Cause) (nt : Notice) (s : State) :
    seePress k ts c (some nt) s = { s with intent := { s.intent with
      pressLatch := if (c = .fob ∨ c = .passive) ∧ k.family = .latch then
          some { kind := k, targets := ts, identity := nt.identity, seenAt := s.now }
        else s.intent.pressLatch
      pressWindow := if (c = .fob ∨ c = .passive) ∧ k.family = .window then
          some { kind := k, targets := ts, identity := nt.identity, seenAt := s.now }
        else if k = .windowsStop then s.intent.pressWindow.map fun q => { q with followed := true }
        else s.intent.pressWindow } } := by
  unfold seePress
  rw [followPress_eq, followedPress]
  by_cases hc : c = .fob ∨ c = .passive
  · simp only [rememberPress, hc, true_and]
    cases k <;> rfl
  · simp only [rememberPress, hc, false_and, if_false]

theorem relockSees_eq (k : IntentKind) (key : OrderKey) (nt : Notice) (h : s.intent.held = none) :
    relockSees k key (some nt) s =
      if k.family = .latch ∧ ¬ (k = .unlock ∧ ∃ r ∈ s.intent.relock.or s.intent.relockSpent,
        r.notice = some nt ∧ keyHigher r.key key = true) then relockOff s else s := by
  rw [relockSees]
  by_cases hf : k.family = .latch
  · rw [if_pos hf, armingUnlock]
    rcases hr : s.intent.relock.or s.intent.relockSpent with _ | r
    · rw [if_pos ⟨hf, by simp⟩]
      exact cancelRelock_off h
    · have spares : sparesRelock r k key (some nt) = true ↔
          k = .unlock ∧ ∃ q ∈ some r, q.notice = some nt ∧ keyHigher q.key key = true := by
        simp [sparesRelock, eq_comm (a := some nt) (b := r.notice), and_assoc]
      by_cases hs : sparesRelock r k key (some nt) = true
      · rw [if_neg fun hh => hh.2 (spares.1 hs)]
        exact if_pos hs
      · rw [if_pos ⟨hf, fun hh => hs (spares.2 hh)⟩, ← cancelRelock_off h]
        exact if_neg hs
  · rw [if_neg hf, if_neg fun hh => hf hh.1]

theorem hearIntent_seen (hn : i.notice = some nt) (hx : takeNotice nt s = x) (h : x.intent.held = none) :
    hearIntent o i s = seen i nt o x := by
  rw [hearIntent, hn]
  simp only [hx]
  rw [seePress_notice, relockSees_eq _ _ _ (by exact h)]
  by_cases hc : i.kind.family = .latch ∧ ¬ (i.kind = .unlock ∧ ∃ r ∈ x.intent.relock.or x.intent.relockSpent,
      r.notice = some nt ∧ keyHigher r.key { epoch := i.epoch, origin := o } = true)
  · rw [if_pos (by exact hc), seen, seenIntents]
    simp only [if_pos hc]
    rfl
  · rw [if_neg (by exact hc), seen, seenIntents]
    simp only [if_neg hc]

/-- The same intent seen on both sides. -/
theorem adds_seen (h : Adds ps a b) (i : IntentFrame) (nt : Notice) (o : Addr) : Adds ps (seen i nt o a) (seen i nt o b) := by
  have fixed (n : Intents) (t : Nat) : (seenIntents i nt o t n).fixed = seenIntents i nt o t n.fixed := rfl
  refine adds_withIntent (m := seenIntents i nt o a.now a.intent) (n := seenIntents i nt o b.now b.intent) h ?_ h.quiet.table
    h.hold id
  rw [fixed, fixed, h.quiet.intent, h.quiet.now]

theorem seen_calm (h : Calm s) : Calm (seen i nt o s) := calm_of_same h rfl

/-! ## The decision after it (R80, R81) -/

/-- An intent acted on with its key: the lock set (R50, R80). -/
def actedOn (f : Family) (k : OrderKey) (l : LockState) (s : State) : State := locked l (keyed f k s)

theorem adds_keyed (h : Adds ps a b) (f : Family) (k : OrderKey) : Adds ps (keyed f k a) (keyed f k b) := by
  have fixed (n : Intents) : (setLastKey f k n).fixed = setLastKey f k n.fixed := by cases f <;> rfl
  refine adds_withIntent h ?_ ?_ ?_ fun same => ?_
  · rw [fixed, fixed, h.quiet.intent]
  · cases f <;> exact h.quiet.table
  · cases f <;> exact h.hold
  · cases f <;> exact same

theorem adds_locked (h : Adds ps a b) (l : LockState) : Adds ps (locked l a) (locked l b) := by
  have latch : b.latch = a.latch := h.quiet.latch
  unfold locked
  rw [latch]
  split
  · exact h
  · exact (adds_withLatch h _).queueRecord _

theorem adds_actedOn (h : Adds ps a b) (f : Family) (k : OrderKey) (l : LockState) :
    Adds ps (actedOn f k l a) (actedOn f k l b) := adds_locked (adds_keyed h f k) l

/-- The lock state that an intent of this kind sets (R50). -/
def lockOf (c : IntentKind) (l : LockState) : LockState :=
  match c with
  | .lock => .locked
  | .unlock => .unlocked
  | .deadlock => .deadlocked
  | _ => l

theorem applyKind_acts {c : IntentKind} {f : Family} {k : OrderKey}
    (hc : c = .lock ∨ c = .unlock ∨ c = .deadlock ∨ c = .windowsStop)
    (hseq : s.latch.seq = .idle) (hpos : s.latch.position = .closed) (ho : s.pins.outerHandle = false)
    (hw : ∀ r ∈ s.win.req, r.source ≠ .global) :
    ∃ w, applyKind c (keyed f k s) = (w, actedOn f k (lockOf c s.latch.lock) s) := by
  have moving : (keyed f k s).latch.seq ≠ .dropping := by
    show s.latch.seq ≠ .dropping
    rw [hseq]
    decide
  rcases hc with rfl | rfl | rfl | rfl
  · exact ⟨none, applyKind_locks (.inl rfl) moving hpos ho⟩
  · exact ⟨none, applyKind_locks (.inr (.inl rfl)) moving hpos ho⟩
  · exact ⟨none, applyKind_locks (.inr (.inr rfl)) moving hpos ho⟩
  · refine ⟨some .stopped, ?_⟩
    rw [applyKind_window rfl, windowIntentApplied_stop (s := keyed f k s) hw, actedOn, locked]
    exact congrArg (Prod.mk _) (if_pos rfl).symm

/-- What the obligation asks of an intent at a target: its key is the last one, or it applies a lock state or a stop. -/
abbrev StandsOrActs (fr : Frame) (i : IntentFrame) (s : State) : Prop :=
  keyOf fr i = lastKey i.kind.family s.intent
    ∨ (keyHigher (keyOf fr i) (lastKey i.kind.family s.intent) = true
      ∧ (i.kind = .lock ∨ i.kind = .unlock ∨ i.kind = .deadlock ∨ i.kind = .windowsStop)
      ∧ s.latch.seq = .idle ∧ s.latch.position = .closed ∧ s.pins.outerHandle = false
      ∧ ∀ r ∈ s.win.req, r.source ≠ .global)

/-- The state an intent with a notice is decided to leave, by the key and the target set (R80). -/
def decidedOn (i : IntentFrame) (k : OrderKey) (s : State) : State :=
  if inSet s.addr i.targets && keyHigher k (lastKey i.kind.family s.intent) then
    actedOn i.kind.family k (lockOf i.kind s.latch.lock) s
  else s

theorem lastKey_fixed (f : Family) (h : b.intent.fixed = a.intent.fixed) : lastKey f b.intent = lastKey f a.intent := by
  have same (n : Intents) : lastKey f n.fixed = lastKey f n := by cases f <;> rfl
  rw [← same, h, same]

theorem adds_decidedOn (h : Adds ps a b) (i : IntentFrame) (k : OrderKey) : Adds ps (decidedOn i k a) (decidedOn i k b) := by
  have latch : b.latch = a.latch := h.quiet.latch
  rw [decidedOn, decidedOn, h.quiet.addr, lastKey_fixed _ h.quiet.intent, latch]
  split
  · exact adds_actedOn h _ _ _
  · exact h

theorem receiveIntent_decided {fr : Frame} (hh : hearIntent fr.origin i s = x) (ha : s.addr = x.addr)
    (hd : inSet x.addr i.targets = true → x.latch.crashEnd = none ∧ StandsOrActs fr i x) :
    ∃ qs : List Payload, qs.length ≤ 1 ∧ Adds qs (decidedOn i (keyOf fr i) x) (receiveIntent fr.origin i s) := by
  rcases ht : inSet x.addr i.targets with _ | _
  · have stays : receiveIntent fr.origin i s = x := by
      rw [receiveIntent_other _ (by rw [hh]; exact ht) (by rw [hh]; exact ha), hh]
    refine ⟨[], by simp, ?_⟩
    rw [decidedOn, ht, Bool.false_and, if_neg Bool.false_ne_true]
    exact .of_eq stays
  · obtain ⟨crash, decidable⟩ := hd ht
    have free : ¬ CrashBars i.kind x := fun hc => by
      have := hc.1
      rw [crashHold, crash] at this
      exact absurd this (by decide)
    have acks {r : AckResult} {w : Option WindowOutcome} {y : State}
        (hd : decideIntent i.kind (keyOf fr i) x = (r, w, y)) : ∃ qs : List Payload, qs.length ≤ 1
          ∧ Adds qs y (receiveIntent fr.origin i s) := by
      refine ⟨[ackOf fr.origin i r w y], by simp, ?_⟩
      rw [receiveIntent_target hh (by rw [ha]; exact ht) hd]
      exact adds_queueFrame y rfl fun _ => reportless_intentAck _
    rcases decidable with same | ⟨higher, kind, hseq, hpos, ho, hw⟩
    · have equal : keyHigher (keyOf fr i) (lastKey i.kind.family x.intent) = false := by rw [same]; exact keyHigher_self _
      rw [decidedOn, equal, Bool.and_false, if_neg Bool.false_ne_true]
      exact acks (decide_already free same)
    · obtain ⟨w, applied⟩ := applyKind_acts (f := i.kind.family) (k := keyOf fr i) kind hseq hpos ho hw
      rw [decidedOn, ht, higher, Bool.true_and, if_pos rfl]
      exact acks (decide_applied free higher applied)

end

end Sys2Proof.Proofs.Notices
end

section
/-! An intent delivered with a key notice (4.4, 5.6). -/

namespace Sys2Proof.Proofs.Notices

open Sys2Proof Sys2Proof.Machine Sys2Proof.Proofs.Steps Sys2Proof.Proofs.Invariants Sys2Proof.Proofs.KeyFrames
open Sys2Proof.Proofs.Ends Sys2Proof.Proofs.Glass Sys2Proof.Proofs.Delivery Sys2Proof.Proofs.Release Sys2Proof.Proofs.Intents
open Sys2Proof.Proofs.Crash Sys2Proof.Proofs.Arbiter Sys2Proof.Proofs.Touches Sys2Proof.Proofs.Records


section
variable {s u n x : State} {fr : Frame} {e : Nat} {rest : List RxItem} {i : IntentFrame} {nt : Notice} {m : Slot}
  {o : Addr} {k : OrderKey} {c : Census} {ps : List Payload}

/-! ## What hearing the origin leaves to its place -/

theorem heard_seen : heard o (seen i nt o s) = seen i nt o (heard o s) := by
  rw [heard_eq, heard_eq]
  rfl

theorem heard_decidedOn : heard o (decidedOn i k s) = decidedOn i k (heard o s) := by
  rw [decidedOn, decidedOn, heard_addr, heard_intent, heard_latch]
  split
  · rw [actedOn, actedOn, heard_locked, heard_keyed]
  · rfl

theorem noticeTaken_eq (m : Slot) (c : Counter) (s : State) : noticeTaken m c s =
    { s with
      keys := { s.keys with
        slots := s.keys.slots.set m { s.keys.slots[m] with
          counter := c, resync := none, storeCurrent := false
          check := slotCover m { s.keys.slots[m] with counter := c, resync := none, storeCurrent := false } } }
      store := { s.store with
        writing := s.store.writing.map (staleWrite m), queue := withRecordId (.key m) s.store.queue } } := by
  rw [noticeTaken, queueRecord_eq]

theorem heard_noticeTaken (a : Counter) : heard o (noticeTaken m a s) = noticeTaken m a (heard o s) := by
  rw [noticeTaken_eq, noticeTaken_eq, heard_eq, heard_eq]

theorem seen_noticeTaken (a : Counter) : seen i nt o (noticeTaken m a s) = noticeTaken m a (seen i nt o s) := by
  rw [noticeTaken_eq, noticeTaken_eq]
  rfl

theorem decidedOn_withCensus : decidedOn i k { s with census := c } = { decidedOn i k s with census := c } := by
  rw [decidedOn, decidedOn]
  simp only
  split
  · rw [actedOn, actedOn, locked_eq, locked_eq]
    cases i.kind.family <;> rfl
  · rfl

/-- A state kept with a slot marked DAMAGED before the rest of the intent, but for what the census unit then owes. -/
theorem kept_decided_slotMarked {v : State} (h : Kept (heard o (decidedOn i k (seen i nt o (slotMarked m s)))) v) :
    Kept (decidedOn i k (slotDamaged m (seen i nt o (heard o s)))) v := by
  have marked : seen i nt o (heard o (slotMarked m s))
      = { slotDamaged m (seen i nt o (heard o s)) with census := (heard o (slotMarked m s)).census } := by
    rw [heard_eq, heard_eq]
    rfl
  rw [heard_decidedOn, heard_seen, marked, decidedOn_withCensus] at h
  have fixed : (heard o (slotMarked m s)).census.fixed = (slotDamaged m (seen i nt o (heard o s))).census.fixed := by
    rw [heard_eq, heard_eq]
    rfl
  have back := kept_census (x := (slotDamaged m (seen i nt o (heard o s))).census) h fixed
  have same : { decidedOn i k (slotDamaged m (seen i nt o (heard o s))) with
        census := (slotDamaged m (seen i nt o (heard o s))).census }
      = decidedOn i k (slotDamaged m (seen i nt o (heard o s))) := by rw [← decidedOn_withCensus]
  rw [← same]
  exact back

/-! ## The delivery -/

theorem intent_next (hs : Calm s) (hh : Head fr e rest s) (hp : fr.payload = .intent i) :
    exec (intentCommand i.kind.family) s
      = .next (settle (drainReports (heard fr.origin (receiveIntent fr.origin i (received fr rest s))))) := by
  have taken : takeIntent fr e (received fr rest s) = receiveIntent fr.origin i (received fr rest s) := by simp [takeIntent, hp]
  have kind : fr.payload.kind = 1 + i.kind.family.code := by rw [hp]; rfl
  rw [← taken]
  rcases hf : i.kind.family with _ | _ | _ <;> rw [hf] at kind
  · exact delivery_next (c := .latchIntent) (is := fun p => p.kind == 1) (g := takeIntent) hs hh rfl (by rw [kind]; rfl)
  · exact delivery_next (c := .childIntent) (is := fun p => p.kind == 2) (g := takeIntent) hs hh rfl (by rw [kind]; rfl)
  · exact delivery_next (c := .windowIntent) (is := fun p => p.kind == 3) (g := takeIntent) hs hh rfl (by rw [kind]; rfl)

theorem received_slotReloaded (y : SlotCover) (hp : fr.payload = .intent i) :
    received fr rest (slotReloaded m y s) = slotReloaded m y (received fr rest s) := by
  rw [received, received, hp]
  show raiseEpoch _ _ = slotReloaded m y (raiseEpoch _ _)
  rw [raiseEpoch, raiseEpoch]
  by_cases later : epochLater i.epoch s.intent.epoch = true
  · rw [if_pos (by exact later), if_pos (by exact later)]
    rfl
  · rw [if_neg (by exact later), if_neg (by exact later)]
    rfl

/-- A lookup that goes on with a slot reloaded makes the delivery what it is with the slot reloaded before it (R98). -/
theorem intent_reloaded {y : SlotCover} (hs : Calm s) (hh : Head fr e rest s) (hp : fr.payload = .intent i)
    (hn : i.notice = some nt)
    (h : takeNotice nt (received fr rest s) = takeNotice nt (slotReloaded m y (received fr rest s))) :
    exec (intentCommand i.kind.family) s = exec (intentCommand i.kind.family) (slotReloaded m y s) := by
  have hears : hearIntent fr.origin i (received fr rest s) = hearIntent fr.origin i (slotReloaded m y (received fr rest s)) := by
    rw [hearIntent, hearIntent, hn]
    simp only [h]
  rw [intent_next hs hh hp, intent_next (s := slotReloaded m y s) (calm_of_same hs rfl) hh hp, received_slotReloaded y hp,
    receiveIntent, receiveIntent, hears]
  rfl

/-- An intent whose notice leaves `n` with at most one frame queued. -/
theorem notice_kept (hs : Calm s) (hh : Head fr e rest s) (hp : fr.payload = .intent i) (hn : i.notice = some nt)
    (ht : inSet s.addr i.targets = true → s.latch.crashEnd = none ∧ StandsOrActs fr i s)
    (h : Adds ps n (takeNotice nt (received fr rest s))) (few : ps.length ≤ 1)
    (same : (n.intent, n.latch, n.win, n.pins, n.addr, n.line)
      = ((received fr rest s).intent, s.latch, s.win, s.pins, s.addr, { s.line with rx := rest })) (hnc : Calm n) :
    ∃ v, exec (intentCommand i.kind.family) s = .next v
      ∧ Kept (heard fr.origin (decidedOn i (keyOf fr i) (seen i nt fr.origin n))) v
      ∧ (s.line.state = .ok → Roomy 4 s → ∀ p ∈ ps, p.kind ≠ 12 → Queued p v) := by
  obtain ⟨hi, hl, hw, hpins, ha, hline⟩ := by simpa only [Prod.mk.injEq] using same
  let z := takeNotice nt (received fr rest s)
  have seenAdds := adds_seen h i nt fr.origin
  have zheld : z.intent.held = none := by rw [h.quiet.held, hi]; exact (received_calm hs).2.2.1
  have hears : hearIntent fr.origin i (received fr rest s) = seen i nt fr.origin z := hearIntent_seen hn rfl zheld
  have zaddr : (seen i nt fr.origin z).addr = s.addr := h.quiet.addr.trans ha
  have zlatch : (seen i nt fr.origin z).latch = s.latch := h.quiet.latch.trans hl
  have zkey : lastKey i.kind.family (seen i nt fr.origin z).intent = lastKey i.kind.family s.intent := by
    have first := lastKey_fixed i.kind.family h.quiet.intent
    have keys (q : Intents) (t : Nat) : lastKey i.kind.family (seenIntents i nt fr.origin t q) = lastKey i.kind.family q := by
      cases i.kind.family <;> rfl
    have raised : lastKey i.kind.family (received fr rest s).intent = lastKey i.kind.family s.intent := by
      rw [received_eq]
      cases i.kind.family <;> rfl
    rw [seen, keys, first, hi, raised]
  obtain ⟨qs, hqs, acked⟩ := receiveIntent_decided (fr := fr) hears (by rw [received_addr, zaddr]) fun hset => by
    obtain ⟨crash, stands⟩ := ht (by rw [← zaddr]; exact hset)
    refine ⟨by rw [zlatch]; exact crash, ?_⟩
    have zwin : (seen i nt fr.origin z).win = s.win := h.quiet.win.trans hw
    have zpins : (seen i nt fr.origin z).pins = s.pins := h.quiet.pins.trans hpins
    rw [StandsOrActs, zkey, zlatch, zwin, zpins]
    exact stands
  have all := (adds_decidedOn seenAdds i (keyOf fr i)).trans acked
  have decidedLine : (decidedOn i (keyOf fr i) (seen i nt fr.origin n)).line = { s.line with rx := rest } := by
    rw [← hline, decidedOn]
    split
    · rw [actedOn, locked_line, keyed_line]
      rfl
    · rfl
  have decidedCalm : Calm (decidedOn i (keyOf fr i) (seen i nt fr.origin n)) := by
    rw [decidedOn]
    split
    · exact locked_calm (keyed_calm (seen_calm hnc))
    · exact seen_calm hnc
  have length : (ps ++ qs).length ≤ 2 := by rw [List.length_append]; omega
  obtain ⟨v, hv, kept, queued⟩ := intent_roomy hs hh hp all (by rw [decidedLine]) decidedCalm (roomy_of_few length)
  refine ⟨v, hv, kept, fun ok room p hmem => queued (by rw [decidedLine]; exact ok) ?_ p (List.mem_append_left _ hmem)⟩
  exact roomy_of_few length ((roomy_congr (by rw [decidedLine])).2 room)

end

theorem noticeTaken_calm {a : Counter} (h : Calm s) : Calm (noticeTaken m a s) := by
  rw [noticeTaken_eq]
  exact calm_of_same h rfl

/-- Settles O34: the slot of the notice, the press memory and auto-relock, and the decision after them. -/
theorem keyNoticeIsTakenWithAnIntent : Obligations.KeyNoticeIsTakenWithAnIntent := by
  intro s f e rest i nt hs hh hp hn K higher l ht c t press pressed followed armed spared cancels heard_ acted sound
  have command : c = intentCommand i.kind.family := by
    simp only [c]
    cases i.kind.family <;> rfl
  have target : inSet s.addr i.targets = true → s.latch.crashEnd = none ∧ StandsOrActs f i s := fun hset => by
    rcases ht with no | ⟨crash, -, stands⟩
    · rw [no] at hset
      exact absurd hset Bool.false_ne_true
    · exact ⟨crash, stands⟩
  let x := received f rest s
  have xcalm : Calm x := received_calm hs
  have xkeys : x.keys = s.keys := received_keys
  have tseen : seen i nt f.origin t = heard_ := by
    have now : t.now = s.now := (heard_now _ _).trans received_now
    have intent : ∃ ep, t.intent = { s.intent with epoch := ep } := by
      refine ⟨x.intent.epoch, ?_⟩
      rw [show t = heard f.origin x from rfl, heard_intent, show x = _ from received_eq f rest s]
    obtain ⟨ep, intent⟩ := intent
    simp only [heard_, seen]
    rw [now, intent]
    rfl
  have acts {u : State} (ua : u.addr = s.addr) (ul : u.latch = s.latch)
      (hk : lastKey i.kind.family u.intent = lastKey i.kind.family s.intent) : decidedOn i K u = acted u := by
    have cond : (inSet u.addr i.targets && keyHigher K (lastKey i.kind.family u.intent)) = (inSet s.addr i.targets && higher) := by
      rw [ua, hk]
    rw [decidedOn, cond]
    simp only [acted]
    rcases hb : (inSet s.addr i.targets && higher) with _ | _
    · rw [if_neg Bool.false_ne_true, if_neg Bool.false_ne_true]
    · rw [if_pos rfl, if_pos rfl, actedOn, locked, ← ul, show (keyed i.kind.family K u).latch = u.latch from rfl]
      obtain ⟨hset, hhigh⟩ := (Bool.and_eq_true _ _).mp hb
      rcases (target hset).2 with same | ⟨-, kind, -⟩
      · have lower : higher = false := by
          show keyHigher K (lastKey i.kind.family s.intent) = false
          rw [← same]
          exact keyHigher_self _
        rw [lower] at hhigh
        exact absurd hhigh Bool.false_ne_true
      · have lock : lockOf i.kind u.latch.lock = l := by
          rw [ul]
          simp only [l]
          cases i.kind <;> rfl
        have key : keyed i.kind.family K u = { u with intent :=
            if i.kind.family = .latch then { u.intent with keyLatch := K } else { u.intent with keyWindow := K } } := by
          rcases kind with h | h | h | h <;> rw [h] <;> rfl
        rw [lock, key]
  have tkeys : t.keys = s.keys := (heard_keys _ _).trans xkeys
  have tfields : heard_.addr = s.addr ∧ heard_.latch = s.latch
      ∧ lastKey i.kind.family heard_.intent = lastKey i.kind.family s.intent := by
    refine ⟨(heard_addr _ _).trans received_addr, (heard_latch _ _).trans received_latch, ?_⟩
    have raised : lastKey i.kind.family t.intent = lastKey i.kind.family s.intent := by
      rw [show t = heard f.origin x from rfl, heard_intent, show x = _ from received_eq f rest s]
      cases i.kind.family <;> rfl
    have keys (f : Family) (q : Intents) (a b : Option Press) (r r' : Option Relock) :
        lastKey f { q with pressLatch := a, pressWindow := b, relock := r, relockSpent := r' } = lastKey f q := by
      cases f <;> rfl
    exact (keys _ _ _ _ _ _).trans raised
  obtain ⟨haddr, hlatch, hkey⟩ := tfields
  have xsame : (x.intent, x.latch, x.win, x.pins, x.addr, x.line)
      = ((received f rest s).intent, s.latch, s.win, s.pins, s.addr, { s.line with rx := rest }) := by
    simp only [x, received_latch, received_win, received_pins, received_addr, received_line]
  have stays (h : takeNotice nt x = x) : ∃ v, exec c s = .next v ∧ Kept (acted heard_) v := by
    obtain ⟨v, hv, kept, -⟩ := notice_kept hs hh hp hn target (Adds.of_eq h) (by simp) xsame xcalm
    rw [heard_decidedOn, heard_seen, show heard f.origin x = t from rfl, tseen, acts haddr hlatch hkey] at kept
    exact ⟨v, command ▸ hv, kept⟩
  refine ⟨fun hsound hno => stays (takeNotice_unknown (by rw [xkeys]; exact hsound) fun j hj => ?_),
    fun j hj => ⟨fun current y hy => ?_, fun lost => ?_⟩, fun j hsound hstate hid alone => ?_⟩
  · rw [Holds, xkeys] at hj
    exact hno j hj.1 hj.2
  · rw [command]
    refine intent_reloaded hs hh hp hn (takeNotice_reloaded ?_ ?_ ?_)
    · rw [MeetsSpoiltSlot, received_keys]
      exact hj
    · rw [received_keys]
      exact current
    · rw [slotRecord, received_pins, received_store]
      exact hy
  · have spoilt : takeNotice nt x = damageSlot j x := takeNotice_spoilt (by rw [MeetsSpoiltSlot, xkeys]; exact hj) (by
      rw [xkeys, slotRecord, received_pins, received_store]
      exact lost)
    have adds : Adds [.faultNotice .keyDamaged (byte j.val)] (slotMarked j x) (takeNotice nt x) := by
      rw [spoilt, damageSlot_eq]
      exact adds_queueFrame _ rfl fun _ => reportless_faultNotice _ _
    obtain ⟨v, hv, kept, queued⟩ := notice_kept hs hh hp hn target adds (by simp) xsame (calm_of_same xcalm rfl)
    have kept := kept_decided_slotMarked kept
    rw [show heard f.origin x = t from rfl, tseen, acts (u := slotDamaged j heard_) haddr hlatch hkey] at kept
    exact ⟨v, command ▸ hv, kept, fun ok room => queued ok room _ (List.mem_singleton.2 rfl) (by simp [Payload.kind])⟩
  · intro k d takes moved
    have one : OnlySlot nt.identity j x := by
      rw [OnlySlot, xkeys]
      exact ⟨hsound, alone⟩
    have holds : Holds nt.identity x j := by
      rw [Holds, xkeys]
      exact ⟨hstate, hid⟩
    refine ⟨fun htakes => ?_, fun hnot => stays (takeNotice_stays one holds (by rw [xkeys]; exact hnot))⟩
    have taken : takeNotice nt x = noticeTaken j nt.counter x := takeNotice_taken one holds (by rw [xkeys]; exact htakes)
    obtain ⟨v, hv, kept, -⟩ := notice_kept hs hh hp hn target (Adds.of_eq taken) (by simp)
      (by rw [noticeTaken_eq]; exact xsame) (noticeTaken_calm xcalm)
    have keys : heard_.keys = s.keys := tkeys
    have store : heard_.store = s.store := (heard_store _ _).trans received_store
    rw [heard_decidedOn, heard_seen, heard_noticeTaken, seen_noticeTaken, show heard f.origin x = t from rfl, tseen,
      acts (by rw [noticeTaken_eq]; exact haddr) (by rw [noticeTaken_eq]; exact hlatch) (by rw [noticeTaken_eq]; exact hkey),
      noticeTaken, keys, store] at kept
    exact ⟨v, command ▸ hv, kept⟩

end Sys2Proof.Proofs.Notices
end

section
/-! Own frames started, sent, lost and dropped (7.3, 7.5). -/

namespace Sys2Proof.Proofs.Sending

open Sys2Proof Sys2Proof.Machine Sys2Proof.Proofs.Steps Sys2Proof.Proofs.Invariants Sys2Proof.Proofs.KeyFrames
open Sys2Proof.Proofs.Ends Sys2Proof.Proofs.Glass Sys2Proof.Proofs.Delivery Sys2Proof.Proofs.Release Sys2Proof.Proofs.Intents
open Sys2Proof.Proofs.Crash Sys2Proof.Proofs.Arbiter Sys2Proof.Proofs.Touches Sys2Proof.Proofs.Census Sys2Proof.Proofs.Lines Sys2Proof.Proofs.Replies


section
variable {s t m : State} {x e : TxEntry} {before after : List TxEntry}

/-! ## Starting and losing the line (R137, R138) -/

theorem markHead_first {gate : Bool} (hb : before.all (fun y => !gatePasses gate y.frame.payload) = true)
    (hx : gatePasses gate x.frame.payload = true) :
    markHead gate (before ++ x :: after) = some (before ++ { x with inTx := true } :: after) := by
  induction before with
  | nil => rw [List.nil_append, markHead, if_pos hx]; rfl
  | cons y ys ih =>
    rw [List.all_cons, Bool.and_eq_true] at hb
    rw [List.cons_append, markHead, if_neg (by simpa using hb.1), ih hb.2]
    rfl

/-- The head of the queue in transmission from the moment the line is FREE (R137). -/
def lineTaken (l : List TxEntry) (s : State) : State :=
  let n := advanceTo (freeTime s) s
  { n with line := { n.line with tx := l, cond := .frame, frameAt := n.now, ext := 0 } }

theorem startFrame_takes {l : List TxEntry} (hrun : s.power.state = .run) (ok : s.line.state = .ok)
    (hc : s.line.cond = .free ∨ s.line.cond = .busy) (hw : s.line.markWanted = false) (hm : s.line.markEnd = none)
    (he : s.line.extEnd = none) (hl : markHead s.line.gateOpen s.line.tx = some l) : startFrame s = lineTaken l s := by
  have clear : (lineClear s && !inLineFault s) = true := by
    rcases hc with hc | hc <;> simp [lineClear, awake, hrun, hw, hm, he, hc, inLineFault, ok]
  unfold startFrame
  rw [if_pos clear, hl]
  rfl

/-- No other frame is in transmission, and none of the others is an ANNOUNCEMENT. -/
abbrev OthersWait (before after : List TxEntry) : Prop := ∀ y ∈ before ++ after, y.inTx = false ∧ isAnnouncement y = false

theorem OthersWait.split (h : OthersWait before after) (hx : e.inTx = false) : ∀ y ∈ before ++ e :: after, y.inTx = false := by
  intro y hy
  rcases List.mem_append.1 hy with hy | hy
  · exact (h y (List.mem_append_left _ hy)).1
  · rcases List.mem_cons.1 hy with rfl | hy
    · exact hx
    · exact (h y (List.mem_append_right _ hy)).1

theorem not_superseded (htx : s.line.tx = before ++ x :: after) (hx : x.inTx = true) (ho : OthersWait before after) :
    superseded e s = false := by
  have none_waits : announcementWaits s = false := by
    rw [announcementWaits, htx, List.any_eq_false]
    intro y hy
    rcases List.mem_append.1 hy with hy | hy
    · simp [(ho y (List.mem_append_left _ hy)).2]
    · rcases List.mem_cons.1 hy with rfl | hy
      · simp [hx]
      · simp [(ho y (List.mem_append_right _ hy)).2]
  rw [superseded, none_waits, Bool.and_false]

theorem inTx_others (htx : s.line.tx = before ++ x :: after) (hx : x.inTx = true) (ho : OthersWait before after) :
    inTxEntry s = some x := inTxEntry_split htx hx fun y hy => (ho y (List.mem_append_left _ hy)).1

theorem loseArbitration_waits (htx : s.line.tx = before ++ x :: after) (hx : x.inTx = true) (ho : OthersWait before after) :
    loseArbitration s = { s with line := { s.line with tx := before ++ { x with inTx := false } :: after } } := by
  unfold loseArbitration
  rw [inTx_others htx hx ho]
  simp only
  rw [if_neg (by rw [not_superseded htx hx ho]; exact Bool.false_ne_true), htx,
    mapInTx_split _ hx fun y hy => (ho y hy).1]

/-! ## Bit errors (R139) -/

/-- The line after the abandon mark of a bit error, with this transmit queue (R139). -/
def abandoned (l : List TxEntry) (s : State) : State :=
  { s with line := { s.line with tx := l, cond := .busy, freeAt := s.now + 560 } }

/-- The frame dropped and counted, before its job is told (R139). -/
def failed (l : List TxEntry) (s : State) : State :=
  { abandoned l s with line := { (abandoned l s).line with
    txFails := min 65535 (s.line.txFails + 1), failures := s.line.failures + 1 } }

theorem meetBitError_counts (htx : s.line.tx = before ++ x :: after) (hx : x.inTx = true) (ho : OthersWait before after)
    (few : x.errors < 7) :
    meetBitError s = abandoned (before ++ { x with inTx := false, errors := x.errors + 1 } :: after) s := by
  unfold meetBitError
  rw [inTx_others htx hx ho]
  simp only
  rw [if_neg (by rw [not_superseded htx hx ho]; exact Bool.false_ne_true), if_neg (by omega)]
  show { s with line := { s.line with
    tx := mapInTx (fun y => { y with inTx := false, errors := y.errors + 1 }) s.line.tx
    cond := .busy, freeAt := s.now + 560 } } = _
  rw [htx, mapInTx_split _ hx fun y hy => (ho y hy).1]
  rfl

theorem meetBitError_drops (htx : s.line.tx = before ++ x :: after) (hx : x.inTx = true) (ho : OthersWait before after)
    (many : 7 ≤ x.errors) : meetBitError s =
      if 31 ≤ s.line.failures then enterLineFault .failures (Machine.tell x (failed (before ++ after) s))
      else Machine.tell x (failed (before ++ after) s) := by
  have dropped : dropInTx s.line.tx = before ++ after := by
    rw [htx]
    exact dropInTx_split hx fun y hy => (ho y hy).1
  have told : (Machine.tell x (failed (before ++ after) s)).line.failures = s.line.failures + 1 :=
    (congrArg Line.failures (tell_quiet x (failed (before ++ after) s)).line :)
  unfold meetBitError
  rw [inTx_others htx hx ho]
  simp only
  rw [if_neg (by rw [not_superseded htx hx ho]; exact Bool.false_ne_true), if_pos many]
  have same : { endFrame 560 s with line := { (endFrame 560 s).line with
      tx := dropInTx (endFrame 560 s).line.tx, txFails := satInc (endFrame 560 s).line.txFails
      failures := (endFrame 560 s).line.failures + 1 } } = failed (before ++ after) s := by
    show { s with line := { s.line with
      tx := dropInTx s.line.tx, cond := .busy, freeAt := s.now + 560, txFails := min 65535 (s.line.txFails + 1)
      failures := s.line.failures + 1 } } = _
    rw [dropped]
    rfl
  unfold Machine.dropFailed
  rw [same]
  simp only [told]
  by_cases last : 31 ≤ s.line.failures
  · rw [if_pos last, if_pos (by omega)]
  · rw [if_neg last, if_neg (by omega)]

/-! ## What is kept through a report (R137, R140) -/

/-- A state that a report leaves with the same search unit, transmit queue and flush is kept at the end of the command. -/
theorem kept_through (q : Quiet m t) (hm : Calm m) (ht : t.search = m.search) (htx : t.line.tx = m.line.tx)
    (hf : t.store.flush = m.store.flush) : Calm t ∧ Kept m (settle t) := by
  obtain ⟨hreset, hrun, hheld, hdrop, hrec⟩ := hm
  have calm : Calm t := ⟨q.heldSince.trans hreset, q.powerState.trans hrun, q.held.trans hheld, by rw [q.win, hdrop],
    by rw [ht]; exact hrec⟩
  have k := settle_kept t calm
  have q' := q.trans (settle_quiet t calm)
  have same : Roomy 4 t ↔ Roomy 4 m := roomy_congr htx
  have unclaimed : NoClaimWaits t ↔ NoClaimWaits m := by rw [NoClaimWaits, htx]
  refine ⟨calm, q'.now, q'.pending, q'.freeCount, q'.pins, q'.addr, q'.cfg, q'.win, q'.pinch, q'.latch, q'.keys, q'.intent, q'.table,
    q'.startHold, q'.claims, q'.nextNumber, q'.burst, fun hr => ?_, q'.line, fun hr e he ha => ?_, q'.census, q'.power, q'.store,
    q'.flush, fun hr => (k.reply (same.2 hr)).trans hf⟩
  · rw [← ht]
    exact k.search (hr.imp same.2 unclaimed.2)
  · exact k.stays (same.2 hr) e (htx ▸ he) ha


/-! ## Reports of frames that no search and no flush waits for -/

/-- A frame whose report neither the search unit nor a flush waits for (R116, R198). -/
abbrev Unawaited (x : TxEntry) (s : State) : Prop :=
  (∀ r ∈ s.search.record, x.jobless = false → isClaimOf x.frame.payload r = false)
    ∧ (x.frame.payload.kind ≠ 17 ∨ x.jobless = true)

theorem awaitsClaim_none {p : Payload} (h : ∀ r ∈ s.search.record, isClaimOf p r = false) : awaitsClaim p s = false := by
  unfold awaitsClaim
  rcases hr : s.search.record with _ | r
  · rfl
  · exact h r hr

theorem tell_unawaited (h : Unawaited x s) :
    (Machine.tell x s).search = s.search ∧ (Machine.tell x s).store = s.store := by
  obtain ⟨claim, reply⟩ := h
  unfold Machine.tell
  split
  · exact ⟨rfl, rfl⟩
  · rename_i job
    have none_ : awaitsClaim x.frame.payload s = false :=
      awaitsClaim_none fun r hr => claim r hr (Bool.eq_false_of_not_eq_true job)
    have notReply := reply.resolve_right job
    unfold notSent
    split
    · exact ⟨rfl, rfl⟩
    · rw [if_neg (by rw [none_]; exact Bool.false_ne_true)]
      exact ⟨rfl, rfl⟩
    · rw [if_neg (by rw [none_]; exact Bool.false_ne_true)]
      exact ⟨rfl, rfl⟩
    · exact ⟨rfl, rfl⟩
    · exact ⟨rfl, rfl⟩
    · rename_i hp
      exact absurd (by rw [hp]; rfl) notReply
    · exact ⟨rfl, rfl⟩

theorem census_of_kind {p : Payload} (h : p.kind = 13) : ∃ pos caps iv ep, p = .census pos caps iv ep := by
  cases p with
  | census pos caps iv ep => exact ⟨pos, caps, iv, ep, rfl⟩
  | intent i => rcases hf : i.kind.family <;> simp [Payload.kind, hf, Family.code] at h
  | _ => simp [Payload.kind] at h

theorem tell_census (hk : x.frame.payload.kind = 13) (hj : x.jobless = false) (ok : s.line.state = .ok) :
    (Machine.tell x s).line.gateOpen = true ∧ (Machine.tell x s).census.censusOwed = true := by
  unfold Machine.tell
  rw [if_neg (by rw [hj]; exact Bool.false_ne_true)]
  obtain ⟨pos, caps, iv, ep, hp⟩ := census_of_kind hk
  simp [hp, notSent, inLineFault, ok]

/-- A CENSUS that is owed stands in the queue at the end of the command (R154). -/
theorem settle_owed (hs : Calm s) (ok : s.line.state = .ok) (room : Roomy 4 s) (owed : s.census.censusOwed = true) :
    (settle s).line.tx.any isCensus = true := by
  have hroom : s.line.tx.length + 4 ≤ 6 := room
  let x : State := { s with census := { s.census with censusOwed := false } }
  have queued : settleCensus s = queueCensus x :=
    if_pos (by simp [owed, admitted, inLineFault, ok, show s.line.tx.length < 6 by omega])
  obtain ⟨e, he, hc⟩ := queueCensus_present (s := x) (by show s.line.tx.length < 6; omega) ok
  have g := settleCensus_gentle (s := s) (by omega)
  have hold : Gentle 0 (settleCensus s) (settleAgreement (settleStartHold (settleCensus s))) := by
    unfold settleStartHold
    split <;> exact ⟨rfl, rfl, rfl, rfl, fun _ he _ => he, by simp [settleAgreement], rfl⟩
  have own := isAnnouncement_census hc
  rw [settle_calm s hs]
  refine List.any_eq_true.2 ⟨e, (settleAnnouncement_gentle ?_).stays e (hold.stays e (queued ▸ he) own) own, hc⟩
  have := (g.trans hold).length
  omega

theorem reportSent_plain {p : Payload} (t : Nat) (h6 : p.kind ≠ 6) (h7 : p.kind ≠ 7) (h12 : p.kind ≠ 12) (h17 : p.kind ≠ 17)
    (hr : ∀ r, p = .fobRelay r → Foreign r s) : Quiet s (reportSent p t s) ∧ (reportSent p t s).search = s.search
      ∧ (reportSent p t s).line.tx = s.line.tx ∧ (reportSent p t s).store = s.store := by
  unfold reportSent
  split
  · exact ⟨startAttemptTimer_quiet _ s, rfl, rfl, rfl⟩
  · exact absurd rfl h6
  · exact absurd rfl h7
  · exact ⟨by constructor <;> first | rfl | exact .inl rfl, rfl, rfl, rfl⟩
  · exact absurd rfl h12
  · rw [weighReply_foreign (hr _ rfl)]
    exact ⟨.refl s, rfl, rfl, rfl⟩
  · exact absurd rfl h17
  · exact ⟨.refl s, rfl, rfl, rfl⟩

end

end Sys2Proof.Proofs.Sending
end

section
/-! The frames this station sends (7.3, 7.5). -/

namespace Sys2Proof.Proofs.Sending

open Sys2Proof Sys2Proof.Machine Sys2Proof.Proofs.Steps Sys2Proof.Proofs.Invariants Sys2Proof.Proofs.KeyFrames
open Sys2Proof.Proofs.Ends Sys2Proof.Proofs.Glass Sys2Proof.Proofs.Delivery Sys2Proof.Proofs.Release Sys2Proof.Proofs.Intents
open Sys2Proof.Proofs.Crash Sys2Proof.Proofs.Arbiter Sys2Proof.Proofs.Touches Sys2Proof.Proofs.Census Sys2Proof.Proofs.Lines Sys2Proof.Proofs.Replies


section
variable {s t m : State} {x e : TxEntry} {before after : List TxEntry}

theorem exec_line {c : Instr} {f : State → State} (hs : Calm s) (hc : exec c s = whileAwake f s) (h : f s = m) (hm : Calm m) :
    exec c s = .next (settle m) ∧ Kept m (settle m) := by
  have next : exec c s = .next (settle (f s)) := hc.trans (whileAwake_next hs f)
  exact ⟨h ▸ next, settle_kept m hm⟩

/-- A frame started stands in transmission (R137). -/
theorem frameStart_kept (hs : Calm s) (ok : s.line.state = .ok)
    (hc : s.line.cond = .free ∨ s.line.cond = .busy) (hw : s.line.markWanted = false) (hm : s.line.markEnd = none)
    (he : s.line.extEnd = none) (htx : s.line.tx = before ++ x :: after)
    (hb : before.all (fun y => !gatePasses s.line.gateOpen y.frame.payload) = true)
    (hx : gatePasses s.line.gateOpen x.frame.payload = true) :
    ∃ v, exec .frameStart s = .next v ∧ Kept (lineTaken (before ++ { x with inTx := true } :: after) s) v
      ∧ { x with inTx := true } ∈ v.line.tx := by
  have takes := startFrame_takes hs.2.1 ok hc hw hm he (by rw [htx]; exact markHead_first hb hx)
  have calm : Calm (lineTaken (before ++ { x with inTx := true } :: after) s) := calm_of_same (calm_advanceTo hs) rfl
  obtain ⟨next, kept⟩ := exec_line (c := .frameStart) (f := startFrame) hs rfl takes calm
  exact ⟨_, next, kept, keeps_settle calm _ (List.mem_append_right _ (.head _)) rfl⟩

/-- A frame dropped after its 8th bit error (R139). -/
theorem bitError_drops (hs : Calm s) (ok : s.line.state = .ok) (room : Roomy 3 s) (htx : s.line.tx = before ++ x :: after)
    (hx : x.inTx = true) (ho : OthersWait before after) (many : 7 ≤ x.errors) (few : s.line.failures < 31)
    (hu : Unawaited x s) : ∃ v, exec .bitError s = .next v ∧ inTxEntry v = none ∧ Kept (failed (before ++ after) s) v
      ∧ (x.frame.payload.kind = 13 → x.jobless = false → v.line.gateOpen = true ∧ v.line.tx.any isCensus = true) := by
  let d := failed (before ++ after) s
  have unawaited : Unawaited x d := hu
  obtain ⟨search, store⟩ := tell_unawaited unawaited
  have tx : (Machine.tell x d).line.tx = before ++ after := tell_tx x d
  have drops : meetBitError s = Machine.tell x d := by
    rw [meetBitError_drops htx hx ho many, if_neg (by omega)]
  obtain ⟨calm, kept⟩ := kept_through (tell_quiet x d) (calm_of_same hs rfl) search (tell_tx x d) (congrArg Store.flush store)
  have tok : (Machine.tell x d).line.state = .ok := (congrArg Line.state (tell_quiet x d).line :).trans ok
  have length : (before ++ after).length + 4 ≤ 6 := by
    have hroom : s.line.tx.length + 3 ≤ 6 := room
    rw [htx] at hroom
    simp only [List.length_append, List.length_cons] at hroom ⊢
    omega
  have troom : Roomy 4 (Machine.tell x d) := by rw [Roomy, tx]; exact length
  have next : exec .bitError s = .next (settle (Machine.tell x d)) := by
    rw [← drops]
    exact whileAwake_next hs _
  refine ⟨_, next, settle_still calm (by rw [tx]; exact fun y hy => (ho y hy).1), kept, fun hk hj => ?_⟩
  obtain ⟨gate, owed⟩ := tell_census (s := d) hk hj ok
  exact ⟨((settle_gentle _ calm (le_trans (Nat.add_le_add_left (by decide) _) troom)).gateOpen).trans gate,
    settle_owed calm tok troom owed⟩

/-- A frame sent whole whose report no search, sleep or flush waits for (R140). -/
theorem frameSent_plain (hs : Calm s) (room : Roomy 3 s) (htx : s.line.tx = before ++ x :: after) (hx : x.inTx = true)
    (ho : OthersWait before after) (hrx : s.line.rx = []) (h6 : x.frame.payload.kind ≠ 6) (h7 : x.frame.payload.kind ≠ 7)
    (h12 : x.frame.payload.kind ≠ 12) (h17 : x.frame.payload.kind ≠ 17)
    (hr : ∀ r, x.frame.payload = .fobRelay r → Foreign r s) :
    ∃ v, exec .frameSent s = .next v ∧ Kept (sendingEnd x s) v ∧ inTxEntry v = none
      ∧ (x.jobless = false → v.line.gateOpen = (reportSent x.frame.payload (sendingOver x s).now (sendingEnd x s)).line.gateOpen
        ∧ v.intent.table = (reportSent x.frame.payload (sendingOver x s).now (sendingEnd x s)).intent.table) := by
  have entry := inTx_others htx hx ho
  have tx : (sendingEnd x s).line.tx = before ++ after := by
    show dropInTx s.line.tx = before ++ after
    rw [htx]
    exact dropInTx_split hx fun y hy => (ho y hy).1
  have still : ∀ y ∈ (sendingEnd x s).line.tx, y.inTx = false := by
    rw [tx]
    exact fun y hy => (ho y hy).1
  rw [exec_frameSent hs]
  rcases hj : x.jobless with _ | _
  · have foreign (r : Reply) (hp : x.frame.payload = .fobRelay r) : Foreign r (sendingEnd x s) := by
      rw [Foreign, show (sendingEnd x s).search = s.search from advanceTo_search _ _]
      exact hr r hp
    obtain ⟨quiet, search, tx', store⟩ := reportSent_plain (sendingOver x s).now h6 h7 h12 h17 foreign
    obtain ⟨calm, kept⟩ := kept_through quiet (sendingEnd_calm hs) search tx' (congrArg Store.flush store)
    rw [finishFrame_reported entry hj hrx]
    refine ⟨_, rfl, kept, settle_still calm (by rw [tx']; exact still), fun _ => ?_⟩
    have g := settle_gentle _ calm (by
      have hroom : s.line.tx.length + 3 ≤ 6 := room
      show _ + 3 ≤ 6
      rw [tx', tx]
      rw [htx] at hroom
      simp only [List.length_append, List.length_cons] at hroom ⊢
      omega)
    exact ⟨g.gateOpen, g.table⟩
  · rw [finishFrame_jobless entry hj hrx]
    exact ⟨_, rfl, settle_kept _ (sendingEnd_calm hs), settle_still (sendingEnd_calm hs) still, fun h => absurd h (by simp)⟩

/-- The attempt timer that the report of an intent starts (R84). -/
theorem startAttemptTimer_entry {i : IntentFrame} {y : OpenEntry} (hy : entryOf i.tag s = some y) (he : y.epoch = i.epoch) :
    entryOf i.tag (startAttemptTimer i s) = some { y with timer := some (s.now + 40000) } := by
  obtain ⟨-, htag⟩ := find_tag hy
  have same (z : OpenEntry) : (if z.tag = i.tag ∧ z.epoch = i.epoch then { z with timer := some (s.now + 40000) } else z).tag
      = z.tag := by split <;> rfl
  rw [entryOf] at hy ⊢
  rw [startAttemptTimer, List.find?_map]
  have pred : ((fun e : OpenEntry => e.tag == i.tag) ∘
      fun e => if e.tag = i.tag ∧ e.epoch = i.epoch then { e with timer := some (s.now + 40000) } else e)
      = fun e => e.tag == i.tag := by
    funext z
    simp only [Function.comp, same]
  rw [pred, hy]
  exact congrArg some (if_pos ⟨htag, he⟩)

end

section
variable {s : State} {x : TxEntry} {before after : List TxEntry}

/-- The 32nd failure in a row brings LINE FAULT (R139, R147). -/
theorem bitError_faults (hs : Calm s) (ok : s.line.state = .ok) (htx : s.line.tx = before ++ x :: after) (hx : x.inTx = true)
    (ho : OthersWait before after) (many : 7 ≤ x.errors) (last : 31 ≤ s.line.failures) :
    ∃ v, exec .bitError s = .next v ∧ v.line.state = .lineFault .failures ∧ v.line.tx = []
      ∧ v.line.recoverAt = some (s.now + 1000000) ∧ v.line.failures = 0 ∧ v.intent.table = [] := by
  let d := Machine.tell x (failed (before ++ after) s)
  have q : Quiet (failed (before ++ after) s) d := tell_quiet _ _
  have calm : Calm d := ⟨q.heldSince.trans hs.1, q.powerState.trans hs.2.1, q.held.trans hs.2.2.1,
    by rw [q.win]; exact hs.2.2.2.1, tell_stage x _ hs.2.2.2.2⟩
  have dok : d.line.state = .ok := (congrArg Line.state q.line :).trans ok
  have drops : meetBitError s = enterLineFault .failures d := by rw [meetBitError_drops htx hx ho many, if_pos last]
  have next : exec .bitError s = .next (settle (enterLineFault .failures d)) := by
    rw [← drops]
    exact whileAwake_next hs _
  obtain ⟨state, tx, table, quiet, -⟩ := enterLineFault_settles calm dok .failures
  have now : d.now = s.now := q.now
  have recover : (faulting .failures d).line.recoverAt = some (d.now + 1000000) := rfl
  refine ⟨_, next, state, tx, ?_, (congrArg Line.failures quiet.line :), table⟩
  rw [← now, ← recover]
  exact (congrArg Line.recoverAt quiet.line :)

/-- A plain ANNOUNCEMENT sent at an agreement count of 0 (R159, R175). -/
theorem frameSent_announcement {a : Announced} (hs : Calm s) (htx : s.line.tx = before ++ x :: after) (hx : x.inTx = true)
    (ho : OthersWait before after) (hp : x.frame.payload = .announcement a) (hj : x.jobless = false) (hrx : s.line.rx = [])
    (hg : a.going ≠ some true) (hagree : s.power.agree = 0) :
    ∃ v, exec .frameSent s = .next v ∧ Kept { sendingEnd x s with census := { s.census with
      balance := min 4 (s.census.balance + 1), urgent := false, announced := true } } v := by
  let m : State := { sendingEnd x s with census := { s.census with
    balance := min 4 (s.census.balance + 1), urgent := false, announced := true } }
  have census : (sendingEnd x s).census = s.census := advanceTo_census _ _
  have power : (sendingEnd x s).power = s.power := advanceTo_power _ _
  have rises : balanceRises (sendingEnd x s) = m := by rw [balanceRises, census]
  have agreed : ∃ n, reportSent x.frame.payload (sendingOver x s).now (sendingEnd x s)
      = { m with power := { m.power with agree := n } } := by
    rw [hp]
    show ∃ n, announcementSent (a.going == some true) (balanceRises (sendingEnd x s)) = _
    rw [rises, announcementSent, if_neg (by simpa using hg), moveAgreement]
    have agree : m.power.agree = 0 := by rw [show m.power = s.power from power, hagree]
    rw [agree]
    exact ⟨if agreement m then min 2 (0 + 1) else 0, if_neg (by split <;> decide)⟩
  obtain ⟨n, agreed⟩ := agreed
  have quiet : Quiet m { m with power := { m.power with agree := n } } := by constructor <;> first | rfl | exact .inl rfl
  obtain ⟨-, kept⟩ := kept_through quiet (calm_of_same (sendingEnd_calm hs) rfl) rfl rfl rfl
  rw [exec_frameSent hs, finishFrame_reported (inTx_others htx hx ho) hj hrx, agreed]
  exact ⟨_, rfl, kept⟩

end

/-- Settles O44: an own frame started, lost to arbitration, met with a bit error, and sent whole. -/
theorem ownFrameIsSentLostOrDropped : Obligations.OwnFrameIsSentLostOrDropped := by
  intro s x before after hs room ok htx ho n passes
  refine ⟨fun hb hx hc hw hm he => frameStart_kept hs ok hc hw hm he htx hb hx, fun hx => ⟨?_, ?_, ?_⟩⟩
  · have calm : Calm { s with line := { s.line with tx := before ++ { x with inTx := false } :: after } } := calm_of_same hs rfl
    obtain ⟨next, kept⟩ := exec_line (c := .arbitrationLoss) (f := loseArbitration) hs rfl (loseArbitration_waits htx hx ho) calm
    exact ⟨_, next, settle_still calm (OthersWait.split ho rfl), kept⟩
  · intro busy
    refine ⟨fun few => ?_, fun many few hclaim hreply => ?_, fun many last => bitError_faults hs ok htx hx ho many last⟩
    · have calm : Calm (abandoned (before ++ { x with inTx := false, errors := x.errors + 1 } :: after) s) := calm_of_same hs rfl
      obtain ⟨next, kept⟩ := exec_line (c := .bitError) (f := meetBitError) hs rfl (meetBitError_counts htx hx ho few) calm
      exact ⟨_, next, settle_still calm (OthersWait.split ho rfl), kept⟩
    · exact bitError_drops hs ok room htx hx ho many few ⟨hclaim, hreply⟩
  · intro m sent
    have end_ : sendingEnd x s = sent := by
      have left : dropInTx s.line.tx = before ++ after := by
        rw [htx]
        exact dropInTx_split hx fun y hy => (ho y hy).1
      rw [sendingEnd, left]
      rfl
    refine ⟨fun hrx h6 h7 h12 h17 hr => ?_, fun a hp hj hrx hg hagree => ?_, fun g t rest hrx few => ?_⟩
    · obtain ⟨v, hv, kept, still, reported⟩ := frameSent_plain hs room htx hx ho hrx h6 h7 h12 h17 hr
      refine ⟨v, hv, end_ ▸ kept, still, fun hk hj => ?_, fun i hp hj y hy hep => ?_⟩
      · obtain ⟨pos, caps, iv, ep, hp⟩ := census_of_kind hk
        rw [(reported hj).1, hp]
        rfl
      · have table := (reported hj).2
        rw [hp] at table
        have started : entryOf i.tag (startAttemptTimer i (sendingEnd x s)) = some { y with timer := some (m.now + 40000) } := by
          refine startAttemptTimer_entry ?_ hep
          rw [entryOf, show (sendingEnd x s).intent = s.intent from advanceTo_intent _ _]
          exact hy
        refine ⟨{ y with timer := some (m.now + 40000) }, ?_, rfl⟩
        rw [entryOf, table]
        exact started
    · rw [← end_]
      exact frameSent_announcement hs htx hx ho hp hj hrx hg hagree
    · rw [← end_, exec_frameSent hs, finishFrame_waits (inTx_others htx hx ho) hrx few]
      have calm : Calm { sendingEnd x s with line := { (sendingEnd x s).line with
          rx := s.line.rx ++ sentReport x (sendingOver x s).now } } := calm_of_same (sendingEnd_calm hs) rfl
      refine ⟨_, rfl, settle_still calm ?_, settle_kept _ calm⟩
      show ∀ e ∈ dropInTx s.line.tx, e.inTx = false
      rw [htx, dropInTx_split hx fun y hy => (ho y hy).1]
      exact fun y hy => (ho y hy).1

end Sys2Proof.Proofs.Sending
end

section
/-! Own claims at the line (6.1, 6.3, 6.4). -/

namespace Sys2Proof.Proofs.Claims

open Sys2Proof Sys2Proof.Machine Sys2Proof.Proofs.Steps Sys2Proof.Proofs.Invariants Sys2Proof.Proofs.KeyFrames
open Sys2Proof.Proofs.Ends Sys2Proof.Proofs.Glass Sys2Proof.Proofs.Delivery Sys2Proof.Proofs.Release Sys2Proof.Proofs.Intents
open Sys2Proof.Proofs.Crash Sys2Proof.Proofs.Arbiter Sys2Proof.Proofs.Touches Sys2Proof.Proofs.Census Sys2Proof.Proofs.Lines Sys2Proof.Proofs.Replies Sys2Proof.Proofs.Sending


section
variable {s t m : State} {x : TxEntry} {r : SearchRec}

/-! ## The end of a command where an interior search waits for the air (R126) -/

/-- Nothing but the search record keeps the state from being calm. -/
abbrev Resting (s : State) : Prop :=
  s.power.heldSince = none ∧ s.power.state = .run ∧ s.intent.held = none ∧ s.win.dropAnswer = none

/-- The hand-overs that the end of a command makes where no drop is answered, no search claims and no intent is held. -/
def ended (s : State) : State := settleDue (settleStatus (settleAgreement (settleStartHold (settleCensus s))))

theorem whileAwake_resting (hs : Resting s) (f : State → State) : whileAwake f s = .next (settle (f s)) := by
  simp [whileAwake, live, liveInput, awake, hs.1, hs.2.1]

theorem settle_ended (hs : Resting s) (hi : settleInterior (settleCensus s) = settleCensus s) : settle s = ended s := by
  obtain ⟨hreset, hrun, hheld, hdrop⟩ := hs
  have hc := settleCensus_quiet s
  have drop : takeDropAnswer s = s := by simp [takeDropAnswer, hdrop]
  have sleep : settleSleep (settleCensus s) = settleCensus s := by
    unfold settleSleep
    rw [if_neg]
    rw [hc.powerState, hrun]
    simp
  have up : (awake s && s.power.heldSince.isNone) = true := by simp [awake, hrun, hreset]
  have up' : awake (settleCensus s) = true := by simp [awake, hc.powerState, hrun]
  have hh := settleStartHold_quiet (settleCensus s)
  have idle : issueHeld (settleStartHold (settleCensus s)) = settleStartHold (settleCensus s) := by
    simp [issueHeld, hh.held, hc.held, hheld]
  simp only [settle, up, drop, hi, sleep, up', if_true, idle, ended]

theorem settleInterior_taken (h : airTaken s = true) : settleInterior (settleCensus s) = settleCensus s := by
  have q := settleCensus_quiet s
  have taken : airTaken (settleCensus s) = true := by rw [airTaken, q.claims, q.now]; exact h
  unfold settleInterior
  split
  · rw [if_neg (by simp [interiorDue, taken])]
  · rfl

theorem ended_quiet (s : State) : Quiet s (ended s) :=
  (settleCensus_quiet s).trans ((settleStartHold_quiet _).trans ((settleAgreement_quiet _).trans
    ((settleStatus_quiet _).trans (settleDue_quiet _))))

theorem ended_unclaimed (s : State) : Unclaimed s (ended s) :=
  (settleCensus_unclaimed s).trans ((settleStartHold_unclaimed _).trans ((settleAgreement_unclaimed _).trans
    ((settleStatus_unclaimed _).trans (settleDue_unclaimed _))))

theorem ended_gentle (room : s.line.tx.length + 2 ≤ 6) : Gentle 2 s (ended s) := by
  have census := settleCensus_gentle (s := s) (by omega)
  have hold : Gentle 0 (settleCensus s) (settleAgreement (settleStartHold (settleCensus s))) := by
    unfold settleStartHold
    split <;> exact ⟨rfl, rfl, rfl, rfl, fun _ he _ => he, by simp [settleAgreement], rfl⟩
  exact (census.trans hold).trans (settleAnnouncement_gentle (by have := (census.trans hold).length; omega))

theorem ended_kept (s : State) : Kept s (ended s) := by
  have q := ended_quiet s
  have g (hr : Roomy 4 s) : Gentle 2 s (ended s) := ended_gentle (le_trans (Nat.add_le_add_left (by decide) _) hr)
  refine ⟨q.now, q.pending, q.freeCount, q.pins, q.addr, q.cfg, q.win, q.pinch, q.latch, q.keys, q.intent, q.table,
    q.startHold, q.claims, q.nextNumber, q.burst, fun hr => ?_, q.line, fun hr => (g hr).stays, q.census, q.power, q.store,
    q.flush, fun hr => by rw [(g hr).store]⟩
  have e : (ended s).search = s.search := hr.elim (fun hr => (g hr).search) (fun hn => (ended_unclaimed s hn).2)
  rw [e]
  exact ⟨rfl, rfl⟩

/-! ## An own claim reported sent (R116, R120, R126) -/

theorem airTaken_false : airTaken s = false ↔ s.search.claims.all (fun c => decide (c.expiry ≤ s.now)) = true := by
  rw [airTaken, List.any_eq_false, List.all_eq_true]
  simp

theorem sendingEnd_resting (hs : Resting s) : Resting (sendingEnd x s) := by
  obtain ⟨hreset, hrun, hheld, hdrop⟩ := hs
  have power : (sendingEnd x s).power = s.power := advanceTo_power _ _
  have intent : (sendingEnd x s).intent = s.intent := advanceTo_intent _ _
  have win : (sendingEnd x s).win.dropAnswer = s.win.dropAnswer := by simp [sendingEnd, sendingOver]
  exact ⟨by rw [power, hreset], by rw [power, hrun], by rw [intent, hheld], by rw [win, hdrop]⟩

theorem inTx_alone (htx : s.line.tx = [x]) (hx : x.inTx = true) : inTxEntry s = some x :=
  inTxEntry_split (before := []) (after := []) htx hx (by simp)

theorem sendingEnd_alone (htx : s.line.tx = [x]) (hx : x.inTx = true) : sendingEnd x s =
    { sendingOver x s with line := { (sendingOver x s).line with
      tx := [], cond := .busy, freeAt := (sendingOver x s).now + 240, failures := 0, extEnd := none } } := by
  have left : dropInTx s.line.tx = [] := by
    rw [htx]
    exact dropInTx_split (before := []) (after := []) hx (by simp)
  rw [sendingEnd, left]

/-- A frame sent alone whose report leaves `m`. -/
theorem frameSent_reports (hs : Resting s) (htx : s.line.tx = [x]) (hx : x.inTx = true) (hj : x.jobless = false)
    (hrx : s.line.rx = []) (h : reportSent x.frame.payload (sendingOver x s).now (sendingEnd x s) = m) :
    exec .frameSent s = .next (settle m) := by
  rw [← h, ← finishFrame_reported (inTx_alone htx hx) hj hrx]
  exact whileAwake_resting hs _

theorem reportSent_claim {t : Nat} (hr : s.search.record = some r) (hst : r.stage = .claiming) :
    reportSent .searchClaim t s = if airTaken s then claimLost s else outerChallenge r s := by
  have awaits : awaitsClaim .searchClaim s = true := by simp [awaitsClaim, hr, isClaimOf, hst]
  show (if awaitsClaim .searchClaim s then claimSent t s else s) = _
  rw [if_pos awaits, claimSent, hr]
  simp only [hst]

theorem claimLost_claiming (hr : s.search.record = some r) (hst : r.stage = .claiming) : claimLost s =
    { s with search := { s.search with record := none, held := some { area := r.area, touchAt := r.touchAt } } } := by
  rw [claimLost, hr]
  simp only [hst]

theorem reportSent_interior {t : Nat} {ps : Stations} (hr : s.search.record = some r) (hst : r.stage = .interiorClaiming)
    (hq : r.claimQueued = true) : reportSent (.interiorSearch r.number ps) t s =
      if airTaken s then claimLost s
      else setRecord (some { r with
        stage := .interior, claimQueued := false
        slotIndex := (r.participants.map fun q => q.1).idxOf s.addr
        slotAt := if s.addr ∈ r.participants.map (fun q => q.1) then
            some (slotTime t ((r.participants.map fun q => q.1).idxOf s.addr)) else none
        decisionAt := some (decisionTime t (r.participants.map fun q => q.1).length) }) s := by
  have awaits : awaitsClaim (.interiorSearch r.number ps) s = true := by simp [awaitsClaim, hr, isClaimOf, hst, hq]
  show (if awaitsClaim (.interiorSearch r.number ps) s then claimSent t s else s) = _
  rw [if_pos awaits, claimSent, hr]
  simp only [hst, hq, Bool.not_true, Bool.false_eq_true, if_false]

theorem claimLost_interior (hr : s.search.record = some r) (hst : r.stage = .interiorClaiming) (ok : s.line.state = .ok) :
    claimLost s = setRecord (some { r with claimQueued := false }) s := by
  rw [claimLost, hr]
  simp only [hst]
  exact if_neg (by simp [inLineFault, ok])

end

section
variable {s : State} {x : TxEntry} {r : SearchRec}

/-- What the timeout of an INTERIOR SEARCH leaves of an own claim (R126). -/
theorem abandonClaim_eq (s : State) : abandonClaim s = { s with line := { s.line with
    tx := (s.line.tx.filter fun e => e.inTx || e.jobless || !isClaimPayload e.frame.payload).map fun e =>
      if isClaimPayload e.frame.payload then { e with jobless := true } else e
    rx := s.line.rx.filter fun x => match x with
      | .sent p _ => !isClaimPayload p
      | .frame _ _ => true } } := rfl

theorem abandoned_jobless {y : TxEntry} (hy : y ∈ (abandonClaim s).line.tx) (hc : isClaimPayload y.frame.payload = true) :
    y.jobless = true ∧ (y.inTx = true ∨ y ∈ s.line.tx) := by
  obtain ⟨e, he, rfl⟩ := List.mem_map.1 hy
  obtain ⟨mem, kept⟩ := List.mem_filter.1 he
  by_cases claim : isClaimPayload e.frame.payload = true
  · rw [if_pos claim]
    refine ⟨rfl, ?_⟩
    by_cases hin : e.inTx = true
    · exact .inl hin
    · have jobless : e.jobless = true := by simpa [hin, claim] using kept
      have same : { e with jobless := true } = e := by rw [← jobless]
      exact .inr (same ▸ mem)
  · rw [if_neg claim] at hc
    exact absurd hc claim

theorem abandoned_settles (hc : Calm (setRecord none (abandonClaim s))) :
    ∀ y ∈ (settle (setRecord none (abandonClaim s))).line.tx, isClaimPayload y.frame.payload = true →
      y.jobless = true ∧ (y.inTx = true ∨ y ∈ s.line.tx) := by
  intro y hy claim
  rcases brings_settle hc y hy with old | own
  · exact abandoned_jobless old claim
  · have kind := own.2
    cases hp : y.frame.payload <;> rw [hp] at claim kind <;> simp [isClaimPayload, Payload.kind] at claim kind

theorem abandoned_calm (hs : Resting s) : Calm (setRecord none (abandonClaim s)) :=
  ⟨hs.1, hs.2.1, hs.2.2.1, hs.2.2.2, fun q hq => absurd hq (by simp [setRecord])⟩

theorem advanceTo_resting (hs : Resting s) (t : Nat) : Resting (advanceTo t s) := by
  simpa [Resting] using hs

theorem exec_interiorClaimTimeout (hs : Resting s) (hr : s.search.record = some r) (hst : r.stage = .interiorClaiming) :
    exec .interiorClaimTimeout s = .next (settle (setRecord none (abandonClaim (advanceTo (r.touchAt + 500000) s)))) := by
  have timer : interiorTimeout s = some (r.touchAt + 500000) := by
    rw [interiorTimeout, hr]
    exact if_pos hst
  have run : exec .interiorClaimTimeout s = _ := whileAwake_resting hs
    (fun t => atTime (interiorTimeout t) (fun u => setRecord none (abandonClaim u)) t)
  rw [run, timer]
  rfl

theorem abandoned_advanced (t : Nat) : setRecord none (abandonClaim (advanceTo t s)) = { advanceTo t s with
    search := { s.search with record := none }
    line := { (advanceTo t s).line with
      tx := (s.line.tx.filter fun e => e.inTx || e.jobless || !isClaimPayload e.frame.payload).map fun e =>
        if isClaimPayload e.frame.payload then { e with jobless := true } else e
      rx := s.line.rx.filter fun x => match x with
        | .sent p _ => !isClaimPayload p
        | .frame _ _ => true } } := by
  rw [← advanceTo_line_tx t s, ← advanceTo_line_rx t s, ← advanceTo_search t s]
  rfl

end

/-- Settles O45: an own claim reported sent, dropped, and not reported in time. -/
theorem ownClaimIsSentVoidOrTimesOut : Obligations.OwnClaimIsSentVoidOrTimesOut := by
  refine ⟨fun s x r hreset hrun hheld hdrop htx hx hj ok hr => ?_, fun s r hreset hrun hheld hdrop room hr hst => ?_⟩
  · intro m sent free after held
    have rest : Resting s := ⟨hreset, hrun, hheld, hdrop⟩
    have end_ : sendingEnd x s = sent := sendingEnd_alone htx hx
    have srest : Resting sent := end_ ▸ sendingEnd_resting rest
    have search : sent.search = s.search := advanceTo_search _ _
    have record : sent.search.record = some r := by rw [search, hr]
    have supply : sent.power.supply = s.power.supply := by rw [show sent.power = s.power from advanceTo_power _ _]
    have sok : sent.line.state = .ok := (advanceTo_line_state _ _).trans ok
    have air_free (h : free = true) : airTaken sent = false := airTaken_false.2 (by rw [search]; exact h)
    have air_taken (h : free = false) : airTaken sent = true := by
      rcases ha : airTaken sent with _ | _
      · have all := airTaken_false.1 ha
        rw [search] at all
        exact absurd (h.symm.trans all) Bool.false_ne_true
      · rfl
    have sends (hrx : s.line.rx = []) : exec .frameSent s = .next (settle (reportSent x.frame.payload m.now sent)) := by
      rw [← end_]
      exact frameSent_reports rest htx hx hj hrx rfl
    have calm {n : State} (hp : n.power = sent.power) (hi : n.intent = sent.intent) (hw : n.win = sent.win)
        (hn : NoInterior n) : Calm n :=
      ⟨by rw [hp, srest.1], by rw [hp, srest.2.1], by rw [hi, srest.2.2.1], by rw [hw, srest.2.2.2], hn⟩
    refine ⟨fun hrx hp hst => ?_, fun ps hrx hp hst hq => ?_, fun hp hst herr few => ?_⟩
    · have reported := reportSent_claim (t := m.now) record hst
      have ends {n : State} (h : (if airTaken sent then claimLost sent else outerChallenge r sent) = n)
          (hn : Calm n) : ∃ v, exec .frameSent s = .next v ∧ Kept n v := by
        rw [sends hrx, hp, reported, h]
        exact ⟨_, rfl, settle_kept n hn⟩
      have lost := claimLost_claiming record hst
      refine ⟨fun hfree good => ends ?_ (calm rfl rfl rfl ?_), fun hfree poor => ends ?_ (calm rfl rfl rfl ?_),
        fun hfree => ends ?_ (calm rfl rfl rfl ?_)⟩
      · have drives : outerChallenge r sent = driveChallenge .outer r sent := by
          have powered : s.power.supply = .normal ∨ s.power.supply = .low := by
            rw [GoodSupply] at good
            revert good
            cases s.power.supply <;> decide
          unfold outerChallenge
          rw [supply]
          rcases powered with h | h <;> rw [h]
        rw [air_free hfree, if_neg Bool.false_ne_true, drives, driveChallenge, if_neg (by rw [hst]; decide), search,
          show sent.freeCount = s.freeCount from advanceTo_freeCount _ _]
      · intro q hq
        obtain rfl := Option.some.inj hq
        simp
      · rw [air_free hfree, if_neg Bool.false_ne_true, outerChallenge, supply]
        rcases poor with h | h
        · rw [h, if_pos rfl, ← search]
          rfl
        · rw [h, if_neg (by decide), ← search]
          rfl
      · intro q hq
        exact absurd hq (by simp)
      · rw [air_taken hfree, if_pos rfl, lost, search]
      · intro q hq
        exact absurd hq (by simp)
    · intro l
      have reported := reportSent_interior (t := m.now) (ps := ps) record hst hq
      refine ⟨fun hfree => ?_, fun hfree => ?_⟩
      · have addr : sent.addr = s.addr := advanceTo_addr _ _
        have opens : reportSent x.frame.payload m.now sent = after (some { r with
            stage := .interior, claimQueued := false, slotIndex := l.idxOf s.addr
            slotAt := if s.addr ∈ l then some (m.now + 5000 + l.idxOf s.addr * 50000) else none
            decisionAt := some (m.now + 5000 + l.length * 50000 + 40000) }) := by
          rw [hp, reported, air_free hfree, if_neg Bool.false_ne_true, setRecord, search, ← addr]
          rfl
        rw [sends hrx, opens]
        refine ⟨_, rfl, settle_kept _ (calm rfl rfl rfl ?_)⟩
        intro q hq
        obtain rfl := Option.some.inj hq
        simp
      · have lost := claimLost_interior record hst sok
        have void : reportSent x.frame.payload m.now sent = after (some { r with claimQueued := false }) := by
          rw [hp, reported, air_taken hfree, if_pos rfl, lost, setRecord, search]
        have taken : airTaken (after (some { r with claimQueued := false })) = true := by
          have same := air_taken hfree
          rw [airTaken, search] at same
          exact same
        have waits : Resting (after (some { r with claimQueued := false })) := srest
        rw [sends hrx, void, settle_ended waits (settleInterior_taken taken)]
        exact ⟨_, rfl, ended_kept _⟩
    · have claiming : NoInterior s := by
        intro q hq
        rw [hr] at hq
        obtain rfl := Option.some.inj hq
        rw [hst]
        decide
      have hs : Calm s := ⟨hreset, hrun, hheld, hdrop, claiming⟩
      have drops : meetBitError s = Machine.tell x (failed [] s) := by
        rw [meetBitError_drops (before := []) (after := []) htx hx (fun y hy => absurd hy List.not_mem_nil) (by omega), if_neg (by omega)]
        rfl
      have told : Machine.tell x (failed [] s) = { failed [] s with search := { s.search with record := none, held := held } } := by
        have awaits : awaitsClaim .searchClaim (failed [] s) = true := by
          simp [awaitsClaim, show (failed [] s).search.record = some r from hr, isClaimOf, hst]
        rw [Machine.tell, if_neg (by rw [hj]; exact Bool.false_ne_true), hp]
        show (if awaitsClaim .searchClaim (failed [] s) then claimLost (failed [] s) else failed [] s) = _
        rw [if_pos awaits, claimLost_claiming (s := failed [] s) hr hst]
        rfl
      have next : exec .bitError s = .next (settle (Machine.tell x (failed [] s))) := by
        rw [← drops]
        exact whileAwake_next hs _
      rw [next, told]
      refine ⟨_, rfl, settle_kept _ ⟨hreset, hrun, hheld, hdrop, ?_⟩⟩
      intro q hq
      exact absurd hq (by simp)
  · intro n
    have rest : Resting s := ⟨hreset, hrun, hheld, hdrop⟩
    have calm := abandoned_calm (advanceTo_resting rest (r.touchAt + 500000))
    have kept := settle_kept _ calm
    have jobless := abandoned_settles calm
    rw [advanceTo_line_tx] at jobless
    rw [abandoned_advanced] at kept jobless
    rw [exec_interiorClaimTimeout rest hr hst, abandoned_advanced]
    exact ⟨_, rfl, kept, jobless⟩

end Sys2Proof.Proofs.Claims
end

section
/-! The end of a command on the way to sleep (9.2, 9.3). -/

namespace Sys2Proof.Proofs.Sleeping

open Sys2Proof Sys2Proof.Machine Sys2Proof.Proofs.Steps Sys2Proof.Proofs.Invariants Sys2Proof.Proofs.KeyFrames
open Sys2Proof.Proofs.Ends Sys2Proof.Proofs.Glass Sys2Proof.Proofs.Delivery Sys2Proof.Proofs.Release Sys2Proof.Proofs.Intents
open Sys2Proof.Proofs.Crash Sys2Proof.Proofs.Arbiter Sys2Proof.Proofs.Touches Sys2Proof.Proofs.Census Sys2Proof.Proofs.Lines Sys2Proof.Proofs.Replies Sys2Proof.Proofs.Sending Sys2Proof.Proofs.Claims


section
variable {s t m : State} {ps : List Payload}

/-! ## The end of a command after its sleep is judged (R157, R175, R178) -/

/-- Awake with nothing for the end of a command to do but what concerns sleep, status and the start hold. -/
structure Drowsy (s : State) : Prop where
  unreset : s.power.heldSince = none
  up : awake s = true
  unheld : s.intent.held = none
  unanswered : s.win.dropAnswer = none
  noInterior : NoInterior s
  unowed : s.census.censusOwed = false

/-- The hand-overs that follow the judgment of a sleep. -/
def closes (s : State) : State := settleDue (settleStatus (settleAgreement (settleStartHold s)))

theorem whileAwake_drowsy (hs : Drowsy s) (f : State → State) : whileAwake f s = .next (settle (f s)) := by
  have up := hs.up
  simp [whileAwake, live, liveInput, up, hs.unreset]

theorem settleStartHold_held (h : s.intent.held = none) : issueHeld (settleStartHold s) = settleStartHold s := by
  have held : (settleStartHold s).intent.held = none := (settleStartHold_quiet s).held.trans h
  unfold issueHeld
  rw [held]

theorem settle_drowsy (hs : Drowsy s) (hh : (settleSleep s).intent.held = none) :
    settle s = if awake (settleSleep s) then closes (settleSleep s) else settleSleep s := by
  have drop : takeDropAnswer s = s := by simp [takeDropAnswer, hs.unanswered]
  have census : settleCensus s = s := if_neg (by simp [hs.unowed])
  have interior : settleInterior s = s := by
    unfold settleInterior
    split
    · rename_i r hr
      exact if_neg (by simp [interiorDue, hs.noInterior r hr])
    · rfl
  unfold settle
  rw [if_pos (by simp [hs.up, hs.unreset])]
  simp only [drop, census, interior, settleStartHold_held hh]
  rfl

theorem settle_run (hs : Drowsy s) (hr : s.power.state = .run) : settle s = closes s := by
  have same : settleSleep s = s := if_neg (by rw [hr]; decide)
  rw [settle_drowsy hs (by rw [same]; exact hs.unheld), same, if_pos hs.up]

/-- The sleep goes on: no cause ends it, and SLEEP waits. -/
theorem settle_pending (hs : Drowsy s) (ha : s.power.selfAbort = false) (hr : sleepReady s = true)
    (hd : ∀ age ∈ s.power.sleepDue, reportedForSleep age s = false) : settle s = closes s := by
  have same : settleSleep s = s := by
    unfold settleSleep
    split
    · rw [if_neg (by simp [ha, hr])]
      split
      · rename_i age hage
        exact if_neg (by rw [hd age hage]; exact Bool.false_ne_true)
      · rfl
    · rfl
  rw [settle_drowsy hs (by rw [same]; exact hs.unheld), same, if_pos hs.up]

/-- The sleep is entered once its announcement has been reported. -/
theorem settle_sleeps {age : Nat} (hs : Drowsy s) (hp : s.power.state = .sleepPending) (ha : s.power.selfAbort = false)
    (hr : sleepReady s = true) (hd : s.power.sleepDue = some age) (hrep : reportedForSleep age s = true) :
    settle s = enterSleep s := by
  have sleeps : settleSleep s = enterSleep s := by
    unfold settleSleep
    rw [if_pos hp, if_neg (by simp [ha, hr]), hd]
    exact if_pos hrep
  rw [settle_drowsy hs (by rw [sleeps]; exact hs.unheld), sleeps]
  exact if_neg (by simp [awake, enterSleep])

/-- A sleep that aborts, before its CENSUS is queued (R177). -/
def woken (s : State) : State :=
  { s with power := { s.power with
    state := .run, agree := 0, quietEnd := none, going := false, sleepDue := none, selfAbort := false } }

theorem abortSleep_pending (hp : s.power.state = .sleepPending) : abortSleep none s = queueCensus (woken s) := if_pos hp

theorem abortSleep_run (hp : s.power.state = .run) (c : Option WakeCause) : abortSleep c s = s :=
  if_neg (by rw [hp]; decide)

/-- The sleep aborts itself (R176). -/
theorem settle_aborts (hs : Drowsy s) (hp : s.power.state = .sleepPending)
    (h : s.power.selfAbort = true ∨ sleepReady s = false) : settle s = closes (queueCensus (woken s)) := by
  have aborts : settleSleep s = queueCensus (woken s) := by
    unfold settleSleep
    rw [if_pos hp, if_pos (by rcases h with h | h <;> simp [h]), abortSleep_pending hp]
  have q := queueCensus_quiet (woken s)
  rw [settle_drowsy hs (by rw [aborts, q.held]; exact hs.unheld), aborts]
  exact if_pos (by rw [awake, q.powerState]; rfl)

theorem closes_quiet (s : State) : Quiet s (closes s) :=
  (settleStartHold_quiet _).trans ((settleAgreement_quiet _).trans ((settleStatus_quiet _).trans (settleDue_quiet _)))

theorem closes_unclaimed (s : State) : Unclaimed s (closes s) :=
  (settleStartHold_unclaimed _).trans ((settleAgreement_unclaimed _).trans
    ((settleStatus_unclaimed _).trans (settleDue_unclaimed _)))

theorem hold_gentle (s : State) : Gentle 0 s (settleAgreement (settleStartHold s)) := by
  unfold settleStartHold
  split <;> exact ⟨rfl, rfl, rfl, rfl, fun _ he _ => he, by simp [settleAgreement], rfl⟩

theorem closes_gentle (room : s.line.tx.length < 6) : Gentle 1 s (closes s) := by
  have hold := hold_gentle s
  exact hold.trans (settleAnnouncement_gentle (by have := hold.length; omega))

/-- What `closes` keeps of a state once the frames `ps` are queued. -/
theorem kept_closes (h : Adds ps m t) (few : ps.length ≤ 3) : Kept m (closes t) := by
  have q := h.quiet.trans (closes_quiet t)
  have u := h.unclaimed.trans (closes_unclaimed t)
  have g (hr : Roomy 4 m) : Gentle (ps.length + 1) m (closes t) := by
    have hlen : m.line.tx.length + 4 ≤ 6 := hr
    have first := h.gentle (by omega)
    exact first.trans (closes_gentle (by have := first.length; omega))
  refine ⟨q.now, q.pending, q.freeCount, q.pins, q.addr, q.cfg, q.win, q.pinch, q.latch, q.keys, q.intent, q.table,
    q.startHold, q.claims, q.nextNumber, q.burst, fun hr => ?_, q.line, fun hr => (g hr).stays, q.census, q.power, q.store,
    q.flush, fun hr => by rw [(g hr).store]⟩
  have e : (closes t).search = m.search := hr.elim (fun hr => (g hr).search) (fun hn => (u hn).2)
  rw [e]
  exact ⟨rfl, rfl⟩

/-- A frame that is no ANNOUNCEMENT and was queued is there after `closes` too. -/
theorem queued_closes {p : Payload} (h : Adds ps m t) (ok : m.line.state = .ok) (few : ps.length ≤ 3) (room : Roomy 4 m)
    (hp : p ∈ ps) (hk : p.kind ≠ 12) : Queued p (closes t) := by
  have hlen : m.line.tx.length + 4 ≤ 6 := room
  have first := h.gentle (by omega)
  exact queued_stays (closes_gentle (by have := first.length; omega)) (h.queued ok (by omega) p hp hk) hk
    (closes_quiet t).addr

end

end Sys2Proof.Proofs.Sleeping
end

section
/-! The way to sleep (9.2, 9.3). -/

namespace Sys2Proof.Proofs.Sleeping

open Sys2Proof Sys2Proof.Machine Sys2Proof.Proofs.Steps Sys2Proof.Proofs.Invariants Sys2Proof.Proofs.KeyFrames
open Sys2Proof.Proofs.Ends Sys2Proof.Proofs.Glass Sys2Proof.Proofs.Delivery Sys2Proof.Proofs.Release Sys2Proof.Proofs.Intents
open Sys2Proof.Proofs.Crash Sys2Proof.Proofs.Arbiter Sys2Proof.Proofs.Touches Sys2Proof.Proofs.Census Sys2Proof.Proofs.Lines Sys2Proof.Proofs.Replies Sys2Proof.Proofs.Sending Sys2Proof.Proofs.Claims


section
variable {s t m v : State} {ps : List Payload} {us : Nat}

/-! ## Rules for the states on the way to sleep -/

theorem Drowsy.of_same (h : Drowsy s)
    (e : (t.power.heldSince, t.power.state, t.intent.held, t.win.dropAnswer, t.search.record, t.census.censusOwed)
      = (s.power.heldSince, s.power.state, s.intent.held, s.win.dropAnswer, s.search.record, s.census.censusOwed)) :
    Drowsy t := by
  obtain ⟨hh, hp, hi, hw, hr, hc⟩ := by simpa only [Prod.mk.injEq] using e
  exact ⟨hh.trans h.unreset, by rw [awake, hp]; exact h.up, hi.trans h.unheld, hw.trans h.unanswered,
    fun r hm => h.noInterior r (hr ▸ hm), hc.trans h.unowed⟩

theorem Drowsy.advanceTo (h : Drowsy s) (n : Nat) : Drowsy (advanceTo n s) := h.of_same (by simp)

theorem Drowsy.adds (h : Drowsy m) (k : Adds ps m t) (hc : t.census.censusOwed = false) : Drowsy t where
  unreset := k.quiet.heldSince.trans h.unreset
  up := by rw [awake, k.quiet.powerState]; exact h.up
  unheld := k.quiet.held.trans h.unheld
  unanswered := by rw [k.quiet.win, h.unanswered]
  noInterior := k.stage h.noInterior
  unowed := hc

theorem kept_power {p : Power} (h : Kept m v) (e : m.power.fixed = p.fixed) : Kept { m with power := p } v :=
  { h with power := h.power.trans e }

theorem sleepReady_later (n : Nat) (h : sleepReady s = true) : sleepReady (advanceTo n s) = true := by
  have now : s.now ≤ (advanceTo n s).now := by
    unfold advanceTo
    split
    · exact le_refl _
    · exact Nat.le_of_lt (Nat.lt_of_not_le ‹_›)
  simp only [sleepReady, crashHold, storeIdle, inLineFault, advanceTo_win_motion, advanceTo_latch, advanceTo_intent,
    advanceTo_search, advanceTo_line_tx, advanceTo_store, advanceTo_power, advanceTo_census, advanceTo_line_state,
    Bool.and_eq_true, decide_eq_true_eq] at h ⊢
  obtain ⟨⟨h, before⟩, announced⟩ := h
  exact ⟨⟨h, le_trans before now⟩, announced⟩

theorem closes_waits (ok : t.line.state = .ok) (room : t.line.tx.length < 6) (h : announcementWaits t = true) :
    announcementWaits (closes t) = true := by
  have line : (settleAgreement (settleStartHold t)).line = t.line := by
    unfold settleStartHold
    split <;> rfl
  have waits : announcementWaits (settleStatus (settleAgreement (settleStartHold t))) = true := by
    unfold settleStatus
    split
    · rw [announcementWaits, line]; exact h
    · split
      · exact queueAnnouncement_waits (by rw [line]; exact room) (by rw [line]; exact ok)
      · show (settleAgreement (settleStartHold t)).line.tx.any _ = true
        rw [line]
        exact h
  rw [closes, settleDue_waits waits]
  exact waits

/-- The end of a command where a sleep aborts, with its CENSUS queued (R176, R177). -/
theorem aborted_kept (ok : m.line.state = .ok) (room : Roomy 4 m) {e : Power} (he : (woken m).power.fixed = e.fixed) :
    Kept { m with power := e } (closes (queueCensus (woken m)))
      ∧ (closes (queueCensus (woken m))).line.tx.any isCensus = true := by
  have len : m.line.tx.length + 4 ≤ 6 := room
  obtain ⟨ps, few, adds⟩ := adds_queueCensus (woken m)
  have kept := kept_closes adds (by omega)
  have g := adds.gentle (by show m.line.tx.length + ps.length ≤ 6; omega)
  have fits : (woken m).line.tx.length = m.line.tx.length := rfl
  obtain ⟨c, hc, census⟩ := queueCensus_present (s := woken m) (by omega) ok
  exact ⟨kept_power (m := woken m) kept he, List.any_eq_true.2
    ⟨c, (closes_gentle (by have := g.length; omega)).stays c hc (isAnnouncement_census census), census⟩⟩

theorem woken_calm (h : Drowsy s) : Calm (woken s) := ⟨h.unreset, rfl, h.unheld, h.unanswered, h.noInterior⟩

/-- The end of a command that has ended a sleep itself. -/
theorem woken_kept (h : Drowsy m) {e : Power} (he : (woken m).power.fixed = e.fixed) :
    Kept { m with power := e } (settle (queueCensus (woken m)))
      ∧ (m.line.state = .ok → Roomy 4 m → (settle (queueCensus (woken m))).line.tx.any isCensus = true) := by
  obtain ⟨ps, few, adds⟩ := adds_queueCensus (woken m)
  have calm := woken_calm h
  refine ⟨kept_power (m := woken m) (adds.kept calm few) he, fun ok room => ?_⟩
  have len : (woken m).line.tx.length + 4 ≤ 6 := room
  obtain ⟨c, hc, census⟩ := queueCensus_present (s := woken m) (by omega) ok
  have g := adds.gentle (by omega)
  exact List.any_eq_true.2
    ⟨c, (settle_two _ (adds.calm calm) (by have := g.length; omega)).stays c hc (isAnnouncement_census census), census⟩

theorem runEnds_wakes (hp : s.power.state = .sleepPending) (hm : isMark us = true)
    (ok : s.line.state = .ok) : runEnds us s
      = queueCensus (woken { s with line := { s.line with cond := .busy, freeAt := freeAfterRun s } }) := by
  have unheld : s.line.state ≠ .lineFault .held := by rw [ok]; exact fun e => by cases e
  unfold runEnds
  rw [restartRecovery_other (by exact unheld)]
  simp only [hm, if_true]
  exact abortSleep_pending hp

theorem runEnds_run (run : s.power.state = .run) (ok : s.line.state ≠ .lineFault .held) :
    runEnds us s = { s with line := { s.line with cond := .busy, freeAt := freeAfterRun s } } := by
  unfold runEnds
  rw [restartRecovery_other (by exact ok)]
  simp only
  split
  · exact abortSleep_run (by exact run) none
  · rfl

theorem advanceTo_unheld (n : Nat) (s : State) : advanceTo n { s with line := { s.line with holdFrom := none } }
    = { advanceTo n s with line := { (advanceTo n s).line with holdFrom := none } } := by
  unfold advanceTo lineAt
  split <;> simp only <;> split <;> rfl

theorem runFrom_unheld (hc : s.line.cond ≠ .held) : runFrom s = s.now := if_neg hc

theorem markRead_short (hin : inTxEntry s = none) (hc : s.line.cond ≠ .held) (short : us < 100000) :
    markRead us s = runEnds us { advance us s with line := { (advance us s).line with holdFrom := none } } := by
  have start : runFrom s = s.now := runFrom_unheld hc
  have none_ : (inTxEntry s).isSome = false := by rw [hin]; rfl
  rw [markRead, none_, if_neg Bool.false_ne_true, readRun, if_neg (by omega), advanceTo_unheld, start, advance]

end

section
variable {s v : State} {us l : Nat}

/-! ## In RUN (R135, R174, R175) -/

theorem drowsy_of_calm (hs : Calm s) (ho : s.census.censusOwed = false) : Drowsy s :=
  ⟨hs.1, by simp [awake, hs.2.1], hs.2.2.1, hs.2.2.2.1, hs.2.2.2.2, ho⟩

/-- An own ANNOUNCEMENT that is queued changes the transmit queue and the census unit's bookkeeping alone. -/
theorem queueAnnouncement_shape (room : s.line.tx.length < 6) (ok : s.line.state = .ok) :
    ∃ (l : List TxEntry) (n : Nat) (c : Census), queueAnnouncement s
        = { s with line := { s.line with tx := l, nextAge := n }, census := c }
      ∧ l.all isAnnouncement = s.line.tx.all isAnnouncement ∧ c.announced = s.census.announced
      ∧ c.censusOwed = s.census.censusOwed := by
  unfold queueAnnouncement
  simp only
  rw [if_neg (by simp [inLineFault, ok])]
  split
  · exact ⟨_, _, _, rfl, replaceAnnouncement_all _ _ _, rfl, rfl⟩
  · rw [queueAs_room _ _ _ (by exact room) (by exact ok)]
    refine ⟨_, _, _, rfl, ?_, rfl, rfl⟩
    rw [Bool.eq_iff_iff, List.all_eq_true, List.all_eq_true]
    exact ⟨fun h y hy => h y ((mem_insertTx _ _ _).2 (.inr hy)),
      fun h y hy => ((mem_insertTx _ _ _).1 hy).elim (fun e => e ▸ rfl) (h y)⟩

/-- SLEEP PENDING, entered at an OK line, before its ANNOUNCEMENT is queued (R176). -/
def pending (s : State) : State :=
  { s with power := { s.power with
    state := .sleepPending, going := true, selfAbort := false, sleepDue := none, quietEnd := none } }

theorem enterSleepPending_ok (hp : s.power.state = .run) (ok : s.line.state = .ok) :
    enterSleepPending s = queueAnnouncement (pending s) := by
  have fault : inLineFault s = false := by simp [inLineFault, ok]
  unfold enterSleepPending
  rw [if_pos hp, fault]
  rfl

theorem drowsy_pending (hs : Drowsy s) : Drowsy (pending s) :=
  ⟨hs.unreset, rfl, hs.unheld, hs.unanswered, hs.noInterior, hs.unowed⟩

/-- SLEEP PENDING, entered from RUN at an OK line (R176). -/
theorem pending_kept (hs : Drowsy s) (hp : s.power.state = .run) (hr : sleepReady s = true) (ok : s.line.state = .ok)
    (room : Roomy 2 s) {e : Power} (he : (pending s).power.fixed = e.fixed) :
    Kept { s with power := e } (settle (enterSleepPending s))
      ∧ announcementWaits (settle (enterSleepPending s)) = true := by
  have len : (pending s).line.tx.length + 2 ≤ 6 := room
  have waits := queueAnnouncement_waits (s := pending s) (by omega) ok
  have adds := adds_queueAnnouncement (pending s)
  obtain ⟨l, n, c, shape, all, announced, owed⟩ := queueAnnouncement_shape (s := pending s) (by omega) ok
  have drowsy := (drowsy_pending hs).adds adds (by rw [shape]; exact owed.trans hs.unowed)
  have ready : sleepReady (queueAnnouncement (pending s)) = true := by
    rw [← hr, shape]
    simp only [sleepReady, crashHold, storeIdle, inLineFault, all, announced]
    rfl
  have same : settle (queueAnnouncement (pending s)) = closes (queueAnnouncement (pending s)) :=
    settle_pending drowsy (by rw [shape]; rfl) ready fun age hage => absurd hage (by rw [shape]; simp [pending])
  rw [enterSleepPending_ok hp ok, same]
  refine ⟨kept_power (m := pending s) (kept_closes adds (by simp)) he, closes_waits (by rw [shape]; exact ok) ?_ waits⟩
  have := (adds.gentle (by simp only [List.length_singleton]; omega)).length
  exact Nat.lt_of_le_of_lt this (by simp only [List.length_singleton]; omega)

end

end Sys2Proof.Proofs.Sleeping
end

section
/-! The station goes to sleep (9.2, 9.3). -/

namespace Sys2Proof.Proofs.Sleeping

open Sys2Proof Sys2Proof.Machine Sys2Proof.Proofs.Steps Sys2Proof.Proofs.Invariants Sys2Proof.Proofs.KeyFrames
open Sys2Proof.Proofs.Ends Sys2Proof.Proofs.Glass Sys2Proof.Proofs.Delivery Sys2Proof.Proofs.Release Sys2Proof.Proofs.Intents
open Sys2Proof.Proofs.Crash Sys2Proof.Proofs.Arbiter Sys2Proof.Proofs.Touches Sys2Proof.Proofs.Census Sys2Proof.Proofs.Lines Sys2Proof.Proofs.Replies Sys2Proof.Proofs.Sending Sys2Proof.Proofs.Claims


section
variable {s v : State} {us l : Nat}

/-! ## In RUN (R135, R174, R175) -/

theorem loneTimer_sleeps {e : Nat} (hs : Calm s) (ho : s.census.censusOwed = false)
    (he : s.power.loneFrom.map (· + 30000000) = some e) (hr : sleepReady s = true) (ok : s.line.state = .ok)
    (room : Roomy 2 s) :
    let n := advanceTo e s
    ∃ v, exec .loneTimerExpiry s = .next v
      ∧ Kept { n with power := { n.power with state := .sleepPending, going := true, sleepDue := none, quietEnd := none } } v
      ∧ announcementWaits v = true := by
  intro n
  have next : exec .loneTimerExpiry s = .next (settle (enterSleepPending n)) :=
    timer_next hs (fun t => t.power.loneFrom.map (· + 30000000)) enterSleepPending he
  obtain ⟨kept, waits⟩ := pending_kept (s := n) ((drowsy_of_calm hs ho).advanceTo _) (by simp [n, hs.2.1])
    (sleepReady_later _ hr) (by simp [n, ok]) (by simpa [n, Roomy] using room)
    (e := { n.power with state := .sleepPending, going := true, sleepDue := none, quietEnd := none }) rfl
  exact ⟨_, next, kept, waits⟩

theorem mark_ignored (hs : Calm s) (hin : inTxEntry s = none) (hc : s.line.cond ≠ .held) (ok : s.line.state = .ok)
    (short : us < 100000) :
    let n := advance us s
    ∃ v, exec (.wakeMarkDetected us) s = .next v
      ∧ Kept { n with line := { n.line with cond := .busy, freeAt := freeAfterRun n, holdFrom := none } } v := by
  intro n
  have next : exec (.wakeMarkDetected us) s = .next (settle (markRead us s)) := whileAwake_next hs _
  rw [markRead_short hin hc short, runEnds_run (by simp [advance, hs.2.1]) (by simp [advance, ok])] at next
  exact kept_of next (calm_of_same (advance_calm hs) rfl)

/-- A run of 100 ms ends as LINE FAULT (R136). -/
theorem mark_faults (hs : Calm s) (hin : inTxEntry s = none) (hc : s.line.cond ≠ .held) (ok : s.line.state = .ok)
    (long : 100000 ≤ us) :
    ∃ v, exec (.wakeMarkDetected us) s = .next v ∧ v.now = (advance us s).now
      ∧ v.line.state = .lineFault .held ∧ v.line.tx = [] ∧ v.line.recoverAt = some ((advance us s).now + 50000)
      ∧ v.intent.table = [] ∧ v.latch = s.latch ∧ v.keys = s.keys := by
  let b : State := advanceTo (s.now + 100000) { s with line := { s.line with holdFrom := none } }
  let m : State := advanceTo (s.now + us) (enterLineFault .held b)
  have okB : b.line.state = .ok := (advanceTo_line_state _ _).trans ok
  have calmB : Calm b := calm_advanceTo (calm_of_same hs rfl)
  have entered := enterLineFault_quiet okB .held
  have calmM : Calm m := calm_advanceTo (enterLineFault_calm calmB okB .held)
  have state : m.line.state = .lineFault .held := (advanceTo_line_state _ _).trans (enterLineFault_state okB .held)
  have noMark : isMark us = false := by simp [isMark]; omega
  have reads : markRead us s = { m with line := { m.line with
      cond := .busy, freeAt := freeAfterRun m, recoverAt := some (m.now + 50000) } } := by
    have none_ : (inTxEntry s).isSome = false := by rw [hin]; rfl
    rw [markRead, none_, if_neg Bool.false_ne_true, readRun, if_pos long, runEnds, noMark, runFrom_unheld hc, restartRecovery]
    exact if_pos state
  have calm : Calm (markRead us s) := by
    rw [reads]
    exact calm_of_same calmM rfl
  have fault : (markRead us s).line.state ≠ .ok := by
    rw [reads]
    show m.line.state ≠ .ok
    rw [state]
    exact fun e => by cases e
  have now : m.now = (advance us s).now := by
    show (advanceTo _ _).now = (advanceTo _ s).now
    rw [advanceTo_now, entered.now]
    show max _ (advanceTo _ _).now = _
    rw [advanceTo_now, advanceTo_now]
    show max _ (max _ s.now) = _
    omega
  have line := settle_fault_line calm fault
  have q := settle_quiet (markRead us s) calm
  refine ⟨_, whileAwake_next hs _, ?_, ?_, ?_, ?_, ?_, ?_, ?_⟩
  · rw [q.now, reads]
    exact now
  · rw [line, reads]
    exact state
  · rw [line, reads]
    exact (advanceTo_line_tx _ _).trans (enterLineFault_tx okB .held)
  · rw [line, reads, ← now]
  · have table : (markRead us s).intent.table = [] := by
      rw [reads]
      exact (congrArg Intents.table (advanceTo_intent _ _)).trans (enterLineFault_table okB .held)
    exact List.map_eq_nil_iff.1 (q.table.trans (by rw [table]; rfl))
  · rw [q.latch, reads]
    exact (advanceTo_latch _ _).trans (entered.latch.trans (advanceTo_latch _ _))
  · rw [q.keys, reads]
    exact (advanceTo_keys _ _).trans (entered.keys.trans (advanceTo_keys _ _))

end

section
variable {s v : State} {us q : Nat}

/-! ## The quiet timer (R178) -/

/-- The quiet timer's expiry, before it is judged. -/
theorem exec_quiet (hs : Drowsy s) (hq : s.power.quietEnd = some q) :
    exec .sleepQuietTimerExpiry s = .next (settle (quietOver (advanceTo q s))) := by
  have next : exec .sleepQuietTimerExpiry s = .next (settle (atTime s.power.quietEnd quietOver s)) :=
    whileAwake_drowsy hs fun t => atTime t.power.quietEnd quietOver t
  rw [next, hq]
  rfl

theorem quietOver_sleeps (hp : s.power.state = .sleepPending) (hr : sleepReady s = true) (hd : s.power.sleepDue = none)
    (ha : announcementInTx s = false) : quietOver s = enterSleep s := by
  have age : announcementAge s = none := by
    rw [announcementAge, List.find?_eq_none.2, Option.map_none]
    exact fun x hx h => Bool.false_ne_true (ha.symm.trans (List.any_eq_true.2 ⟨x, hx, h⟩))
  rw [quietOver, if_pos ⟨hp, hr, hd⟩, age]

theorem quiet_sleeps (hs : Drowsy s) (hp : s.power.state = .sleepPending) (hq : s.power.quietEnd = some q)
    (hr : sleepReady s = true) (hd : s.power.sleepDue = none) (ha : announcementInTx s = false) :
    let n := advanceTo q s
    exec .sleepQuietTimerExpiry s = .next { n with
      power := { n.power with
        state := .sleep, quietEnd := none, sleepDue := none, selfAbort := false, agree := 0, loneFrom := none
        filter := .watching }
      latch := { n.latch with filterEnd := none }
      line := { n.line with
        tx := n.line.tx.filter fun x => x.inTx || x.jobless || !(x.frame.payload.kind == 12)
        rx := [], markWanted := false, markEnd := none, extEnd := none }
      store := { n.store with pairing := none } } := by
  intro n
  have sleeps : quietOver n = enterSleep n := quietOver_sleeps (by simp [n, hp]) (sleepReady_later q hr) (by simp [n, hd])
    (by simpa [n, announcementInTx] using ha)
  rw [exec_quiet hs hq, sleeps, settle_asleep rfl]
  rfl

theorem isAnnouncement_kind (e : TxEntry) : isAnnouncement e = (e.frame.payload.kind == 12) := by
  unfold isAnnouncement
  cases e.frame.payload with
  | intent i =>
    have code := Layouts.family_code_lt i.kind.family
    simp only [Payload.kind]
    rw [eq_comm, beq_eq_false_iff_ne]
    omega
  | _ => simp [Payload.kind]

/-- An ANNOUNCEMENT withdrawn leaves every other frame and tells no one (R141). -/
theorem adds_withdrawAnnouncement (s : State) : Adds [] s (withdrawAnnouncement s) where
  quiet := withdraw_quiet _ s
  hold := rfl
  unclaimed h := ⟨fun e he => h e (List.mem_of_mem_filter he), rfl⟩
  stage := id
  gentle _ := by
    refine ⟨rfl, rfl, rfl, rfl, fun e he hn => List.mem_filter.2 ⟨he, ?_⟩, List.length_filter_le _ _, rfl⟩
    rw [isAnnouncement_kind] at hn
    show (e.inTx || e.jobless || !(e.frame.payload.kind == 12)) = true
    rw [hn, Bool.not_false, Bool.or_true]
  queued _ _ _ h := absurd h List.not_mem_nil

theorem announcementInTx_withdrawn (h : announcementInTx s = true) : announcementInTx (withdrawAnnouncement s) = true := by
  obtain ⟨x, hx, hin⟩ := List.any_eq_true.1 h
  have sent : x.inTx = true := by simp at hin; exact hin.2
  exact List.any_eq_true.2 ⟨x, List.mem_filter.2 ⟨hx, by simp [sent]⟩, hin⟩

theorem announcementWaits_withdrawn (h : AnnouncementsHaveJobs s) : announcementWaits (withdrawAnnouncement s) = false := by
  rw [announcementWaits, List.any_eq_false]
  intro x hx waits
  obtain ⟨mem, stays⟩ := List.mem_filter.1 hx
  simp only [Bool.and_eq_true, Bool.not_eq_true'] at waits
  obtain ⟨own, waiting⟩ := waits
  have kind : (x.frame.payload.kind == 12) = true := isAnnouncement_kind x ▸ own
  change (x.inTx || x.jobless || !(x.frame.payload.kind == 12)) = true at stays
  rw [waiting, h x mem own, kind] at stays
  exact absurd stays Bool.false_ne_true

theorem sleepReady_withdrawn (h : sleepReady s = true) : sleepReady (withdrawAnnouncement s) = true := by
  have all : s.line.tx.all isAnnouncement = true := by
    simp only [sleepReady, Bool.and_eq_true] at h
    obtain ⟨⟨⟨⟨⟨_, all⟩, _⟩, _⟩, _⟩, _⟩ := h
    exact all
  have same : (withdrawAnnouncement s).line.tx.all isAnnouncement = s.line.tx.all isAnnouncement := by
    rw [all, List.all_eq_true]
    exact fun x hx => List.all_eq_true.1 all x (List.mem_of_mem_filter hx)
  rw [← h]
  unfold sleepReady
  rw [same]
  rfl

/-- Nothing new is announced where the status is the one last announced and an ANNOUNCEMENT is in transmission. -/
theorem closes_still (hw : watchedFields (announcedNow s) = s.census.lastWatched) (ho : s.census.statusOwed = false)
    (hin : announcementInTx s = true) : closes s = settleAgreement (settleStartHold s) := by
  have hold : watchedFields (announcedNow (settleAgreement (settleStartHold s)))
        = (settleAgreement (settleStartHold s)).census.lastWatched
      ∧ (settleAgreement (settleStartHold s)).census.statusOwed = false
      ∧ announcementInTx (settleAgreement (settleStartHold s)) = true := by
    unfold settleStartHold
    split <;> exact ⟨hw, ho, hin⟩
  generalize hy : settleAgreement (settleStartHold s) = y at hold
  obtain ⟨same, owed, sending⟩ := hold
  have status : settleStatus y = y := if_pos ⟨same, owed⟩
  have due : settleDue y = y := if_neg (by simp [sending])
  rw [closes, hy, status, due]

/-- The quiet timer's expiry while the own ANNOUNCEMENT is in transmission (R178). -/
theorem quiet_waits {x : TxEntry} (hs : Drowsy s) (hp : s.power.state = .sleepPending) (ha : s.power.selfAbort = false)
    (hq : s.power.quietEnd = some q) (hr : sleepReady s = true) (hd : s.power.sleepDue = none)
    (jobs : AnnouncementsHaveJobs s) (hx : s.line.tx.find? (fun x => isAnnouncement x && x.inTx) = some x) :
    let n := advanceTo q s
    ∃ v, exec .sleepQuietTimerExpiry s = .next v ∧ Kept { n with power := { n.power with sleepDue := some x.age } } v
      ∧ (watchedFields (announcedNow n) = s.census.lastWatched → s.census.statusOwed = false → announcementWaits v = false) := by
  intro n
  let m : State := { n with power := { n.power with sleepDue := some x.age } }
  have tx : n.line.tx = s.line.tx := advanceTo_line_tx _ _
  have power : n.power = s.power := advanceTo_power _ _
  have sending : announcementInTx m = true := by
    have found := List.find?_some hx
    exact List.any_eq_true.2 ⟨x, by show x ∈ n.line.tx; rw [tx]; exact List.mem_of_find?_eq_some hx, found⟩
  have judged : quietOver n = withdrawAnnouncement m := by
    rw [quietOver, if_pos ⟨by rw [power, hp], sleepReady_later q hr, by rw [power, hd]⟩, announcementAge, tx, hx]
    rfl
  have drowsy : Drowsy (withdrawAnnouncement m) := (hs.advanceTo q).of_same rfl
  have stillIn := announcementInTx_withdrawn sending
  have waits : settle (withdrawAnnouncement m) = closes (withdrawAnnouncement m) :=
    settle_pending drowsy (by show n.power.selfAbort = false; rw [power, ha])
      (sleepReady_withdrawn (by exact sleepReady_later q hr)) fun _ _ => by simp [reportedForSleep, stillIn]
  have adds := adds_withdrawAnnouncement m
  refine ⟨_, (exec_quiet hs hq).trans (by rw [judged, waits]), kept_closes adds (by simp), fun same owed => ?_⟩
  have census : n.census = s.census := advanceTo_census _ _
  have ready : sleepReady (withdrawAnnouncement m) = sleepReady n :=
    (sleepReady_withdrawn (by exact sleepReady_later q hr)).trans (sleepReady_later q hr).symm
  have announced : announcedNow (withdrawAnnouncement m) = announcedNow n := by
    unfold announcedNow
    rw [ready]
    rfl
  have held : closes (withdrawAnnouncement m) = _ := closes_still (by rw [announced, same, ← census]; rfl)
    (by show n.census.statusOwed = false; rw [census, owed]) stillIn
  have line : (settleAgreement (settleStartHold (withdrawAnnouncement m))).line = (withdrawAnnouncement m).line := by
    unfold settleStartHold
    split <;> rfl
  rw [held, announcementWaits, line]
  exact announcementWaits_withdrawn (by intro y hy; exact jobs y (tx ▸ hy))

end

end Sys2Proof.Proofs.Sleeping
end

section
/-! What ends or goes on with a sleep that is pending (9.2, 9.3). -/

namespace Sys2Proof.Proofs.Sleeping

open Sys2Proof Sys2Proof.Machine Sys2Proof.Proofs.Steps Sys2Proof.Proofs.Invariants Sys2Proof.Proofs.KeyFrames
open Sys2Proof.Proofs.Ends Sys2Proof.Proofs.Glass Sys2Proof.Proofs.Delivery Sys2Proof.Proofs.Release Sys2Proof.Proofs.Intents
open Sys2Proof.Proofs.Crash Sys2Proof.Proofs.Arbiter Sys2Proof.Proofs.Touches Sys2Proof.Proofs.Census Sys2Proof.Proofs.Lines Sys2Proof.Proofs.Replies Sys2Proof.Proofs.Sending Sys2Proof.Proofs.Claims


section
variable {s t v : State} {us q d : Nat} {x y : TxEntry}

/-! ## The ANNOUNCEMENT that SLEEP waits for (R138 to R142, R178) -/

/-- A frame that SLEEP waits for is an ANNOUNCEMENT. -/
theorem sleepReady_announcement (h : sleepReady s = true) (hx : x ∈ s.line.tx) : isAnnouncement x = true := by
  simp only [sleepReady, Bool.and_eq_true] at h
  obtain ⟨⟨⟨⟨⟨_, all⟩, _⟩, _⟩, _⟩, _⟩ := h
  exact List.all_eq_true.1 all x hx

/-- What a sleep that is pending depends on at the end of a command. -/
structure Dozes (s t : State) : Prop where
  drowsy : Drowsy t
  pending : t.power.state = .sleepPending
  going : t.power.selfAbort = false
  ready : sleepReady t = true
  due : t.power.sleepDue = s.power.sleepDue

theorem enterSleepPending_pending (h : s.power.state = .sleepPending) : enterSleepPending s = s :=
  if_neg (by rw [h]; decide)

/-- An own ANNOUNCEMENT sent in SLEEP PENDING moves the agreement count and the quiet timer alone. -/
theorem announcementSent_pending (b : Bool) (h : t.power.state = .sleepPending) : ∃ (n : Nat) (e : Option Nat),
    announcementSent b t = { t with power := { t.power with agree := n, quietEnd := e } } := by
  unfold announcementSent
  split
  · split
    · exact ⟨_, _, rfl⟩
    · exact ⟨_, _, rfl⟩
  · unfold moveAgreement
    simp only
    rw [enterSleepPending_pending (by exact h), ite_self]
    exact ⟨_, _, rfl⟩

theorem reportSent_announcement (a : Announced) (n : Nat) (h : Dozes s t) :
    Dozes s (reportSent (.announcement a) n t) ∧ (reportSent (.announcement a) n t).line = t.line := by
  obtain ⟨agree, quiet, sent⟩ := announcementSent_pending (a.going == some true) (t := balanceRises t) h.pending
  have shape : reportSent (.announcement a) n t = { balanceRises t with
      power := { t.power with agree := agree, quietEnd := quiet } } := sent
  rw [shape]
  refine ⟨⟨h.drowsy.of_same rfl, h.pending, h.going, ?_, h.due⟩, rfl⟩
  have before := h.ready
  simp only [sleepReady, Bool.and_eq_true] at before ⊢
  exact ⟨before.1, rfl⟩

/-- The one frame in transmission, which SLEEP waits for, has been sent. -/
theorem finishFrame_dozes (h : Dozes s s) (htx : s.line.tx = [x]) (hx : x.inTx = true) (hrx : s.line.rx = []) :
    Dozes s (finishFrame s) ∧ (finishFrame s).line.tx = [] ∧ (finishFrame s).line.rx = [] := by
  have end_ := sendingEnd_alone htx hx
  have own := sleepReady_announcement h.ready (x := x) (by rw [htx]; exact List.mem_singleton.2 rfl)
  have later : sleepReady (sendingOver x s) = true := sleepReady_later _ h.ready
  have whole : Dozes s (sendingEnd x s) := by
    rw [end_]
    refine ⟨(h.drowsy.advanceTo _).of_same rfl, ?_, ?_, ?_, ?_⟩
    · exact (congrArg Power.state (advanceTo_power _ _)).trans h.pending
    · exact (congrArg Power.selfAbort (advanceTo_power _ _)).trans h.going
    · rw [← later]
      have all : (sendingOver x s).line.tx.all isAnnouncement = true := by
        rw [sendingOver, advanceTo_line_tx, htx]
        simp [own]
      simp only [sleepReady, all, List.all_nil]
      rfl
    · exact congrArg Power.sleepDue (advanceTo_power _ _)
  have line : (sendingEnd x s).line.tx = [] ∧ (sendingEnd x s).line.rx = [] := by
    refine ⟨by rw [end_], sendingEnd_rx.trans hrx⟩
  cases hj : x.jobless
  · rw [finishFrame_reported (inTx_alone htx hx) hj hrx]
    obtain ⟨a, ha⟩ : ∃ a, x.frame.payload = .announcement a := by
      unfold isAnnouncement at own
      split at own
      · exact ⟨_, ‹_›⟩
      · exact absurd own Bool.false_ne_true
    rw [ha]
    obtain ⟨dozes, same⟩ := reportSent_announcement a (sendingOver x s).now whole
    exact ⟨dozes, by rw [same]; exact line⟩
  · rw [finishFrame_jobless (inTx_alone htx hx) hj hrx]
    exact ⟨whole, line⟩

end

section
variable {s t v : State} {us q d : Nat} {x y : TxEntry}

theorem frameSent_sleeps (h : Dozes s s) (hd : s.power.sleepDue = some d) (htx : s.line.tx = [x]) (hx : x.inTx = true)
    (hrx : s.line.rx = []) :
    ∃ v, exec .frameSent s = .next v ∧ v.power.state = .sleep ∧ v.line.tx = [] := by
  obtain ⟨dozes, tx, rx⟩ := finishFrame_dozes h htx hx hrx
  have reported : reportedForSleep d (finishFrame s) = true := by
    simp [reportedForSleep, announcementInTx, tx, rx]
  have sleeps := settle_sleeps dozes.drowsy dozes.pending dozes.going dozes.ready (dozes.due.trans hd) reported
  refine ⟨_, whileAwake_drowsy h.drowsy _, ?_, ?_⟩
  · rw [sleeps]
    rfl
  · rw [sleeps]
    show (finishFrame s).line.tx.filter _ = []
    rw [tx]
    rfl

/-- A frame that waits again keeps SLEEP waiting. -/
theorem settle_dozes (h : Dozes s t) (hd : s.power.sleepDue = some d)
    (hx : t.line.tx.any (fun e => isAnnouncement e && e.age == d) = true) :
    settle t = closes t ∧ (closes t).power.state = .sleepPending ∧ (closes t).power.sleepDue = some d := by
  have q := closes_quiet t
  refine ⟨settle_pending h.drowsy h.going h.ready fun age hage => ?_, q.powerState.trans h.pending,
    (congrArg Power.sleepDue q.power :).trans (h.due.trans hd)⟩
  obtain rfl : age = d := Option.some.inj (hage.symm.trans (h.due.trans hd))
  simp [reportedForSleep, hx]

theorem arbitrationLoss_dozes (h : Dozes s s) (hd : s.power.sleepDue = some d) (htx : s.line.tx = [x]) (hage : x.age = d)
    (hx : x.inTx = true) : ∃ v, exec .arbitrationLoss s = .next v ∧ v.power.state = .sleepPending := by
  have own := sleepReady_announcement h.ready (x := x) (by rw [htx]; exact List.mem_singleton.2 rfl)
  have alone : superseded x s = false := by simp [superseded, announcementWaits, htx, hx]
  have lost : loseArbitration s = { s with line := { s.line with tx := [{ x with inTx := false }] } } := by
    unfold loseArbitration
    rw [inTx_alone htx hx]
    simp [alone, mapInTx, htx, hx]
  have dozes : Dozes s (loseArbitration s) := by
    rw [lost]
    refine ⟨h.drowsy.of_same rfl, h.pending, h.going, ?_, rfl⟩
    have waits : isAnnouncement { x with inTx := false } = true := own
    rw [← h.ready]
    simp only [sleepReady, htx, List.all_cons, waits, own]
    rfl
  have waits : (loseArbitration s).line.tx.any (fun e => isAnnouncement e && e.age == d) = true := by
    rw [lost]
    exact List.any_eq_true.2 ⟨_, List.mem_singleton.2 rfl, Bool.and_eq_true_iff.2 ⟨own, by simp [hage]⟩⟩
  obtain ⟨same, state, _⟩ := settle_dozes dozes hd waits
  exact ⟨_, whileAwake_drowsy h.drowsy _, by rw [same]; exact state⟩

/-! ## A newer ANNOUNCEMENT in the place of the one in transmission (R142, log 88) -/

/-- One own ANNOUNCEMENT of age `d` waits, alone. -/
def OneWaits (d : Nat) (s : State) : Prop :=
  ∃ y : TxEntry, s.line.tx = [y] ∧ isAnnouncement y = true ∧ y.inTx = false ∧ y.age = d

theorem OneWaits.waits (h : OneWaits d s) : announcementWaits s = true := by
  obtain ⟨y, tx, own, waiting, -⟩ := h
  simp [announcementWaits, tx, own, waiting]

theorem OneWaits.queueAnnouncement (h : OneWaits d s) : OneWaits d (queueAnnouncement s) := by
  have waits := h.waits
  obtain ⟨y, tx, own, waiting, age⟩ := h
  unfold Machine.queueAnnouncement
  simp only [waits, if_true]
  split
  · exact ⟨y, tx, own, waiting, age⟩
  · refine ⟨{ newEntry (announcementClass s) (.announcement (announcedNow s)) s with age := y.age }, ?_, rfl, rfl, age⟩
    unfold replaceAnnouncement
    simp only [tx, List.find?_cons, own, waiting, Bool.not_false, Bool.and_self, List.filter_cons, Bool.not_true,
      Bool.false_eq_true, if_false, List.filter_nil]
    rfl

theorem OneWaits.closes (h : OneWaits d s) : OneWaits d (closes s) := by
  have line : (settleAgreement (settleStartHold s)).line = s.line := by
    unfold settleStartHold
    split <;> rfl
  have hold : OneWaits d (settleAgreement (settleStartHold s)) := by
    unfold OneWaits
    rw [line]
    exact h
  have status : OneWaits d (settleStatus (settleAgreement (settleStartHold s))) := by
    unfold settleStatus
    split
    · exact hold
    · split
      · exact hold.queueAnnouncement
      · exact hold
  rw [Sleeping.closes, settleDue_waits status.waits]
  exact status

theorem supersede_dozes {n : Nat} {c : LineCondition} (h : Dozes s s) (hd : s.power.sleepDue = some x.age)
    (htx : s.line.tx = [x, y] ∨ s.line.tx = [y, x]) (hx : x.inTx = true) (hy : isAnnouncement y = true) (hw : y.inTx = false)
    (f : State → State)
    (hf : f s = { s with
      line := { s.line with tx := dropInTx s.line.tx, cond := c, freeAt := n }
      power := { s.power with sleepDue := if s.power.sleepDue = some x.age then waitingAge s else s.power.sleepDue } }) :
    ∃ v, whileAwake f s = .next v ∧ v.power.state = .sleepPending ∧ v.power.sleepDue = some y.age
      ∧ ∀ z ∈ v.line.tx, z.age = y.age := by
  have left : dropInTx s.line.tx = [y] := by rcases htx with e | e <;> simp [dropInTx, e, hx, hw]
  have age : waitingAge s = some y.age := by
    rcases htx with e | e <;> simp [waitingAge, e, hx, hy, hw]
  rw [left, if_pos hd, age] at hf
  have one : OneWaits y.age (f s) := ⟨y, by rw [hf], hy, hw, rfl⟩
  have dozes : Dozes { s with power := { s.power with sleepDue := some y.age } } (f s) := by
    rw [hf]
    refine ⟨h.drowsy.of_same rfl, h.pending, h.going, ?_, rfl⟩
    have ready := h.ready
    have all : s.line.tx.all isAnnouncement = true := List.all_eq_true.2 fun z hz => sleepReady_announcement ready hz
    rw [← ready]
    simp only [sleepReady, all, List.all_cons, hy]
    rfl
  have waits : (f s).line.tx.any (fun e => isAnnouncement e && e.age == y.age) = true := by
    rw [hf]
    simp [hy]
  obtain ⟨same, state, due⟩ := settle_dozes dozes rfl waits
  refine ⟨_, whileAwake_drowsy h.drowsy f, by rw [same]; exact state, by rw [same]; exact due, fun z hz => ?_⟩
  obtain ⟨w, tx, -, -, wage⟩ := one.closes
  rw [same, tx, List.mem_singleton] at hz
  rw [hz, wage]

end

end Sys2Proof.Proofs.Sleeping
end

section
/-! The way to sleep and its aborts (9.2, 9.3). -/

namespace Sys2Proof.Proofs.Sleeping

open Sys2Proof Sys2Proof.Machine Sys2Proof.Proofs.Steps Sys2Proof.Proofs.Invariants Sys2Proof.Proofs.KeyFrames
open Sys2Proof.Proofs.Ends Sys2Proof.Proofs.Glass Sys2Proof.Proofs.Delivery Sys2Proof.Proofs.Release Sys2Proof.Proofs.Intents
open Sys2Proof.Proofs.Crash Sys2Proof.Proofs.Arbiter Sys2Proof.Proofs.Touches Sys2Proof.Proofs.Census Sys2Proof.Proofs.Lines Sys2Proof.Proofs.Replies Sys2Proof.Proofs.Sending Sys2Proof.Proofs.Claims


section
variable {s v : State} {us q : Nat} {x y : TxEntry}

theorem inTx_either (htx : s.line.tx = [x, y] ∨ s.line.tx = [y, x]) (hx : x.inTx = true) (hw : y.inTx = false) :
    inTxEntry s = some x := by
  rcases htx with e | e <;> simp [inTxEntry, e, hx, hw]

theorem superseded_either (htx : s.line.tx = [x, y] ∨ s.line.tx = [y, x]) (ha : isAnnouncement x = true)
    (hy : isAnnouncement y = true) (hw : y.inTx = false) : superseded x s = true := by
  rcases htx with e | e <;> simp [superseded, announcementWaits, e, ha, hy, hw]

/-- A newer ANNOUNCEMENT takes over the report that SLEEP waits for (R142, log 88). -/
theorem superseded_sleeps (h : Dozes s s) (hd : s.power.sleepDue = some x.age)
    (htx : s.line.tx = [x, y] ∨ s.line.tx = [y, x]) (ha : isAnnouncement x = true) (hx : x.inTx = true)
    (hy : isAnnouncement y = true) (hw : y.inTx = false) :
    ∀ c ∈ [Instr.arbitrationLoss, .bitError], ∃ v, exec c s = .next v ∧ v.power.state = .sleepPending
      ∧ v.power.sleepDue = some y.age ∧ ∀ z ∈ v.line.tx, z.age = y.age := by
  have sending := inTx_either htx hx hw
  have newer := superseded_either htx ha hy hw
  intro c hc
  rcases List.mem_cons.1 hc with rfl | hc
  · refine supersede_dozes (n := s.line.freeAt) (c := s.line.cond) h hd htx hx hy hw loseArbitration ?_
    rw [loseArbitration, sending]
    exact if_pos newer
  · obtain rfl := List.mem_singleton.1 hc
    refine supersede_dozes (n := s.now + 560) (c := .busy) h hd htx hx hy hw meetBitError ?_
    rw [meetBitError, sending]
    exact if_pos newer

/-- The local-activity timer runs out: only the time passes (R173). -/
theorem localActivity_kept {e : Nat} (hs : Calm s) (he : s.power.localAt + 5000000 = e) :
    ∃ v, exec .localActivityTimeout s = .next v ∧ Kept (advanceTo e s) v := by
  have next : exec .localActivityTimeout s = whileAwake (fun t => advanceTo (t.power.localAt + 5000000) t) s := rfl
  rw [whileAwake_next hs, he] at next
  exact kept_of next (calm_advanceTo hs)

/-! ## Aborts (R135, R176, R177) -/

/-- The power manager once a sleep has aborted, the agreement count apart. -/
abbrev aborted (n : State) : State :=
  { n with power := { n.power with state := .run, quietEnd := none, going := false, sleepDue := none } }

/-- Sleep-ready has ceased to hold when the quiet timer expires. -/
theorem quiet_aborts (hs : Drowsy s) (hp : s.power.state = .sleepPending) (hq : s.power.quietEnd = some q)
    (hr : sleepReady (advanceTo q s) = false) (ok : s.line.state = .ok) (room : Roomy 4 s) :
    ∃ v, exec .sleepQuietTimerExpiry s = .next v ∧ Kept (aborted (advanceTo q s)) v ∧ v.line.tx.any isCensus = true := by
  have nothing : quietOver (advanceTo q s) = advanceTo q s := if_neg (by simp [hr])
  have aborts := settle_aborts (hs.advanceTo q) (by rw [advanceTo_power]; exact hp) (.inr hr)
  obtain ⟨kept, census⟩ := aborted_kept (m := advanceTo q s) (by rw [advanceTo_line_state]; exact ok)
    (by rw [Roomy, advanceTo_line_tx]; exact room) (e := (aborted (advanceTo q s)).power) rfl
  exact ⟨_, (exec_quiet hs hq).trans (by rw [nothing, aborts]), kept, census⟩

/-- A wake mark on the line (R176). -/
theorem mark_aborts (hs : Drowsy s) (hp : s.power.state = .sleepPending) (lo : 500 ≤ us) (hi : us ≤ 2000)
    (hin : inTxEntry s = none) (hc : s.line.cond ≠ .held) (ok : s.line.state = .ok) (room : Roomy 4 s) :
    let n := advance us s
    ∃ v, exec (.wakeMarkDetected us) s = .next v ∧ v.line.tx.any isCensus = true
      ∧ Kept (aborted { n with line := { n.line with cond := .busy, freeAt := freeAfterRun n, holdFrom := none } }) v := by
  intro n
  let m : State := { n with line := { n.line with cond := .busy, freeAt := freeAfterRun n, holdFrom := none } }
  have mark : isMark us = true := by simp [isMark, lo, hi]
  have reads : markRead us s = queueCensus (woken m) := by
    rw [markRead_short hin hc (by omega)]
    exact runEnds_wakes (by exact (congrArg Power.state (advanceTo_power _ _)).trans hp) mark
      ((advanceTo_line_state _ _).trans ok)
  have drowsy : Drowsy m := (hs.advanceTo _).of_same rfl
  have okM : m.line.state = .ok := (advanceTo_line_state _ _).trans ok
  have roomM : Roomy 4 m := by
    show n.line.tx.length + 4 ≤ 6
    rw [show n.line.tx = s.line.tx from advanceTo_line_tx _ _]
    exact room
  obtain ⟨kept, census⟩ := woken_kept drowsy (e := (aborted m).power) rfl
  exact ⟨_, (whileAwake_drowsy hs _).trans (by rw [reads]), census okM roomM, kept⟩

/-- The end of a wake mark that has been read as a hold (R136, R176). -/
theorem hold_aborts {h : Nat} (hs : Drowsy s) (hp : s.power.state = .sleepPending) (hh : s.line.holdFrom = some h)
    (hc : s.line.cond = .held) (lo : h + 500 ≤ s.now) (hi : s.now ≤ h + 2000) (ok : s.line.state = .ok) (room : Roomy 4 s) :
    ∃ v, exec .lineHoldEnd s = .next v ∧ v.line.tx.any isCensus = true
      ∧ Kept (aborted { s with line := { s.line with cond := .busy, freeAt := freeAfterRun s, holdFrom := none } }) v := by
  let m : State := { s with line := { s.line with cond := .busy, freeAt := freeAfterRun s, holdFrom := none } }
  have mark : isMark (s.now - h) = true := by
    simp only [isMark, Bool.and_eq_true, decide_eq_true_eq]
    omega
  have ends : holdEnds s = queueCensus (woken m) := by
    rw [holdEnds, if_pos hc, hh]
    exact runEnds_wakes (by exact hp) mark (by exact ok)
  obtain ⟨kept, census⟩ := woken_kept (m := m) (hs.of_same rfl) (e := (aborted m).power) rfl
  exact ⟨_, (whileAwake_drowsy hs _).trans (by rw [ends]), census ok room, kept⟩

end

/-- Settles O52: the way to sleep, and what aborts it. -/
theorem stationGoesToSleep : Obligations.StationGoesToSleep := by
  intro s us hreset hheld hanswer hrec hself howed
  refine ⟨fun run => ?_, fun pend => ?_⟩
  · have calm : Calm s := ⟨hreset, run, hheld, hanswer, fun r hr => absurd (hrec ▸ hr) (by simp)⟩
    exact ⟨localActivity_kept calm rfl,
      fun l hl ready ok room => loneTimer_sleeps calm howed (congrArg _ (Option.mem_def.1 hl)) ready ok room,
      fun hin hc ok => ⟨mark_ignored calm hin hc ok, mark_faults calm hin hc ok⟩⟩
  · intro aborts
    have drowsy : Drowsy s :=
      ⟨hreset, by simp [awake, pend], hheld, hanswer, fun r hr => absurd (hrec ▸ hr) (by simp), howed⟩
    have dozes (ready : sleepReady s = true) : Dozes s s := ⟨drowsy, pend, hself, ready, rfl⟩
    refine ⟨fun q hq ready due hin => quiet_sleeps drowsy pend hq ready due hin,
      fun q hq ready due jobs x hx => quiet_waits drowsy pend hself hq ready due jobs hx, fun d hd ready x htx hage hx hrx _ => ?_,
      fun d hd ready x y htx ha hage hx hy hw _ => ?_, fun q hq hr ok room => quiet_aborts drowsy pend hq hr ok room,
      fun lo hi hin hc ok room => mark_aborts drowsy pend lo hi hin hc ok room,
      fun h hh hc lo hi ok room => hold_aborts drowsy pend hh hc lo hi ok room⟩
    · exact ⟨frameSent_sleeps (dozes ready) hd htx hx hrx, arbitrationLoss_dozes (dozes ready) hd htx hage hx⟩
    · exact superseded_sleeps (dozes ready) (hage ▸ hd) htx ha hx hy hw

end Sys2Proof.Proofs.Sleeping
end

section
/-! The agreement on sleep (9.3). -/

namespace Sys2Proof.Proofs.Sleeping

open Sys2Proof Sys2Proof.Machine Sys2Proof.Proofs.Steps Sys2Proof.Proofs.Invariants Sys2Proof.Proofs.KeyFrames
open Sys2Proof.Proofs.Ends Sys2Proof.Proofs.Glass Sys2Proof.Proofs.Delivery Sys2Proof.Proofs.Release Sys2Proof.Proofs.Intents
open Sys2Proof.Proofs.Crash Sys2Proof.Proofs.Arbiter Sys2Proof.Proofs.Touches Sys2Proof.Proofs.Census Sys2Proof.Proofs.Lines Sys2Proof.Proofs.Replies Sys2Proof.Proofs.Sending Sys2Proof.Proofs.Claims


section
variable {s t m v : State} {x : TxEntry}

/-! ## The agreement count (R175) -/

/-- The agreement condition: sleep-ready, with some peer of the station `own` that is not LOST, and each such peer ready or silent on it. -/
def Agreed (own : Addr) (t : State) : Prop :=
  sleepReady t = true ∧ (∃ p : Addr, p ≠ own ∧ t.census.peers[p].presence ≠ .lost)
    ∧ ∀ p : Addr, p ≠ own →
      t.census.peers[p].presence = .lost ∨ ∃ st ∈ t.census.peers[p].status, st.ready ≠ some false

theorem mem_peerAddrs {p : Addr} : p ∈ peerAddrs s ↔ p ≠ s.addr := by
  simp [peerAddrs]

theorem peerAgrees_iff (p : Peer) :
    peerAgrees p = true ↔ p.presence = .lost ∨ ∃ st ∈ p.status, st.ready ≠ some false := by
  unfold peerAgrees
  cases h : p.status <;> simp

theorem agreement_iff {own : Addr} (h : t.addr = own) : agreement t = true ↔ Agreed own t := by
  subst h
  have lost : allLost t = false ↔ ∃ p : Addr, p ≠ t.addr ∧ t.census.peers[p].presence ≠ .lost := by
    rw [allLost, List.all_eq_false]
    simp only [mem_peerAddrs, beq_iff_eq, ne_eq]
  have agrees : ((peerAddrs t).all fun a => peerAgrees t.census.peers[a]) = true ↔ ∀ p : Addr, p ≠ t.addr →
      t.census.peers[p].presence = .lost ∨ ∃ st ∈ t.census.peers[p].status, st.ready ≠ some false := by
    rw [List.all_eq_true]
    simp only [mem_peerAddrs, peerAgrees_iff]
  rw [agreement, Bool.and_eq_true, Bool.and_eq_true, Bool.not_eq_true', lost, agrees, Agreed, and_assoc]

theorem notSent_agree (p : Payload) (s : State) : (notSent p s).power.agree = s.power.agree := by
  have lost : (claimLost s).power.agree = s.power.agree := by
    unfold claimLost
    split
    · rfl
    · split
      · rfl
      · split <;> rfl
      · rfl
  unfold notSent
  split
  · rfl
  · split
    · exact lost
    · rfl
  · split
    · exact lost
    · rfl
  · rfl
  · rfl
  · split <;> rfl
  · rfl

theorem tell_agree (e : TxEntry) (s : State) : (Machine.tell e s).power.agree = s.power.agree := by
  unfold Machine.tell
  split
  · rfl
  · exact notSent_agree _ s

theorem queueEntry_agree (e : TxEntry) (s : State) : (queueEntry e s).power.agree = s.power.agree := by
  unfold queueEntry
  split
  · exact tell_agree e s
  · split
    · rfl
    · split
      · exact tell_agree _ _
      · rfl

theorem queueAnnouncement_agree (s : State) : (queueAnnouncement s).power.agree = s.power.agree := by
  unfold queueAnnouncement
  simp only
  split
  · rfl
  · split
    · rfl
    · exact queueEntry_agree _ _

theorem queueCensus_agree (s : State) : (queueCensus s).power.agree = s.power.agree := by
  unfold queueCensus
  split
  · rfl
  · exact queueEntry_agree _ s

/-- The end of a command keeps the agreement count where the condition holds, and else sets it to 0. -/
theorem closes_agree (t : State) : (closes t).power.agree = if agreement t then t.power.agree else 0 := by
  have due (x : State) : (settleDue x).power.agree = x.power.agree := by
    unfold settleDue
    split
    · exact queueAnnouncement_agree x
    · rfl
  have status (x : State) : (settleStatus x).power.agree = x.power.agree := by
    unfold settleStatus
    split
    · rfl
    · split
      · exact queueAnnouncement_agree x
      · rfl
  rw [closes, due, status]
  unfold settleStartHold
  split <;> rfl

theorem closes_disagrees (h : t.power.agree = 0) : (closes t).power.agree = 0 := by rw [closes_agree, h, ite_self]

theorem settle_disagrees (hs : Calm t) (h : t.power.agree = 0) : (settle t).power.agree = 0 := by
  have census : (settleCensus t).power.agree = t.power.agree := by
    unfold settleCensus
    split
    · exact queueCensus_agree _
    · rfl
  rw [settle_calm t hs]
  exact closes_disagrees (census.trans h)

end

section
variable {s t m v : State} {x : TxEntry} {a : Announced}

/-! ## The own ANNOUNCEMENT (R159, R175, R176) -/

theorem announcement_data_length (a : Announced) : (Payload.announcement a).data.length = 8 := rfl

/-- A plain own ANNOUNCEMENT reported sent moves the agreement count. -/
theorem frameSent_moves (hs : Drowsy s) (htx : s.line.tx = [x]) (hx : x.inTx = true) (hj : x.jobless = false)
    (hp : x.frame.payload = .announcement a) (hrx : s.line.rx = []) (hm : balanceRises (sendingEnd x s) = m) :
    exec .frameSent s = .next (settle (announcementSent (a.going == some true) m)) := by
  have next : exec .frameSent s = .next (settle (finishFrame s)) := whileAwake_drowsy hs _
  rw [finishFrame_reported (inTx_alone htx hx) hj hrx, hp] at next
  rw [← hm]
  exact next

theorem drowsy_sent (hs : Drowsy s) : Drowsy (balanceRises (sendingEnd x s)) := by
  refine Drowsy.of_same (s := sendingOver x s) (hs.advanceTo _) rfl

/-- The agreement count at an own ANNOUNCEMENT sent: 0 where the condition fails, 1 at the first one (R175). -/
theorem moveAgreement_counts (hs : Drowsy m) (run : m.power.state = .run) (h : agreement m = false ∨ m.power.agree = 0) :
    Kept m (settle (moveAgreement m)) ∧ (settle (moveAgreement m)).power.agree = if agreement m then 1 else 0 := by
  let k : State := { m with power := { m.power with agree := if agreement m then 1 else 0 } }
  have count : (if agreement m then min 2 (m.power.agree + 1) else 0) = if agreement m then 1 else 0 := by
    rcases h with h | h
    · rw [h, if_neg Bool.false_ne_true, if_neg Bool.false_ne_true]
    · rw [h]
      rfl
  have moved : moveAgreement m = k := by
    rw [moveAgreement, count]
    exact if_neg (by split <;> decide)
  have drowsy : Drowsy k := hs.of_same rfl
  rw [moved, settle_run drowsy run, closes_agree]
  refine ⟨kept_power (m := k) (p := m.power) (kept_closes (.refl k) (by simp)) rfl, ?_⟩
  show (if agreement m then (if agreement m then 1 else 0) else 0) = _
  split <;> rfl

/-- The second own ANNOUNCEMENT sent under the agreement condition enters SLEEP PENDING (R175, R176). -/
theorem moveAgreement_sleeps (hs : Drowsy m) (run : m.power.state = .run) (ok : m.line.state = .ok) (room : Roomy 2 m)
    (ha : agreement m = true) (hn : 1 ≤ m.power.agree) {e : Power} (he : (pending m).power.fixed = e.fixed) :
    Kept { m with power := e } (settle (moveAgreement m)) ∧ announcementWaits (settle (moveAgreement m)) = true := by
  let k : State := { m with power := { m.power with agree := 2 } }
  have ready : sleepReady m = true := ((agreement_iff rfl).1 ha).1
  have count : (if agreement m then min 2 (m.power.agree + 1) else 0) = 2 := by
    rw [if_pos ha]
    omega
  have moved : moveAgreement m = enterSleepPending k := by
    rw [moveAgreement, count]
    rfl
  rw [moved]
  exact pending_kept (s := k) (hs.of_same rfl) run ready ok room he

/-- What the end of a command leaves of the line in LINE FAULT. -/
theorem closes_fault_line (h : s.line.state ≠ .ok) : (closes s).line = s.line := by
  have announcement (x : State) (hx : x.line = s.line) : (queueAnnouncement x).line = s.line := by
    have fault : inLineFault x = true := by simp [inLineFault, hx, h]
    unfold queueAnnouncement
    rw [fault, if_pos rfl]
    exact hx
  have hold : (settleAgreement (settleStartHold s)).line = s.line := by
    unfold settleStartHold
    split <;> rfl
  have status : (settleStatus (settleAgreement (settleStartHold s))).line = s.line := by
    unfold settleStatus
    split
    · exact hold
    · split
      · exact announcement _ hold
      · exact hold
  rw [closes, settleDue_fault (by rw [status]; exact h)]
  exact status

/-- The lone timer in LINE FAULT starts the quiet timer (R176). -/
theorem loneTimer_fault {e : Nat} (hs : Drowsy s) (run : s.power.state = .run)
    (he : s.power.loneFrom.map (· + 30000000) = some e) (hr : sleepReady s = true) (fault : s.line.state ≠ .ok) :
    let n := advanceTo e s
    ∃ v, exec .loneTimerExpiry s = .next v ∧ v.line.tx = s.line.tx
      ∧ Kept { n with power := { n.power with
          state := .sleepPending, going := true, sleepDue := none, quietEnd := some (n.now + 100000) } } v := by
  intro n
  let k : State := { pending n with power := { (pending n).power with quietEnd := some (n.now + 100000) } }
  have expiry : exec .loneTimerExpiry s
      = whileAwake (fun t => atTime (t.power.loneFrom.map (· + 30000000)) enterSleepPending t) s := rfl
  have faultN : n.line.state ≠ .ok := by rw [show n.line.state = s.line.state from advanceTo_line_state _ _]; exact fault
  have enters : enterSleepPending n = k := by
    rw [enterSleepPending, if_pos (by rw [advanceTo_power]; exact run)]
    exact if_pos (by simpa [inLineFault] using faultN)
  have next : exec .loneTimerExpiry s = .next (settle k) := by
    rw [expiry, whileAwake_drowsy hs, he]
    show Host.Outcome.next (settle (enterSleepPending n)) = _
    rw [enters]
  have waits : settle k = closes k := by
    refine settle_pending ⟨(hs.advanceTo e).unreset, rfl, (hs.advanceTo e).unheld, (hs.advanceTo e).unanswered,
      (hs.advanceTo e).noInterior, (hs.advanceTo e).unowed⟩ rfl (sleepReady_later e hr) fun age hage => absurd hage (by simp [k, pending])
  have kept := kept_power (m := k) (kept_closes (.refl k) (by simp)) (p := { n.power with
    state := .sleepPending, going := true, sleepDue := none, quietEnd := some (n.now + 100000) }) rfl
  refine ⟨_, next, ?_, by rw [waits]; exact kept⟩
  rw [waits, closes_fault_line (s := k) faultN]
  exact advanceTo_line_tx _ _

end

end Sys2Proof.Proofs.Sleeping
end

section
/-! What sends a pending sleep on or ends it (9.3). -/

namespace Sys2Proof.Proofs.Sleeping

open Sys2Proof Sys2Proof.Machine Sys2Proof.Proofs.Steps Sys2Proof.Proofs.Invariants Sys2Proof.Proofs.KeyFrames
open Sys2Proof.Proofs.Ends Sys2Proof.Proofs.Glass Sys2Proof.Proofs.Delivery Sys2Proof.Proofs.Release Sys2Proof.Proofs.Intents
open Sys2Proof.Proofs.Crash Sys2Proof.Proofs.Arbiter Sys2Proof.Proofs.Touches Sys2Proof.Proofs.Census Sys2Proof.Proofs.Lines Sys2Proof.Proofs.Replies Sys2Proof.Proofs.Sending Sys2Proof.Proofs.Claims


section
variable {s t m v a b : State} {x : TxEntry} {ps : List Payload} {ann : Announced}

/-! ## The going-to-sleep ANNOUNCEMENT (R176, R177) -/

/-- It starts the quiet timer when it has been sent. -/
theorem going_sent (h : Dozes s m) (hd : s.power.sleepDue = none) (hq : m.power.quietEnd = none) {p : Power}
    (hp : { m.power with quietEnd := some (m.now + 100000) } = p) :
    Kept { m with power := p } (settle (announcementSent true m)) := by
  let k : State := { m with power := { m.power with quietEnd := some (m.now + 100000) } }
  have starts : announcementSent true m = k := by
    rw [announcementSent, if_pos rfl]
    exact if_pos ⟨h.pending, hq⟩
  have waits : settle k = closes k :=
    settle_pending (h.drowsy.of_same rfl) h.going h.ready fun age hage => absurd hage (by
      show age ∉ m.power.sleepDue
      rw [h.due, hd]
      exact fun hn => by cases hn)
  rw [starts, waits, ← hp]
  exact kept_closes (.refl k) (by simp)

/-- Where it meets its 8th bit error, the sleep aborts itself. -/
theorem going_dropped (hs : Drowsy s) (hp : s.power.state = .sleepPending) (hq : s.power.quietEnd = none)
    (htx : s.line.tx = [x]) (hx : x.inTx = true) (hj : x.jobless = false) (ha : x.frame.payload = .announcement ann)
    (hg : ann.going = some true) (he : x.errors = 7) (hf : s.line.failures < 31) (ok : s.line.state = .ok) :
    ∃ v, exec .bitError s = .next v ∧ v.power.state = .run ∧ v.power.going = false ∧ v.power.agree = 0
      ∧ v.line.tx.any isCensus = true := by
  let k : State := failed [] s
  let m : State := { k with
    census := { k.census with
      waitingChange := k.census.waitingChange || decide (0 ≤ k.census.balance) || inLineFault k }
    power := { k.power with selfAbort := true } }
  have told : Machine.tell x k = m := by
    have aborts : (k.power.selfAbort || (k.power.state == .sleepPending && k.power.quietEnd.isNone
        && ann.going == some true)) = true := by
      have pend : k.power.state = .sleepPending := hp
      have quiet : k.power.quietEnd = none := hq
      simp [pend, quiet, hg]
    rw [Machine.tell, hj, if_neg Bool.false_ne_true, ha, notSent, aborts]
  have drops : meetBitError s = m := by
    rw [meetBitError_drops (before := []) (after := []) htx hx (by intro y hy; exact absurd hy (by simp)) (by omega),
      if_neg (by omega)]
    exact told
  have drowsy : Drowsy m := hs.of_same rfl
  have aborts : settle m = closes (queueCensus (woken m)) := settle_aborts drowsy hp (.inl rfl)
  obtain ⟨-, census⟩ := aborted_kept (m := m) ok (by show 0 + 4 ≤ 6; omega) (e := (woken m).power) rfl
  have q := (queueCensus_quiet (woken m)).trans (closes_quiet (queueCensus (woken m)))
  have next : exec .bitError s = .next (settle (meetBitError s)) := whileAwake_drowsy hs _
  rw [drops, aborts] at next
  exact ⟨_, next, q.powerState, (congrArg Power.going q.power :), closes_disagrees (queueCensus_agree _), census⟩

/-! ## A local input (R176, R177) -/

/-- The wake mark asked for on both sides. -/
theorem adds_marked (h : Adds ps a b) (w : Bool) : Adds ps { a with line := { a.line with markWanted := w } }
    { b with line := { b.line with markWanted := w } } where
  quiet := { h.quiet with line := congrArg (fun l : Line => { l with markWanted := w }) h.quiet.line }
  hold := h.hold
  unclaimed := h.unclaimed
  stage := h.stage
  gentle room := { h.gentle room with }
  queued := h.queued

/-- The local-activity timer restarted on both sides. -/
theorem adds_localAt (h : Adds ps a b) (n : Nat) : Adds ps { a with power := { a.power with localAt := n } }
    { b with power := { b.power with localAt := n } } where
  quiet := { h.quiet with power := congrArg (fun p : Power => { p with localAt := n }) h.quiet.power }
  hold := h.hold
  unclaimed := h.unclaimed
  stage := h.stage
  gentle room := { h.gentle room with }
  queued := h.queued

theorem reportless_wake (c : WakeCause) : Reportless (wakePayload c) := fun _ => rfl

/-- A sleep that a local input aborts (R177). -/
def woke (s : State) : State := { woken s with power := { (woken s).power with localAt := s.now } }

/-- A pull that moves nothing is a local input: it aborts the sleep with its mark, its WAKE and its CENSUS (R177). -/
theorem pull_aborts (hs : Drowsy s) (hp : s.power.state = .sleepPending) (hl : s.latch.lock = .deadlocked)
    (ok : s.line.state = .ok) (room : Roomy 4 s) :
    ∃ v, exec .innerHandlePull s = .next v
      ∧ Kept { woke s with line := { s.line with markWanted := true } } v ∧ v.power.agree = 0
      ∧ v.line.tx.any isCensus = true ∧ Queued (wakePayload .handle) v := by
  let m : State := { woke s with line := { s.line with markWanted := true } }
  let c : State := queueCensus (woken s)
  let b : State := queueFrame (wakePayload .handle) { c with line := { c.line with markWanted := true } }
  have fault : inLineFault s = false := by simp [inLineFault, ok]
  have cause : localCause .handle s = localInput b := by
    unfold localCause
    rw [hp]
    show localInput (abortSleep (some .handle) s) = _
    unfold abortSleep
    rw [if_pos hp]
    simp only [fault, Bool.false_eq_true, if_false]
    rfl
  obtain ⟨ps, few, census⟩ := adds_queueCensus (woken s)
  have adds : Adds (ps ++ [wakePayload .handle]) m (localInput b) := by
    have marked := (adds_marked census true).trans
      (adds_queueFrame { c with line := { c.line with markWanted := true } } rfl fun _ => reportless_wake .handle)
    have now : b.now = s.now := marked.quiet.now
    have shape : localInput b = { b with power := { b.power with localAt := s.now } } := by
      rw [← now]
      rfl
    rw [shape]
    exact adds_localAt marked s.now
  have lock : (localInput b).latch.lock = .deadlocked := (congrArg Latch.lock adds.quiet.latch).trans hl
  have pulls : innerPull (localInput b) = localInput b := if_pos (.inl lock)
  have next : exec .innerHandlePull s = .next (settle (localInput b)) := by
    have run : exec .innerHandlePull s = .next (settle (innerPull (localCause .handle s))) :=
      live_next (f := fun t => innerPull (localCause .handle t)) hs.unreset
    rw [run, cause, pulls]
  have calm : Calm m := ⟨hs.unreset, rfl, hs.unheld, hs.unanswered, hs.noInterior⟩
  have size : (ps ++ [wakePayload .handle]).length ≤ 2 := by simp; omega
  have roomM : Roomy 4 m := room
  have len : m.line.tx.length + 4 ≤ 6 := room
  have none_ : (localInput b).power.agree = 0 := by
    show (queueFrame _ _).power.agree = 0
    rw [show (queueFrame (wakePayload .handle) { c with line := { c.line with markWanted := true } }).power.agree
      = c.power.agree from queueEntry_agree _ _]
    exact queueCensus_agree _
  refine ⟨_, next, adds.kept_roomy calm (roomy_of_few size), settle_disagrees (adds.calm calm) none_, ?_,
    adds.queued_roomy calm ok (roomy_of_few size roomM) (List.mem_append_right _ (List.mem_singleton.2 rfl)) (by decide)⟩
  have first := census.gentle (by show m.line.tx.length + ps.length ≤ 6; omega)
  have firstLen : c.line.tx.length ≤ m.line.tx.length + ps.length := first.length
  obtain ⟨e, he, own⟩ := queueCensus_present (s := woken s) (by show m.line.tx.length < 6; omega) ok
  have second : Gentle 1 _ b := queueAs_gentle (wakePayload .handle).cls (wakePayload .handle)
    { c with line := { c.line with markWanted := true } } (by show c.line.tx.length < 6; omega) (first.state.trans ok)
  have all := (adds.gentle (by show m.line.tx.length + (ps ++ [wakePayload .handle]).length ≤ 6; omega)).length
  refine List.any_eq_true.2 ⟨e, (settle_two _ (adds.calm calm) (by omega)).stays e ?_ (isAnnouncement_census own), own⟩
  exact second.stays e he (isAnnouncement_census own)

/-- In LINE FAULT it aborts without a frame. -/
theorem pull_aborts_fault (hs : Drowsy s) (hp : s.power.state = .sleepPending) (hl : s.latch.lock = .deadlocked)
    (bad : s.line.state ≠ .ok) :
    ∃ v, exec .innerHandlePull s = .next v ∧ Kept (woke s) v ∧ v.line.tx = s.line.tx := by
  have fault : inLineFault s = true := by simpa [inLineFault] using bad
  have census : queueCensus (woken s) = woken s := by
    have same : inLineFault (woken s) = true := fault
    rw [queueCensus, same, Bool.true_or, if_pos rfl]
  have cause : localCause .handle s = woke s := by
    unfold localCause
    rw [hp]
    show localInput (abortSleep (some .handle) s) = _
    unfold abortSleep
    rw [if_pos hp]
    simp only [fault, if_true]
    exact congrArg localInput census
  have pulls : innerPull (woke s) = woke s := if_pos (.inl hl)
  have next : exec .innerHandlePull s = .next (settle (woke s)) := by
    have run : exec .innerHandlePull s = .next (settle (innerPull (localCause .handle s))) :=
      live_next (f := fun t => innerPull (localCause .handle t)) hs.unreset
    rw [run, cause, pulls]
  have calm : Calm (woke s) := ⟨hs.unreset, rfl, hs.unheld, hs.unanswered, hs.noInterior⟩
  exact ⟨_, next, settle_kept _ calm, congrArg Line.tx (settle_fault_line calm bad)⟩

end

end Sys2Proof.Proofs.Sleeping
end

section
/-! Frames delivered to a station that is going to sleep (9.3). -/

namespace Sys2Proof.Proofs.Sleeping

open Sys2Proof Sys2Proof.Machine Sys2Proof.Proofs.Steps Sys2Proof.Proofs.Invariants Sys2Proof.Proofs.KeyFrames
open Sys2Proof.Proofs.Ends Sys2Proof.Proofs.Glass Sys2Proof.Proofs.Delivery Sys2Proof.Proofs.Release Sys2Proof.Proofs.Intents
open Sys2Proof.Proofs.Crash Sys2Proof.Proofs.Arbiter Sys2Proof.Proofs.Touches Sys2Proof.Proofs.Census Sys2Proof.Proofs.Lines Sys2Proof.Proofs.Replies Sys2Proof.Proofs.Sending Sys2Proof.Proofs.Claims


section
variable {s t m v a b : State} {f : Frame} {e : Nat} {rest : List RxItem} {ann : Announced}

/-! ## Deliveries (R145, R175, R176) -/

theorem drowsy_received (hs : Drowsy s) : Drowsy (received f rest s) := by
  rw [received_eq]
  exact hs.of_same rfl

/-- The head frame taken by its block, whatever sleep is pending. -/
theorem delivery_drowsy {c : Instr} {is : Payload → Bool} {g : Frame → Nat → State → State} (hs : Drowsy s)
    (hh : Head f e rest s) (hc : exec c s = onDelivery is g s) (hk : is f.payload = true)
    (hm : heard f.origin (g f e (if frameAborts f.payload then abortSleep none (received f rest s) else received f rest s)) = m)
    (hrx : m.line.rx = rest) : exec c s = .next (settle m) := by
  have drained : drainReports m = m := drainReports_frames (by rw [hrx]; exact hh.2)
  have taken : takeHead is g s = drainReports m := by
    rw [takeHead, hh.1]
    simp only [hk, if_true]
    rw [← hm]
    rfl
  rw [hc, onDelivery, whileAwake_drowsy hs, taken, drained]

/-- A frame that counts as heard alone aborts the sleep, with the CENSUS queued (R176, R177). -/
theorem delivery_aborts {c : Instr} {is : Payload → Bool} (hs : Drowsy s) (hp : s.power.state = .sleepPending)
    (hh : Head f e rest s) (hc : exec c s = onDelivery is onlyHeard s) (hk : is f.payload = true)
    (hf : frameAborts f.payload = true) {p : Power} (he : (woken s).power.fixed = p.fixed) :
    ∃ v, exec c s = .next v ∧ Kept { afterHearing f rest s with power := p } v ∧ v.power.agree = 0
      ∧ (s.line.state = .ok → Roomy 4 s → v.line.tx.any isCensus = true) := by
  let w : State := woken (received f rest s)
  obtain ⟨ps, few, census⟩ := adds_queueCensus w
  have adds : Adds ps (heard f.origin w) (heard f.origin (queueCensus w)) := adds_heard census f.origin
  have calm : Calm (heard f.origin w) := heard_calm (woken_calm (drowsy_received hs))
  have line : w.line = { s.line with rx := rest } := received_line
  have rx : (heard f.origin (queueCensus w)).line.rx = rest := by
    rw [heard_line, show (queueCensus w).line.rx = w.line.rx from (congrArg Line.rx census.quiet.line :), line]
  have next : exec c s = .next (settle (heard f.origin (queueCensus w))) := by
    refine delivery_drowsy hs hh hc hk ?_ rx
    rw [if_pos hf, abortSleep_pending (by rw [received_power]; exact hp)]
    rfl
  have none_ : (heard f.origin (queueCensus w)).power.agree = 0 := by
    rw [heard_eq]
    exact queueCensus_agree w
  have whole : ({ heard f.origin w with power := p } : State) = { afterHearing f rest s with power := p } := by
    rw [afterHearing_eq, heard_eq, heard_eq]
    rfl
  have fixed : (heard f.origin w).power.fixed = p.fixed := by
    rw [← he, heard_eq]
    show (woken (received f rest s)).power.fixed = _
    rw [woken, received_power]
    rfl
  refine ⟨_, next, whole ▸ kept_power (adds.kept calm few) fixed, settle_disagrees (adds.calm calm) none_, fun ok room => ?_⟩
  have len : w.line.tx.length + 4 ≤ 6 := by rw [line]; exact room
  obtain ⟨x, hx, own⟩ := queueCensus_present (s := w) (by omega) (by rw [line]; exact ok)
  have first := (census.gentle (by omega)).length
  refine List.any_eq_true.2 ⟨x, (settle_two _ (adds.calm calm) (by rw [heard_line]; omega)).stays x ?_ (isAnnouncement_census own), own⟩
  rw [heard_line]
  exact hx

/-- The state that an ANNOUNCEMENT enters (R161, R94). -/
def statusHeard (ann : Announced) (f : Frame) (rest : List RxItem) (s : State) : State :=
  heard f.origin (setPeer f.origin (statusEntered ann) (relockHeard ann (received f rest s)))

theorem statusHeard_eq (ho : f.origin ≠ s.addr) : statusHeard ann f rest s = { afterHearing f rest s with
    census := { (afterHearing f rest s).census with
      peers := s.census.peers.set f.origin (heardAt s.now (statusEntered ann s.census.peers[f.origin])) }
    intent := { (afterHearing f rest s).intent with
      relock := if ann.latch = some .opened then none else s.intent.relock
      relockSpent := if ann.latch = some .opened then none else s.intent.relockSpent } } := by
  have same : heard f.origin (setPeer f.origin (statusEntered ann) (received f rest s)) = { afterHearing f rest s with
      census := { (afterHearing f rest s).census with
        peers := s.census.peers.set f.origin (heardAt s.now (statusEntered ann s.census.peers[f.origin])) } } :=
    heard_entered ho _ rfl
  have apart : statusHeard ann f rest s
      = relockHeard ann (heard f.origin (setPeer f.origin (statusEntered ann) (received f rest s))) := by
    rw [statusHeard, heard_eq, heard_eq]
    rfl
  obtain ⟨relock, spent⟩ := Census.received_relock (fr := f) (rest := rest) (s := s)
  have intent : (heard f.origin (received f rest s)).intent = (received f rest s).intent := by rw [heard_eq]
  rw [apart, same]
  exact relockHeard_eq ((congrArg Intents.relock intent).trans relock) ((congrArg Intents.relockSpent intent).trans spent)

theorem drowsy_status (hs : Drowsy s) : Drowsy (statusHeard ann f rest s) := by
  have base : Drowsy (relockHeard ann (received f rest s)) := (drowsy_received hs).of_same rfl
  rw [statusHeard, heard_eq]
  exact base.of_same rfl

theorem statusHeard_line : (statusHeard ann f rest s).line = { s.line with rx := rest } := by
  rw [statusHeard, heard_line]
  exact received_line

theorem statusHeard_power : (statusHeard ann f rest s).power = s.power := by
  rw [statusHeard, heard_eq]
  exact received_power

/-- An ANNOUNCEMENT of a station that goes to sleep, entered and then followed or not (R175). -/
theorem leaving_next (hs : Drowsy s) (hh : Head f e rest s) (hp : f.payload = .announcement ann)
    (hg : ann.going = some true) (hm : heard f.origin (followPeer (statusHeard ann f rest s)) = m) (hrx : m.line.rx = rest) :
    exec .announcement s = .next (settle m) := by
  refine delivery_drowsy (c := .announcement) (is := fun p => p.kind == 12) (g := takeAnnouncement) hs hh rfl (by rw [hp]; rfl) ?_ hrx
  have stays : frameAborts f.payload = false := by rw [hp]; simp [frameAborts, hg]
  have enters : hearAnnouncement f.origin ann (received f rest s)
      = setPeer f.origin (statusEntered ann) (relockHeard ann (received f rest s)) :=
    setPeer_relockHeard (drowsy_received hs).unheld
  rw [stays, if_neg Bool.false_ne_true, takeAnnouncement, hp, ← hm]
  simp only [hg, if_true, enters]
  rfl

end

section
variable {s t m v a b : State} {f : Frame} {e : Nat} {rest : List RxItem} {ann : Announced}

/-- A peer heard stays heard. -/
theorem heard_same {o : Addr} (h : heard o a = a) (hb : b.census.peers = a.census.peers) (now : b.now = a.now)
    (addr : b.addr = a.addr) : heard o b = b := by
  have peers : heardPeers o b.addr b.now b.census.peers = b.census.peers := by
    rw [hb, now, addr]
    rw [heard_eq] at h
    exact (congrArg (fun x : State => x.census.peers) h :)
  rw [heard_eq, peers]

theorem statusHeard_heard (ho : f.origin ≠ s.addr) : heard f.origin (statusHeard ann f rest s) = statusHeard ann f rest s := by
  refine heard_again ?_ _
  show f.origin ≠ (received f rest s).addr
  rw [received_addr]
  exact ho

/-- With the agreement count above 0 and the agreement condition, the station follows at once. -/
theorem leaving_followed (hs : Drowsy s) (run : s.power.state = .run) (hh : Head f e rest s)
    (hp : f.payload = .announcement ann) (hg : ann.going = some true) (ho : f.origin ≠ s.addr) (ok : s.line.state = .ok)
    (room : Roomy 2 s) (hn : 1 ≤ s.power.agree) (ha : agreement (statusHeard ann f rest s) = true)
    {p : Power} (he : (pending s).power.fixed = p.fixed) :
    ∃ v, exec .announcement s = .next v ∧ Kept { statusHeard ann f rest s with power := p } v ∧ announcementWaits v = true := by
  let y : State := statusHeard ann f rest s
  have line : y.line = { s.line with rx := rest } := statusHeard_line
  have power : y.power = s.power := statusHeard_power
  have okY : y.line.state = .ok := by rw [line]; exact ok
  have runY : y.power.state = .run := by rw [power]; exact run
  have follows : followPeer y = enterSleepPending y := if_pos ⟨by rw [power]; exact hn, ha⟩
  have roomY : Roomy 2 y := by rw [Roomy, line]; exact room
  have q : Quiet (pending y) (enterSleepPending y) := by
    rw [enterSleepPending_ok runY okY]
    exact queueAnnouncement_quiet _
  have same : heard f.origin (followPeer y) = enterSleepPending y := by
    rw [follows]
    exact heard_same (statusHeard_heard ho) (congrArg Census.peers q.census :) q.now q.addr
  have next := leaving_next hs hh hp hg same (by
    rw [show (enterSleepPending y).line.rx = (pending y).line.rx from (congrArg Line.rx q.line :)]
    show y.line.rx = rest
    rw [line])
  obtain ⟨kept, waits⟩ := pending_kept (drowsy_status hs) runY ((agreement_iff rfl).1 ha).1 okY roomY (e := p) (by
    rw [← he, pending, pending, power])
  exact ⟨_, next, kept, waits⟩

theorem leaving_entered (hs : Drowsy s) (hh : Head f e rest s) (hp : f.payload = .announcement ann)
    (hg : ann.going = some true) (ho : f.origin ≠ s.addr) (hf : followPeer (statusHeard ann f rest s) = statusHeard ann f rest s) :
    exec .announcement s = .next (settle (statusHeard ann f rest s)) := by
  refine leaving_next hs hh hp hg (by rw [hf, statusHeard_heard ho]) ?_
  rw [statusHeard_line]

theorem leaving_unfollowed (hs : Drowsy s) (run : s.power.state = .run) (hh : Head f e rest s)
    (hp : f.payload = .announcement ann) (hg : ann.going = some true) (ho : f.origin ≠ s.addr)
    (h : s.power.agree = 0 ∨ agreement (statusHeard ann f rest s) = false) :
    ∃ v, exec .announcement s = .next v ∧ Kept (statusHeard ann f rest s) v := by
  have power : (statusHeard ann f rest s).power = s.power := statusHeard_power
  have stays : followPeer (statusHeard ann f rest s) = statusHeard ann f rest s := by
    refine if_neg ?_
    rintro ⟨count, agrees⟩
    rcases h with h | h
    · rw [power, h] at count
      omega
    · rw [h] at agrees
      exact absurd agrees Bool.false_ne_true
  have next := leaving_entered hs hh hp hg ho stays
  have drowsy : Drowsy (statusHeard ann f rest s) := drowsy_status hs
  have calm : Calm (statusHeard ann f rest s) :=
    ⟨drowsy.unreset, by rw [power]; exact run, drowsy.unheld, drowsy.unanswered, drowsy.noInterior⟩
  exact ⟨_, next, settle_kept _ calm⟩

/-- In SLEEP PENDING such an ANNOUNCEMENT is entered, and the sleep goes on. -/
theorem leaving_dozes (hs : Drowsy s) (hp : s.power.state = .sleepPending) (hself : s.power.selfAbort = false)
    (hd : s.power.sleepDue = none) (hr : sleepReady s = true) (hh : Head f e rest s)
    (ha : f.payload = .announcement ann) (hg : ann.going = some true) (ho : f.origin ≠ s.addr) :
    ∃ v, exec .announcement s = .next v ∧ Kept (statusHeard ann f rest s) v := by
  have power : (statusHeard ann f rest s).power = s.power := statusHeard_power
  have stays : followPeer (statusHeard ann f rest s) = statusHeard ann f rest s := by
    unfold followPeer
    split
    · exact enterSleepPending_pending (by rw [power]; exact hp)
    · rfl
  have ready : sleepReady (statusHeard ann f rest s) = true := by
    rw [← hr, statusHeard_eq ho, afterHearing_eq, heard_eq, received_eq]
    rfl
  have waits : settle (statusHeard ann f rest s) = closes (statusHeard ann f rest s) :=
    settle_pending (drowsy_status hs) (by rw [power]; exact hself) ready fun age hage => absurd hage (by
      rw [power, hd]
      exact fun hn => by cases hn)
  refine ⟨_, leaving_entered hs hh ha hg ho stays, ?_⟩
  rw [waits]
  exact kept_closes (.refl _) (by simp)

end

end Sys2Proof.Proofs.Sleeping
end

section
/-! The agreement on sleep, followed and aborted (9.3). -/

namespace Sys2Proof.Proofs.Sleeping

open Sys2Proof Sys2Proof.Machine Sys2Proof.Proofs.Steps Sys2Proof.Proofs.Invariants Sys2Proof.Proofs.KeyFrames
open Sys2Proof.Proofs.Ends Sys2Proof.Proofs.Glass Sys2Proof.Proofs.Delivery Sys2Proof.Proofs.Release Sys2Proof.Proofs.Intents
open Sys2Proof.Proofs.Crash Sys2Proof.Proofs.Arbiter Sys2Proof.Proofs.Touches Sys2Proof.Proofs.Census Sys2Proof.Proofs.Lines Sys2Proof.Proofs.Replies Sys2Proof.Proofs.Sending Sys2Proof.Proofs.Claims


section
variable {s : State} {x : TxEntry} {ann : Announced}

/-- The line once an own ANNOUNCEMENT alone has been read back whole, as its report leaves the census unit (R140, R159). -/
theorem announcement_sent (htx : s.line.tx = [x]) (hx : x.inTx = true) (hp : x.frame.payload = .announcement ann) :
    balanceRises (sendingEnd x s) = { advanceTo (s.line.frameAt + 3000) s with
      line := { (advanceTo (s.line.frameAt + 3000) s).line with
        tx := [], cond := .busy, freeAt := (advanceTo (s.line.frameAt + 3000) s).now + 240, failures := 0, extEnd := none }
      census := { s.census with balance := min 4 (s.census.balance + 1), urgent := false, announced := true } } := by
  have time : sendingOver x s = advanceTo (s.line.frameAt + 3000) s := by
    rw [sendingOver, hp, announcement_data_length]
  have census : (sendingOver x s).census = s.census := advanceTo_census _ _
  rw [sendingEnd_alone htx hx, ← time, balanceRises]
  simp only [census]

end

/-- Settles O53: the agreement counted, followed and aborted, by own frames, local input and delivered frames. -/
theorem sleepIsAgreedFollowedAndAborted : Obligations.SleepIsAgreedFollowedAndAborted := by
  intro s x a f e rest hreset hheld hanswer hstage howed hself hdue agreed pend running m sent own t old entered leaving
  have entered_eq (ho : f.origin ≠ s.addr) : statusHeard a f rest s = entered := statusHeard_eq ho
  refine ⟨fun run => ?_, fun pending_ => ?_⟩
  · have drowsy : Drowsy s := ⟨hreset, by simp [awake, run], hheld, hanswer, hstage, howed⟩
    refine ⟨fun ⟨ok, htx, hx, hj, hp⟩ hg hrx => ?_, fun ⟨hh, hp, hg, ho⟩ ok room => ?_, fun l hl ready bad => ?_⟩
    · have shape : balanceRises (sendingEnd x s) = sent := announcement_sent htx hx hp
      have plain : (a.going == some true) = false := by simpa using hg
      have next := frameSent_moves drowsy htx hx hj hp hrx shape
      rw [plain] at next
      have dsent : Drowsy sent := shape ▸ drowsy_sent drowsy
      have power : sent.power = s.power := advanceTo_power _ _
      have runs : sent.power.state = .run := by rw [power, run]
      have addr : sent.addr = s.addr := advanceTo_addr _ _
      have oks : sent.line.state = .ok := (advanceTo_line_state _ _).trans ok
      refine ⟨fun ha hn => ?_, fun ha hn => ?_, fun ha => ?_⟩
      · obtain ⟨kept, count⟩ := moveAgreement_counts dsent runs (.inr (by rw [power, hn]))
        exact ⟨_, next, kept, count.trans (if_pos ((agreement_iff addr).2 ha))⟩
      · obtain ⟨kept, waits⟩ := moveAgreement_sleeps dsent runs oks (by show 0 + 2 ≤ 6; omega) ((agreement_iff addr).2 ha)
          (by rw [power]; exact hn) (e := (pend sent).power) rfl
        exact ⟨_, next, kept, waits⟩
      · have fails : agreement sent = false := Bool.eq_false_iff.2 fun h => ha ((agreement_iff addr).1 h)
        obtain ⟨kept, count⟩ := moveAgreement_counts dsent runs (.inl fails)
        exact ⟨_, next, kept, count.trans (if_neg (by rw [fails]; exact Bool.false_ne_true))⟩
    · have same := entered_eq ho
      have power : entered.power = s.power := by rw [← same]; exact statusHeard_power
      have addr : entered.addr = s.addr := by
        show (afterHearing f rest s).addr = s.addr
        rw [afterHearing_eq, heard_eq, received_addr]
      refine ⟨fun hn ha => ?_, fun h => ?_⟩
      · have two : Roomy 2 s := by have : s.line.tx.length + 4 ≤ 6 := room; show s.line.tx.length + 2 ≤ 6; omega
        have followed := leaving_followed drowsy run hh hp hg ho ok two hn (by rw [same]; exact (agreement_iff addr).2 ha)
          (p := (pend entered).power) (by
            show _ = ({ entered.power with
              state := .sleepPending, going := true, sleepDue := none, quietEnd := none } : Power).fixed
            rw [power]
            rfl)
        rw [same] at followed
        exact followed
      · have unfollowed := leaving_unfollowed drowsy run hh hp hg ho (h.imp_right fun ha => by
          rw [same]
          exact Bool.eq_false_iff.2 fun h => ha ((agreement_iff addr).1 h))
        rw [same] at unfollowed
        exact unfollowed
    · have quiets {e : Nat} (he : s.power.loneFrom.map (· + 30000000) = some e) :
          let n := advanceTo e s
          ∃ v, exec .loneTimerExpiry s = .next v ∧ v.line.tx = s.line.tx
            ∧ Kept { pend n with power := { (pend n).power with quietEnd := some (n.now + 100000) } } v :=
        loneTimer_fault drowsy run he ready bad
      exact quiets (congrArg (Option.map (· + 30000000)) (Option.mem_def.1 hl))
  · have drowsy : Drowsy s := ⟨hreset, by simp [awake, pending_], hheld, hanswer, hstage, howed⟩
    refine ⟨fun ⟨ok, htx, hx, hj, hp⟩ hg hq => ⟨fun hrx ready => ?_, fun he hf => ?_⟩, fun hl => ?_, fun hh hk => ?_,
      fun ⟨hh, hp, hg, ho⟩ ready => ?_⟩
    · have shape : balanceRises (sendingEnd x s) = sent := announcement_sent htx hx hp
      have next := frameSent_moves drowsy htx hx hj hp hrx shape
      rw [hg, beq_self_eq_true] at next
      have dsent : Drowsy sent := shape ▸ drowsy_sent drowsy
      have power : sent.power = s.power := advanceTo_power _ _
      have dozes : Dozes s sent := ⟨dsent, by rw [power, pending_], by rw [power, hself], ready, by rw [power]⟩
      exact ⟨_, next, going_sent dozes hdue (by rw [power, hq]) (by rw [power])⟩
    · exact going_dropped drowsy pending_ hq htx hx hj hp hg he hf ok
    · intro aborted
      refine ⟨fun ok room => ?_, fun bad => ?_⟩
      · obtain ⟨v, next, kept, agree, census, wake⟩ := pull_aborts drowsy pending_ hl ok room
        exact ⟨v, next, kept_power kept rfl, agree, census, wake⟩
      · obtain ⟨v, next, kept, tx⟩ := pull_aborts_fault drowsy pending_ hl bad
        exact ⟨v, next, kept_power (m := woke s) (p := aborted.power) kept rfl, tx⟩
    · have aborts : frameAborts f.payload = true := by
        unfold frameAborts
        split
        · rename_i hp
          simp [hp, Payload.kind] at hk
        · rfl
      have heards {c : Instr} {is : Payload → Bool} (hc : exec c s = onDelivery is onlyHeard s) (hi : is f.payload = true) :
          ∃ v, exec c s = .next v ∧ Kept (running t) v ∧ v.power.agree = 0
            ∧ (s.line.state = .ok → Roomy 4 s → v.line.tx.any isCensus = true) := by
        have power : t.power = s.power := by
          show (afterHearing f rest s).power = s.power
          rw [afterHearing_eq, heard_eq]
          exact received_power
        refine delivery_aborts drowsy pending_ hh hc hi aborts (p := (running t).power) ?_
        show _ = ({ t.power with state := .run, going := false, sleepDue := none, quietEnd := none } : Power).fixed
        rw [power]
        rfl
      intro c
      rcases hk with k | k | k | k | k
      · have kind : c = .windowReport := by simp only [c, k]
        rw [kind]
        exact heards rfl (by simp [k])
      · have kind : c = .faultNotice := by simp only [c, k]
        rw [kind]
        exact heards rfl (by simp [k])
      · have kind : c = .intentOutcome := by simp only [c, k]
        rw [kind]
        exact heards rfl (by simp [k])
      · have kind : c = .wake := by simp only [c, k]
        rw [kind]
        exact heards rfl (by simp [k])
      · have kind : c = .serviceReply := by simp only [c, k]
        rw [kind]
        exact heards rfl (by simp [k])
    · have dozes := leaving_dozes drowsy pending_ hself hdue ready hh hp hg ho
      rw [entered_eq ho] at dozes
      exact dozes

end Sys2Proof.Proofs.Sleeping
end

section
/-! The issue of a prepared intent (4.3, 4.7, 4.8). -/

namespace Sys2Proof.Proofs.Issuing

open Sys2Proof Sys2Proof.Machine Sys2Proof.Proofs.Steps Sys2Proof.Proofs.Invariants Sys2Proof.Proofs.KeyFrames
open Sys2Proof.Proofs.Ends Sys2Proof.Proofs.Glass Sys2Proof.Proofs.Delivery Sys2Proof.Proofs.Release Sys2Proof.Proofs.Intents
open Sys2Proof.Proofs.Crash Sys2Proof.Proofs.Arbiter Sys2Proof.Proofs.Touches Sys2Proof.Proofs.Claims


section
variable {s x : State} {p : Prepared} {e : OpenEntry} {t : Tag} {l : List OpenEntry} {f : Payload}

/-! ## The entry of an issued intent (R75, R76) -/

theorem freeTag_self (n : Nat) (h15 : t ≠ 15) (hf : ∀ e ∈ l, e.tag ≠ t) : freeTag l n t = t := by
  cases n with
  | zero => rfl
  | succ n =>
    refine if_neg ?_
    rintro (h | h)
    · exact h15 h
    · obtain ⟨e, he, ht⟩ := List.any_eq_true.1 h
      exact hf e he (by simpa using ht)

/-- Where the tag counter's value is free, the entry takes it. -/
theorem openEntryOf_tag (p : Prepared) (h15 : s.intent.nextTag ≠ 15) (hf : ∀ e ∈ s.intent.table, e.tag ≠ s.intent.nextTag) :
    (openEntryOf p s).tag = s.intent.nextTag := freeTag_self 16 h15 hf

theorem find_last (hf : ∀ y ∈ l, y.tag ≠ e.tag) (ht : e.tag = t) : (l ++ [e]).find? (fun y => y.tag == t) = some e := by
  subst ht
  rw [List.find?_append, List.find?_eq_none.2 fun y hy => by simpa using hf y hy]
  simp

theorem map_last (hf : ∀ y ∈ l, y.tag ≠ e.tag) (z : OpenEntry) :
    (l ++ [e]).map (fun y => if y.tag = e.tag then z else y) = l ++ [z] := by
  have kept : l.map (fun y => if y.tag = e.tag then z else y) = l :=
    (List.map_congr_left fun y hy => if_neg (hf y hy)).trans (List.map_id' l)
  rw [List.map_append, kept]
  simp

theorem putEntry_last {z : OpenEntry} (ht : s.intent.table = l ++ [e]) (hf : ∀ y ∈ l, y.tag ≠ e.tag) (hz : z.tag = e.tag) :
    putEntry z s = { s with intent := { s.intent with table := l ++ [z] } } := by
  unfold putEntry
  rw [hz, ht, map_last hf]

/-! ## The frame, as a change of the line alone -/

/-- The line once a frame of the station `a` has joined a queue with room (R141). -/
def joined (f : Payload) (a : Addr) (l : Line) : Line :=
  { l with
    tx := insertTx { frame := { cls := f.cls, origin := a, payload := f }, age := l.nextAge, errors := 0, inTx := false } l.tx
    nextAge := l.nextAge + 1 }

theorem queueFrame_joined (room : s.line.tx.length < 6) (ok : s.line.state = .ok) :
    queueFrame f s = { s with line := joined f s.addr s.line } := queueAs_room _ f s room ok

/-! ## Auto-relock and the press memory at a plain issue (R90, R94) -/

theorem seePress_plain {k : IntentKind} (hk : k ≠ .windowsStop) (ts : Stations) (c : Cause) : seePress k ts c none s = s :=
  if_neg hk

theorem relockIssues_cancels (hf : e.kind.family = .latch) (hh : s.intent.held = none)
    (hc : e.kind = .unlock → e.cause = .fob ∨ e.cause = .passive → s.cfg.relockS = 0) :
    relockIssues e s = { s with intent := { s.intent with relock := none, relockSpent := none } } := by
  unfold relockIssues
  rw [if_pos hf, Census.cancelRelock_none hh]
  refine if_neg ?_
  rintro ⟨hk, hcause, hr⟩
  exact hr (hc hk hcause)

theorem relockIssues_other (hf : e.kind.family ≠ .latch) : relockIssues e s = s := if_neg hf

/-! ## The own application (R75, R80) -/

/-- A LOCK or UNLOCK of this station with a key above the last-applied one. -/
theorem applyOwn_locks {lock : LockState} (hin : inSet s.addr e.targets = true) (hcrash : s.latch.crashEnd = none)
    (hk : e.kind = .lock ∧ lock = .locked ∨ e.kind = .unlock ∧ lock = .unlocked)
    (hkey : epochLater e.epoch s.intent.keyLatch.epoch = true) (hseq : s.latch.seq = .idle)
    (ho : s.pins.outerHandle = false) (he : entryOf e.tag s = some e) :
    applyOwn e s = putEntry (setResult s.addr .applied e) (locked lock (keyed .latch { epoch := e.epoch, origin := s.addr } s)) := by
  generalize hkey' : ({ epoch := e.epoch, origin := s.addr } : OrderKey) = key
  have latch : e.kind.family = .latch := by rcases hk with ⟨h, -⟩ | ⟨h, -⟩ <;> rw [h] <;> rfl
  have higher : keyHigher key (lastKey e.kind.family s.intent) = true := by
    rw [latch]
    rw [← hkey']
    show (epochLater e.epoch s.intent.keyLatch.epoch || _) = true
    rw [hkey, Bool.true_or]
  have applies : applyKind e.kind (keyed e.kind.family key s) = (none, locked lock (keyed .latch key s)) := by
    have sets : setLock lock (keyed .latch key s) = locked lock (keyed .latch key s) :=
      setLock_locked (by show s.latch.seq ≠ _; rw [hseq]; decide) (.inl ho)
    rw [latch, ← sets]
    rcases hk with ⟨h, rfl⟩ | ⟨h, rfl⟩ <;> rw [h] <;> rfl
  have decided : decideIntent e.kind key s = (.applied, none, locked lock (keyed .latch key s)) :=
    decide_applied (fun h => by simp [CrashBars, crashHold, hcrash] at h) higher applies
  have found : entryOf e.tag (locked lock (keyed .latch key s)) = some e := by
    rw [locked_eq]
    exact he
  unfold applyOwn
  rw [if_pos hin]
  simp only [hkey', decided, found]

theorem applyOwn_other (hin : inSet s.addr e.targets = false) : applyOwn e s = s := if_neg (by simp [hin])

theorem closeIfDone_pending (he : entryOf t s = some e) (hp : e.pending ≠ 0#5) : closeIfDone t s = s := by
  unfold closeIfDone
  rw [he]
  exact if_neg hp

end

section
variable {s : State} {k : IntentKind} {lock : LockState} {c : Cause} {ts : Stations} {e : OpenEntry}

/-! ## Plain issues (R75 to R78, R93, R94) -/

/-- The state that an intent opens with the entry `e`, before its frame (R75). -/
def opened (e : OpenEntry) (s : State) : State :=
  { s with intent := { s.intent with
    epoch := s.intent.epoch + 1, nextTag := s.intent.nextTag + 1, table := s.intent.table ++ [e] } }

/-- The state that a LOCK or UNLOCK of this station leaves, before its frame. -/
def lockedBy (lock : LockState) (e : OpenEntry) (s : State) : State :=
  queueRecord .latchState { opened e s with
    latch := { s.latch with lock := lock }
    intent := { (opened e s).intent with
      relock := none, relockSpent := none, keyLatch := { epoch := s.intent.epoch + 1, origin := s.addr } } }

/-- What an issue needs of the tag counter and the table (R76). -/
structure TagReady (s : State) : Prop where
  given : s.intent.nextTag ≠ 15
  fresh : ∀ e ∈ s.intent.table, e.tag ≠ s.intent.nextTag

theorem issue_locks (room : s.line.tx.length < 6) (ok : s.line.state = .ok) (hheld : s.intent.held = none)
    (hcrash : s.latch.crashEnd = none) (hseq : s.latch.seq = .idle) (ho : s.pins.outerHandle = false)
    (ht : TagReady s) (hkey : epochLater (s.intent.epoch + 1) s.intent.keyLatch.epoch = true)
    (hin : inSet s.addr ts = true) (hk : k = .lock ∧ lock = .locked ∨ k = .unlock ∧ lock = .unlocked)
    (hc : c ≠ .fob ∧ c ≠ .passive) (hlock : s.latch.lock ≠ lock)
    (he : openEntryOf (prepared k ts c none) s = e) (hp : (setResult s.addr .applied e).pending ≠ 0#5) :
    issue (prepared k ts c none) s = queueFrame (intentPayload e) (lockedBy lock (setResult s.addr .applied e) s) := by
  have tag : e.tag = s.intent.nextTag := by rw [← he]; exact openEntryOf_tag _ ht.given ht.fresh
  have epoch : e.epoch = s.intent.epoch + 1 := by rw [← he]; rfl
  have kind : e.kind = k := by rw [← he]; rfl
  have cause : e.cause = c := by rw [← he]; rfl
  have targets : e.targets = ts := by rw [← he]; rfl
  have latch : e.kind.family = .latch := by rw [kind]; rcases hk with ⟨h, -⟩ | ⟨h, -⟩ <;> rw [h] <;> rfl
  let w : State := { opened e s with intent := { (opened e s).intent with relock := none, relockSpent := none } }
  let L : Line := joined (intentPayload e) s.addr s.line
  have announced : announcedIntent (prepared k ts c none) s = { w with line := L } := by
    have opens : openedIntent (prepared k ts c none) s = opened e s := by
      unfold openedIntent
      rw [he, epoch, tag]
      rfl
    have cancels : relockIssues e (opened e s) = w :=
      relockIssues_cancels latch hheld fun _ h => absurd h (by rw [cause]; exact fun h => h.elim hc.1 hc.2)
    unfold announcedIntent
    rw [opens, he, cancels]
    show queueFrame (intentPayload e) (seePress k ts c none w) = _
    rw [seePress_plain (by rcases hk with ⟨h, -⟩ | ⟨h, -⟩ <;> rw [h] <;> decide), queueFrame_joined (s := w) room ok]
    rfl
  have fresh : ∀ y ∈ s.intent.table, y.tag ≠ e.tag := by rw [tag]; exact ht.fresh
  have applied := applyOwn_locks (s := { w with line := L }) (e := e) (lock := lock) (by rw [targets]; exact hin) hcrash
    (by rw [kind]; exact hk) (by rw [epoch]; exact hkey) hseq ho (find_last fresh rfl)
  have tagged : (setResult s.addr .applied e).tag = e.tag := setResult_tag _
  have whole : applyOwn e { w with line := L } = { lockedBy lock (setResult s.addr .applied e) s with line := L } := by
    refine applied.trans ((putEntry_last (l := s.intent.table) (e := e) ?_ fresh tagged).trans ?_)
    · rw [locked_eq]
      rfl
    · rw [locked_eq, if_neg (by exact hlock), lockedBy, queueRecord_eq, epoch]
      rfl
  have found : entryOf e.tag ({ lockedBy lock (setResult s.addr .applied e) s with line := L } : State)
      = some (setResult s.addr .applied e) := by
    rw [lockedBy, queueRecord_eq]
    exact find_last (fun y hy => by rw [tagged]; exact fresh y hy) tagged
  rw [issue_eq, he, announced, whole, closeIfDone_pending found hp, queueFrame_joined]
  · rw [lockedBy, queueRecord_eq]
    rfl
  · rw [lockedBy, queueRecord_eq]
    exact room
  · rw [lockedBy, queueRecord_eq]
    exact ok

end

section
variable {s m : State} {k : IntentKind} {lock : LockState} {c : Cause} {ts : Stations} {e : OpenEntry} {i : Instr}

theorem lockedBy_calm (hs : Calm s) : Calm (lockedBy lock e s) := calm_queueRecord (calm_of_same hs (by rfl))

/-- An intent of a family that this station does not carry out. -/
theorem issue_other (room : s.line.tx.length < 6) (ok : s.line.state = .ok) (ht : TagReady s) (hin : inSet s.addr ts = false)
    (hk : k.family = .child) (he : openEntryOf (prepared k ts c none) s = e) (hp : e.pending ≠ 0#5) :
    issue (prepared k ts c none) s = queueFrame (intentPayload e) (opened e s) := by
  have tag : e.tag = s.intent.nextTag := by rw [← he]; exact openEntryOf_tag _ ht.given ht.fresh
  have epoch : e.epoch = s.intent.epoch + 1 := by rw [← he]; rfl
  have kind : e.kind = k := by rw [← he]; rfl
  have targets : e.targets = ts := by rw [← he]; rfl
  have announced : announcedIntent (prepared k ts c none) s = queueFrame (intentPayload e) (opened e s) := by
    have opens : openedIntent (prepared k ts c none) s = opened e s := by
      unfold openedIntent
      rw [he, epoch, tag]
      rfl
    unfold announcedIntent
    rw [opens, he, relockIssues_other (by rw [kind, hk]; decide)]
    exact congrArg _ (seePress_plain (by rintro rfl; cases hk) ts c)
  have line : queueFrame (intentPayload e) (opened e s) = { opened e s with line := joined (intentPayload e) s.addr s.line } :=
    queueFrame_joined room ok
  have found : entryOf e.tag (queueFrame (intentPayload e) (opened e s)) = some e := by
    rw [line]
    exact find_last (fun y hy => by rw [tag]; exact ht.fresh y hy) rfl
  have own : applyOwn e (queueFrame (intentPayload e) (opened e s)) = queueFrame (intentPayload e) (opened e s) := by
    refine applyOwn_other ?_
    rw [line, targets]
    exact hin
  rw [issue_eq, he, announced, own, closeIfDone_pending found hp]

theorem prepare_issues {p : Prepared} (ok : s.line.state = .ok) (hstart : s.intent.startHold = none)
    (hlen : s.intent.table.length < 4) : prepare p s = issue p s := by
  unfold prepare
  rw [if_neg (by simp [inLineFault, ok]), if_pos (by simp [mayIssue, hstart, hlen])]

/-- A command that leaves `m` with one intent queued. -/
theorem issued_kept (next : exec i s = .next (settle (queueFrame (intentPayload e) m))) (hm : Calm m)
    (ok : m.line.state = .ok) (room : Roomy 4 m) :
    ∃ v, exec i s = .next v ∧ Kept m v ∧ Queued (intentPayload e) v := by
  have adds : Adds [intentPayload e] m (queueFrame (intentPayload e) m) :=
    adds_queueFrame m rfl fun bad => absurd ok bad
  exact ⟨_, next, adds.kept hm (by simp), adds.queuedAtEnd hm (by simp) ok room (List.mem_singleton.2 rfl) (intentPayload_kind e)⟩

end

end Sys2Proof.Proofs.Issuing
end

section
/-! Inputs that map to an intent (4.3, 4.7, 4.8). -/

namespace Sys2Proof.Proofs.Issuing

open Sys2Proof Sys2Proof.Machine Sys2Proof.Proofs.Steps Sys2Proof.Proofs.Invariants Sys2Proof.Proofs.KeyFrames
open Sys2Proof.Proofs.Ends Sys2Proof.Proofs.Glass Sys2Proof.Proofs.Delivery Sys2Proof.Proofs.Release Sys2Proof.Proofs.Intents
open Sys2Proof.Proofs.Crash Sys2Proof.Proofs.Arbiter Sys2Proof.Proofs.Touches Sys2Proof.Proofs.Claims


section
variable {s n : State} {k : IntentKind} {lock : LockState} {c : Cause} {i : Instr}

/-! ## An intent that has to be held (R75, R77) -/

theorem settle_blocked {p : Prepared} (hs : Calm s) (hfull : 4 ≤ s.intent.table.length) :
    settle { s with intent := { s.intent with held := some p } }
      = Claims.ended { s with intent := { s.intent with held := some p } } := by
  let t : State := { s with intent := { s.intent with held := some p } }
  have drop : takeDropAnswer t = t := by
    obtain ⟨-, -, -, hdrop, -⟩ := hs
    simp [takeDropAnswer, t, hdrop]
  have up : (awake t && t.power.heldSince.isNone) = true := by simp [t, awake, hs.1, hs.2.1]
  have q := settleCensus_quiet t
  have interior : settleInterior (settleCensus t) = settleCensus t := by
    have stage : NoInterior (settleCensus t) := by
      have free : NoInterior { t with census := { t.census with censusOwed := false } } := hs.2.2.2.2
      unfold settleCensus
      split
      · exact queueCensus_noInterior free
      · exact hs.2.2.2.2
    unfold settleInterior
    split
    · rename_i r hr
      exact if_neg (by simp [interiorDue, stage r hr])
    · rfl
  have run : (settleCensus t).power.state = .run := q.powerState.trans hs.2.1
  have sleep : settleSleep (settleCensus t) = settleCensus t := if_neg (by rw [run]; decide)
  have start := settleStartHold_quiet (settleCensus t)
  have full : mayIssue (settleStartHold (settleCensus t)) = false := by
    have len := congrArg List.length (start.table.trans q.table)
    simp only [List.length_map] at len
    have same : t.intent.table.length = s.intent.table.length := rfl
    simp [mayIssue, len, same, hfull]
  have blocked : issueHeld (settleStartHold (settleCensus t)) = settleStartHold (settleCensus t) := by
    unfold issueHeld
    rw [full]
    split
    · exact if_neg (by simp)
    · rfl
  have up' : awake (settleCensus t) = true := by rw [awake, run]; rfl
  show settle t = _
  unfold settle
  simp only [up, drop, interior, sleep, up', if_true, blocked]
  rfl

/-! ## The mapped inputs (R93, R94) -/

theorem localCause_run (hr : s.power.state = .run) (w : WakeCause) : localCause w s = localInput s := by
  unfold localCause
  rw [hr]

/-- What a LOCK or UNLOCK of this station to all stations needs. -/
structure LockReady (s : State) : Prop where
  calm : Calm s
  ok : s.line.state = .ok
  start : s.intent.startHold = none
  crash : s.latch.crashEnd = none
  seq : s.latch.seq = .idle
  handle : s.pins.outerHandle = false
  addr : s.addr.val < 5
  key : epochLater (s.intent.epoch + 1) s.intent.keyLatch.epoch = true
  tag : TagReady s
  room : Roomy 4 s
  few : s.intent.table.length < 4

theorem LockReady.locks {e : OpenEntry} (h : LockReady s) (hk : k = .lock ∧ lock = .locked ∨ k = .unlock ∧ lock = .unlocked)
    (hc : c ≠ .fob ∧ c ≠ .passive) (hlock : s.latch.lock ≠ lock) (he : openEntryOf (prepared k allStations c none) s = e)
    (hp : (setResult s.addr .applied e).pending ≠ 0#5)
    (next : exec i n = .next (settle (prepare (prepared k allStations c none) s))) :
    ∃ v, exec i n = .next v ∧ Kept (lockedBy lock (setResult s.addr .applied e) s) v ∧ Queued (intentPayload e) v := by
  have len : s.line.tx.length + 4 ≤ 6 := h.room
  have own : inSet s.addr allStations = true := by
    have small := h.addr
    generalize s.addr = a at small ⊢
    revert a
    decide
  rw [prepare_issues h.ok h.start h.few, issue_locks (by omega) h.ok h.calm.2.2.1 h.crash h.seq h.handle h.tag h.key own hk hc
    hlock he hp] at next
  refine issued_kept next (lockedBy_calm h.calm) ?_ ?_
  · rw [lockedBy, queueRecord_eq]
    exact h.ok
  · rw [lockedBy, queueRecord_eq]
    exact h.room

end

/-- The entry that a plain intent opens where the tag counter's value is free. -/
theorem openEntryOf_plain {s : State} (h : TagReady s) (k : IntentKind) (ts : Stations) (c : Cause) :
    openEntryOf (prepared k ts c none) s
      = { tag := s.intent.nextTag, kind := k, epoch := s.intent.epoch + 1, targets := ts, cause := c, notice := none
          partialSearch := false, pending := without (without ts (only s.addr)) (lostSet s)
          results := Vector.replicate 5 none, unresponsive := 0#5, attempts := 1, timer := none } := by
  unfold openEntryOf
  rw [freeTag_self 16 h.given h.fresh]
  rfl

/-- Whatever ran of auto-relock, the LOCK of its expiry leaves none of it. -/
theorem lockedBy_armed {n : State} {i : Intents} {o : Addr} (hi : n.intent = i) (ho : n.addr = o) (lock : LockState)
    (e : OpenEntry) (a b : Option Relock) :
    lockedBy lock e { n with intent := { n.intent with relock := a, relockSpent := b } }
      = queueRecord .latchState { n with
          latch := { n.latch with lock := lock }
          intent := { n.intent with
            epoch := i.epoch + 1, nextTag := i.nextTag + 1, table := i.table ++ [e]
            relock := none, relockSpent := none, keyLatch := { epoch := i.epoch + 1, origin := o } } } := by
  subst hi ho
  rfl

/-- Settles O31: the mapped inputs, each with its entry, and the held intent. -/
theorem mappedInputOpensAnIntent : Obligations.MappedInputOpensAnIntent := by
  intro s hs ok start crash seq handle addr key h15 fresh entry frame opened_ locked_ input
  have tag : TagReady s := ⟨h15, fresh⟩
  have tagI : TagReady (localInput s) := ⟨h15, fresh⟩
  have pressed : exec .insideLockButton s = .next (settle (mapInsideButton (localInput s))) := by
    have next : exec .insideLockButton s = .next (settle (insideButtonOp s)) := live_next hs.1
    have fine : inLineFault (localInput s) = false := by
      show (s.line.state != .ok) = false
      rw [ok]
      rfl
    rw [next, insideButtonOp, localCause_run hs.2.1]
    simp only [fine, Bool.false_eq_true, if_false]
  refine ⟨fun few room => ?_, fun full hl => ?_⟩
  · have ready : LockReady (localInput s) :=
      ⟨calm_of_same hs rfl, ok, start, crash, seq, handle, addr, key, tagI, room, few⟩
    refine ⟨fun hl hp => ?_, fun hl hp => ?_, fun hd => ?_, fun r hr hl hp => ?_⟩
    · refine ready.locks (.inl ⟨rfl, rfl⟩) ⟨by decide, by decide⟩ ?_ (openEntryOf_plain tagI .lock allStations .insideButton) hp ?_
      · show s.latch.lock ≠ _
        rw [hl]
        decide
      · rw [pressed, mapInsideButton, show (localInput s).latch.lock = .unlocked from hl]
    · refine ready.locks (.inr ⟨rfl, rfl⟩) ⟨by decide, by decide⟩ ?_ (openEntryOf_plain tagI .unlock allStations .insideButton) hp ?_
      · show s.latch.lock ≠ _
        rw [hl]
        decide
      · rw [pressed, mapInsideButton, show (localInput s).latch.lock = .locked from hl]
    · intro k hp
      have kind : (if rearReleased 2 s || rearReleased 3 s then IntentKind.childOn else .childOff) = k :=
        if_congr (by rw [Bool.or_eq_true]) rfl rfl
      have maps : mapLockout (localInput s) = prepare (prepared k 12#5 .switchPack none) (localInput s) := by
        rw [← kind]
        rfl
      have next : exec .driverLockoutSwitch s = .next (settle (prepare (prepared k 12#5 .switchPack none) (localInput s))) := by
        have run : exec .driverLockoutSwitch s = .next (settle (lockoutOp s)) := live_next hs.1
        rw [run, lockoutOp, if_pos hd, localCause_run hs.2.1, maps]
      have family : k.family = .child := by
        rw [← kind]
        split <;> rfl
      have front : inSet s.addr 12#5 = false := by
        have driver : s.addr = driverAddr s.cfg := by simpa [isDriver] using hd
        rw [driver, driverAddr]
        split <;> decide
      have len : s.line.tx.length + 4 ≤ 6 := room
      rw [prepare_issues ready.ok ready.start ready.few, issue_other (by show s.line.tx.length < 6; omega) ready.ok tagI
        front family (openEntryOf_plain tagI k 12#5 .switchPack) hp] at next
      exact issued_kept next (calm_of_same hs rfl) ok room
    · let n : State := advanceTo r.expiry s
      let x : State := { n with intent := { n.intent with relock := none, relockSpent := n.intent.relock } }
      have intent : n.intent = s.intent := advanceTo_intent _ _
      have addrN : n.addr = s.addr := advanceTo_addr _ _
      have latch : n.latch = s.latch := advanceTo_latch _ _
      have line : n.line.tx = s.line.tx := advanceTo_line_tx _ _
      have power : n.power = s.power := advanceTo_power _ _
      have lost : lostSet x = lostSet s := by
        show lostSet n = lostSet s
        unfold lostSet
        rw [addrN, show n.census = s.census from advanceTo_census _ _]
      have tagX : TagReady x := ⟨by show n.intent.nextTag ≠ 15; rw [intent]; exact h15, by
        show ∀ e ∈ n.intent.table, e.tag ≠ n.intent.nextTag
        rw [intent]
        exact fresh⟩
      have calmX : Calm x := calm_of_same (calm_advanceTo hs) rfl
      have readyX : LockReady x := by
        refine ⟨calmX, (advanceTo_line_state _ _).trans ok, ?_, ?_, ?_, ?_, ?_, ?_, tagX, ?_, ?_⟩
        · show n.intent.startHold = none
          rw [intent, start]
        · show n.latch.crashEnd = none
          rw [latch, crash]
        · show n.latch.seq = .idle
          rw [latch, seq]
        · show n.pins.outerHandle = false
          rw [show n.pins = s.pins from advanceTo_pins _ _, handle]
        · show n.addr.val < 5
          rw [addrN]
          exact addr
        · show epochLater (n.intent.epoch + 1) n.intent.keyLatch.epoch = true
          rw [intent, key]
        · show n.line.tx.length + 4 ≤ 6
          rw [line]
          exact room
        · show n.intent.table.length < 4
          rw [intent]
          exact few
      have next : exec .autoRelockExpiry s = .next (settle (prepare (prepared .lock allStations .autoRelock none) x)) := by
        have run : exec .autoRelockExpiry s = .next (settle (atTime (s.intent.relock.map fun r => r.expiry) relockOver s)) :=
          live_next (f := fun t => atTime (t.intent.relock.map fun r : Relock => r.expiry) relockOver t) hs.1
        have awake_ : wakeCause .relock x = x := if_neg (by show n.power.state ≠ _; rw [power, hs.2.1]; decide)
        rw [run, Option.mem_def.1 hr]
        show Host.Outcome.next (settle (prepare _ (wakeCause .relock x))) = _
        rw [awake_]
      have opens : openEntryOf (prepared .lock allStations .autoRelock none) x = entry .lock allStations .autoRelock false := by
        rw [openEntryOf_plain tagX, lost]
        show ({ tag := n.intent.nextTag, kind := _, epoch := n.intent.epoch + 1, targets := _, cause := _, notice := _
                partialSearch := _, pending := without (without allStations (only n.addr)) (lostSet s), results := _
                unresponsive := _, attempts := _, timer := _ } : OpenEntry) = _
        rw [intent, addrN]
        rfl
      have applied : setResult x.addr .applied (entry .lock allStations .autoRelock false)
          = entry .lock allStations .autoRelock true := congrArg (fun o => setResult o .applied _) addrN
      have whole : lockedBy .locked (entry .lock allStations .autoRelock true) x
          = locked_ n .locked (entry .lock allStations .autoRelock true) :=
        lockedBy_armed intent addrN _ _ _ _
      rw [← whole, ← applied]
      refine readyX.locks (.inl ⟨rfl, rfl⟩) ⟨by decide, by decide⟩ ?_ opens (by rw [applied]; exact hp) next
      show n.latch.lock ≠ _
      rw [latch, hl]
      decide
  · have ready : mayIssue (localInput s) = false := by
      show (s.intent.startHold.isNone && decide (s.intent.table.length < 4)) = false
      rw [full]
      simp
    have fine : inLineFault (localInput s) = false := by
      show (s.line.state != .ok) = false
      rw [ok]
      rfl
    have holds : mapInsideButton (localInput s)
        = { localInput s with intent := { s.intent with held := some (prepared .lock allStations .insideButton none) } } := by
      rw [mapInsideButton, show (localInput s).latch.lock = .unlocked from hl]
      simp only [prepare, fine, ready, Bool.false_eq_true, if_false]
      rfl
    have calmI : Calm (localInput s) := calm_of_same hs rfl
    refine ⟨_, pressed, ?_⟩
    rw [holds]
    exact (settle_blocked (p := prepared .lock allStations .insideButton none) calmI full.ge) ▸ Claims.ended_kept _

end Sys2Proof.Proofs.Issuing
end

section
/-! An own frame of a low class stays in the transmit queue while frames of higher classes join behind it (7.3). -/

namespace Sys2Proof.Proofs.Trailing

open Sys2Proof Sys2Proof.Machine Sys2Proof.Proofs.Steps Sys2Proof.Proofs.Invariants Sys2Proof.Proofs.KeyFrames
open Sys2Proof.Proofs.Ends Sys2Proof.Proofs.Glass Sys2Proof.Proofs.Delivery Sys2Proof.Proofs.Release Sys2Proof.Proofs.Intents
open Sys2Proof.Proofs.Crash Sys2Proof.Proofs.Arbiter Sys2Proof.Proofs.Touches


/-! ## A frame that no later frame of a higher class evicts (R141, R142) -/

/-- The entry waits in the transmit queue, no announcement and of class 0 or 1, with none but such classes before it, and
at most two entries stand before it or are in transmission: where the queue is full, one behind it can be evicted. -/
structure Behind (x : TxEntry) (l : List TxEntry) : Prop where
  waits : x.inTx = false
  plain : isAnnouncement x = false
  low : x.frame.cls.val ≤ 1
  place : ∃ pre post, l = pre ++ x :: post ∧ (∀ y ∈ pre, y.frame.cls.val ≤ 1) ∧ pre.length + post.countP (·.inTx) ≤ 2

section
variable {x e v : TxEntry} {l pre post rest : List TxEntry}

theorem Behind.mem (h : Behind x l) : x ∈ l := by
  obtain ⟨pre, post, rfl, -, -⟩ := h.place
  simp

theorem insertTx_append (he : ∀ y ∈ pre, y.frame.cls.val < e.frame.cls.val) :
    insertTx e (pre ++ post) = pre ++ insertTx e post := by
  induction pre with
  | nil => rfl
  | cons y ys ih =>
    have later : y.frame.cls.val < e.frame.cls.val := he y List.mem_cons_self
    have after : txBefore e y = false := by
      have ne : e.frame.cls ≠ y.frame.cls := fun h => by rw [h] at later; omega
      simp [txBefore, ne]
      omega
    show (if txBefore e y then _ else y :: insertTx e (ys ++ post)) = _
    rw [if_neg (by simp [after]), ih fun z hz => he z (List.mem_cons_of_mem _ hz)]
    rfl

theorem countP_insertTx (he : e.inTx = false) : (insertTx e l).countP (·.inTx) = l.countP (·.inTx) := by
  induction l with
  | nil => simp [insertTx, he]
  | cons y ys ih =>
    unfold insertTx
    split
    · simp [List.countP_cons, he]
    · simp [List.countP_cons, ih]

/-- An entry of a higher class takes its place behind. -/
theorem Behind.insert (h : Behind x l) (he : e.inTx = false) (hc : 1 < e.frame.cls.val) : Behind x (insertTx e l) := by
  obtain ⟨pre, post, rfl, hpre, hlen⟩ := h.place
  refine ⟨h.waits, h.plain, h.low, pre, insertTx e post, ?_, hpre, by rwa [countP_insertTx he]⟩
  have moved := insertTx_append (e := e) (pre := pre ++ [x]) (post := post) fun y hy => by
    rcases List.mem_append.1 hy with hy | hy
    · exact lt_of_le_of_lt (hpre y hy) hc
    · rw [List.mem_singleton.1 hy]
      exact lt_of_le_of_lt h.low hc
  simpa using moved

theorem splitVictim_some (h : post.countP (·.inTx) < post.length) : ∃ v rest, splitVictim post = some (v, rest) := by
  induction post with
  | nil => simp at h
  | cons y ys ih =>
    unfold splitVictim
    split
    · exact ⟨_, _, rfl⟩
    · rename_i none
      split
      · rename_i sends
        rw [List.countP_cons_of_pos (by exact sends), List.length_cons] at h
        obtain ⟨v, rest, found⟩ := ih (by omega)
        simp [none] at found
      · exact ⟨_, _, rfl⟩

theorem splitVictim_append (h : splitVictim post = some (v, rest)) : splitVictim (pre ++ post) = some (v, pre ++ rest) := by
  induction pre with
  | nil => exact h
  | cons y ys ih =>
    show (match splitVictim (ys ++ post) with
      | some (v, rest) => some (v, y :: rest)
      | none => if y.inTx then none else some (y, ys ++ post)) = _
    rw [ih]
    rfl

theorem splitVictim_countP (h : splitVictim post = some (v, rest)) : rest.countP (·.inTx) = post.countP (·.inTx) := by
  induction post generalizing rest with
  | nil => simp [splitVictim] at h
  | cons y ys ih =>
    unfold splitVictim at h
    split at h
    · rename_i w r hw
      simp only [Option.some.injEq, Prod.mk.injEq] at h
      obtain ⟨rfl, rfl⟩ := h
      simp [List.countP_cons, ih hw]
    · split at h
      · simp at h
      · rename_i waits
        simp only [Option.some.injEq, Prod.mk.injEq] at h
        obtain ⟨-, rfl⟩ := h
        rw [List.countP_cons_of_neg (by exact waits)]

/-- The entry evicted from a full queue stands behind. -/
theorem Behind.evict (h : Behind x l) (full : 6 ≤ l.length) (hv : splitVictim l = some (v, rest)) : Behind x rest := by
  obtain ⟨pre, post, rfl, hpre, hlen⟩ := h.place
  simp only [List.length_append, List.length_cons] at full
  obtain ⟨w, r, found⟩ := splitVictim_some (post := post) (by omega)
  have whole := splitVictim_append (pre := pre ++ [x]) found
  rw [show pre ++ [x] ++ post = pre ++ x :: post by simp, hv, Option.some.injEq, Prod.mk.injEq] at whole
  obtain ⟨-, rfl⟩ := whole
  exact ⟨h.waits, h.plain, h.low, pre, r, by simp, hpre, by rwa [splitVictim_countP found]⟩

/-- What withdraws other entries leaves it. -/
theorem Behind.filter (h : Behind x l) {f : TxEntry → Bool} (hf : f x = true) : Behind x (l.filter f) := by
  obtain ⟨pre, post, rfl, hpre, hlen⟩ := h.place
  refine ⟨h.waits, h.plain, h.low, pre.filter f, post.filter f, by simp [List.filter_append, hf],
    fun y hy => hpre y (List.mem_filter.1 hy).1, ?_⟩
  have short := List.length_filter_le f pre
  have few : (post.filter f).countP (·.inTx) ≤ post.countP (·.inTx) := List.Sublist.countP_le List.filter_sublist
  omega

/-- A new entry of class 1 in a queue of at most two. -/
theorem Behind.join (he : e.inTx = false) (ha : isAnnouncement e = false) (hc : e.frame.cls.val = 1) (hl : l.length ≤ 2) :
    Behind e (insertTx e l) := by
  suffices ∀ l : List TxEntry, ∃ pre post, insertTx e l = pre ++ e :: post ∧ (∀ y ∈ pre, y.frame.cls.val ≤ 1)
      ∧ l = pre ++ post by
    obtain ⟨pre, post, placed, hpre, rfl⟩ := this l
    refine ⟨he, ha, hc.le, pre, post, placed, hpre, ?_⟩
    have few := List.countP_le_length (p := fun y : TxEntry => y.inTx) (l := post)
    rw [List.length_append] at hl
    omega
  intro l
  induction l with
  | nil => exact ⟨[], [], rfl, fun y hy => absurd hy List.not_mem_nil, rfl⟩
  | cons y ys ih =>
    unfold insertTx
    split
    · exact ⟨[], y :: ys, rfl, fun y hy => absurd hy List.not_mem_nil, rfl⟩
    · rename_i later
      obtain ⟨pre, post, placed, hpre, whole⟩ := ih
      refine ⟨y :: pre, post, by rw [placed]; rfl, fun z hz => ?_, by rw [whole]; rfl⟩
      rcases List.mem_cons.1 hz with rfl | hz
      · simp only [txBefore, Bool.or_eq_true, decide_eq_true_eq, not_or] at later
        have := later.1
        omega
      · exact hpre z hz

end

/-! ## What the end of a motion and a release leave of an issued intent -/

/-- Tag, pending set and mark of an open entry. -/
def briefOf (e : OpenEntry) : Tag × Stations × Bool := (e.tag, e.pending, e.partialSearch)

/-- What a frame queued leaves of the station's intents but for their table; the entries that wait at the front of the
transmit queue stay there. -/
structure Follows (a b : State) : Prop where
  addr : b.addr = a.addr
  cfg : b.cfg = a.cfg
  run : b.power.state = a.power.state
  up : b.power.heldSince = a.power.heldSince
  line : b.line.state = a.line.state
  record : a.search.record = none → b.search.record = none
  stage : NoInterior a → NoInterior b
  held : b.intent.held = a.intent.held
  epoch : b.intent.epoch = a.intent.epoch
  relock : b.intent.relock = a.intent.relock
  queue : ∀ x, Behind x a.line.tx → Behind x b.line.tx

/-- The open entries keep tag, pending set and mark as well, as in a motion or a release. -/
structure Trails (a b : State) : Prop extends Follows a b where
  table : b.intent.table.map briefOf = a.intent.table.map briefOf

section
variable {a s t u : State} {e : TxEntry} {p : Payload}

/-- The parts that no motion and no release changes but by its frames. -/
def spineOf (s : State) : Addr × Settings × PowerState × Option Nat × Line × Option SearchRec × Intents :=
  (s.addr, s.cfg, s.power.state, s.power.heldSince, s.line, s.search.record, s.intent)

theorem Trails.same (h : spineOf t = spineOf s) : Trails s t := by
  simp only [spineOf, Prod.mk.injEq] at h
  obtain ⟨ha, hc, hr, hu, hl, hq, hi⟩ := h
  exact ⟨⟨ha, hc, hr, hu, by rw [hl], fun n => hq.trans n, fun n => by simpa only [NoInterior, hq] using n,
    by rw [hi], by rw [hi], by rw [hi], fun x => hl ▸ id⟩, by rw [hi]⟩

theorem Trails.refl (s : State) : Trails s s := .same rfl

theorem Follows.trans (h : Follows s t) (k : Follows t u) : Follows s u :=
  ⟨k.addr.trans h.addr, k.cfg.trans h.cfg, k.run.trans h.run, k.up.trans h.up, k.line.trans h.line, k.record ∘ h.record,
    k.stage ∘ h.stage, k.held.trans h.held, k.epoch.trans h.epoch, k.relock.trans h.relock, fun x => k.queue x ∘ h.queue x⟩

theorem Trails.trans (h : Trails s t) (k : Trails t u) : Trails s u :=
  ⟨h.toFollows.trans k.toFollows, k.table.trans h.table⟩

theorem Trails.then (h : Trails s t) (k : spineOf u = spineOf t) : Trails s u := h.trans (.same k)

/-- What is quiet and keeps queue and record. -/
theorem Trails.of_quiet (q : Quiet s t) (hrec : s.search.record = none → t.search.record = none)
    (hst : NoInterior s → NoInterior t) (hq : ∀ x, Behind x s.line.tx → Behind x t.line.tx) : Trails s t := by
  have brief : ∀ l : List OpenEntry, l.map briefOf = (l.map OpenEntry.untimed).map briefOf := fun l => by
    rw [List.map_map]
    rfl
  have intent : t.intent.fixed.epoch = s.intent.fixed.epoch ∧ t.intent.fixed.relock = s.intent.fixed.relock := by
    rw [q.intent]
    exact ⟨rfl, rfl⟩
  have line : t.line.fixed.state = s.line.fixed.state := by rw [q.line]
  refine ⟨⟨q.addr, q.cfg, q.powerState, q.heldSince, line, hrec, hst, q.held, intent.1, intent.2, hq⟩, ?_⟩
  rw [brief t.intent.table, q.table, ← brief]

theorem notSent_record (hn : s.search.record = none) (p : Payload) : (notSent p s).search.record = none := by
  have none (q : Payload) : awaitsClaim q s = false := by rw [awaitsClaim, hn]; rfl
  unfold notSent
  split
  · exact hn
  · simpa only [none, Bool.false_eq_true, if_false] using hn
  · simpa only [none, Bool.false_eq_true, if_false] using hn
  · exact hn
  · exact hn
  · split
    · exact hn
    · exact hn
  · exact hn

theorem tell_record (hn : s.search.record = none) (e : TxEntry) : (Machine.tell e s).search.record = none := by
  unfold Machine.tell
  split
  · exact hn
  · exact notSent_record hn _

/-- A frame of class 2 or above joins the queue, or is refused. -/
theorem trails_queueEntry (he : e.inTx = false) (hc : 1 < e.frame.cls.val) : Trails s (queueEntry e s) := by
  refine .of_quiet (queueEntry_quiet e s) (fun hn => ?_) (queueEntry_stage e s) fun x hx => ?_
  · unfold queueEntry
    split
    · exact tell_record hn e
    · split
      · exact hn
      · split
        · exact tell_record (by exact hn) _
        · exact hn
  · unfold queueEntry
    split
    · rwa [tell_tx]
    · split
      · exact hx.insert he hc
      · rename_i full
        split
        · rename_i hv
          rw [tell_tx]
          exact (hx.evict (by omega) hv).insert he hc
        · exact hx

theorem trails_queueFrame (hc : 1 < p.cls.val) : Trails s (queueFrame p s) := trails_queueEntry rfl hc

end

end Sys2Proof.Proofs.Trailing
end

section
/-! What motions, drops and releases leave of an issued intent and its frame (chapters 1, 3 and 4). -/

namespace Sys2Proof.Proofs.Trailing

open Sys2Proof Sys2Proof.Machine Sys2Proof.Proofs.Steps Sys2Proof.Proofs.Invariants Sys2Proof.Proofs.KeyFrames
open Sys2Proof.Proofs.Ends Sys2Proof.Proofs.Glass Sys2Proof.Proofs.Delivery Sys2Proof.Proofs.Release Sys2Proof.Proofs.Intents
open Sys2Proof.Proofs.Crash Sys2Proof.Proofs.Arbiter Sys2Proof.Proofs.Touches


section
variable {a s t u : State} {r old : Request} {o : Outcome}

/-- The same spine before. -/
theorem Trails.since (h : Trails t u) (k : spineOf t = spineOf s) : Trails s u := Trails.trans (.same k) h

/-! ## The window controller's own changes -/

@[simp] theorem spine_queueRecord (i : RecordId) (s : State) : spineOf (queueRecord i s) = spineOf s := by
  rw [queueRecord_eq]
  rfl

@[simp] theorem spine_withWin (s : State) (w : Window) : spineOf (s.withWin w) = spineOf s := rfl

@[simp] theorem spine_motorTo (m : Motor) (s : State) : spineOf (motorTo m s) = spineOf s := by
  rw [(motorTo_reglazed m s).eq]
  rfl

@[simp] theorem spine_motionStart (r : Request) (s : State) : spineOf (motionStart r s) = spineOf s := rfl

@[simp] theorem spine_markMoving (s : State) : spineOf (markMoving s) = spineOf s := by
  unfold markMoving
  split
  · rfl
  · simp

@[simp] theorem spine_markRest (s : State) : spineOf (markRest s) = spineOf s := by
  unfold markRest
  split
  · split <;> simp
  · rfl

@[simp] theorem spine_drive (d : Direction) (m : MotionState) (s : State) : spineOf (drive d m s) = spineOf s := by
  unfold drive
  simp

@[simp] theorem spine_motorStart (d : Direction) (s : State) : spineOf (motorStart d s) = spineOf s :=
  spine_drive d .starting _

@[simp] theorem spine_pauseMotion (s : State) : spineOf (pauseMotion s) = spineOf s := spine_motorTo .off s

@[simp] theorem spine_brake (s : State) : spineOf (brake s) = spineOf s := spine_motorTo .braked s

@[simp] theorem spine_grantIdle (r : Request) (s : State) : spineOf (grantIdle r s) = spineOf s := by
  unfold grantIdle
  simp only
  split <;> simp

@[simp] theorem spine_takeOver (old r : Request) (s : State) : spineOf (takeOver old r s) = spineOf s := by
  unfold takeOver
  split
  · simp
  · simp
  · split
    · simp only
      split <;> simp
    · simp

@[simp] theorem spine_replaceRequest (r : Request) (s : State) : spineOf (replaceRequest r s) = spineOf s := by
  unfold replaceRequest
  split <;> rfl

@[simp] theorem spine_endAtOnce (r : Request) (s : State) : spineOf (endAtOnce r s) = spineOf s := rfl

/-! ## Motions (R11 to R13, R19) -/

theorem trails_closeMotion (r : Request) (o : Outcome) (s : State) : Trails s (closeMotion r o s) := by
  have reported : Trails s (reportMotion r o s) := by
    unfold reportMotion
    split
    · exact trails_queueFrame (show 1 < 4 by decide)
    · exact .refl s
  exact reported.then rfl

theorem trails_finishMotion (o : Outcome) (s : State) : Trails s (finishMotion o s) := by
  unfold finishMotion
  split
  · exact .refl s
  · rename_i r _
    refine (trails_closeMotion r o s).then ?_
    simp

theorem trails_arbiter (r : Request) (s : State) : Trails s (arbiter r s).2 := by
  have taken (x : Request) (o : Outcome) : Trails s (takeOver x r (closeMotion x o s)) :=
    (trails_closeMotion x o s).then (spine_takeOver _ _ _)
  unfold arbiter
  split
  · simp only
    split <;> exact .same (by simp)
  · split
    · simp only
      split
      · exact .same (by simp)
      · exact taken _ _
    · split
      · split
        · simp only
          split <;> exact .same (by simp)
        · split
          · simp only
            split
            · exact .same (by simp)
            · exact taken _ _
          · exact trails_finishMotion _ s
      · exact .refl s

theorem trails_request (r : Request) (s : State) : Trails s (request r s).2 := by
  unfold request
  split
  · exact .refl s
  · exact trails_arbiter r s

theorem trails_weighDrop (limitAt : Nat) (s : State) : Trails s (weighDrop limitAt s) := by
  have weighed (w : Window) : Trails s (arbiter (dropRequest s) (s.withWin w)).2 :=
    (trails_arbiter (dropRequest s) (s.withWin w)).since (spine_withWin s w)
  unfold weighDrop
  split
  · exact .same rfl
  · split
    · exact .same rfl
    · simp only
      split
      · split
        · exact .same rfl
        · exact weighed _
      · exact weighed _

theorem trails_requestDrop (s : State) : Trails s (requestDrop s) :=
  (trails_weighDrop (s.now + 800000) (s.withWin { s.win with dropAnswer := none })).since (spine_withWin s _)

theorem trails_endMotion (o : Outcome) (s : State) : Trails s (endMotion o s) := by
  refine (trails_finishMotion o s).trans ?_
  show Trails _ (serveWaitingDrop _)
  unfold serveWaitingDrop
  split
  · split
    · exact trails_weighDrop _ _
    · exact .refl _
  · exact .refl _

theorem trails_windowIntent (k : IntentKind) (s : State) : Trails s (windowIntentApplied k s).2 := by
  unfold windowIntentApplied
  split
  · exact trails_request _ s
  · exact trails_request _ s
  · split
    · split
      · exact trails_endMotion _ s
      · exact .refl s
    · exact .refl s

/-! ## The release sequence (R57 to R61) -/

@[simp] theorem spine_enterReleasing (s : State) : spineOf (enterReleasing s) = spineOf s := by
  rw [enterReleasing_eq]
  rfl

theorem trails_takeDropAnswer (s : State) : Trails s (takeDropAnswer s) := by
  refine .same ?_
  unfold takeDropAnswer
  split
  · rfl
  · simp only
    split
    · split
      · simp only [spine_enterReleasing]
        rfl
      · split <;> rfl
    · rfl

theorem trails_releaseRequest (k : ReleaseKind) (s : State) : Trails s (releaseRequest k s) := by
  have drop (l : Latch) : Trails s (takeDropAnswer (requestDrop { s with latch := l })) :=
    Trails.since (s := s) ((trails_requestDrop { s with latch := l }).trans (trails_takeDropAnswer _)) rfl
  unfold releaseRequest
  split
  · simp only
    split
    · exact .same (spine_enterReleasing _)
    · exact drop _
  · exact .refl s

theorem trails_lockChange (s : State) : Trails s (lockChangeOnSequence s) := by
  have withdrawn : Trails s (withdrawDrop s) := by
    unfold withdrawDrop
    split
    · simp only
      split
      · split
        · exact (trails_endMotion .stopped (s.withWin { s.win with drop := none, dropAnswer := none })).since rfl
        · exact .same rfl
      · exact .same rfl
    · exact .refl s
  unfold lockChangeOnSequence
  split
  · exact withdrawn.then rfl
  · exact .refl s

theorem trails_setLock (l : LockState) (s : State) : Trails s (setLock l s) := by
  have set : Trails s (lockChangeOnSequence (queueRecord .latchState { s with latch := { s.latch with lock := l } })) :=
    (trails_lockChange (queueRecord .latchState { s with latch := { s.latch with lock := l } })).since
      (spine_queueRecord .latchState { s with latch := { s.latch with lock := l } })
  unfold setLock
  split
  · exact .refl s
  · simp only
    split
    · exact set.trans ((trails_releaseRequest .entry (localInput _)).since rfl)
    · exact set

theorem trails_applyLatch (k : IntentKind) (s : State) : Trails s (applyLatch k s) := by
  unfold applyLatch
  split
  · exact trails_setLock _ s
  · exact trails_setLock _ s
  · exact trails_setLock _ s
  · exact (trails_setLock _ s).trans (trails_releaseRequest _ _)

end

section
variable {s t : State} {k : IntentKind} {key : OrderKey} {e : OpenEntry}

/-! ## The own application and the end of the issue (R75, R80, R85) -/

theorem trails_applyKind (hk : k.family ≠ .child) (s : State) : Trails s (applyKind k s).2 := by
  unfold applyKind
  split
  · exact trails_applyLatch k s
  · rename_i child
    exact absurd child hk
  · exact trails_windowIntent k s

theorem trails_decideIntent (hk : k.family ≠ .child) (key : OrderKey) (s : State) : Trails s (decideIntent k key s).2.2 := by
  unfold decideIntent
  split
  · exact .refl s
  · split
    · refine Trails.trans (t := { s with intent := setLastKey k.family key s.intent }) ?_ (trails_applyKind hk _)
      cases k.family <;> exact { Trails.refl s with }
    · split <;> exact .refl s

theorem setResult_brief (a : Addr) (r : AckResult) (e : OpenEntry) : briefOf (setResult a r e) = briefOf e := by
  unfold setResult
  split <;> rfl

/-- An entry put back with another result. -/
theorem trails_putEntry {z : OpenEntry} (hz : ∀ y ∈ s.intent.table, y.tag = z.tag → briefOf z = briefOf y) :
    Trails s (putEntry z s) := by
  refine { Trails.refl s with table := ?_ }
  show (s.intent.table.map fun y => if y.tag = z.tag then z else y).map briefOf = s.intent.table.map briefOf
  rw [List.map_map]
  refine List.map_congr_left fun y hy => ?_
  by_cases same : y.tag = z.tag
  · show briefOf (if y.tag = z.tag then z else y) = _
    rw [if_pos same, hz y hy same]
  · show briefOf (if y.tag = z.tag then z else y) = _
    rw [if_neg same]

end

end Sys2Proof.Proofs.Trailing
end

section
/-! The issue of an intent in a state that need not be at rest, to the end of its command (4.3). -/

namespace Sys2Proof.Proofs.Trailing

open Sys2Proof Sys2Proof.Machine Sys2Proof.Proofs.Steps Sys2Proof.Proofs.Invariants Sys2Proof.Proofs.KeyFrames
open Sys2Proof.Proofs.Ends Sys2Proof.Proofs.Glass Sys2Proof.Proofs.Delivery Sys2Proof.Proofs.Release Sys2Proof.Proofs.Intents
open Sys2Proof.Proofs.Crash Sys2Proof.Proofs.Arbiter Sys2Proof.Proofs.Touches Sys2Proof.Proofs.Issuing


section
variable {s t u : State} {e : OpenEntry} {p : Prepared}

/-! ## Own frames at the end of a command -/

theorem Follows.refl (s : State) : Follows s s := (Trails.refl s).toFollows

theorem trails_queueCensus (s : State) : Trails s (queueCensus s) := by
  unfold queueCensus
  split
  · exact .refl s
  · exact trails_queueFrame (show 1 < 5 by decide)

theorem Behind.replace {x : TxEntry} {cls : Fin 8} {f : Payload} (h : Behind x s.line.tx) (hc : 1 < cls.val) :
    Behind x (replaceAnnouncement cls f s) := by
  unfold replaceAnnouncement
  split
  · exact (h.filter (by simp [h.plain])).insert rfl hc
  · exact h

theorem announcementClass_high (s : State) : 1 < (announcementClass s).val := by
  unfold announcementClass
  split <;> decide

theorem trails_queueAnnouncement (s : State) : Trails s (queueAnnouncement s) := by
  let s1 : State := { s with census := { s.census with
    waitingChange := false, lastWatched := watchedFields (announcedNow s), statusOwed := false } }
  have noted : Trails s s1 := .same rfl
  unfold queueAnnouncement
  simp only
  split
  · exact .same rfl
  · split
    · exact { Trails.refl s with queue := fun x hx => Behind.replace (s := s1) hx (announcementClass_high s) }
    · exact noted.trans (trails_queueEntry rfl (announcementClass_high s))

/-- What the end of a command leaves where nothing is held and no search waits to claim the air. -/
theorem trails_settle (run : s.power.state = .run) (up : s.power.heldSince = none) (held : s.intent.held = none)
    (free : NoInterior s) : Trails s (settle s) := by
  have census (s : State) : Trails s (settleCensus s) := by
    unfold settleCensus
    split
    · exact (trails_queueCensus { s with census := { s.census with censusOwed := false } }).since rfl
    · exact .refl s
  have status (s : State) : Trails s (settleStatus s) := by
    unfold settleStatus
    split
    · exact .refl s
    · split
      · exact trails_queueAnnouncement s
      · exact .same rfl
  have due (s : State) : Trails s (settleDue s) := by
    unfold settleDue
    split
    · exact trails_queueAnnouncement s
    · exact .refl s
  have start (s : State) : Trails s (settleStartHold s) := by
    unfold settleStartHold
    split
    · exact { Trails.refl s with }
    · exact .refl s
  let s1 := settleCensus (takeDropAnswer s)
  have first : Trails s s1 := (trails_takeDropAnswer s).trans (census _)
  have interior : settleInterior s1 = s1 := by
    unfold settleInterior
    split
    · rename_i r hr
      exact if_neg (by simp [interiorDue, first.stage free r hr])
    · rfl
  have sleep : settleSleep s1 = s1 := if_neg (by rw [first.run, run]; decide)
  let s2 := settleStartHold s1
  have second : Trails s s2 := first.trans (start s1)
  have nothing : issueHeld s2 = s2 := by
    unfold issueHeld
    rw [second.held, held]
  have awake1 : awake s1 = true := by rw [awake, first.run, run]; rfl
  have whole : settle s = settleDue (settleStatus (settleAgreement s2)) := by
    have awake0 : (awake s && s.power.heldSince.isNone) = true := by rw [awake, run, up]; rfl
    unfold settle
    rw [if_pos awake0]
    show (if awake (settleSleep (settleInterior s1)) then settleDue (settleStatus (settleAgreement (issueHeld
      (settleStartHold (settleSleep (settleInterior s1)))))) else _) = _
    rw [interior, sleep, if_pos awake1, nothing]
  rw [whole]
  exact second.trans (((status (settleAgreement s2)).trans (due _)).since rfl)

/-! ## The issue -/

theorem trails_applyOwn (hk : e.kind.family ≠ .child) (he : ∀ y ∈ s.intent.table, y.tag = e.tag → briefOf y = briefOf e) :
    Trails s (applyOwn e s) := by
  unfold applyOwn
  split
  · have decided := trails_decideIntent hk { epoch := e.epoch, origin := s.addr } s
    generalize decideIntent e.kind { epoch := e.epoch, origin := s.addr } s = d at decided
    show Trails s (match entryOf e.tag d.2.2 with
      | some x => putEntry (setResult s.addr d.1 x) d.2.2
      | none => d.2.2)
    have brief : ∀ y ∈ d.2.2.intent.table, y.tag = e.tag → briefOf y = briefOf e := by
      intro y hy ht
      have hm : briefOf y ∈ s.intent.table.map briefOf := by
        rw [← decided.table]
        exact List.mem_map_of_mem hy
      obtain ⟨z, hz, same⟩ := List.mem_map.1 hm
      rw [← same]
      refine he z hz ?_
      have tag : z.tag = y.tag := congrArg (fun q : Tag × Stations × Bool => q.1) same
      rw [tag, ht]
    split
    · rename_i x hx
      have tag : x.tag = e.tag := by
        have := List.find?_some hx
        simpa using this
      have ex := brief x (List.mem_of_find?_eq_some hx) tag
      refine decided.trans (trails_putEntry fun y hy ht => ?_)
      rw [setResult_brief, ex]
      have own : (setResult s.addr d.1 x).tag = e.tag :=
        (congrArg (fun q : Tag × Stations × Bool => q.1) (setResult_brief s.addr d.1 x)).trans tag
      exact (brief y hy (ht.trans own)).symm
    · exact decided
  · exact .refl s

theorem follows_closeEntry (e : OpenEntry) (s : State) : Follows s (closeEntry e s) := by
  have outcome : Trails s (queueFrame (outcomePayload e (outcomeOfEntry e)) (handOver e.unresponsive s)) :=
    (trails_queueFrame (p := outcomePayload e (outcomeOfEntry e)) (show 1 < 5 by decide)).since rfl
  exact { outcome.toFollows with }

theorem follows_closeIfDone (t : Tag) (s : State) : Follows s (closeIfDone t s) := by
  unfold closeIfDone
  split
  · split
    · exact follows_closeEntry _ s
    · exact .refl s
  · exact .refl s

theorem closeIfDone_open {t : Tag} (h : ∀ y ∈ s.intent.table, y.tag = t → y.pending ≠ 0#5) : closeIfDone t s = s := by
  unfold closeIfDone
  split
  · rename_i x hx
    refine if_neg (h x (List.mem_of_find?_eq_some hx) ?_)
    have := List.find?_some hx
    simpa using this
  · rfl

/-! ## What an intent issued leaves at the end of its command -/

/-- The state `v` at the end of a command that has issued the intent `p` of the state `s`. -/
structure IssuedBy (p : Prepared) (s v : State) : Prop where
  record : s.search.record = none → v.search.record = none
  epoch : v.intent.epoch = s.intent.epoch + 1
  relock : v.intent.relock = (relockIssues (openEntryOf p s) (openedIntent p s)).intent.relock
  queued : Queued (intentPayload (openEntryOf p s)) v
  stands : (openEntryOf p s).pending ≠ 0#5 → ∃ x ∈ v.intent.table, briefOf x = briefOf (openEntryOf p s)

/-- The state in which the frame of an issued intent is queued. -/
def seenIntent (p : Prepared) (s : State) : State :=
  seePress p.kind p.targets p.cause p.notice (relockIssues (openEntryOf p s) (openedIntent p s))

theorem cancelRelock_parts (s : State) : (cancelRelock s).intent.table = s.intent.table
    ∧ (cancelRelock s).intent.epoch = s.intent.epoch ∧ (s.intent.held = none → (cancelRelock s).intent.held = none) :=
  ⟨rfl, rfl, fun h => by rw [cancelRelock, h]⟩

theorem relockIssues_parts (e : OpenEntry) (s : State) :
    (relockIssues e s).line = s.line ∧ (relockIssues e s).search = s.search ∧ (relockIssues e s).power = s.power
      ∧ (relockIssues e s).addr = s.addr ∧ (relockIssues e s).intent.table = s.intent.table
      ∧ (relockIssues e s).intent.epoch = s.intent.epoch
      ∧ (s.intent.held = none → (relockIssues e s).intent.held = none) := by
  have cancelled := (cancelRelock_parts s).2.2
  unfold relockIssues
  split
  · simp only
    split
    · exact ⟨rfl, rfl, rfl, rfl, rfl, rfl, cancelled⟩
    · exact ⟨rfl, rfl, rfl, rfl, rfl, rfl, cancelled⟩
  · exact ⟨rfl, rfl, rfl, rfl, rfl, rfl, id⟩

theorem seePress_parts (k : IntentKind) (ts : Stations) (c : Cause) (nt : Option Notice) (s : State) :
    ∃ a b, seePress k ts c nt s = { s with intent := { s.intent with pressLatch := a, pressWindow := b } } := by
  have followed : ∃ b, followPress k s = { s with intent := { s.intent with pressWindow := b } } := by
    unfold followPress
    split
    · exact ⟨_, rfl⟩
    · exact ⟨s.intent.pressWindow, rfl⟩
  obtain ⟨b, hb⟩ := followed
  unfold seePress
  rw [hb]
  unfold rememberPress
  split
  · exact ⟨s.intent.pressLatch, b, rfl⟩
  · split
    · simp only
      split
      · exact ⟨_, b, rfl⟩
      · exact ⟨s.intent.pressLatch, _, rfl⟩
      · exact ⟨s.intent.pressLatch, b, rfl⟩
    · exact ⟨s.intent.pressLatch, b, rfl⟩

theorem issuedBy_settle (run : s.power.state = .run) (up : s.power.heldSince = none) (held : s.intent.held = none)
    (free : NoInterior s) (ok : s.line.state = .ok) (room : s.line.tx.length ≤ 2)
    (hk : p.kind.family ≠ .child) (fresh : ∀ y ∈ s.intent.table, y.tag ≠ (openEntryOf p s).tag) :
    IssuedBy p s (settle (issue p s)) := by
  have parts := relockIssues_parts (openEntryOf p s) (openedIntent p s)
  generalize hr : relockIssues (openEntryOf p s) (openedIntent p s) = r at parts
  obtain ⟨hline, hsearch, hpower, haddr, htable, hepoch, hheld⟩ := parts
  obtain ⟨a, b, seen⟩ := seePress_parts p.kind p.targets p.cause p.notice r
  generalize hw : ({ r with intent := { r.intent with pressLatch := a, pressWindow := b } } : State) = w at seen
  have wline : w.line = s.line := by rw [← hw]; exact hline
  have waddr : w.addr = s.addr := by rw [← hw]; exact haddr
  have wtable : w.intent.table = s.intent.table ++ [openEntryOf p s] := by rw [← hw]; exact htable
  have wrelock : w.intent.relock = r.intent.relock := by rw [← hw]
  have wepoch : w.intent.epoch = s.intent.epoch + 1 := by rw [← hw]; exact hepoch
  have wheld : w.intent.held = none := by rw [← hw]; exact hheld held
  have wsearch : w.search = s.search := by rw [← hw]; exact hsearch
  have wstage : NoInterior w := by simpa only [NoInterior, wsearch] using free
  have wrun : w.power.state = .run ∧ w.power.heldSince = none := by
    rw [← hw]
    show r.power.state = .run ∧ r.power.heldSince = none
    rw [hpower]
    exact ⟨run, up⟩
  have kind : (openEntryOf p s).kind = p.kind := rfl
  have frame : announcedIntent p s = queueFrame (intentPayload (openEntryOf p s)) w := by
    unfold announcedIntent
    rw [hr, seen]
  let x : TxEntry := newEntry 1 (intentPayload (openEntryOf p s)) w
  let q : State := { w with line := { w.line with tx := insertTx x w.line.tx, nextAge := w.line.nextAge + 1 } }
  have joins : announcedIntent p s = q := by
    rw [frame]
    exact queueAs_room _ _ w (by rw [wline]; omega) (by rw [wline]; exact ok)
  have behind : Behind x q.line.tx := Behind.join rfl rfl rfl (by rw [wline]; exact room)
  have own : ∀ y ∈ q.intent.table, y.tag = (openEntryOf p s).tag → briefOf y = briefOf (openEntryOf p s) := by
    intro y hy ht
    have hy : y ∈ w.intent.table := hy
    rw [wtable] at hy
    rcases List.mem_append.1 hy with hy | hy
    · exact absurd ht (fresh y hy)
    · rw [List.mem_singleton.1 hy]
  have applied : Trails q (applyOwn (openEntryOf p s) q) := trails_applyOwn (by rw [kind]; exact hk) own
  have closed := applied.toFollows.trans (follows_closeIfDone (openEntryOf p s).tag _)
  have ends := trails_settle (s := closeIfDone (openEntryOf p s).tag (applyOwn (openEntryOf p s) q))
    (closed.run.trans wrun.1) (closed.up.trans wrun.2) (closed.held.trans wheld) (closed.stage wstage)
  have all := closed.trans ends.toFollows
  rw [issue_eq, joins]
  refine ⟨fun n => all.record ((congrArg Search.record wsearch).trans n), all.epoch.trans wepoch, all.relock.trans (wrelock.trans (by rw [hr])),
    ⟨x, (all.queue x behind).mem, rfl, ?_⟩, fun pending => ?_⟩
  · show w.addr = _
    rw [all.addr]
  · have open_ : closeIfDone (openEntryOf p s).tag (applyOwn (openEntryOf p s) q) = applyOwn (openEntryOf p s) q := by
      refine closeIfDone_open fun y hy ht => ?_
      have hm : briefOf y ∈ q.intent.table.map briefOf := by
        rw [← applied.table]
        exact List.mem_map_of_mem hy
      obtain ⟨z, hz, same⟩ := List.mem_map.1 hm
      have tag : z.tag = y.tag := congrArg (fun q : Tag × Stations × Bool => q.1) same
      have brief := own z hz (tag.trans ht)
      have pend : y.pending = (openEntryOf p s).pending :=
        congrArg (fun q : Tag × Stations × Bool => q.2.1) (same.symm.trans brief)
      rw [pend]
      exact pending
    have table := ends.table
    rw [open_, applied.table] at table
    have hm : briefOf (openEntryOf p s) ∈ q.intent.table.map briefOf := by
      refine List.mem_map_of_mem ?_
      show _ ∈ w.intent.table
      rw [wtable]
      simp
    rw [← table] at hm
    obtain ⟨y, hy, same⟩ := List.mem_map.1 hm
    rw [open_]
    exact ⟨y, hy, same⟩

end

end Sys2Proof.Proofs.Trailing
end

section
/-! The decision of a passive lock (6.4). -/

namespace Sys2Proof.Proofs.Trailing

open Sys2Proof Sys2Proof.Machine Sys2Proof.Proofs.Steps Sys2Proof.Proofs.Invariants Sys2Proof.Proofs.KeyFrames
open Sys2Proof.Proofs.Ends Sys2Proof.Proofs.Glass Sys2Proof.Proofs.Delivery Sys2Proof.Proofs.Release Sys2Proof.Proofs.Intents
open Sys2Proof.Proofs.Crash Sys2Proof.Proofs.Arbiter Sys2Proof.Proofs.Touches Sys2Proof.Proofs.Issuing


section
variable {s m : State} {p : Prepared} {c : Instr}

/-! ## Commands that issue an intent -/

/-- What an issue needs: nothing held and no search that waits for the air, the line OK with room in queue and table, and the tag
counter's value free (R75, R76). -/
structure MayIssue (s : State) : Prop where
  run : s.power.state = .run
  up : s.power.heldSince = none
  held : s.intent.held = none
  free : NoInterior s
  ok : s.line.state = .ok
  room : s.line.tx.length ≤ 2
  start : s.intent.startHold = none
  few : s.intent.table.length < 4
  tag : TagReady s

/-- The frame of an issued intent where the tag counter's value is free. -/
theorem intentPayload_opened (ht : TagReady s) (p : Prepared) :
    intentPayload (openEntryOf p s) = .intent
      { kind := p.kind, tag := s.intent.nextTag, epoch := s.intent.epoch + 1, targets := p.targets, cause := p.cause
        notice := p.notice } := by
  unfold intentPayload
  rw [openEntryOf_tag p ht.given ht.fresh]
  rfl

theorem MayIssue.settles (h : MayIssue s) (hk : p.kind.family ≠ .child) : IssuedBy p s (settle (prepare p s)) := by
  rw [prepare_issues h.ok h.start h.few]
  refine issuedBy_settle h.run h.up h.held h.free h.ok h.room hk ?_
  rw [openEntryOf_tag p h.tag.given h.tag.fresh]
  exact h.tag.fresh

/-- A search that ends at a timer, in a station that may issue. -/
theorem mayIssue_ended (hs : Calm s) (room : Roomy 4 s) (ok : s.line.state = .ok) (start : s.intent.startHold = none)
    (few : s.intent.table.length < 4) (tag : TagReady s) (e : Nat) : MayIssue (withSearchRecord none (advanceTo e s)) where
  run := (congrArg Power.state (advanceTo_power e s)).trans hs.2.1
  up := (congrArg Power.heldSince (advanceTo_power e s)).trans hs.1
  held := (congrArg Intents.held (advanceTo_intent e s)).trans hs.2.2.1
  free := by rintro _ ⟨⟩
  ok := (advanceTo_line_state e s).trans ok
  room := by
    show (advanceTo e s).line.tx.length ≤ 2
    have len : s.line.tx.length + 4 ≤ 6 := room
    rw [advanceTo_line_tx]
    omega
  start := (congrArg Intents.startHold (advanceTo_intent e s)).trans start
  few := by
    show (advanceTo e s).intent.table.length < 4
    rw [advanceTo_intent]
    exact few
  tag := by
    refine ⟨?_, ?_⟩
    · show (advanceTo e s).intent.nextTag ≠ 15
      rw [advanceTo_intent]
      exact tag.given
    · show ∀ y ∈ (advanceTo e s).intent.table, y.tag ≠ (advanceTo e s).intent.nextTag
      rw [advanceTo_intent]
      exact tag.fresh

/-! ## Timers that end a search -/

variable {f : SearchRec → State → State} {g : State → Option Nat} {e : Nat} {r : SearchRec} {x : Payload}

/-- A timer of the open search that ends it with a frame. -/
theorem searchTimer_says (hs : Calm s) (hr : s.search.record = some r)
    (hc : exec c s = whileAwake (fun t => atTime (g t) (withRecord f) t) s) (hg : g s = some e)
    (hf : Adds [x] (withSearchRecord none (advanceTo e s)) (f r (advanceTo e s))) (hx : x.kind ≠ 12)
    (ok : s.line.state = .ok) (room : Roomy 4 s) :
    ∃ v, exec c s = .next v ∧ Kept (withSearchRecord none (advanceTo e s)) v ∧ Queued x v := by
  obtain ⟨v, hv, kept, queued⟩ := timer_adds (f := withRecord f) (e := e) hs hc hg
    (by rw [withRecord_some (r := r) (by simpa using hr)]; exact hf)
    (withSearchRecord_calm (calm_advanceTo hs) (by rintro _ ⟨⟩)) (by simp)
  refine ⟨v, hv, kept, queued (by simpa [withSearchRecord] using ok) ?_ _ (List.mem_singleton.2 rfl) hx⟩
  simpa [Roomy, withSearchRecord] using room

theorem searchTimer_next (hs : Calm s) (hr : s.search.record = some r)
    (hc : exec c s = whileAwake (fun t => atTime (g t) (withRecord f) t) s) (hg : g s = some e) :
    exec c s = .next (settle (f r (advanceTo e s))) := by
  rw [hc, timer_next hs g (withRecord f) hg, withRecord_some (r := r) (by simpa using hr)]

theorem refuse_adds (k : IntentKind) (y : RefusalReason) {epoch : Epoch} (h : m.intent.epoch = epoch) :
    Adds [.intentOutcome { tag := 15, kind := k, epoch := epoch, outcome := .refused, reason := y, partialSearch := false
                           applied := 0#5, unresponsive := 0#5 }] m (refuseIntent k y m) := by
  rw [← h]
  exact adds_queueFrame m rfl fun _ => reportless_intentOutcome _

end

section
variable {s : State} {r : SearchRec} {e : Nat}

/-! ## The passive lock (R125, R130) -/

/-- Where no key is inside, a participant is missing exactly where one did not answer NOT FOUND. -/
theorem missing_eq {l : List (Addr × SlotResult)} (h : (l.any fun q => q.2 == .found) = false) :
    (l.any fun q => q.2 == .noneYet || q.2 == .skipped) = !l.all fun q => q.2 == .notFound := by
  rw [List.not_all_eq_any_not]
  rw [Bool.eq_iff_iff, List.any_eq_true, List.any_eq_true]
  refine exists_congr fun q => and_congr_right fun hq => ?_
  have outside := List.any_eq_false.1 h q hq
  cases hx : q.2 <;> simp [hx] at outside ⊢

theorem decidePassive_fault (hl : s.line.state ≠ .ok) : decidePassive r s = withSearchRecord none s := by
  unfold decidePassive
  exact if_pos (by simpa [inLineFault, setRecord] using hl)

/-- The intent of a passive lock that is not refused (R130). -/
def passiveLock (r : SearchRec) : Prepared :=
  { kind := .lock, targets := allStations, cause := .passive, notice := r.deciding.map noticeOf
    partialSearch := r.participants.isEmpty || !r.participants.all fun q => q.2 == .notFound }

theorem decidePassive_ok (ok : s.line.state = .ok) :
    decidePassive r s = if anyClosureOpen s then refuseIntent .lock .closureOpen (withSearchRecord none s)
      else if r.participants.any fun q => q.2 == .found then refuseIntent .lock .keyInside (withSearchRecord none s)
      else prepare (passiveLock r) (withSearchRecord none s) := by
  have fine : inLineFault (withSearchRecord none s) = false := by simp [inLineFault, withSearchRecord, ok]
  have decided : decidePassive r s = if inLineFault (withSearchRecord none s) then withSearchRecord none s
      else if anyClosureOpen s then refuseIntent .lock .closureOpen (withSearchRecord none s)
      else if r.participants.any fun q => q.2 == .found then refuseIntent .lock .keyInside (withSearchRecord none s)
      else prepare { kind := .lock, targets := allStations, cause := .passive, notice := r.deciding.map noticeOf
                     partialSearch := r.participants.isEmpty || r.participants.any fun q => q.2 == .noneYet || q.2 == .skipped }
        (withSearchRecord none s) := rfl
  rw [decided, fine, if_neg (by simp)]
  split
  · rfl
  · split
    · rfl
    · rename_i outside
      rw [missing_eq (Bool.eq_false_iff.2 outside)]
      rfl

/-- Settles O43: the passive lock ends in LINE FAULT, is refused, or issues its LOCK. -/
theorem passiveLockIsDecidedByTheInteriorSearch : Obligations.PassiveLockIsDecidedByTheInteriorSearch := by
  intro s r hs room hr at_ hat n refusal inside
  have timer : decisionAtOf s = some at_ := by rw [decisionAtOf, hr]; exact hat
  have ended : ({ n with search := { s.search with record := none } } : State) = withSearchRecord none n := by
    rw [withSearchRecord, advanceTo_search]
  have closure : anyClosureOpen n = anyClosureOpen s :=
    anyClosureOpen_congr (advanceTo_addr _ _) (advanceTo_latch _ _) (advanceTo_census _ _)
  have epoch : (withSearchRecord none n).intent.epoch = s.intent.epoch := congrArg Intents.epoch (advanceTo_intent _ _)
  rw [ended]
  refine ⟨fun fault => ?_, fun ok open_ => ?_, fun ok open_ found => ?_, fun ok open_ found start few h15 fresh _ pending => ?_⟩
  · refine searchTimer_records (q := none) (c := .passiveLockDecision) (g := decisionAtOf) hs hr rfl timer ?_ (by rintro _ ⟨⟩)
    exact decidePassive_fault (by rw [advanceTo_line_state]; exact fault)
  · refine searchTimer_says (c := .passiveLockDecision) (g := decisionAtOf) (f := decidePassive) hs hr rfl timer ?_
      (show 14 ≠ 12 by decide) ok room
    rw [decidePassive_ok ((advanceTo_line_state _ _).trans ok), if_pos (closure.trans open_)]
    exact refuse_adds _ _ epoch
  · refine searchTimer_says (c := .passiveLockDecision) (g := decisionAtOf) (f := decidePassive) hs hr rfl timer ?_
      (show 14 ≠ 12 by decide) ok room
    rw [decidePassive_ok ((advanceTo_line_state _ _).trans ok), if_neg (by rw [closure, open_]; simp), if_pos found]
    exact refuse_adds _ _ epoch
  · have ready := mayIssue_ended hs room ok start few ⟨h15, fresh⟩ at_
    have next := searchTimer_next (c := .passiveLockDecision) (g := decisionAtOf) (f := decidePassive) hs hr rfl timer
    rw [decidePassive_ok ((advanceTo_line_state _ _).trans ok), if_neg (by rw [closure, open_]; simp),
      if_neg (fun h : inside = true => by rw [found] at h; cases h)] at next
    have issued := ready.settles (p := passiveLock r) (show Family.latch ≠ .child by decide)
    refine ⟨_, next, issued.record rfl, issued.epoch.trans (by rw [epoch]), ?_, ?_⟩
    · have queued := issued.queued
      rw [intentPayload_opened ready.tag, epoch] at queued
      have tag : (withSearchRecord none (advanceTo at_ s)).intent.nextTag = s.intent.nextTag :=
        congrArg Intents.nextTag (advanceTo_intent _ _)
      rw [tag] at queued
      exact queued
    · have lost : lostSet (withSearchRecord none n) = lostSet s := by
        show lostSet n = lostSet s
        unfold lostSet
        rw [show n.addr = s.addr from advanceTo_addr _ _, show n.census = s.census from advanceTo_census _ _]
      have waits : (openEntryOf (passiveLock r) (withSearchRecord none n)).pending ≠ 0#5 := by
        show without (without allStations (only n.addr)) (lostSet (withSearchRecord none n)) ≠ 0#5
        rw [lost, show n.addr = s.addr from advanceTo_addr _ _]
        exact pending
      obtain ⟨x, hx, brief⟩ := issued.stands waits
      simp only [briefOf, Prod.mk.injEq] at brief
      obtain ⟨tag, -, mark⟩ := brief
      refine ⟨x, hx, tag.trans ?_, mark⟩
      exact (openEntryOf_tag _ ready.tag.given ready.tag.fresh).trans (congrArg Intents.nextTag (advanceTo_intent _ _))

end

end Sys2Proof.Proofs.Trailing
end

section
/-! The deciding key of the outer challenge and the participants of an interior search (6.3, 6.4). -/

namespace Sys2Proof.Proofs.Deciding

open Sys2Proof Sys2Proof.Machine Sys2Proof.Proofs.Steps Sys2Proof.Proofs.Invariants Sys2Proof.Proofs.KeyFrames
open Sys2Proof.Proofs.Ends Sys2Proof.Proofs.Glass Sys2Proof.Proofs.Delivery Sys2Proof.Proofs.Release Sys2Proof.Proofs.Intents
open Sys2Proof.Proofs.Crash Sys2Proof.Proofs.Arbiter Sys2Proof.Proofs.Touches


section
variable {s t : State} {r : SearchRec} {c x : Candidate} {l : List Candidate}

/-! ## The strongest candidate (R123) -/

/-- The candidate `c` beats `y`: it is stronger, or as strong in a lower slot. -/
def Beats (c y : Candidate) : Prop := y.strength.toNat < c.strength.toNat ∨ (y.strength = c.strength ∧ c.slot.val < y.slot.val)

theorem stronger_beaten (h : Beats c x) : stronger c x = c := by
  refine if_neg ?_
  rintro (k | ⟨k, j⟩)
  · rcases h with h | ⟨h, -⟩
    · omega
    · rw [h] at k
      omega
  · rcases h with h | ⟨-, h⟩
    · rw [k] at h
      omega
    · omega

theorem stronger_beats (h : Beats c x) : stronger x c = c := if_pos (h.imp id fun k => ⟨k.1, k.2⟩)

theorem foldl_strongest (h : ∀ y ∈ x :: l, y = c ∨ Beats c y) (hc : c ∈ x :: l) : l.foldl stronger x = c := by
  induction l generalizing x with
  | nil => exact (List.mem_singleton.1 hc).symm
  | cons y ys ih =>
    have first : x = c ∨ Beats c x := h x List.mem_cons_self
    have second : y = c ∨ Beats c y := h y (List.mem_cons_of_mem _ List.mem_cons_self)
    have later : ∀ z ∈ ys, z = c ∨ Beats c z := fun z hz => h z (List.mem_cons_of_mem _ (List.mem_cons_of_mem _ hz))
    have mem : c = stronger x y ∨ c ∈ ys := by
      rcases List.mem_cons.1 hc with rfl | hc
      · rcases second with rfl | second
        · exact .inl (ite_self _).symm
        · exact .inl (stronger_beaten second).symm
      · rcases List.mem_cons.1 hc with rfl | hc
        · rcases first with rfl | first
          · exact .inl (ite_self _).symm
          · exact .inl (stronger_beats first).symm
        · exact .inr hc
    refine ih (x := stronger x y) ?_ (List.mem_cons.2 mem)
    intro z hz
    rcases List.mem_cons.1 hz with rfl | hz
    · unfold stronger
      split
      · exact second
      · exact first
    · exact later z hz

theorem decidingKey_strongest (hc : c ∈ l) (h : ∀ y ∈ l, y = c ∨ Beats c y) : decidingKey l = some c := by
  cases l with
  | nil => exact absurd hc List.not_mem_nil
  | cons x xs => exact congrArg some (foldl_strongest h hc)

theorem decidingKey_mem (h : decidingKey l = some c) : c ∈ l := by
  cases l with
  | nil => cases h
  | cons x xs =>
    obtain rfl : xs.foldl stronger x = c := Option.some.inj h
    clear h
    induction xs generalizing x with
    | nil => exact List.mem_singleton.2 rfl
    | cons y ys ih =>
      have step := ih (stronger x y)
      rcases List.mem_cons.1 step with e | mem
      · rw [List.foldl_cons, e]
        unfold stronger
        split
        · exact List.mem_cons_of_mem _ List.mem_cons_self
        · exact List.mem_cons_self
      · exact List.mem_cons_of_mem _ (List.mem_cons_of_mem _ mem)

theorem outerKey_none (h : ∀ y ∈ r.candidates, y.strength.toNat < s.cfg.outerThr) : outerKey r s = none := by
  unfold outerKey
  split
  · rename_i c hc
    refine if_neg ?_
    have weak := h c (decidingKey_mem hc)
    omega
  · rfl

theorem outerKey_strongest (hc : c ∈ r.candidates) (thr : s.cfg.outerThr ≤ c.strength.toNat)
    (h : ∀ y ∈ r.candidates, y = c ∨ Beats c y) : outerKey r s = some c := by
  unfold outerKey
  rw [decidingKey_strongest hc h]
  exact if_pos thr

/-! ## The participants (R127) -/

/-- The set of the frame holds the participants up to address 4. -/
theorem setOf_filter (p : Addr → Bool) :
    setOf ((List.finRange 8).filter p)
      = BitVec.ofNat 5 (((List.finRange 5).map fun a =>
          if a.castLE (by decide) ∈ (List.finRange 8).filter p then 2 ^ a.val else 0).sum) := by
  have mem (a : Addr) : (a ∈ (List.finRange 8).filter p) = (p a = true) := by simp
  simp only [mem]
  have all : ∀ b0 b1 b2 b3 b4 b5 b6 b7 : Bool,
      setOf ((List.finRange 8).filter fun a => (#v[b0, b1, b2, b3, b4, b5, b6, b7] : Vector Bool 8)[a])
        = BitVec.ofNat 5 (((List.finRange 5).map fun a : Fin 5 =>
            if (#v[b0, b1, b2, b3, b4, b5, b6, b7] : Vector Bool 8)[a.castLE (by decide : 5 ≤ 8)] = true
              then 2 ^ a.val else 0).sum) := by decide
  have whole := all (p 0) (p 1) (p 2) (p 3) (p 4) (p 5) (p 6) (p 7)
  have same : (fun a : Addr => (#v[p 0, p 1, p 2, p 3, p 4, p 5, p 6, p 7] : Vector Bool 8)[a]) = p := by
    funext a
    fin_cases a <;> rfl
  have same' (a : Addr) : (#v[p 0, p 1, p 2, p 3, p 4, p 5, p 6, p 7] : Vector Bool 8)[a] = p a := congrFun same a
  rw [same] at whole
  rw [whole]
  simp only [same']

theorem participantList_eq (ha : t.addr = s.addr) (hc : t.cfg = s.cfg) (hn : t.census = s.census) :
    participantList t = (List.finRange 8).filter fun a =>
      if a = s.addr then s.cfg.caps.inner
      else s.census.peers[a].presence != .lost && s.census.peers[a].caps.any (·.inner) := by
  unfold participantList
  rw [ha, hc, hn]
  refine List.filter_congr fun a _ => ?_
  split
  · rfl
  · cases s.census.peers[a].caps <;> rfl

end

end Sys2Proof.Proofs.Deciding
end

section
/-! The decisions on the outer challenge (6.3, 6.4). -/

namespace Sys2Proof.Proofs.Deciding

open Sys2Proof Sys2Proof.Machine Sys2Proof.Proofs.Steps Sys2Proof.Proofs.Invariants Sys2Proof.Proofs.KeyFrames
open Sys2Proof.Proofs.Ends Sys2Proof.Proofs.Glass Sys2Proof.Proofs.Delivery Sys2Proof.Proofs.Release Sys2Proof.Proofs.Intents
open Sys2Proof.Proofs.Crash Sys2Proof.Proofs.Arbiter Sys2Proof.Proofs.Touches Sys2Proof.Proofs.Issuing Sys2Proof.Proofs.Claims Sys2Proof.Proofs.Trailing


section
variable {s t m : State} {r : SearchRec} {c : Candidate} {x : Payload}

/-! ## The entry search (R123, R125) -/

theorem decideEntry_none (h : outerKey r s = none) : decideEntry r s = withSearchRecord none s := by
  unfold decideEntry
  rw [h]
  rfl

theorem decideEntry_found (h : outerKey r s = some c) : decideEntry r s = entryFound r.area c (withSearchRecord none s) := by
  unfold decideEntry
  rw [h]
  rfl

theorem entryFound_fault (hl : s.line.state ≠ .ok) (hq : s.latch.seq = .idle) (ho : s.pins.outerHandle = false) (a : Area) :
    entryFound a c s = if a = .tailgateButton then releaseRequest .entry (locked .unlocked s) else locked .unlocked s := by
  have lock : setLock .unlocked s = locked .unlocked s := setLock_locked (by rw [hq]; decide) (.inl ho)
  have fault : inLineFault s = true := by simpa [inLineFault] using hl
  unfold entryFound
  rw [if_pos fault, lock]

/-- The intent of an entry search whose key was found (R90, R92, R123). -/
def entryIntent (a : Area) (c : Candidate) (s : State) : Prepared :=
  if a = .tailgateButton then prepared .unlockAndOpen tailgateOnly .passive (some (noticeOf c))
  else prepared .unlock (unlockTargets s.addr c.identity s) .passive (some (noticeOf c))

theorem entryFound_ok (ok : s.line.state = .ok) (a : Area) : entryFound a c s = prepare (entryIntent a c s) s := by
  unfold entryFound entryIntent
  rw [if_neg (by simp [inLineFault, ok])]
  split <;> rfl

theorem entryIntent_family (a : Area) (c : Candidate) (s : State) : (entryIntent a c s).kind.family ≠ .child := by
  unfold entryIntent
  split <;> exact show Family.latch ≠ .child by decide

theorem pressedWithin_any (k : IntentKind) (id : Word32) (us : Nat) (s : State) : pressedWithin k id us s
    = s.intent.pressLatch.any fun q => q.kind == k && q.identity == id && decide (s.now < q.seenAt + us) := by
  unfold pressedWithin
  cases s.intent.pressLatch <;> rfl

theorem pressedPart_any (k : IntentKind) (id : Word32) (us : Nat) (s : State) : (pressedWithin k id us s && pressPart s)
    = s.intent.pressLatch.any fun q => q.kind == k && q.identity == id && decide (s.now < q.seenAt + us)
        && q.targets != allStations := by
  unfold pressedWithin pressPart
  cases s.intent.pressLatch <;> rfl

/-- The target set of an UNLOCK depends on the selection and the press memory (R90). -/
theorem unlockTargets_eq (one : Addr) (id : Word32) (us : Nat) (h : us = 5000000) (s : State) : unlockTargets one id s
    = if s.cfg.selective && !(s.intent.pressLatch.any fun q => q.kind == .unlock && q.identity == id
        && decide (s.now < q.seenAt + us) && q.targets != allStations) then only one else allStations := by
  subst h
  unfold unlockTargets
  rw [pressedPart_any]
  cases s.cfg.selective
  · rfl
  · cases s.intent.pressLatch.any fun q => q.kind == .unlock && q.identity == id
        && decide (s.now < q.seenAt + 5000000) && q.targets != allStations <;> rfl

/-! ## The outer stage of a passive lock (R124, R126, R127) -/

theorem decideOuter_none (h : outerKey r s = none) :
    decideOuter r s = refuseIntent .lock .noKey (withSearchRecord none s) := by
  unfold decideOuter
  rw [h]
  rfl

theorem decideOuter_fault (hl : s.line.state ≠ .ok) (h : outerKey r s = some c) : decideOuter r s = withSearchRecord none s := by
  unfold decideOuter
  rw [h]
  exact if_pos (by simpa [inLineFault] using hl)

/-- The record of a passive lock that is to claim the air for its interior search (R126). -/
def interiorRecord (c : Candidate) (r : SearchRec) : SearchRec :=
  { r with deciding := some c, stage := .interiorClaiming, windowEnd := none, claimQueued := false }

theorem decideOuter_claims (ok : s.line.state = .ok) (h : outerKey r s = some c) (hp : participantList s ≠ []) :
    decideOuter r s = withSearchRecord (some (interiorRecord c r)) s := by
  unfold decideOuter
  rw [h]
  simp only
  rw [if_neg (by simp [inLineFault, ok]), if_neg (by simpa using hp)]
  rfl

/-- The search with its INTERIOR SEARCH queued under the next number (R126, R127). -/
def claimsInterior (r : SearchRec) (ps : List Addr) (s : State) : State :=
  { s with search := { s.search with
    nextNumber := s.search.nextNumber + 1
    record := some { r with
      number := s.search.nextNumber, participants := ps.map fun a => (a, SlotResult.noneYet), claimQueued := true } } }

theorem claimInterior_eq (ok : s.line.state = .ok) (hp : participantList s ≠ []) : claimInterior r s
    = queueFrame (.interiorSearch s.search.nextNumber (setOf (participantList s)))
        (claimsInterior r (participantList s) s) := by
  unfold claimInterior
  simp only
  rw [if_neg (by simp [inLineFault, ok]), if_neg (by simpa using hp)]
  rfl

/-- The end of a command in which an interior search may claim the air at once: its INTERIOR SEARCH is queued (R126). -/
theorem settle_claims (hs : Resting s) (hr : s.search.record = some (interiorRecord c r)) (ok : s.line.state = .ok)
    (room : s.line.tx.length < 6) (air : airTaken s = false) (owed : s.census.censusOwed = false)
    (hp : participantList s ≠ []) :
    settle s = ended (queueFrame (.interiorSearch s.search.nextNumber (setOf (participantList s)))
      (claimsInterior (interiorRecord c r) (participantList s) s)) := by
  obtain ⟨hreset, hrun, hheld, hdrop⟩ := hs
  let m : State := claimsInterior (interiorRecord c r) (participantList s) s
  let f : Payload := .interiorSearch s.search.nextNumber (setOf (participantList s))
  have drop : takeDropAnswer s = s := by simp [takeDropAnswer, hdrop]
  have still {t : State} (h : t.census.censusOwed = false) : settleCensus t = t := if_neg (by simp [h])
  have fits : admitted 3 (.interiorSearch 0#8 0#5) s = true := by simp [admitted, inLineFault, ok, room]
  have due : interiorDue (interiorRecord c r) s = true := by
    unfold interiorDue
    rw [air, fits]
    simp [interiorRecord]
  have claims : settleInterior s = queueFrame f m := by
    unfold settleInterior
    rw [hr]
    simp only
    rw [if_pos due, claimInterior_eq ok hp]
  have line : queueFrame f m = { m with line := joined f m.addr m.line } := queueFrame_joined room ok
  have sleep : settleSleep (queueFrame f m) = queueFrame f m := if_neg (by rw [line]; rw [show m.power = s.power from rfl, hrun]; decide)
  have start (t : State) (h : t.intent.held = none) : issueHeld (settleStartHold t) = settleStartHold t := by
    have q := settleStartHold_quiet t
    simp [issueHeld, q.held, h]
  have nothing : issueHeld (settleStartHold (queueFrame f m)) = settleStartHold (queueFrame f m) :=
    start _ (by rw [line]; exact hheld)
  have awake0 : (awake s && s.power.heldSince.isNone) = true := by rw [awake, hrun, hreset]; rfl
  have awake1 : awake (queueFrame f m) = true := by
    rw [awake, line, show m.power = s.power from rfl, hrun]
    rfl
  have first : settleCensus (queueFrame f m) = queueFrame f m := still (by rw [line]; exact owed)
  unfold settle ended
  rw [if_pos awake0, drop, still owed, claims]
  simp only
  rw [sleep, if_pos awake1, nothing, first]

theorem kept_of_gentle {n : Nat} {a b : State} (q : Quiet a b) (g : Gentle n a b) : Kept a b :=
  ⟨q.now, q.pending, q.freeCount, q.pins, q.addr, q.cfg, q.win, q.pinch, q.latch, q.keys, q.intent, q.table,
    q.startHold, q.claims, q.nextNumber, q.burst, fun _ => by rw [g.search]; exact ⟨rfl, rfl⟩, q.line, fun _ => g.stays,
    q.census, q.power, q.store, q.flush, fun _ => by rw [g.store]⟩

/-- A frame queued with room for three at the end of a command. -/
theorem ended_queued (ok : m.line.state = .ok) (room : m.line.tx.length + 3 ≤ 6) (hx : x.kind ≠ 12) :
    Kept m (ended (queueFrame x m)) ∧ Queued x (ended (queueFrame x m)) := by
  have own : Gentle 1 m (queueFrame x m) := queueAs_gentle _ x m (by omega) ok
  have g : Gentle 2 (queueFrame x m) (ended (queueFrame x m)) := ended_gentle (by have := own.length; omega)
  have q := ended_quiet (queueFrame x m)
  refine ⟨kept_of_gentle ((queueAs_quiet _ x m).trans q) (own.trans g), queued_stays g ?_ hx q.addr⟩
  rw [queueFrame_joined (by omega) ok]
  exact ⟨newEntry x.cls x m, (mem_insertTx _ _ _).2 (.inl rfl), rfl, rfl⟩

end

end Sys2Proof.Proofs.Deciding
end

section
/-! The outer challenge is decided by its strongest key (6.3, 6.4). -/

namespace Sys2Proof.Proofs.Deciding

open Sys2Proof Sys2Proof.Machine Sys2Proof.Proofs.Steps Sys2Proof.Proofs.Invariants Sys2Proof.Proofs.KeyFrames
open Sys2Proof.Proofs.Ends Sys2Proof.Proofs.Glass Sys2Proof.Proofs.Delivery Sys2Proof.Proofs.Release Sys2Proof.Proofs.Intents
open Sys2Proof.Proofs.Crash Sys2Proof.Proofs.Arbiter Sys2Proof.Proofs.Touches Sys2Proof.Proofs.Issuing Sys2Proof.Proofs.Claims Sys2Proof.Proofs.Trailing


section
variable {s : State} {r : SearchRec} {c : Candidate} {e : Nat}

theorem collectingEnd_some {k : SearchKind} (hr : s.search.record = some r) (hk : r.kind = k) (hst : r.stage = .collecting)
    (he : e ∈ r.windowEnd) : collectingEnd k s = some e := by
  rw [collectingEnd, hr]
  exact (if_pos ⟨hk, hst⟩).trans he

/-- The decision of an entry search falls at the end of its window. -/
theorem entrySearch_next (hs : Calm s) (hr : s.search.record = some r) (he : collectingEnd .entry s = some e) :
    exec .entrySearchDecision s = .next (settle (decideEntry r (advanceTo e s))) :=
  searchTimer_next (c := .entrySearchDecision) (g := collectingEnd .entry) hs hr rfl he

theorem outerStage_next (hs : Calm s) (hr : s.search.record = some r) (he : collectingEnd .passiveLock s = some e) :
    exec .outerStageDecision s = .next (settle (decideOuter r (advanceTo e s))) :=
  searchTimer_next (c := .outerStageDecision) (g := collectingEnd .passiveLock) hs hr rfl he

theorem ended_calm (hs : Calm s) (e : Nat) : Calm (withSearchRecord none (advanceTo e s)) :=
  withSearchRecord_calm (calm_advanceTo hs) (by rintro _ ⟨⟩)

/-- The latch of an entry release whose first pulse begins at once. -/
theorem takenEntry_pulsed {o : State} (now : Nat) (h : o.now = now) :
    ({ o with latch := (takenRequest .entry o.latch).pulsed o.now } : State)
      = { o with latch := { o.latch.pulsed now with kind := some .entry, attempts := 1, retryUsed := false } } := by
  subst h
  rfl

/-- An entry search in LINE FAULT whose key was found on the handle (R125). -/
theorem entryFault_unlocks (hs : Calm s) (hr : s.search.record = some r) (he : collectingEnd .entry s = some e)
    (hk : outerKey r (advanceTo e s) = some c) (fault : s.line.state ≠ .ok) (handle : s.pins.outerHandle = false)
    (area : r.area ≠ .tailgateButton) (idle : s.latch.seq = .idle) :
    ∃ v, exec .entrySearchDecision s = .next v ∧ Kept (locked .unlocked (withSearchRecord none (advanceTo e s))) v := by
  have next := entrySearch_next hs hr he
  rw [decideEntry_found hk, entryFound_fault (by simpa [withSearchRecord] using fault)
    (by simpa [withSearchRecord] using idle) (by simpa [withSearchRecord] using handle), if_neg area] at next
  exact kept_of next (locked_calm (ended_calm hs e))

/-- An entry search in LINE FAULT whose key was found at a tailgate without a window (R125). -/
theorem entryFault_releases (hs : Calm s) (hr : s.search.record = some r) (he : collectingEnd .entry s = some e)
    (hk : outerKey r (advanceTo e s) = some c) (fault : s.line.state ≠ .ok) (handle : s.pins.outerHandle = false)
    (area : r.area = .tailgateButton) (idle : s.latch.seq = .idle) (closed : s.latch.position = .closed) (good : GoodSupply s)
    (bare : s.cfg.caps.window = false) (none_ : s.win.drop = none) :
    ∃ v, exec .entrySearchDecision s = .next v
      ∧ Kept { locked .unlocked (withSearchRecord none (advanceTo e s)) with
          latch := { (locked .unlocked (withSearchRecord none (advanceTo e s))).latch.pulsed (advanceTo e s).now with
            kind := some .entry, attempts := 1, retryUsed := false } } v := by
  have next := entrySearch_next hs hr he
  rw [decideEntry_found hk, entryFound_fault (by simpa [withSearchRecord] using fault)
    (by simpa [withSearchRecord] using idle) (by simpa [withSearchRecord] using handle), if_pos area] at next
  have calm := locked_calm (l := .unlocked) (ended_calm hs e)
  have parts : ∃ o : State, locked .unlocked (withSearchRecord none (advanceTo e s)) = o ∧ o.now = (advanceTo e s).now
      ∧ o.latch.seq = .idle ∧ o.latch.position = .closed ∧ GoodSupply o ∧ o.cfg.caps.window = false ∧ o.win.drop = none := by
    refine ⟨_, rfl, ?_⟩
    rw [locked_eq]
    refine ⟨rfl, ?_, ?_, ?_, ?_, ?_⟩ <;> simpa [withSearchRecord]
  obtain ⟨o, ho, now, seq, pos, supply, window, drop⟩ := parts
  rw [ho] at next calm ⊢
  rw [releaseRequest_pulses seq pos supply (.inl (.inl window)) drop calm.2.2.2.1, takenEntry_pulsed _ now] at next
  exact kept_of next (calm_of_same calm rfl)

/-- An entry search whose key was found, the line OK: the station issues its UNLOCK or UNLOCK AND OPEN (R90, R92). -/
theorem entryFound_issues (hs : Calm s) (room : Roomy 4 s) (hr : s.search.record = some r)
    (he : collectingEnd .entry s = some e) (hk : outerKey r (advanceTo e s) = some c) (ok : s.line.state = .ok)
    (start : s.intent.startHold = none) (few : s.intent.table.length < 4) (tag : TagReady s) {us : Nat} (hus : us = 5000000) :
    ∃ v, exec .entrySearchDecision s = .next v ∧ v.search.record = none ∧ v.intent.epoch = s.intent.epoch + 1
      ∧ Queued (.intent
          { kind := if r.area = .tailgateButton then .unlockAndOpen else .unlock
            tag := s.intent.nextTag, epoch := s.intent.epoch + 1, cause := .passive
            targets := if r.area = .tailgateButton then 16#5
              else if s.cfg.selective && !(s.intent.pressLatch.any fun q => q.kind == .unlock && q.identity == c.identity
                && decide ((advanceTo e s).now < q.seenAt + us) && q.targets != allStations) then only s.addr
              else allStations
            notice := some { identity := c.identity, counter := c.counter } }) v := by
  have ready := mayIssue_ended hs room ok start few tag e
  have next := entrySearch_next hs hr he
  rw [decideEntry_found hk, entryFound_ok ready.ok] at next
  have issued := ready.settles (p := entryIntent r.area c (withSearchRecord none (advanceTo e s))) (entryIntent_family _ _ _)
  generalize settle (prepare (entryIntent r.area c (withSearchRecord none (advanceTo e s)))
    (withSearchRecord none (advanceTo e s))) = v at next issued
  have intent : (withSearchRecord none (advanceTo e s)).intent = s.intent := advanceTo_intent _ _
  have queued := issued.queued
  rw [intentPayload_opened ready.tag, intent] at queued
  refine ⟨_, next, issued.record rfl, issued.epoch.trans (by rw [intent]), ?_⟩
  have one : (withSearchRecord none (advanceTo e s)).addr = s.addr := advanceTo_addr _ _
  have set : unlockTargets s.addr c.identity (withSearchRecord none (advanceTo e s))
      = if s.cfg.selective && !(s.intent.pressLatch.any fun q => q.kind == .unlock && q.identity == c.identity
          && decide ((advanceTo e s).now < q.seenAt + us) && q.targets != allStations) then only s.addr
        else allStations := by
    rw [unlockTargets_eq _ _ us hus, intent, show (withSearchRecord none (advanceTo e s)).cfg = s.cfg from advanceTo_cfg _ _]
    rfl
  have tailgate : tailgateOnly = 16#5 := by decide
  have whole : entryIntent r.area c (withSearchRecord none (advanceTo e s))
      = if r.area = .tailgateButton then prepared .unlockAndOpen 16#5 .passive (some (noticeOf c))
        else prepared .unlock (if s.cfg.selective && !(s.intent.pressLatch.any fun q => q.kind == .unlock
          && q.identity == c.identity && decide ((advanceTo e s).now < q.seenAt + us) && q.targets != allStations)
            then only s.addr else allStations) .passive (some (noticeOf c)) := by
    rw [entryIntent, one, set, tailgate]
  rw [whole] at queued
  by_cases area : r.area = .tailgateButton
  · simp only [if_pos area] at queued ⊢
    exact queued
  · simp only [if_neg area] at queued ⊢
    exact queued

/-- A passive lock whose key was found goes on to its interior search (R126, R127). -/
theorem outerFound_claims (hs : Calm s) (room : Roomy 4 s) (hr : s.search.record = some r)
    (he : collectingEnd .passiveLock s = some e) (hk : outerKey r (advanceTo e s) = some c) (ok : s.line.state = .ok)
    {ps : List Addr} (hps : participantList (advanceTo e s) = ps) (some_ : ps ≠ [])
    (air : airTaken (advanceTo e s) = false) (owed : s.census.censusOwed = false) :
    ∃ v, exec .outerStageDecision s = .next v
      ∧ Kept (claimsInterior (interiorRecord c r) ps (withSearchRecord (some (interiorRecord c r)) (advanceTo e s))) v
      ∧ Queued (.interiorSearch s.search.nextNumber (setOf ps)) v := by
  let m : State := withSearchRecord (some (interiorRecord c r)) (advanceTo e s)
  have okM : m.line.state = .ok := (advanceTo_line_state _ _).trans ok
  have calm := calm_advanceTo hs (t := e)
  have rest : Resting m := ⟨calm.1, calm.2.1, calm.2.2.1, calm.2.2.2.1⟩
  have len : m.line.tx.length + 4 ≤ 6 := by
    show (advanceTo e s).line.tx.length + 4 ≤ 6
    rw [advanceTo_line_tx]
    exact room
  have listM : participantList m = ps := hps
  have number : m.search.nextNumber = s.search.nextNumber := by
    show (advanceTo e s).search.nextNumber = _
    rw [advanceTo_search]
  have next := outerStage_next hs hr he
  rw [decideOuter_claims ((advanceTo_line_state _ _).trans ok) hk (by rw [hps]; exact some_)] at next
  have ends := settle_claims (s := m) rest rfl okM (by omega) air (by show (advanceTo e s).census.censusOwed = false; simp [owed])
    (by rw [listM]; exact some_)
  rw [listM, number] at ends
  have queued := ended_queued (m := claimsInterior (interiorRecord c r) ps m)
    (x := .interiorSearch s.search.nextNumber (setOf ps)) okM (by show m.line.tx.length + 3 ≤ 6; omega) (show 7 ≠ 12 by decide)
  exact ⟨_, next.trans (congrArg _ ends), queued⟩

end

/-- Settles O41: the entry search and the outer stage decided by the strongest candidate, and the end of a burst. -/
theorem outerChallengeIsDecidedByItsStrongestKey : Obligations.OuterChallengeIsDecidedByItsStrongestKey := by
  intro s r hs room hr strongest noKey participants named recorded
  have cfg (w : Nat) : (advanceTo w s).cfg = s.cfg := advanceTo_cfg _ _
  have weak (w : Nat) (h : noKey) : outerKey r (advanceTo w s) = none := outerKey_none (by rw [cfg]; exact h)
  have found (w : Nat) {c : Candidate} (h : strongest c) : outerKey r (advanceTo w s) = some c := by
    obtain ⟨mem, thr, beats⟩ := h
    exact outerKey_strongest mem (by rw [cfg]; exact thr) beats
  refine ⟨fun w hw kind stage => ?_, fun w hw kind stage => ?_, fun _ b hb => ?_⟩
  · have ends := collectingEnd_some hr kind stage hw
    intro n
    have opens : (if s.latch.lock = .unlocked then recorded n none
        else queueRecord .latchState { recorded n none with latch := { s.latch with lock := .unlocked } })
          = locked .unlocked (withSearchRecord none n) := by
      rw [← show n.latch = s.latch from advanceTo_latch _ _]
      rfl
    refine ⟨fun none_ => ?_, fun c _ hc => ⟨fun fault handle => ?_, fun ok start few h15 fresh _ => ?_⟩⟩
    · have next := entrySearch_next hs hr ends
      rw [decideEntry_none (weak w none_)] at next
      exact kept_of next (ended_calm hs w)
    · intro open_
      have same : open_ = locked .unlocked (withSearchRecord none n) := opens
      rw [same]
      refine ⟨fun area idle => ?_, fun area idle closed good bare drop => ?_⟩
      · exact entryFault_unlocks hs hr ends (found w hc) fault handle (by rw [area]; decide) idle
      · exact entryFault_releases hs hr ends (found w hc) fault handle area idle closed good bare drop
    · exact entryFound_issues hs room hr ends (found w hc) ok start few ⟨h15, fresh⟩ rfl
  · have ends := collectingEnd_some hr kind stage hw
    intro n
    refine ⟨fun none_ ok => ?_, fun fault => ?_, fun c _ hc ok some_ air owed => ?_⟩
    · refine searchTimer_says (c := .outerStageDecision) (g := collectingEnd .passiveLock) (f := decideOuter) hs hr rfl ends ?_
        (show 14 ≠ 12 by decide) ok room
      rw [decideOuter_none (weak w none_)]
      exact refuse_adds _ _ (congrArg Intents.epoch (advanceTo_intent _ _))
    · have next := outerStage_next hs hr ends
      have line : n.line.state ≠ .ok := by rw [show n.line.state = _ from advanceTo_line_state _ _]; exact fault
      rcases key : outerKey r n with _ | c
      · rw [decideOuter_none key] at next
        have adds := refuse_adds (m := withSearchRecord none n) .lock .noKey rfl
        exact ⟨_, next, adds.kept (ended_calm hs w) (by simp)⟩
      · rw [decideOuter_fault line key] at next
        exact kept_of next (ended_calm hs w)
    · have list : participantList n = participants :=
        participantList_eq (advanceTo_addr _ _) (advanceTo_cfg _ _) (advanceTo_census _ _)
      have set : setOf participants = named := setOf_filter _
      have claims := outerFound_claims hs room hr ends (found w hc) ok list some_
        (airTaken_false.2 (by rw [show n.search = s.search from advanceTo_search _ _]; exact air)) owed
      rw [set] at claims
      have whole : claimsInterior (interiorRecord c r) participants (withSearchRecord (some (interiorRecord c r)) n)
          = { n with search := { s.search with
              nextNumber := s.search.nextNumber + 1
              record := some { r with
                stage := .interiorClaiming, deciding := some c, windowEnd := none, number := s.search.nextNumber
                participants := participants.map fun a => (a, SlotResult.noneYet), claimQueued := true } } } := by
        rw [← show n.search = s.search from advanceTo_search _ _]
        rfl
      rw [whole] at claims
      exact claims
  · have burst : (s.search.burst.map fun q => q.2) = some b.2 := by rw [Option.mem_def.1 hb]; rfl
    have stops : stopBurst (advanceTo b.2 s)
        = { advanceTo b.2 s with search := { s.search with burst := none } } := by
      rw [stopBurst, advanceTo_search]
    exact timer_kept (c := .challengeBurstEnd) (g := fun t => t.search.burst.map fun q => q.2) (f := stopBurst) hs rfl burst
      stops ⟨(calm_advanceTo hs).1, (calm_advanceTo hs).2.1, (calm_advanceTo hs).2.2.1, (calm_advanceTo hs).2.2.2.1, hs.2.2.2.2⟩

end Sys2Proof.Proofs.Deciding
end

section
/-! An accepted fob button issues its intent (4.7, 4.8). -/

namespace Sys2Proof.Proofs.Fobs

open Sys2Proof Sys2Proof.Machine Sys2Proof.Proofs.Steps Sys2Proof.Proofs.Invariants Sys2Proof.Proofs.KeyFrames
open Sys2Proof.Proofs.Ends Sys2Proof.Proofs.Glass Sys2Proof.Proofs.Delivery Sys2Proof.Proofs.Release Sys2Proof.Proofs.Intents
open Sys2Proof.Proofs.Crash Sys2Proof.Proofs.Arbiter Sys2Proof.Proofs.Touches Sys2Proof.Proofs.Issuing Sys2Proof.Proofs.Claims Sys2Proof.Proofs.Trailing Sys2Proof.Proofs.Deciding


section
variable {s t v : State} {e : OpenEntry} {p : Prepared} {k : IntentKind} {ts : Stations} {n : Slot} {f : ButtonFrame}
variable {bytes : List Byte}

/-! ## Auto-relock at an issue from a fob (R94) -/

theorem relockIssues_fob (hc : e.cause = .fob) : (relockIssues e s).intent.relock =
    if e.kind.family ≠ .latch then s.intent.relock
    else if e.kind = .unlock ∧ s.cfg.relockS ≠ 0 then
      some { expiry := s.now + s.cfg.relockS * 1000000, key := { epoch := e.epoch, origin := s.addr }, notice := e.notice }
    else none := by
  unfold relockIssues
  by_cases family : e.kind.family = .latch
  · rw [if_pos family, if_neg (c := e.kind.family ≠ .latch) (not_not.2 family)]
    by_cases arms : e.kind = .unlock ∧ s.cfg.relockS ≠ 0
    · rw [if_pos arms]
      simp only
      rw [if_pos ⟨arms.1, .inl hc, arms.2⟩]
    · rw [if_neg arms]
      simp only
      rw [if_neg fun h => arms ⟨h.1, h.2.2⟩]
      rfl
  · rw [if_neg family, if_pos (c := e.kind.family ≠ .latch) family]

/-! ## The state in which the intent engine takes the button (R104) -/

theorem mayIssue_accepted (hs : Calm s) (room : Roomy 4 s) (ok : s.line.state = .ok) (start : s.intent.startHold = none)
    (few : s.intent.table.length < 4) (tag : TagReady s) (n : Slot) (c : Counter) : MayIssue (acceptedFrame n c s) := by
  have calm := calm_acceptedFrame n c hs
  have len : s.line.tx.length + 4 ≤ 6 := room
  have intent : (acceptedFrame n c s).intent = s.intent := acceptedFrame_intent n c s
  have line : (acceptedFrame n c s).line = s.line := acceptedFrame_line n c s
  refine ⟨calm.2.1, calm.1, calm.2.2.1, calm.2.2.2.2, by rw [line]; exact ok, by rw [line]; omega, by rw [intent]; exact start,
    by rw [intent]; exact few, ⟨?_, ?_⟩⟩
  · rw [intent]
    exact tag.given
  · rw [intent]
    exact tag.fresh

/-- What an intent of a fob leaves at the end of its command. -/
structure FobIssued (k : IntentKind) (ts : Stations) (nt : Notice) (s v : State) : Prop where
  epoch : v.intent.epoch = s.intent.epoch + 1
  queued : Queued (.intent { kind := k, tag := s.intent.nextTag, epoch := s.intent.epoch + 1, targets := ts, cause := .fob
                             notice := some nt }) v
  relock : v.intent.relock =
    if k.family ≠ .latch then s.intent.relock
    else if k = .unlock ∧ s.cfg.relockS ≠ 0 then
      some { expiry := s.now + s.cfg.relockS * 1000000, key := { epoch := s.intent.epoch + 1, origin := s.addr }
             notice := some nt }
    else none

theorem fobIssued (ready : MayIssue (acceptedFrame n f.counter s)) (hk : k.family ≠ .child) (nt : Notice) :
    FobIssued k ts nt s (settle (prepare (prepared k ts .fob (some nt)) (acceptedFrame n f.counter s))) := by
  have issued := ready.settles (p := prepared k ts .fob (some nt)) hk
  have queued := issued.queued
  have relock := issued.relock
  rw [intentPayload_opened ready.tag, acceptedFrame_intent] at queued
  rw [relockIssues_fob (e := openEntryOf (prepared k ts .fob (some nt)) (acceptedFrame n f.counter s)) rfl] at relock
  refine ⟨issued.epoch.trans (by rw [acceptedFrame_intent]), queued, relock.trans ?_⟩
  have opened (t : State) (q : Prepared) : (openedIntent q t).intent.relock = t.intent.relock
      ∧ (openedIntent q t).cfg = t.cfg ∧ (openedIntent q t).now = t.now ∧ (openedIntent q t).addr = t.addr := ⟨rfl, rfl, rfl, rfl⟩
  have entry (t : State) (q : Prepared) : (openEntryOf q t).kind = q.kind ∧ (openEntryOf q t).notice = q.notice
      ∧ (openEntryOf q t).epoch = t.intent.epoch + 1 := ⟨rfl, rfl, rfl⟩
  obtain ⟨relocks, cfg, now, addr⟩ := opened (acceptedFrame n f.counter s) (prepared k ts .fob (some nt))
  obtain ⟨kind, notice, epoch⟩ := entry (acceptedFrame n f.counter s) (prepared k ts .fob (some nt))
  rw [relocks, cfg, now, addr, kind, notice, epoch, acceptedFrame_intent, acceptedFrame_cfg, acceptedFrame_now, acceptedFrame_addr]
  rfl

/-! ## The rows of the buttons (R90 to R92) -/

theorem lockKind_eq (nt : Notice) (us : Nat) (h : us = 3000000) (s : State) : lockKind nt s
    = if s.cfg.deadlockEn && (s.intent.pressLatch.any fun q => q.kind == .lock && q.identity == nt.identity
        && decide (s.now < q.seenAt + us)) then .deadlock else .lock := by
  subst h
  unfold lockKind
  rw [pressedWithin_any]

theorem driver_only (c : Settings) : only (driverAddr c) = if c.driveSide = .left then 1#5 else 2#5 := by
  unfold driverAddr
  cases c.driveSide <;> decide

/-- The target set of a fob UNLOCK (R90). -/
theorem fobUnlock_targets (n : Slot) (c : Counter) (id : Word32) (us : Nat) (h : us = 5000000) (s : State) :
    unlockTargets (driverAddr (acceptedFrame n c s).cfg) id (acceptedFrame n c s)
      = if s.cfg.selective && !(s.intent.pressLatch.any fun q => q.kind == .unlock && q.identity == id
          && decide (s.now < q.seenAt + us) && (!true || q.targets != allStations))
        then (if s.cfg.driveSide = .left then 1#5 else 2#5) else allStations := by
  rw [unlockTargets_eq _ _ us h, acceptedFrame_cfg, acceptedFrame_intent, acceptedFrame_now, driver_only]
  rfl

/-- The kind of a fob LOCK (R91). -/
theorem fobLock_kind (n : Slot) (c : Counter) (nt : Notice) (us : Nat) (h : us = 3000000) (s : State) :
    lockKind nt (acceptedFrame n c s)
      = if s.cfg.deadlockEn && (s.intent.pressLatch.any fun q => q.kind == .lock && q.identity == nt.identity
          && decide (s.now < q.seenAt + us) && (!false || q.targets != allStations)) then .deadlock else .lock := by
  rw [lockKind_eq nt us h, acceptedFrame_cfg, acceptedFrame_intent, acceptedFrame_now]
  simp

theorem mapRelease_running (nt : Notice) (s : State)
    (h : (s.intent.pressWindow.any fun q => q.kind != .windowsStop && q.identity == nt.identity && !q.followed) = true) :
    mapRelease nt s = prepare (prepared .windowsStop allStations .fob (some nt)) s := by
  unfold mapRelease
  cases hp : s.intent.pressWindow with
  | none => simp [hp] at h
  | some q =>
    rw [hp] at h
    simp only [Option.any_some, Bool.and_eq_true, bne_iff_ne, beq_iff_eq, Bool.not_eq_true'] at h
    exact if_pos ⟨h.1.1, h.1.2, h.2⟩

theorem mapRelease_idle (nt : Notice) (s : State)
    (h : (s.intent.pressWindow.any fun q => q.kind != .windowsStop && q.identity == nt.identity && !q.followed) = false) :
    mapRelease nt s = s := by
  unfold mapRelease
  cases hp : s.intent.pressWindow with
  | none => rfl
  | some q =>
    refine if_neg ?_
    rintro ⟨kind, id, followed⟩
    rw [hp] at h
    simp [kind, id, followed] at h

theorem mapButton_ok (ok : s.line.state = .ok) (b : Button) (nt : Notice) : mapButton b nt s =
    match b with
    | .lock => mapLock nt s
    | .unlock => mapUnlock .fob (driverAddr s.cfg) nt s
    | .tailgate => prepare (prepared .unlockAndOpen tailgateOnly .fob (some nt)) s
    | .lockHeld => prepare (prepared .windowsClose allStations .fob (some nt)) s
    | .unlockHeld => prepare (prepared .windowsOpen allStations .fob (some nt)) s
    | .release => mapRelease nt s := if_neg (by simp [inLineFault, ok])

end

/-- Settles O60: each button of an accepted frame, by the issue of its row. -/
theorem fobButtonIssuesItsIntent : Obligations.FobButtonIssuesItsIntent := by
  intro s bytes f n calm room ok caps hf sound alone paired identity right low near start few h15 fresh notice issued within
  have hone : OnlySlot f.identity n s := ⟨sound, alone⟩
  have code : RightCode f n s := by
    rw [RightCode, buttonMessage_eq]
    exact right
  have accepts_ : accepts s.keys.slots[n] f.counter = true := (accepts_iff _ _).2 ⟨low, .inl near⟩
  have check : checkButton f s = (true, takeCounter n f.counter s) :=
    (checkButton_rightCode hone (holds_of_paired paired identity) paired code).trans (counterCheck_accepted accepts_)
  have ready := mayIssue_accepted calm room ok start few ⟨h15, fresh⟩ n f.counter
  have acts := buttonFrameOp_accepted calm caps hf check
  rw [mapButton_ok ready.ok] at acts
  have next : exec (.buttonFrame bytes) s = .next (settle (buttonFrameOp bytes s)) := KeyFrames.live_next calm.1
  have issues {k : IntentKind} {ts : Stations} (hk : k.family ≠ .child)
      (h : buttonFrameOp bytes s = prepare (prepared k ts .fob (some notice)) (acceptedFrame n f.counter s)) : issued k ts := by
    rw [h] at next
    have done := fobIssued ready hk notice (ts := ts)
    exact ⟨_, next, done.epoch, done.queued, done.relock⟩
  have latch : Family.latch ≠ .child := by decide
  have window : Family.window ≠ .child := by decide
  refine ⟨fun hb => issues latch ?_, fun hb shut => issues ?_ ?_, fun hb => issues latch ?_, fun hb => issues window ?_,
    fun hb => issues window ?_, fun hb => ⟨fun running => issues window ?_, fun running => ?_⟩⟩
  · rw [hb] at acts
    refine acts.trans ?_
    show prepare (prepared .unlock (unlockTargets _ f.identity _) .fob (some notice)) _ = _
    rw [fobUnlock_targets n f.counter f.identity _ rfl s]
  · split <;> exact latch
  · rw [hb] at acts
    have closed : anyClosureOpen (acceptedFrame n f.counter s) = false :=
      (anyClosureOpen_congr (by simp) (by simp) (by simp)).trans shut
    refine acts.trans ((if_neg (by simp [closed])).trans ?_)
    rw [fobLock_kind n f.counter notice _ rfl s]
  · rw [hb] at acts
    exact acts
  · rw [hb] at acts
    exact acts
  · rw [hb] at acts
    exact acts
  · rw [hb] at acts
    exact acts.trans (mapRelease_running notice _ (by rw [acceptedFrame_intent]; exact running))
  · rw [hb] at acts
    have idle := acts.trans (mapRelease_idle notice _ (by rw [acceptedFrame_intent]; exact running))
    have kept := settle_kept _ (calm_acceptedFrame n f.counter calm)
    rw [idle] at next
    have parts : ∀ v, Kept (acceptedFrame n f.counter s) v → v.intent.fixed.epoch = s.intent.epoch
        ∧ v.intent.table.map (·.tag) = s.intent.table.map (·.tag) ∧ v.intent.fixed.relock = s.intent.relock := by
      intro v kept
      have table := congrArg (List.map fun y : OpenEntry => y.tag) kept.table
      rw [List.map_map, List.map_map, acceptedFrame_intent] at table
      rw [kept.intent, acceptedFrame_intent]
      exact ⟨rfl, table, rfl⟩
    exact ⟨_, next, parts _ kept⟩

end Sys2Proof.Proofs.Fobs
end
